-- ==== Sys2Proof/Word.lean ====
section
/-! DEFINITION. The smallest pieces of data: the byte, byte strings and the plain arithmetic on natural numbers that
stand for register images. -/

namespace Sys2Proof

/-- One byte. -/
abbrev Byte := BitVec 8

/-- A string of bytes, the first byte first. -/
abbrev Bytes := List Byte

/-- The byte that holds n modulo 256. -/
abbrev byteOf (n : Nat) : Byte := BitVec.ofNat 8 n

end Sys2Proof
end

