-- ==== Sys2Proof/Syntax.lean ====
section
/-! DEFINITION. The commands the block takes: one constructor for each row of spec/opcode_table.json, with the operands
that the row's rule gives it, and the types of those operands. -/

namespace Sys2Proof

namespace Machine

/-- A frame, or an item inside the node, which carries the same header, payload and transit check (R143, R201). Header
fields are their numbers; `hopCheck` and `check` are the carried checks, right or wrong. -/
structure Frame where
  version : Nat := 1
  kind : Nat := 0
  cls : Nat := 0
  mcast : Bool := false
  segm : Bool := false
  last : Bool := false
  pair : Bool := false
  urgent : Bool := false
  hop : Nat := 0
  res : Nat := 0
  dst : Nat := 0
  src : Nat := 0
  okey : Nat := 0
  stream : Nat := 0
  seq : Nat := 0
  len : Nat := 0
  tick : Nat := 0
  corr : Nat := 0
  hopCheck : Nat := 0
  payload : Bytes := []
  check : Nat := 0
  deriving DecidableEq, Repr

/-- How a received frame ends (R140 to R142). -/
inductive EndKind where
  | good
  | poisoned
  | length
  | code
  | control
  | link
  deriving DecidableEq, Repr

/-- What a JOINED port detects as a link failure (R102), and what takes a port out of the conditions of DOWN. -/
inductive LinkCause where
  | lock
  | hiBer
  | los
  | txFault
  | remoteFault
  deriving DecidableEq, Repr

/-- A condition of DOWN that a ring port loses, and how many blocks with an invalid sync header or block type, or invalid code groups,
it has received outside frames since the last such loss (R134). -/
structure LinkLoss where
  cause : LinkCause := .lock
  bad : Nat := 0
  deriving DecidableEq, Repr

/-- Lock or synchronisation that a ring port gains: the configuration sets it has received (R95) and the condition of R97 that it
still lacks, if one is. -/
structure LinkLock where
  port : Fin 4
  sets : List (BitVec 16)
  still : Option LinkCause
  deriving DecidableEq, Repr

/-- The bytes of a write through window space, and the 8-byte word (its local offset divided by 8) that port 0 of its bank writes in
the same FCLK cycle (R461). -/
structure PortWrite where
  bytes : Bytes := []
  clash : Option Nat := none
  deriving DecidableEq, Repr

/-- A mover that starts, and the word of R461. -/
structure MoverStart where
  mover : Fin 16 := 0
  clash : Option Nat := none
  deriving DecidableEq, Repr

/-- A READ_DATA answer, whose data a mover may write, and the word of R461. -/
structure DataAnswer where
  frame : Frame := {}
  clash : Option Nat := none
  deriving DecidableEq, Repr

/-- What the host's memory drives in a device cycle, and whether LHP_BGNT_N is sampled high in it (R488). -/
structure BusCycle where
  bytes : Bytes := []
  withdrawn : Bool := false
  deriving DecidableEq, Repr

/-- What a controller has written to an I²C target: the bytes, how many nanoseconds ago its START came, and whether a repeated START
ends the write and not STOP (R292, R297). -/
structure TargetData where
  bytes : Bytes
  ago : Nat
  restart : Bool := false
  deriving DecidableEq, Repr

/-- The end of a record on the line of a channel, and for how many nanoseconds CTS_N held back its characters (R283). -/
structure TxEnd where
  chan : Fin 128
  held : Nat
  deriving DecidableEq, Repr

/-- SDA low at idle: for how long, and whether it still is after nine clocks and STOP (R293). -/
structure HeldLow where
  ns : Nat
  still : Bool
  deriving DecidableEq, Repr

/-- What a subsystem reports to the fault collector (R568). -/
inductive ReportKind where
  | onset
  | clearing
  | oneShot
  deriving DecidableEq, Repr

/-- Kinds of transmit error on a CAN bus that R344 and R347 tell apart; `afterFlag` is one in or behind an error flag that the
transmitter has sent (a bit error in it, too many dominant bits after it). -/
inductive CanError where
  | ack
  | stuffInArbitration
  | other
  | afterFlag
  deriving DecidableEq, Repr

/-- What a CAN controller saw of the bit in which it finds an error (R325, R326): in the nominal phase, whether the level was wrong at
the sample point, one quantum before and two quanta before it; in the data phase, the KCLK periods after the bit's start from which
and until which it was wrong. -/
inductive BitSeen where
  | nominal (point before1 before2 : Bool)
  | data (start stop : Nat)
  deriving DecidableEq, Repr

/-- A transmit error: its kind, what was seen of the bit, and the loop delay in KCLK periods measured on the frame before it (R326). -/
structure TxFault where
  kind : CanError
  seen : BitSeen := .nominal true true true
  measured : Option Nat := none
  deriving DecidableEq, Repr

/-- An error that a CAN receiver finds: whether the standard raises REC by 8 for it (it lies in or behind an error flag already sent),
and what was seen of the bit (R325, R344). -/
structure RxFault where
  eight : Bool
  seen : BitSeen := .nominal true true true
  deriving DecidableEq, Repr

/-- An image of the outputs for a strobe (R514): its tick, the levels of the discrete output lines, the rail gates. -/
structure OutImage where
  tick : Nat
  lines : Nat
  rails : Nat
  deriving DecidableEq, Repr

/-- What an arriving record carries beside KIND, LINK_SEQ, ACK and its body (R499): FLAGS and body length of its head, its CRC, and
the tick of a SWITCH record whose command has no other use for it. -/
structure TwHead where
  flags : Nat := 0
  len : Nat
  crc : Nat
  tick : Nat := 0
  deriving DecidableEq, Repr

/-- A STATUS record (R500). -/
structure TwStatus where
  mode : Nat
  st : Nat
  rank : Nat
  token : Bool
  period : Nat
  epoch : Nat
  jseq : Nat
  digest : Nat
  deriving DecidableEq, Repr

/-- A journal record (R527): JSEQ, the bank of an output item, whose frame does not name it, and the frame. -/
structure JournalRec where
  jseq : Nat
  inst : Nat
  frame : Frame
  deriving DecidableEq, Repr

/-- A GRANT (R509). The route key is 0xFFFF for a frame that no route made; for the answer of an OPEN it is the
session number (R506). -/
structure TwGrant where
  cls : Nat
  stream : Nat
  seq : Nat
  tick : Nat
  occ : Nat
  key : Nat
  deriving DecidableEq, Repr

end Machine

open Machine

/-- The commands. -/
inductive Instr where
  /-- R42, A dictionary write to a member that has no row of its own is checked under R62 and, if it passes, takes effect under its access code. -/
  | registerWrite (lvl : Fin 4) (obj : Fin 65536) (mb : Fin 256) (data : Bytes)
  /-- R63, A DICT_REQ arriving at SP_14 is queued, or is answered BUSY when the 64-entry queue is full. -/
  | dictReqEnqueue (f : Frame)
  /-- R60, The READ command at the head of the queue returns the member's value, clearing RC members. -/
  | dictRead
  /-- R60, The WRITE command is checked under R62 and, if it passes, writes the member, with RWT values held pending. -/
  | dictWrite
  /-- R60, The DESCRIBE command returns the member descriptor at L0 for any existing member. -/
  | dictDescribe
  /-- R56, The OPEN command checks the lockout, the level and the token, and opens a session or counts a failure. -/
  | dictOpen
  /-- R60, The CLOSE command closes the requester's session and ends its segmented transfer with ABORTED. -/
  | dictClose
  /-- R73, SEG_READ copies the member to a staging bank at OFFSET 0 and serves segments in order from that copy. -/
  | segRead
  /-- R75, SEG_WRITE stages segments in order and replaces the member whole at the accepted LAST segment. -/
  | segWrite
  /-- R80, SEG_ABORT ends the open segmented transfer with ABORTED and frees its staging bank. -/
  | segAbort
  /-- R43, At its effect strobe a pending RWT value takes effect, or is dropped and recorded when the owner cannot take it. -/
  | rwtEffect
  /-- R54, A session that has received no request for SESSION_IDLE seconds is closed. -/
  | sessionIdleClose
  /-- R56, LOCKOUT_TIME expires, OPEN is served again and the failure count is 0. -/
  | lockoutEnd
  /-- R78, No next segment arrives within SEG_TIMEOUT, so the transfer is abandoned and its staging bank freed. -/
  | segTimeoutAbandon
  /-- R30, 400 ns before boundary N the time base writes arm records into every tick unit and loads scheduled entries. -/
  | tickArmPoint
  /-- R29, The tick strobe captures every input, changes the outputs and advances each tick unit. -/
  | tickStrobe (dio : BitVec 256) (fiP : BitVec 128) (fiN : BitVec 128)
  /-- R19, The owning resource takes the value waiting in a post register, which frees it. -/
  | postRegisterTake (res : Fin 33)
  /-- R97, RP_p_PRES_N goes low, so the port enters DOWN, enables TX and reads RP_SFP_ID. -/
  | portModulePresent (p : Fin 4) (id : Option Bytes)
  /-- R97, RP_p_PRES_N goes high, so the port enters ABSENT and disables TX. -/
  | portModuleAbsent (p : Fin 4)
  /-- R97, A DOWN port gains block lock or synchronisation with every condition good and enters QUALIFYING. -/
  | portLockGained (p : LinkLock)
  /-- R97, A QUALIFYING, UP or MISWIRED port loses a condition of DOWN and returns to DOWN. -/
  | portLockLost (p : Fin 4) (cause : LinkLoss)
  /-- R97, The conditions held for LINK_QUAL, so the port enters UP. -/
  | linkQualExpiry (p : Fin 4)
  /-- R99, A port in UP sends a SPLICE_REQ every 100 µs. -/
  | spliceReqSend (p : Fin 4)
  /-- R99, A port that receives a SPLICE_REQ answers it with a SPLICE_ACK. -/
  | spliceReqRx (p : Fin 4) (f : Frame)
  /-- R99, A SPLICE_ACK to the port's own request completes the handshake, which it accepts into JOINED or refuses into MISWIRED. -/
  | spliceAckRx (p : Fin 4) (f : Frame)
  /-- R100, UNWRAP_HOLD ends for a port re-entering UP, which sends its first SPLICE_REQ. -/
  | unwrapHoldExpiry (p : Fin 4)
  /-- R105, The wrapped side re-enters JOINED and the unwrap completes within 3 µs. -/
  | unwrapComplete (p : Fin 4)
  /-- R103, A JOINED port detects a link failure, starts WRAP_QUAL, sends remote fault and freezes its output queue. -/
  | linkFailureDetect (p : Fin 4) (cause : LinkLoss)
  /-- R103, Every condition of DOWN is restored before WRAP_QUAL ends, so the port stays JOINED as a glitch. -/
  | linkFailureRecover (p : Fin 4)
  /-- R103, WRAP_QUAL ends with the failure standing, so the port enters DOWN and the node wraps on that side. -/
  | wrapQualExpiry (p : Fin 4)
  /-- R104, The wrap completes, RING_WRAP is reported and a census with CAUSE 2 is originated. -/
  | wrapComplete (p : Fin 4)
  /-- R106, Neither home port has joined by LINK_WAIT after BOOT, so the node becomes lone. -/
  | linkWaitExpiry
  /-- R96, Every SFP_POLL the port reads module diagnostics, and Heather checks their limits. -/
  | sfpDiagPoll (p : Fin 4) (id : Option Bytes) (diag : Option Bytes)
  /-- R113, A write of 1 to CENSUS_START originates a census. -/
  | censusStart (lvl : Fin 4)
  /-- R117, A COLLECT batch is received and appended to, forwarded, or discarded as superseded. -/
  | censusCollectRx (p : Fin 4) (f : Frame)
  /-- R118, The closing batch returns to the originator, which builds the table and sends the FINAL batches. -/
  | censusCloseReturn (p : Fin 4) (f : Frame)
  /-- R120, A FINAL batch is copied, and at the LAST batch the table is scheduled for APPLY_TICK or held for a restart. -/
  | censusFinalRx (p : Fin 4) (f : Frame)
  /-- R120, At APPLY_TICK the node applies the new table and its address, and frees tracker entries. -/
  | censusApply (pair : Fin 2)
  /-- R121, The closing batch has not returned within CENSUS_TIMEOUT, so the originator restarts the census with CAUSE 5. -/
  | censusTimeout (pair : Fin 2)
  /-- R121, A node that appended has no complete FINAL within 2 × CENSUS_TIMEOUT and originates a census with CAUSE 5. -/
  | censusFinalTimeout (pair : Fin 2)
  /-- R131, A frame routed to a trunk is class-checked, check-verified and queued in its class part, or dropped. -/
  | trunkFrameEnqueue (t : Fin 8) (f : Frame)
  /-- R132, A trunk slot begins and the trunk sends at most one block of that slot's plane, with age discards. -/
  | trunkSlot (t : Fin 8)
  /-- R127, A trunk block is received, FCS-checked, acknowledged and joined into its frame. -/
  | trunkBlockRx (t : Fin 8) (chars : Bytes)
  /-- R129, An unacknowledged block reaches TRUNK_RTO and the plane resends by go-back-N, or discards the frame and resets the link. -/
  | trunkRtoExpiry (t : Fin 8) (plane : Fin 2)
  /-- R130, A plane idle for TRUNK_KEEPALIVE sends an acknowledgement-only block, or a down trunk sends a link reset. -/
  | trunkKeepalive (t : Fin 8) (plane : Fin 2)
  /-- R130, No good block arrives within TRUNK_DEAD, so the trunk enters DOWN and reports TRUNK_DOWN. -/
  | trunkDeadExpiry (t : Fin 8)
  /-- R149, A received header is checked and the frame is stripped, delivered or forwarded under steps 1 to 8. -/
  | frameRxHeader (p : Fin 4) (f : Frame)
  /-- R150, A frame ends good or bad, and delivery and each output act on the result. -/
  | frameRxEnd (p : Fin 4) (f : Frame) (e : EndKind)
  /-- R159, A cut-through output needs a block the input has not supplied and ends the frame poisoned with cause 5. -/
  | cutThroughUnderrun (o : Fin 4)
  /-- R151, A subsystem hands a frame to the ring, which is discarded when the node is not a census member. -/
  | frameOriginate (sp : Fin 12) (f : Frame)
  /-- R162, A tracker entry unused for TRACK_AGE is freed. -/
  | trackAgeExpiry
  /-- R165, LINK_HOLD ends before the port carries traffic again, so the frozen queue is flushed. -/
  | linkHoldExpiry (p : Fin 4)
  /-- R165, A frozen port carries traffic again within LINK_HOLD and its queue resumes, removing aged frames. -/
  | holdResume (p : Fin 4)
  /-- R176, Each cell slot the scheduler runs three request-grant-accept iterations and moves matched cells. -/
  | switchSlotSchedule
  /-- R184, A frame's first cell seeks admission at each output and class, and is admitted, dropped or held. -/
  | frameAdmission
  /-- R186, Room appears for a held local frame, which is admitted. -/
  | heldFrameAdmit
  /-- R186, A held local frame finds no room within LOCAL_WAIT and is dropped. -/
  | localWaitExpiry
  /-- R194, At each 1 ms boundary the active-source counts become A_p,c and K is recomputed. -/
  | fairWindowEnd
  /-- R192, At each 1 ms boundary the buffer manager checks the cell accounting and reports any mismatch. -/
  | bufAccountCheck
  /-- R189, A BUF_LIMIT write is checked against SW_POOL and applies at once. -/
  | bufLimitWrite (lvl : Fin 4) (out : Fin 16) (cls : Fin 8) (v : BitVec 32)
  /-- R223, A write of 1 to INJ_ARM arms check-bit inversion at the chosen checker. -/
  | injArm (lvl : Fin 4)
  /-- R224, A write of 0 to INJ_ARM sets INJ_LEFT to 0. -/
  | injCancel (lvl : Fin 4)
  /-- R238, A node in MASTER originates a TIME_SYNC every SYNC_PERIOD on both rings. -/
  | timeSyncSend
  /-- R237, A TIME_SYNC is accepted or forwarded, the servo updates and the time-base state moves. -/
  | timeSyncRx (p : Fin 4) (f : Frame) (e : EndKind) (residence : Nat)
  /-- R234, No TIME_SYNC is accepted within SYNC_LOSS, so the time base enters HOLDOVER, or MASTER from FREE. -/
  | syncLossExpiry
  /-- R249, A TIME_SET write in CONFIG steps system time to the written value and sets TIME_VALID. -/
  | timeSet (lvl : Fin 4) (v : BitVec 64)
  /-- R243, A JOINED port sends a PEER_DELAY request every PEER_PERIOD, or at 1 ms spacing after joining. -/
  | peerDelaySend (p : Fin 4)
  /-- R243, A PEER_DELAY request is answered with the turnaround in CORRECTION. -/
  | peerDelayReqRx (p : Fin 4) (f : Frame) (turnaround : Nat)
  /-- R244, A PEER_DELAY response gives a delay result that updates LINK_DELAY or is discarded as an outlier. -/
  | peerDelayRspRx (p : Fin 4) (f : Frame)
  /-- R244, No response arrives within 1 ms, which is counted, and 3 in a row clear DELAY_VALID. -/
  | peerDelayTimeout (p : Fin 4)
  /-- R253, A TB_PPS_IN edge is validated and its offset steers the servo. -/
  | ppsEdge
  /-- R253, No valid edge arrives for 3 s, so PPS_STATE enters holdover and PPS_LOST is reported. -/
  | ppsLossTimeout
  /-- R255, At each whole second TB_PPS_OUT is driven high. -/
  | ppsOutRise
  /-- R255, 1 ms after each whole second TB_PPS_OUT is driven low. -/
  | ppsOutFall
  /-- R679, At a whole second a new TICK_PERIOD takes effect and every held tick value is renumbered. -/
  | tickPeriodChange
  /-- R262, A record reaches the event stream and joins its tick's sort buffer, or is placed at once with LATE_CLOSE. -/
  | eventRecordArrive (source : Fin 65536) (kind : Fin 256) (sev : Fin 5) (tick : BitVec 48) (flags : BitVec 16) (value : BitVec 64)
  /-- R262, EVENT_CLOSE after a strobe, the records of that tick are sorted, placed and streamed. -/
  | eventCloseExpiry
  /-- R264, The move of R264 ends, EVQ_MOVING clears and waiting records and EVQ_RD writes proceed. -/
  | evqMoveComplete
  /-- R265, A write of EVQ_RD releases records, or is refused when it would pass EVQ_WR. -/
  | evqRdWrite (lvl : Fin 4) (v : Fin 65536)
  /-- R268, An output item for a scheduled bank enters the schedule table, or is discarded or applied late. -/
  | schedItemRx (b : Fin 32) (f : Frame)
  /-- R269, A 16-byte SCHED_POST write enters one schedule entry. -/
  | schedPost (lvl : Fin 4) (data : Bytes)
  /-- R270, A write of 1 to SCHED_CANCEL removes every pending entry. -/
  | schedCancel (lvl : Fin 4)
  /-- R280, A UART character completes and is added to the packet, with parity and stop errors flagged. -/
  | charRx (n : Fin 128) (b : Byte) (ok : Bool) (silence : Nat)
  /-- R281, The line is held low beyond a character time, so the packet closes with BREAK and an event is written. -/
  | chBreak (n : Fin 128)
  /-- R294, The line is idle for CH_GAP, which ends the packet and closes the record. -/
  | idleGapExpiry (n : Fin 128)
  /-- R295, A silence of t3.5 ends a Modbus RTU packet and the CRC and length are checked. -/
  | modbusSilenceExpiry (n : Fin 128)
  /-- R301, The oldest byte is older than CH_FLUSH_AGE, so the banks swap. -/
  | flushAgeExpiry (n : Fin 128)
  /-- R303, The pointer copies of a direction differ, so it drops its records, clears and reports the fault. -/
  | chPtrMismatch (n : Fin 128) (tx : Bool)
  /-- R304, A write of 1 to CH_RESET clears both directions of the channel. -/
  | chReset (lvl : Fin 4) (n : Fin 128)
  /-- R309, The scanner visits a channel's receive side and hands its records to the item former or trunk. -/
  | scannerRxVisit (n : Fin 128)
  /-- R311, The scanner moves staged items through the egress check into the transmit fill bank. -/
  | scannerTxVisit (n : Fin 128)
  /-- R310, An item for a channel enters transmit staging or is dropped. -/
  | chTxItemArrive (n : Fin 128) (f : Frame)
  /-- R312, The transmitter starts a record once its conditions hold, raising DE first in RS485. -/
  | chTxRecordStart (n : Fin 128) (ballC : Bool)
  /-- R312, A record is sent whole, counted, and DE falls after the DE lag. -/
  | chTxRecordEnd (e : TxEnd)
  /-- R286, An SPI transaction ends, chip select is released and the bytes shifted in form a receive record. -/
  | spiTransactionDone (n : Fin 128) (miso : Bytes)
  /-- R291, A controller transaction ends and produces a receive record with its STATUS. -/
  | i2cTransactionDone (n : Fin 128) (status : Fin 5) (data : Bytes) (pec : Byte)
  /-- R291, After arbitration loss and 50 µs of idle bus the controller retries the transaction. -/
  | i2cArbRetry (n : Fin 128)
  /-- R292, A controller write to the own address closes at STOP or repeated START as a receive record. -/
  | i2cTargetWrite (n : Fin 128) (data : TargetData)
  /-- R292, A controller read is served from the head transmit record, or 0xFF on underrun. -/
  | i2cTargetRead (n : Fin 128) (count : Fin 512)
  /-- R293, SDA is held low past the timeout, so the controller clocks SCL 9 times and marks the bus stuck if it stays low. -/
  | busStuck (n : Fin 128) (low : HeldLow)
  /-- R293, Every 100 ms a stuck bus is tried again until SDA is released. -/
  | busStuckRetry (n : Fin 128) (low : Bool)
  /-- R293, A falling edge of SMBALERT_N writes an SMBALERT event. -/
  | smbalert (n : Fin 128)
  /-- R313, A read of RX_POP returns and consumes the next bytes of the receive drain bank. -/
  | chRxPop (n : Fin 128) (size : Fin 9)
  /-- R314, A write to RX_RELEASE releases whole records from the drain bank. -/
  | rxRelease (n : Fin 128) (count : Fin 65536)
  /-- R313, A write burst to TX_WRITE forms one transmit item. -/
  | txWrite (n : Fin 128) (bs : Bytes)
  /-- R316, No good record closes for CH_SILENCE ms, so an RX_SILENT event is written. -/
  | rxSilent (n : Fin 128)
  /-- R331, A CAN_TX_POST write fills the controller's post register as a transmit item. -/
  | canTxPost (lvl : Fin 4) (n : Fin 32) (data : Bytes)
  /-- R332, A transmit item passes egress and is copied into its mailbox, or is dropped. -/
  | canTxItemArrive (n : Fin 32) (f : Frame)
  /-- R334, The controller selects the READY mailbox that wins arbitration and makes it ACTIVE. -/
  | canFrameSelect (n : Fin 32)
  /-- R335, An ACTIVE mailbox starts its SOF and stamps TICK, OFFSET and FC_SOF. -/
  | canSof (n : Fin 32)
  /-- R335, The frame is acknowledged and ends without error, so the mailbox enters SENT. -/
  | canTxSent (n : Fin 32) (delay : Nat)
  /-- R335, Arbitration is lost and the mailbox returns to READY. -/
  | canArbLost (n : Fin 32)
  /-- R344, A transmit error updates TEC and the error state, and the mailbox returns to READY. -/
  | canTxError (n : Fin 32) (e : TxFault)
  /-- R336, A CAN_ABORT mask registered in the controller aborts its mailboxes as their state gives. -/
  | canAbort (lvl : Fin 4) (n : Fin 32) (mask : BitVec 64)
  /-- R336, CAN_CMD 2 aborts every mailbox. -/
  | canAbortAll (lvl : Fin 4) (n : Fin 32)
  /-- R346, CAN_CMD 1 in bus-off puts the controller in RECOVERING. -/
  | canRecover (lvl : Fin 4) (n : Fin 32)
  /-- R346, The recovery condition is met, so the controller becomes error-active with zero counters. -/
  | canRecovered (n : Fin 32)
  /-- R340, A received frame completes and is filtered to the mapper, a receive slot or discard. -/
  | canFrameRxComplete (n : Fin 32) (ident : Nat) (frame : Byte) (data : Bytes) (ago : Nat)
  /-- R341, A write of RX_RD releases receive slots, or is refused when it would pass RX_WR. -/
  | rxRdWrite (lvl : Fin 4) (n : Fin 32) (v : Fin 256)
  /-- R354, ENG_CTRL START checks the group, takes over its pins and begins the program at WRAP_BOTTOM. -/
  | engStart (lvl : Fin 4) (n : Fin 64)
  /-- R369, ENG_CTRL STOP abandons the instruction under way and releases the pins. -/
  | engStop (lvl : Fin 4) (n : Fin 64)
  /-- R369, ENG_CTRL STOP_AT_WRAP stops the engine at its next wrap. -/
  | stopAtWrap (lvl : Fin 4) (n : Fin 64)
  /-- R369, ENG_CTRL FLUSH empties both queues of a stopped engine. -/
  | engFlush (lvl : Fin 4) (n : Fin 64)
  /-- R361, The engine shifts bits of SR out to OUT_PIN, with optional clock and refill. -/
  | shiftOut (n : Fin 64)
  /-- R361, The engine samples bits from IN_PIN into SR, with optional clock and spill. -/
  | shiftIn (n : Fin 64) (ins : BitVec 32)
  /-- R361, The engine waits n cycles. -/
  | engDelay (n : Fin 64)
  /-- R362, The engine waits for a pin level, the counter, or a tick strobe. -/
  | engWait (n : Fin 64) (k : Nat) (levels : BitVec 8)
  /-- R363, The engine sets pin levels or directions. -/
  | engSet (n : Fin 64)
  /-- R361, The engine moves a word between a queue, SR and CMPR. -/
  | engMove (n : Fin 64)
  /-- R361, The engine compares and sets EQ. -/
  | engCmp (n : Fin 64) (levels : BitVec 8)
  /-- R373, The EVENT instruction writes a program record and may skip the next instruction. -/
  | engEvent (n : Fin 64)
  /-- R364, A stalled engine finds its word or room at a cycle's first edge and continues. -/
  | engStallEnd (n : Fin 64) (k : Nat) (ins : BitVec 32)
  /-- R366, A TX_DATA write is verified and its words enter the TX queue, or it is refused. -/
  | txData (n : Fin 64) (bs : Bytes)
  /-- R365, A read of RX_POP returns and removes the RX queue head, or gets an error when empty. -/
  | engRxPop (n : Fin 64)
  /-- R367, A read of RX_PEEK returns the RX queue head, counting a read of an empty queue. -/
  | rxPeek (n : Fin 64)
  /-- R370, An ENG_PROG write is held pending until the next wrap while the engine runs. -/
  | engProgWrite (lvl : Fin 4) (n : Fin 64) (data : Bytes)
  /-- R370, An ENG_WRAP write is checked and held pending until the next wrap while the engine runs. -/
  | engWrapWrite (lvl : Fin 4) (n : Fin 64) (v : BitVec 32)
  /-- R370, An ENG_DIV write is held pending until the next wrap while the engine runs. -/
  | engDivWrite (lvl : Fin 4) (n : Fin 64) (v : BitVec 32)
  /-- R371, An ENG_PROG_FORCE write abandons the instruction under way and installs the program at once. -/
  | engProgForce (lvl : Fin 4) (n : Fin 64) (data : Bytes)
  /-- R384, An output item for a discrete bank passes egress and loads its MASK bits into DISC_OUT. -/
  | discOutputItem (b : Fin 32) (f : Frame)
  /-- R386, A DISC_SAFE write applies at once, from the next strobe for a bank in safe state. -/
  | discSafeWrite (lvl : Fin 4) (b : Fin 32) (v : Fin 256)
  /-- R376, Each millisecond a bank senses its supply and changes DISC_VIO after 2 equal senses. -/
  | discVioSense (b : Fin 32) (mv : Nat)
  /-- R392, A calibrated sample is delivered, thresholds are evaluated and sample sets are formed. -/
  | measSampleDeliver (n : Fin 32) (x : Int)
  /-- R395, The open comparator is above its level for 1 ms, so the input enters OPEN. -/
  | measOpenEnter (n : Fin 32)
  /-- R395, The open comparator is below its level for 1 ms, so the input leaves OPEN. -/
  | measOpenLeave (n : Fin 32)
  /-- R403, The mapper starts an input item, fetches its route chain and runs the programs. -/
  | mapperInputItem (arrived : Option Frame)
  /-- R415, On a pass verdict the outputs and slot stores of an item are released in one cycle. -/
  | mapperRelease
  /-- R404, A fabric write of a route entry is checked and replaces the entry in one cycle. -/
  | routeTableWrite (key : Fin 65536) (entry : Bytes)
  /-- R404, A fabric write of a mapping entry replaces it in one cycle. -/
  | mappingEntryWrite (k : Fin 16384) (entry : Bytes)
  /-- R421, Each tick the rule unit evaluates all rules and writes line holds and records. -/
  | rulePass
  /-- R425, A write of 1 to RULE_RESET returns a CLEARED rule to NORMAL at the next pass. -/
  | ruleReset (lvl : Fin 4) (r : Fin 1024)
  /-- R419, At each 1 ms window MAP_LOAD takes the entries run. -/
  | mapLoadWindowEnd
  /-- R432, A READ request at the target is checked whole and answered READ_DATA or ERROR. -/
  | fabricRead (f : Frame)
  /-- R432, A WRITE request at the target is verified, written and answered WRITE_DONE or ERROR. -/
  | fabricWrite (f : Frame) (clash : Option Nat)
  /-- R432, A WRITE_POSTED request is verified and written without an answer. -/
  | writePosted (f : Frame) (clash : Option Nat)
  /-- R432, A C7 DATA item shorter than the fabric head is discarded and counted. -/
  | c7RuntDiscard (f : Frame)
  /-- R433, A READ_DATA answer completes an outstanding access, or is discarded as late. -/
  | readData (f : DataAnswer)
  /-- R433, A WRITE_DONE answer completes an outstanding write. -/
  | writeDone (f : Frame)
  /-- R433, An ERROR answer ends an outstanding access with its status. -/
  | fabricErrorRx (f : Frame)
  /-- R433, No answer arrives within FAB_TIMEOUT, so the access ends TIMEOUT. -/
  | fabTimeoutExpiry
  /-- R437, A window-space access is translated, served from prefetch or refused as a window fault. -/
  | windowAccess (a : BitVec 32) (write : Bool) (n : Fin 1009) (bs : PortWrite)
  /-- R443, A WIN_CTRL write is checked and may set PF_CONFLICT and report the prefetch fault. -/
  | winCtrlWrite (lvl : Fin 4) (w : Fin 256) (v : BitVec 32)
  /-- R445, A write to FO_TOKEN makes Heather send an OPEN to FO_NODE. -/
  | foTokenWrite (lvl : Fin 4) (data : Bytes)
  /-- R445, The OPEN answer arrives and sets FO_STATUS and FO_SESSION. -/
  | fabOpenAnswer (f : Frame)
  /-- R446, A Q_TAIL write adds descriptors to a mover queue. -/
  | qTailWrite (lvl : Fin 4) (k : Fin 16) (q : Fin 4) (v : Fin 65536)
  /-- R449, A mover starts or resumes a descriptor and issues its reads. -/
  | mvDescStart (k : MoverStart)
  /-- R450, A higher queue holds a descriptor, so once outstanding accesses end the current one is PREEMPTED. -/
  | mvPreempt (k : Fin 16)
  /-- R454, A descriptor ends DONE and Q_HEAD advances. -/
  | mvDescEnd (k : Fin 16)
  /-- R453, MV_CMD ENABLE takes a DISABLED mover to IDLE. -/
  | mvEnable (lvl : Fin 4) (k : Fin 16)
  /-- R453, MV_CMD DISABLE preempts and disables the mover. -/
  | mvDisable (lvl : Fin 4) (k : Fin 16)
  /-- R453, MV_CMD RESUME reissues reads from DONE. -/
  | mvResume (lvl : Fin 4) (k : Fin 16)
  /-- R453, MV_CMD SKIP ends the suspended descriptor and advances Q_HEAD. -/
  | mvSkip (lvl : Fin 4) (k : Fin 16)
  /-- R453, MV_CMD ABORT ends the running descriptor ABORTED. -/
  | mvAbort (lvl : Fin 4) (k : Fin 16)
  /-- R457, A BANK_OWNER write requests a handover and starts the old owner's drain. -/
  | bankOwnerWrite (lvl : Fin 4) (b : Fin 64) (v : Fin 256)
  /-- R457, The drain ends within 2 µs and the new owner takes the bank. -/
  | handoverComplete
  /-- R457, The drain does not end within 2 µs, so the old owner keeps the bank. -/
  | handoverRefused
  /-- R462, The last word is copied into the swap bank and the borrow enters ALIASED. -/
  | copyInDone (lane : Fin 2)
  /-- R462, A COPY_IN not ended within 1 ms is abandoned and the bank released. -/
  | copyInAbandon (lane : Fin 2)
  /-- R462, The march test of the borrowed bank ends and COPY_BACK starts. -/
  | aliasedTestDone (lane : Fin 2) (failWord : BitVec 16) (sig : BitVec 32)
  /-- R462, The last word is copied back and the bank is released. -/
  | copyBackDone (lane : Fin 2)
  /-- R474, A host read cycle is decoded and served through its range, with wait states, retry or error. -/
  | hostReadCycle (a : BitVec 32) (n : Nat)
  /-- R476, A host write cycle is decoded, buffered and sent as a burst item. -/
  | hostWriteCycle (a : BitVec 32) (bs : PortWrite)
  /-- R472, No LHP_BCLK edge arrives for 1 µs and the port reports no clock. -/
  | lhpNoClock
  /-- R490, A waiting host cycle and a pending bus request hold together for 2 µs, so the cycle is retried and kept. -/
  | hostRetryDeadlock
  /-- R491, A kept retried access that no cycle joins within LHP_REISSUE is discarded. -/
  | reissueExpiry
  /-- R483, An address edge sampling LHP_LOCK_N low begins a locked sequence. -/
  | lockSequenceBegin
  /-- R483, An edge sampling LHP_LOCK_N high ends the sequence and frees its semaphores. -/
  | lockSequenceEnd
  /-- R485, A sequence reaches LHP_LOCK_MAX or needs a 33rd region and is broken. -/
  | lockBroken
  /-- R486, An XQ_TAIL write adds host transfer descriptors and raises LHP_BREQ_N. -/
  | xqTailWrite (lvl : Fin 4) (v : Fin 65536)
  /-- R487, On grant the port drives a bus cycle of a host transfer descriptor. -/
  | deviceMasterCycle (done : Option (Fin 129)) (bus : BusCycle)
  /-- R489, 1 µs after LHP_RETRY_N the device reissues its cycle, ending ERROR after 8. -/
  | deviceRetryReissue (done : Option (Fin 129)) (bus : BusCycle)
  /-- R493, A side-band ball changes and its line and the selected IRQ pins follow. -/
  | sidebandEdge (k : Fin 4) (level : Bool)
  /-- R501, Every HB_PERIOD / 2 the unit inverts its heartbeat outputs. -/
  | heartbeatToggle
  /-- R501, Every HB_PERIOD the unit sends STATUS on the twin link. -/
  | statusSend
  /-- R502, A heartbeat sign arrives on the wires and renews the silence timer. -/
  | heartbeatSign
  /-- R502, The heartbeat inputs stay equal for more than 2 µs and the wires are marked broken. -/
  | hbWireBroken
  /-- R499, A twin link record unacknowledged for 10 µs is resent by go-back-N in its lane. -/
  | twLinkRetx (l : Fin 4)
  /-- R500, No good record arrives within 2 × HB_PERIOD and the link stops being live. -/
  | twLinkDown
  /-- R504, A STATUS record is a sign and updates peer period, configuration digest and the pair state. -/
  | twStatus (seq : Fin 65536) (ack : Fin 65536) (h : TwHead) (r : TwStatus)
  /-- R516, An IMAGE record is compared with the own image, and a difference aborts the switchover. -/
  | twImage (seq : Fin 65536) (ack : Fin 65536) (h : TwHead) (img : OutImage)
  /-- R514, The standby receives OFFER, installs the snapshot and journal and sends ACCEPT naming T. -/
  | twOffer (seq : Fin 65536) (ack : Fin 65536) (h : TwHead) (cause : Fin 8)
  /-- R514, The holder receives ACCEPT and stops starting new records from strobe T. -/
  | twAccept (seq : Fin 65536) (ack : Fin 65536) (h : TwHead) (t : Nat)
  /-- R515, The standby receives RELEASED for an instance and drives it from then. -/
  | twReleased (seq : Fin 65536) (ack : Fin 65536) (h : TwHead) (t : Nat) (kind : Fin 4) (inst : Fin 128)
  /-- R516, An ABORT record abandons the switchover, with the standby releasing its outputs. -/
  | twAbort (seq : Fin 65536) (ack : Fin 65536) (h : TwHead)
  /-- R509, A GRANT sets the standby's counts and matches an item in the pairing hold. -/
  | twGrant (l : Fin 3) (seq : Fin 65536) (ack : Fin 65536) (h : TwHead) (g : TwGrant)
  /-- R510, A NUMBER request or answer numbers a single frame of the standby. -/
  | twNumber (l : Fin 3) (seq : Fin 65536) (ack : Fin 65536) (h : TwHead) (answer : Bool) (id : Nat) (cls : Fin 8) (stream : Fin 65536) (num : Fin 65536)
  /-- R527, A SENT record makes the standby drop its copy of a completed item. -/
  | twSent (l : Fin 3) (seq : Fin 65536) (ack : Fin 65536) (h : TwHead) (j : Nat) (kind : Fin 5) (inst : Fin 128) (stream : Fin 65536) (num : Fin 65536)
  /-- R527, A JOURNAL record is kept by the standby, or discarded when the journal is full. -/
  | twJournal (l : Fin 3) (seq : Fin 65536) (ack : Fin 65536) (h : TwHead) (r : JournalRec)
  /-- R525, A MARK record starts a pending snapshot epoch at the standby. -/
  | twMark (seq : Fin 65536) (ack : Fin 65536) (h : TwHead) (e : Nat) (t : Nat) (j : Nat)
  /-- R526, A snapshot CHUNK is written into the pending shadow. -/
  | twChunk (seq : Fin 65536) (ack : Fin 65536) (h : TwHead) (e : Nat) (k : Nat) (data : Bytes)
  /-- R526, A COMMIT makes the pending shadow committed, or discards it on a failed check. -/
  | twCommit (seq : Fin 65536) (ack : Fin 65536) (h : TwHead) (e : Nat) (n : Nat) (crc : Nat)
  /-- R510, A held item finds no GRANT within PAIR_WAIT while the link is live and is discarded. -/
  | pairWaitExpiry
  /-- R503, No sign arrives for 2 × HB_PERIOD, so the unit starts the witness settle. -/
  | peerSilence
  /-- R503, After 30 µs the witness decides between a contest and a lost peer. -/
  | witnessSettleEnd
  /-- R519, At CONTEST_HOLD rank 0 takes the token and rank 1 releases or treats the peer as lost. -/
  | contestHoldEnd
  /-- R511, JOIN_WAIT ends and the forming unit takes or leaves the token. -/
  | joinWaitExpiry
  /-- R513, TW_CMD 1 at the holder starts a planned switchover, or is refused. -/
  | twCmdOffer (lvl : Fin 4)
  /-- R525, TW_CMD 2 starts a snapshot epoch at once. -/
  | twCmdSnapshot (lvl : Fin 4)
  /-- R525, Every SNAP_PERIOD the holder starts a snapshot epoch with MARK. -/
  | snapshotStart
  /-- R525, The holder has sent every CHUNK and the COMMIT, and sends OFFER when a switchover waits. -/
  | snapshotSent
  /-- R514, At strobe T both units drive discrete lines and rails and send IMAGE. -/
  | switchStrobeT
  /-- R514, At strobe T + 2 the holder releases its lines and rails and the token passes. -/
  | tokenPass
  /-- R515, The record, frame or pass under way ends and the holder releases that instance. -/
  | instanceRelease (kind : Fin 3) (n : Fin 128)
  /-- R515, 2 s after strobe T any instance still held is released with its record cut. -/
  | instanceReleaseTimeout
  /-- R517, At the first strobe 20 µs after its safe entry the holder releases its outputs to the standby. -/
  | safeTokenRelease
  /-- R533, VDD_3V3 or VDD_CORE falls below its reset level, so the chip resets and logs POWER_FAIL. -/
  | supplyReset (low : BitVec 16) (absent : Bool)
  /-- R534, VDD_3V3 at or below 3.05 V for 2 µs starts a dip episode that holds flash writes and turn-ons. -/
  | dipStart (mv : Fin 65536)
  /-- R535, VDD_3V3 at or above 3.10 V for 100 µs ends the episode and logs it. -/
  | dipEnd (mv : Fin 65536) (low : Fin 65536)
  /-- R536, An episode that has lasted 20 ms declares POWER_DEGRADED. -/
  | powerDegraded
  /-- R536, VIN_MV stays good for DEGRADED_CLEAR and POWER_DEGRADED clears. -/
  | degradedClear (mv : Fin 65536)
  /-- R531, VDDA_SD or VDDA_MEAS leaves or returns to its range after its filter. -/
  | supplyRangeChange (meas : Bool) (out : Bool)
  /-- R540, Once per LCLK second VBAT is compared with 2.2 V, which may set VBAT_LOW. -/
  | vbatSense (mv : Fin 65536)
  /-- R539, At each whole minute the real-time counter is loaded from system time. -/
  | rtcLoad
  /-- R538, The backup supply falls below 1.5 V and the backup domain is cleared. -/
  | backupBrownOut
  /-- R641, VBAT rises above 1.5 V with no main supply and the chip enters BACKUP. -/
  | vbatRise
  /-- R543, FEED_x_VOUT exceeds FEED_x_VIN and the gate is driven low. -/
  | feedReverse (x : Fin 2) (code : Fin 4096)
  /-- R543, A reverse-blocked feed's VIN exceeds VOUT by 10 mV for 10 µs and it turns on again. -/
  | feedUnblock (x : Fin 2) (code : Fin 4096)
  /-- R543, FEED_MV stays below FEED_MIN_MV for 1 ms and the feed is lost. -/
  | feedLost (x : Fin 2) (code : Fin 4096)
  /-- R543, A lost feed is good for 1 ms and returns. -/
  | feedRestored (x : Fin 2) (code : Fin 4096)
  /-- R547, Command 1 at a strobe turns a rail on into INRUSH. -/
  | railTurnOn (n : Fin 16)
  /-- R547, Command 0 at a strobe takes a rail to OFF. -/
  | railTurnOff (n : Fin 16)
  /-- R547, INRUSH_TIME ends and the rail enters SETTLING. -/
  | inrushEnd (n : Fin 16)
  /-- R548, Every 1 µs the rail current updates the heat H and the fault timer. -/
  | railSample (n : Fin 16) (code : Fin 4096) (pg : Bool)
  /-- R551, Window W ends without power-good and the rail trips with cause 4. -/
  | settleWindowExpiry (n : Fin 16)
  /-- R552, The settle condition holds for 1 ms and power-good is asserted at the next strobe. -/
  | powerGood (n : Fin 16)
  /-- R547, FLD_n_PG is low for 100 µs while ON and the rail trips with cause 5. -/
  | pgLost (n : Fin 16)
  /-- R551, RETRY_INTERVAL ends in WAIT and the rail retries into INRUSH. -/
  | retryIntervalExpiry (n : Fin 16)
  /-- R551, A rail held ON for RETRY_CLEAR has its retry count returned to 0. -/
  | retryClearExpiry (n : Fin 16)
  /-- R553, FLD_n_PRES_N goes high, so the gate goes low and the rail enters PULLED. -/
  | presenceLost (n : Fin 16)
  /-- R553, Presence returns within 50 ms and the rail returns to WAIT. -/
  | railBounce (n : Fin 16)
  /-- R553, An absence of 50 ms enters ABSENT and clears the retry state. -/
  | railAbsent (n : Fin 16)
  /-- R547, Presence low for 50 ms returns an ABSENT rail to OFF, and to INRUSH under command 1. -/
  | railInserted (n : Fin 16)
  /-- R559, A write of 1 to PL_CLEAR zeroes the power-loss log. -/
  | plClear (lvl : Fin 4)
  /-- R568, A subsystem reports a fault onset, clearing or one-shot to the collector. -/
  | faultReport (r : ReportKind) (source : Fin 512) (inst : Fin 65536) (cause : Fin 256) (detail : Nat)
  /-- R569, EVENT_CLOSE after a strobe the collector places the tick's records, events, frames and slots. -/
  | faultClose
  /-- R570, A read of FF_RECORD returns and empties the first-fault record. -/
  | ffRecord (lvl : Fin 4)
  /-- R573, A read of FQ_POP returns and removes the oldest fault record. -/
  | fqPop (lvl : Fin 4)
  /-- R576, A delivered FAULT frame's records are placed in the event queue. -/
  | faultFrameRx (f : Frame)
  /-- R579, A slot's timer expires and the next escalation step is taken. -/
  | escalationTimerExpiry
  /-- R584, 50 µs after a RESET step the node resets with cause ESCALATION. -/
  | escalationReset
  /-- R580, A write to FC_ACK frees every slot at or behind the written FAULT_SEQ. -/
  | fcAck (lvl : Fin 4) (q : Fin 65536)
  /-- R583, A write to FC_UNISOLATE releases one or all isolations. -/
  | fcUnisolate (lvl : Fin 4) (v : BitVec 32)
  /-- R585, The collector's register copies differ, so safe state is driven and SELF_FAIL is set. -/
  | fcSelfCheck
  /-- R586, A safe cause puts the node in safe state and moves outputs to safe values. -/
  | safeEntry (cause : Fin 4)
  /-- R586, FC_SAFE_CMD 1 enters safe state. -/
  | fcSafeEnter (lvl : Fin 4)
  /-- R590, FC_SAFE_CMD 2 requests the end of safe state after its checks. -/
  | fcSafeExit (lvl : Fin 4)
  /-- R590, At the strobe the exit is checked again and safe state ends. -/
  | safeExit
  /-- R591, Injection kind 1 makes an injected one-shot report. -/
  | fcInjectReport (lvl : Fin 4)
  /-- R591, Injection kind 2 forces a fault input pair reading for INJ_TICKS strobes. -/
  | fcInjectPair (lvl : Fin 4)
  /-- R591, Injection kind 3 inverts a bit of the second safe-state copy. -/
  | fcInjectSafeFlag (lvl : Fin 4)
  /-- R598, The watchdog is not refreshed for 10 ms and restarts Heather. -/
  | heatherWdt
  /-- R597, An uncorrectable error in Heather's memory restarts Heather. -/
  | heatherEccUncorr (inst : Fin 2)
  /-- R599, A Heather restart completes and paused functions resume. -/
  | heatherRestartDone
  /-- R600, Every SENSOR_PERIOD temperatures and voltage monitors are read and limit conditions raised or cleared. -/
  | sensorRead (t0 : BitVec 16) (t1 : BitVec 16) (t2 : BitVec 16) (t3 : BitVec 16) (m0 : BitVec 16) (m1 : BitVec 16) (m2 : BitVec 16) (m3 : BitVec 16) (m4 : BitVec 16) (m5 : BitVec 16) (m6 : BitVec 16) (m7 : BitVec 16) (m8 : BitVec 16) (m9 : BitVec 16)
  /-- R607, 128 entries wait or LOG_FLUSH passes and Heather copies a page into the flash log. -/
  | logFlashCopy (ok : Bool)
  /-- R634, A write of 1 to LOG_ERASE erases the flash log. -/
  | logErase (lvl : Fin 4)
  /-- R611, LC_CMD 1 moves MANUFACTURE or RETURNED to FIELD_OPEN. -/
  | lcToFieldOpen (lvl : Fin 4)
  /-- R611, LC_CMD 2 moves FIELD_OPEN to FIELD_SEALED. -/
  | lcToFieldSealed (lvl : Fin 4)
  /-- R655, An accepted return record enters RETURNED and erases configuration and tokens. -/
  | lcReturn (lvl : Fin 4) (record : Bytes)
  /-- R616, An UPDATE BEGIN checks the header and starts, resumes or replaces a transfer. -/
  | updBegin (f : Frame)
  /-- R616, The slot erase after BEGIN completes and STATE is answered. -/
  | updateEraseDone (ok : Bool)
  /-- R616, An UPDATE CHUNK of the transfer is written to the slot, or ignored. -/
  | updateChunk (f : Frame) (ok : Bool)
  /-- R616, An UPDATE QUERY is answered with STATE. -/
  | updQuery (f : Frame)
  /-- R616, An UPDATE END starts the full checks, or answers STATE when chunks are missing. -/
  | updEnd (f : Frame)
  /-- R613, The full image checks finish and STATE is answered with RESULT. -/
  | updateCheckDone (ok : Bool)
  /-- R619, UPD_CMD 1 activates the valid inactive slot as a trial. -/
  | updActivate (lvl : Fin 4)
  /-- R620, UPD_CMD 2 confirms the trial and raises ROLLBACK_FUSE. -/
  | updConfirm (lvl : Fin 4)
  /-- R621, UPD_CMD 3 reverts the trial to the previous slot. -/
  | updRevert (lvl : Fin 4)
  /-- R621, UPD_CMD 4 empties the inactive slot. -/
  | updDiscard (lvl : Fin 4)
  /-- R621, CONFIRM_LEFT reaches 0 and the trial reverts. -/
  | confirmLeftExpiry
  /-- R625, ST_BG_GAP after its last step a lane borrows the next bank for the background sweep. -/
  | stSweepStep (lane : Fin 2)
  /-- R628, RUN_CMD 1 starts a destructive run on RUN_BANKS. -/
  | runStart (lvl : Fin 4)
  /-- R628, RUN_CMD 2 stops every lane and returns the banks ABORTED. -/
  | runStop (lvl : Fin 4)
  /-- R628, A destructive bank test completes and the bank is cleared and returned. -/
  | runBankDone (lane : Fin 2) (failWord : BitVec 16) (sig : BitVec 32)
  /-- R642, MODE_CMD 1 requests CONFIG from operation. -/
  | enterConfig (lvl : Fin 4)
  /-- R643, MODE_CMD 2 brings CONFIG values into force, checks resources and sets the base mode. -/
  | leaveConfig (lvl : Fin 4)
  /-- R641, MODE_CMD 3 moves CONFIG to SELF_TEST. -/
  | enterSelfTest (lvl : Fin 4)
  /-- R641, MODE_CMD 4 moves SELF_TEST to CONFIG. -/
  | leaveSelfTest (lvl : Fin 4)
  /-- R640, MODE_CMD 5 requests QUIESCENT. -/
  | setQuiescent (lvl : Fin 4)
  /-- R640, MODE_CMD 6 requests the end of QUIESCENT. -/
  | clearQuiescent (lvl : Fin 4)
  /-- R642, At the first strobe after a mode command the CONFIG hold, QUIESCENT or the leave takes effect. -/
  | modeChangeAtStrobe
  /-- R644, VDD_3V3 rises from below 1.0 V and the node is reset with cause POWER_ON. -/
  | powerOn
  /-- R645, RESET_N held low resets the node. -/
  | resetN (ns : Nat) (still : Bool)
  /-- R644, A write of 0x0000_A5A5 to RESET_CMD resets the node. -/
  | resetCmd (lvl : Fin 4)
  /-- R647, The release conditions hold for 2 ms and BOOT begins. -/
  | resetRelease
  /-- R651, BOOT ends, straps latch, values come into force, time loads and MODE becomes CONFIG. -/
  | bootEnd (us : BitVec 32)
  /-- R652, After BOOT_SRC 0 the firmware restores tables and leaves CONFIG by itself. -/
  | autoStart
  /-- R653, CFG_CMD 1 starts a save of the values in force to the older copy. -/
  | cfgSave (lvl : Fin 4)
  /-- R653, The configuration save completes or fails. -/
  | cfgSaveDone (ok : Bool)
  /-- R653, CFG_CMD 2 erases both configuration copies. -/
  | cfgErase (lvl : Fin 4)
  /-- R671, The JTAG BYPASS instruction. -/
  | jtagBypass
  /-- R671, The JTAG IDCODE instruction returns 0x2128_04C3. -/
  | jtagIdcode
  /-- R672, The JTAG SAMPLE/PRELOAD instruction samples the boundary without disturbing any ball. -/
  | jtagSample (levels : Bytes) (boundary : Bytes)
  /-- R672, The JTAG EXTEST instruction takes the balls while RESET_N is low. -/
  | jtagExtest
  /-- R672, The JTAG CLAMP instruction takes the balls while RESET_N is low. -/
  | jtagClamp
  /-- R672, The JTAG HIGHZ instruction takes the balls while RESET_N is low. -/
  | jtagHighz
  /-- R344, A controller detects a bus error while receiving, sends an error flag, raises REC under ISO 11898-1 and may become error-passive. -/
  | canRxError (n : Fin 32) (e : RxFault)
  /-- R435, A DICT_RSP answering a window or mover access into another node's object space arrives and ends that access, mapping its status under R435. -/
  | dictRspRx (f : Frame)
  /-- R597, A read of Heather's instruction or data memory finds a single-bit error, corrects it, counts CNT_HTR_CORR and reports HEATHER_ECC_CORR. -/
  | heatherEccCorr (inst : Fin 2)
  /-- R472, An LHP_BCLK edge arrives after the port reported no clock, and LHP_STATE leaves its no-clock state so that cycles can start again. -/
  | lhpBclkReturn (khz : Fin 66001)
  deriving DecidableEq, Repr

end Sys2Proof
end

