-- ==== Sys2Proof/Decode.lean ====
section
/-! DEFINITION. Decoding. The block takes commands from outside and has no instruction words: no row of the opcode table
gives bits. -/

namespace Sys2Proof

/-- The command that a word spells by the opcode table's bits: none, for no row has bits. -/
def decodeTableWord (_nbits _w : Nat) : Option Instr := none

end Sys2Proof
end

