-- ==== Sys2Proof/Config.lean ====
section
/-! DEFINITION. What the spec leaves open and what an implementation fixes: the free values, the choice of a deflate stream (R128)
and the verification of a signature (R612), whose built-in keys the spec does not give. None has a body, so no proof can see
what they are. -/

namespace Sys2Proof.Config

/-- FREE VALUE (log entry 1): the n-th value that the spec leaves undefined or unstated on a run; State's counter
`free` numbers the draws. -/
opaque freeValue : Nat → Nat

/-- Ed25519 verification (R612, R655) under the built-in key of the given number: key, message, signature. -/
opaque ed25519Verify : Nat → Bytes → Bytes → Bool

/-- Raw deflate of a payload (R128): which of the streams that inflate to it a sender makes is left open. -/
opaque deflate : Bytes → Bytes

/-- The 32-bit digest of a pair's configuration, over its members and texts (R507). The spec names no method. -/
opaque pairDigest : List (Nat × Nat) → List (Nat × Bytes) → Nat

/-- Whether the self-test engine runs its "any" elements (R622) from the highest word down. -/
opaque marchAnyDown : Bool

/-- R532: the sample of VDD_3V3 in mV that falls in microsecond n of the local clock, of which no command tells. -/
opaque vinSample : Nat → Nat

/-- R542: the 12-bit code of the VIN side of feed x in the n-th 100 µs of the local clock, of which no command tells. -/
opaque feedSample : Nat → Nat → Nat

/-- R500, R509: GRANT records beyond the first for which lane l has room; the spec gives the buffer of a kind no size. -/
opaque grantRoom : Nat → Nat

end Sys2Proof.Config
end

