-- ==== Sys2Proof/Machine/Bits.lean ====
section
/-! DEFINITION. Bit fields, two's complement, little-endian byte strings, saturating counters, sparse maps in
canonical form and the cyclic checks of R146 and R200 and the code of R217 that the machine's definitions share. -/

namespace Sys2Proof.Machine

/-- Bits hi down to lo of n. -/
def bits (n hi lo : Nat) : Nat := (n / 2 ^ lo) % 2 ^ (hi + 1 - lo)

/-- Bit i of n. -/
def bit (n i : Nat) : Bool := n / 2 ^ i % 2 == 1

/-- 1 for true. -/
def b2n (b : Bool) : Nat := if b then 1 else 0

/-- n with bit i set to b. -/
def setBit (n i : Nat) (b : Bool) : Nat := n - (n / 2 ^ i % 2) * 2 ^ i + (if b then 2 ^ i else 0)

/-- Two's complement reading of the w-bit image n. -/
def toInt (w n : Nat) : Int :=
  let m := n % 2 ^ w
  if 2 ^ (w - 1) ≤ m then (m : Int) - (2 ^ w : Nat) else m

/-- The w-bit two's complement image of x. -/
def ofInt (w : Nat) (x : Int) : Nat := (x % ((2 ^ w : Nat) : Int)).toNat

/-- x limited to lo and hi. -/
def clampInt (lo hi x : Int) : Int := if x < lo then lo else if hi < x then hi else x

/-- A counter of U32 width, saturating at 0xFFFF_FFFF. -/
def satAdd32 (n k : Nat) : Nat := min (n + k) 0xFFFFFFFF

/-- n bytes of value v, little-endian (R39). -/
def leBytes : Nat → Nat → Bytes
  | 0, _ => []
  | n + 1, v => byteOf v :: leBytes n (v / 256)

/-- The value of little-endian bytes. -/
def leVal : Bytes → Nat
  | [] => 0
  | b :: bs => b.toNat + 256 * leVal bs

/-- n bytes of a string from offset o. -/
def slice (bs : Bytes) (o n : Nat) : Bytes := (bs.drop o).take n

/-- The little-endian value of n bytes from offset o; bytes past the end read 0. -/
def fieldAt (bs : Bytes) (o n : Nat) : Nat := leVal (slice bs o n)

/-- n zero bytes. -/
def zeros (n : Nat) : Bytes := List.replicate n 0

/-- bs cut or zero-extended to n bytes. -/
def padTo (n : Nat) (bs : Bytes) : Bytes := (bs ++ zeros (n - bs.length)).take n

/-- bs with the bytes from offset o replaced by v. -/
def splice (bs : Bytes) (o : Nat) (v : Bytes) : Bytes := padTo o bs ++ v ++ bs.drop (o + v.length)

/-- Number of bits set among the lowest n. -/
def popCount : Nat → Nat → Nat
  | 0, _ => 0
  | n + 1, v => v % 2 + popCount n (v / 2)

/-- The numbers i below n whose bit is set in v, rising. -/
def bitList (n v : Nat) : List Nat := (List.range n).filter (fun i => bit v i)

/-! Sparse maps: (key, value) pairs, keys strictly rising, no entry equal to the default. -/

/-- The value at key k, d where none is listed. -/
def mapGet {α : Type} (d : α) (k : Nat) : List (Nat × α) → α
  | [] => d
  | (j, v) :: rest => if j = k then v else mapGet d k rest

/-- Lists value v at key k. -/
def mapPut {α : Type} (k : Nat) (v : α) : List (Nat × α) → List (Nat × α)
  | [] => [(k, v)]
  | (j, w) :: rest => if k < j then (k, v) :: (j, w) :: rest else if k = j then (k, v) :: rest else (j, w) :: mapPut k v rest

/-- Sets key k to v; d is the default, which is not listed. -/
def mapSet {α : Type} [DecidableEq α] (d : α) (k : Nat) (v : α) (m : List (Nat × α)) : List (Nat × α) :=
  if v = d then m.filter (fun e => e.1 != k) else mapPut k v m

/-- Keys strictly rise from above b. -/
def keysAbove {α : Type} (b : Nat) : List (Nat × α) → Bool
  | [] => true
  | (j, _) :: rest => Nat.ble b j && keysAbove (j + 1) rest

/-- Insertion into a list kept in the order of le (stable: after the elements that are equal). -/
def insertBy {α : Type} (lt : α → α → Bool) (x : α) : List α → List α
  | [] => [x]
  | y :: ys => if lt x y then x :: y :: ys else y :: insertBy lt x ys

/-- Stable sort by insertion. -/
def sortBy {α : Type} (lt : α → α → Bool) : List α → List α
  | [] => []
  | x :: xs => xs.foldl (fun acc y => insertBy lt y acc) [x]

/-- Removes the first element equal to x. -/
def removeFirst {α : Type} [DecidableEq α] (x : α) : List α → List α
  | [] => []
  | y :: ys => if x = y then ys else y :: removeFirst x ys

/-- The i-th element replaced by v. -/
def setNth {α : Type} (i : Nat) (v : α) (l : List α) : List α := l.set i v

/-! Cyclic checks. -/

/-- One bit step of the unreflected CRC-16. -/
def crc16Bit (c : Nat) : Nat := if c / 32768 % 2 = 1 then Nat.xor ((c * 2) % 65536) 0x1021 else (c * 2) % 65536

/-- One byte of the CRC-16 of R146. -/
def crc16Byte (c : Nat) (b : Byte) : Nat :=
  let x := Nat.xor c (b.toNat * 256)
  crc16Bit (crc16Bit (crc16Bit (crc16Bit (crc16Bit (crc16Bit (crc16Bit (crc16Bit x)))))))

/-- R146: CRC-16, polynomial 0x1021, initial value 0xFFFF, no reflection, no final XOR. -/
def crc16 (bs : Bytes) : Nat := bs.foldl crc16Byte 0xFFFF

/-- One bit step of the reflected CRC-32C, whose polynomial 0x1EDC_6F41 is 0x82F6_3B78 reflected. -/
def crc32cBit (c : Nat) : Nat := if c % 2 = 1 then Nat.xor (c / 2) 0x82F63B78 else c / 2

/-- One byte of the CRC-32C. -/
def crc32cByte (c : Nat) (b : Byte) : Nat :=
  let x := Nat.xor c b.toNat
  crc32cBit (crc32cBit (crc32cBit (crc32cBit (crc32cBit (crc32cBit (crc32cBit (crc32cBit x)))))))

/-- R200: CRC-32C, initial value and final XOR 0xFFFF_FFFF, reflected. -/
def crc32c (bs : Bytes) : Nat := Nat.xor (bs.foldl crc32cByte 0xFFFFFFFF) 0xFFFFFFFF

/-- The unreflected CRC-8 with polynomial 0x07 (R289, SMBus PEC). -/
def crc8Bit (c : Nat) : Nat := if c / 128 % 2 = 1 then Nat.xor ((c * 2) % 256) 0x07 else (c * 2) % 256

/-- CRC-8 of a string, initial value 0. -/
def crc8 (bs : Bytes) : Nat := bs.foldl (fun c b =>
  crc8Bit (crc8Bit (crc8Bit (crc8Bit (crc8Bit (crc8Bit (crc8Bit (crc8Bit (Nat.xor c b.toNat))))))))) 0

/-- One bit step of the reflected CRC-16 of Modbus, polynomial 0xA001. -/
def modbusBit (c : Nat) : Nat := if c % 2 = 1 then Nat.xor (c / 2) 0xA001 else c / 2

/-- The Modbus RTU CRC, initial value 0xFFFF (R295). -/
def crcModbus (bs : Bytes) : Nat := bs.foldl (fun c b =>
  modbusBit (modbusBit (modbusBit (modbusBit (modbusBit (modbusBit (modbusBit (modbusBit (Nat.xor c b.toNat))))))))) 0xFFFF

/-! The SECDED code of a 64-bit word (R217). -/

/-- Parity of the lowest 128 bits of n. -/
def parity (n : Nat) : Nat :=
  let n := Nat.xor n (n / 2 ^ 64)
  let n := Nat.xor n (n / 2 ^ 32)
  let n := Nat.xor n (n / 2 ^ 16)
  let n := Nat.xor n (n / 2 ^ 8)
  let n := Nat.xor n (n / 2 ^ 4)
  let n := Nat.xor n (n / 2 ^ 2)
  Nat.xor n (n / 2) % 2

/-- The place of data bit i in the code word: the numbers from 3 that are no power of two, in order (log entry 92). -/
def secdedPlace (i : Nat) : Nat :=
  if i = 0 then 3 else if i < 4 then i + 4 else if i < 11 then i + 5 else if i < 26 then i + 6 else if i < 57 then i + 7 else i + 8

/-- The data bits over which check bit j runs: those whose place has bit j set. -/
def secdedMask (j : Nat) : Nat :=
  [0xAB55555556AAAD5B, 0xCD9999999B33366D, 0xF1E1E1E1E3C3C78E, 0x01FE01FE03FC07F0, 0x01FFFE0003FFF800, 0x01FFFFFFFC000000,
    0xFE00000000000000].getD j 0

/-- Check bits 0 to 6 of a word. -/
def hammingOf (d : Nat) : Nat :=
  (List.range 7).foldl (fun a j => a + parity (Nat.land d (secdedMask j)) * 2 ^ j) 0

/-- R217: the 8 check bits of a word: an extended Hamming code; bit 7 makes the parity of all 72 bits even. -/
def secdedOf (d : Nat) : Nat :=
  let h := hammingOf d
  h + 128 * Nat.xor (parity d) (parity h)

/-- What a read of a word shows. -/
inductive EccVerdict where
  | clean
  | corrected
  | bad
  deriving DecidableEq, Repr

/-- R217 to R219: a word read with its check bits: the verdict, and the word as its reader gets it. -/
def secdedRead (d chk : Nat) : EccVerdict × Nat :=
  let syn := Nat.xor (hammingOf d) (chk % 128)
  let odd := Nat.xor (parity d) (parity chk)
  if odd = 0 then (if syn = 0 then (.clean, d) else (.bad, d))
  else if popCount 7 syn ≤ 1 then (.corrected, d)
  else match (List.range 64).find? (fun i => secdedPlace i == syn) with
    | some i => (.corrected, Nat.xor d (2 ^ i))
    | none => (.bad, d)

/-! Ticks: 48-bit numbers (R231). -/

/-- 2^48. -/
def tickMod : Nat := 281474976710656

/-- R231: tick a is ahead of tick b. -/
def tickAhead (a b : Nat) : Bool :=
  let d := (a + tickMod - b % tickMod) % tickMod
  Nat.ble 1 d && Nat.blt d (tickMod / 2)

/-- (a - b) mod 2^48. -/
def tickDiff (a b : Nat) : Nat := (a % tickMod + tickMod - b % tickMod) % tickMod

/-- The tick value that stands for an unknown tick (R143). -/
def tickUnknown : Nat := 0xFFFFFFFFFFFF

end Sys2Proof.Machine
end

