-- ==== Sys2Proof/Machine/Objects.lean ====
section
/-! DEFINITION. The object dictionary's tables: every object and member of the spec's object tables (R8, R89, R134 to
R139, R168, R169, R198, R226 to R228, R273, R274, R318, R350, R375, R400, R401, R427 to R429, R467 to R470, R495,
R530, R559, R560, R594, R595, R633 to R636, R656), with its type, access, level, default and range. The names of the
members are the spec's; `Reg.X` is the key of member X in the register store, object * 256 + member. -/

namespace Sys2Proof.Machine

/-- Type codes of R39. -/
inductive Ty where
  | bool | u8 | i8 | u16 | i16 | u32 | i32 | u64 | i64 | f32 | octets | text | time | tick | addr
  deriving DecidableEq, Repr

/-- Access codes of R36 and R42. -/
inductive Acc where
  | ro | rw | wo | rc | rwc | rwt
  deriving DecidableEq, Repr

/-- A run of value members of one object that share their description: members m0 to m1, type, access, level, default,
range of a written value, the bits kept (0 keeps all; a reserved bit reads 0 under R4), the greatest length in bytes of
an OCTETS or TEXT member and, where its table fixes it under R41, that length. -/
structure MemRow where
  m0 : Nat
  m1 : Nat
  ty : Ty
  acc : Acc
  lvl : Nat
  dflt : Nat
  lo : Int
  hi : Int
  mask : Nat
  maxLen : Nat
  fixLen : Nat
  deriving DecidableEq, Repr

/-- Objects base, base + stride, ... (count of them); isRecord says that the object's own type code is 0x10. -/
structure ObjRow where
  base : Nat
  stride : Nat
  count : Nat
  isRecord : Bool
  members : List MemRow
  deriving DecidableEq, Repr

/-! The keys of the members. -/

/-- R8, 0x0000. -/
abbrev Reg.VENDOR_NAME : Nat := 0x0 * 256 + 1
/-- R8, 0x0001. -/
abbrev Reg.FAMILY_CODE : Nat := 0x1 * 256 + 1
/-- R8, 0x0002. -/
abbrev Reg.ORDER_CODE : Nat := 0x2 * 256 + 1
/-- R8, 0x0003. -/
abbrev Reg.SILICON_REV : Nat := 0x3 * 256 + 1
/-- R8, 0x0004. -/
abbrev Reg.DEVICE_UID : Nat := 0x4 * 256 + 1
/-- R8, 0x0005. -/
abbrev Reg.DICT_VERSION : Nat := 0x5 * 256 + 1
/-- R8, 0x0010. -/
abbrev Reg.CAP_RING_PORTS : Nat := 0x10 * 256 + 1
/-- R8, 0x0011. -/
abbrev Reg.CAP_RING_RATE : Nat := 0x11 * 256 + 1
/-- R8, 0x0012. -/
abbrev Reg.CAP_BRANCH : Nat := 0x12 * 256 + 1
/-- R8, 0x0013. -/
abbrev Reg.CAP_TWIN : Nat := 0x13 * 256 + 1
/-- R8, 0x0020. -/
abbrev Reg.CAP_SERIAL : Nat := 0x20 * 256 + 1
/-- R8, 0x0021. -/
abbrev Reg.CAP_CAN : Nat := 0x21 * 256 + 1
/-- R8, 0x0022. -/
abbrev Reg.CAP_ENGINES : Nat := 0x22 * 256 + 1
/-- R8, 0x0023. -/
abbrev Reg.CAP_DISC_BANKS : Nat := 0x23 * 256 + 1
/-- R8, 0x0024. -/
abbrev Reg.CAP_MEAS : Nat := 0x24 * 256 + 1
/-- R8, 0x0025. -/
abbrev Reg.CAP_RAILS : Nat := 0x25 * 256 + 1
/-- R8, 0x0030. -/
abbrev Reg.CAP_BANKS : Nat := 0x30 * 256 + 1
/-- R8, 0x0031. -/
abbrev Reg.CAP_BANK_SIZE : Nat := 0x31 * 256 + 1
/-- R8, 0x0032. -/
abbrev Reg.CAP_SWAP_BANKS : Nat := 0x32 * 256 + 1
/-- R8, 0x0033. -/
abbrev Reg.CAP_MAP_ENTRIES : Nat := 0x33 * 256 + 1
/-- R8, 0x0034. -/
abbrev Reg.CAP_ROUTES : Nat := 0x34 * 256 + 1
/-- R8, 0x0035. -/
abbrev Reg.CAP_RULES : Nat := 0x35 * 256 + 1
/-- R8, 0x0036. -/
abbrev Reg.CAP_WINDOWS : Nat := 0x36 * 256 + 1
/-- R8, 0x0037. -/
abbrev Reg.CAP_DMA : Nat := 0x37 * 256 + 1
/-- R89, 0x0210. -/
abbrev Reg.TOKEN_L1 : Nat := 0x210 * 256 + 1
/-- R89, 0x0211. -/
abbrev Reg.TOKEN_L2 : Nat := 0x211 * 256 + 1
/-- R89, 0x0212. -/
abbrev Reg.TOKEN_L3 : Nat := 0x212 * 256 + 1
/-- R89, 0x0213. -/
abbrev Reg.TOKEN_STATE : Nat := 0x213 * 256 + 1
/-- R89, 0x0220. -/
abbrev Reg.SESSION_MAX : Nat := 0x220 * 256 + 1
/-- R89, 0x0221. -/
abbrev Reg.SESSION_OPEN : Nat := 0x221 * 256 + 1
/-- R89, 0x0222. -/
abbrev Reg.SESSION_IDLE : Nat := 0x222 * 256 + 1
/-- R89, 0x0223.01 to .20. -/
abbrev Reg.SESSION_ENTRY (i : Nat) : Nat := 0x223 * 256 + (1 + i)
/-- R89, 0x0224. -/
abbrev Reg.OPEN_FAIL_LIMIT : Nat := 0x224 * 256 + 1
/-- R89, 0x0225. -/
abbrev Reg.LOCKOUT_TIME : Nat := 0x225 * 256 + 1
/-- R89, 0x0226. -/
abbrev Reg.LOCKOUT_LEFT : Nat := 0x226 * 256 + 1
/-- R89, 0x0230. -/
abbrev Reg.SEG_MAX : Nat := 0x230 * 256 + 1
/-- R89, 0x0231. -/
abbrev Reg.STAGE_BANKS : Nat := 0x231 * 256 + 1
/-- R89, 0x0232. -/
abbrev Reg.SEG_TIMEOUT : Nat := 0x232 * 256 + 1
/-- R89, 0x0233. -/
abbrev Reg.SEG_TIMEOUT_TRUNK : Nat := 0x233 * 256 + 1
/-- R89, 0x0234. -/
abbrev Reg.REPLAY_DEPTH : Nat := 0x234 * 256 + 1
/-- R89, 0x0235. -/
abbrev Reg.QUEUE_DEPTH : Nat := 0x235 * 256 + 1
/-- R89, 0x0240. -/
abbrev Reg.STAT_REQ : Nat := 0x240 * 256 + 1
/-- R89, 0x0241. -/
abbrev Reg.STAT_RSP_OK : Nat := 0x241 * 256 + 1
/-- R89, 0x0242. -/
abbrev Reg.STAT_RSP_ERR : Nat := 0x242 * 256 + 1
/-- R89, 0x0243. -/
abbrev Reg.STAT_REPLAY : Nat := 0x243 * 256 + 1
/-- R89, 0x0244. -/
abbrev Reg.STAT_SEG_ABANDON : Nat := 0x244 * 256 + 1
/-- R89, 0x0245. -/
abbrev Reg.STAT_BUSY : Nat := 0x245 * 256 + 1
/-- R89, 0x0246. -/
abbrev Reg.STAT_TOKEN_FAIL : Nat := 0x246 * 256 + 1
/-- R89, 0x0247. -/
abbrev Reg.STAT_POSTED_ERR : Nat := 0x247 * 256 + 1
/-- R89, 0x0249.01. -/
abbrev Reg.ERR_STATUS : Nat := 0x249 * 256 + 1
/-- R89, 0x0249.02. -/
abbrev Reg.ERR_COMMAND : Nat := 0x249 * 256 + 2
/-- R89, 0x0249.03. -/
abbrev Reg.ERR_OBJECT : Nat := 0x249 * 256 + 3
/-- R89, 0x0249.04. -/
abbrev Reg.ERR_MEMBER : Nat := 0x249 * 256 + 4
/-- R89, 0x0249.05. -/
abbrev Reg.ERR_SOURCE : Nat := 0x249 * 256 + 5
/-- R89, 0x0249.06. -/
abbrev Reg.ERR_TICK : Nat := 0x249 * 256 + 6
/-- R134, 0x10p0. -/
abbrev Reg.RP_ENABLE (n : Nat) : Nat := (0x1000 + n * 0x10) * 256 + 1
/-- R134, 0x10p1. -/
abbrev Reg.RP_STATE (n : Nat) : Nat := (0x1001 + n * 0x10) * 256 + 1
/-- R134, 0x10p2. -/
abbrev Reg.RP_NEIGHBOUR (n : Nat) : Nat := (0x1002 + n * 0x10) * 256 + 1
/-- R134, 0x10p3. -/
abbrev Reg.RP_NEIGHBOUR_PORT (n : Nat) : Nat := (0x1003 + n * 0x10) * 256 + 1
/-- R134, 0x10p4. -/
abbrev Reg.RP_POLARITY (n : Nat) : Nat := (0x1004 + n * 0x10) * 256 + 1
/-- R134, 0x10p5. -/
abbrev Reg.RP_SFP_STATUS (n : Nat) : Nat := (0x1005 + n * 0x10) * 256 + 1
/-- R134, 0x10p6. -/
abbrev Reg.RP_SFP_ID (n : Nat) : Nat := (0x1006 + n * 0x10) * 256 + 1
/-- R134, 0x10p7. -/
abbrev Reg.RP_SFP_DIAG (n : Nat) : Nat := (0x1007 + n * 0x10) * 256 + 1
/-- R134, 0x10p8. -/
abbrev Reg.RP_CNT_LOCK_LOSS (n : Nat) : Nat := (0x1008 + n * 0x10) * 256 + 1
/-- R134, 0x10p9. -/
abbrev Reg.RP_CNT_HIBER (n : Nat) : Nat := (0x1009 + n * 0x10) * 256 + 1
/-- R134, 0x10pA. -/
abbrev Reg.RP_CNT_RF (n : Nat) : Nat := (0x100A + n * 0x10) * 256 + 1
/-- R134, 0x10pB. -/
abbrev Reg.RP_CNT_GLITCH (n : Nat) : Nat := (0x100B + n * 0x10) * 256 + 1
/-- R134, 0x10pC. -/
abbrev Reg.RP_CNT_WRAP (n : Nat) : Nat := (0x100C + n * 0x10) * 256 + 1
/-- R134, 0x10pD. -/
abbrev Reg.RP_CNT_BAD_BLOCK (n : Nat) : Nat := (0x100D + n * 0x10) * 256 + 1
/-- R134, 0x10pE. -/
abbrev Reg.RP_CNT_SPLICE_FAIL (n : Nat) : Nat := (0x100E + n * 0x10) * 256 + 1
/-- R134, 0x10pF. -/
abbrev Reg.RP_JOIN_TICK (n : Nat) : Nat := (0x100F + n * 0x10) * 256 + 1
/-- R135, 0x1080. -/
abbrev Reg.HOME_RATE : Nat := 0x1080 * 256 + 1
/-- R135, 0x1081. -/
abbrev Reg.BRANCH_RATE : Nat := 0x1081 * 256 + 1
/-- R135, 0x1082. -/
abbrev Reg.LINK_QUAL : Nat := 0x1082 * 256 + 1
/-- R135, 0x1083. -/
abbrev Reg.WRAP_QUAL : Nat := 0x1083 * 256 + 1
/-- R135, 0x1084. -/
abbrev Reg.UNWRAP_HOLD : Nat := 0x1084 * 256 + 1
/-- R135, 0x1085. -/
abbrev Reg.LINK_WAIT : Nat := 0x1085 * 256 + 1
/-- R135, 0x1086. -/
abbrev Reg.SFP_POLL : Nat := 0x1086 * 256 + 1
/-- R135, 0x1087. -/
abbrev Reg.RING_STATE : Nat := 0x1087 * 256 + 1
/-- R135, 0x1088. -/
abbrev Reg.CNT_LONE : Nat := 0x1088 * 256 + 1
/-- R135, 0x1089. -/
abbrev Reg.CNT_LONE_DROP : Nat := 0x1089 * 256 + 1
/-- R136, 0x1100. -/
abbrev Reg.NODE_ADDR : Nat := 0x1100 * 256 + 1
/-- R136, 0x1101. -/
abbrev Reg.ADDR_STATE : Nat := 0x1101 * 256 + 1
/-- R136, 0x1102. -/
abbrev Reg.SEGMENT : Nat := 0x1102 * 256 + 1
/-- R136, 0x1103. -/
abbrev Reg.STRAP_NODE : Nat := 0x1103 * 256 + 1
/-- R136, 0x1104. -/
abbrev Reg.ASSIGN_BASE : Nat := 0x1104 * 256 + 1
/-- R136, 0x1105. -/
abbrev Reg.DUP_POLICY : Nat := 0x1105 * 256 + 1
/-- R136, 0x1106. -/
abbrev Reg.BRANCH_SEGMENT : Nat := 0x1106 * 256 + 1
/-- R136, 0x1107. -/
abbrev Reg.BRANCH_NODE : Nat := 0x1107 * 256 + 1
/-- R136, 0x1108. -/
abbrev Reg.BRANCH_ADDR : Nat := 0x1108 * 256 + 1
/-- R136, 0x1109. -/
abbrev Reg.BRANCH_STATE : Nat := 0x1109 * 256 + 1
/-- R136, 0x1110. -/
abbrev Reg.CENSUS_STATE : Nat := 0x1110 * 256 + 1
/-- R136, 0x1111. -/
abbrev Reg.CENSUS_GEN : Nat := 0x1111 * 256 + 1
/-- R136, 0x1112. -/
abbrev Reg.CENSUS_ORIGIN : Nat := 0x1112 * 256 + 1
/-- R136, 0x1113. -/
abbrev Reg.CENSUS_MEMBERS : Nat := 0x1113 * 256 + 1
/-- R136, 0x1114. -/
abbrev Reg.CENSUS_APPLY : Nat := 0x1114 * 256 + 1
/-- R136, 0x1115. -/
abbrev Reg.CENSUS_TABLE : Nat := 0x1115 * 256 + 1
/-- R136, 0x1116. -/
abbrev Reg.CENSUS_TABLE_BR : Nat := 0x1116 * 256 + 1
/-- R136, 0x1117. -/
abbrev Reg.CENSUS_START : Nat := 0x1117 * 256 + 1
/-- R136, 0x1118. -/
abbrev Reg.APPLY_LEAD : Nat := 0x1118 * 256 + 1
/-- R136, 0x1119. -/
abbrev Reg.CENSUS_TIMEOUT : Nat := 0x1119 * 256 + 1
/-- R136, 0x111A. -/
abbrev Reg.CNT_CENSUS : Nat := 0x111A * 256 + 1
/-- R136, 0x111B. -/
abbrev Reg.CNT_CENSUS_SUPERSEDED : Nat := 0x111B * 256 + 1
/-- R136, 0x111C. -/
abbrev Reg.CNT_CENSUS_RESTART : Nat := 0x111C * 256 + 1
/-- R136, 0x111D. -/
abbrev Reg.CNT_CENSUS_LATE : Nat := 0x111D * 256 + 1
/-- R136, 0x111E. -/
abbrev Reg.CNT_DUP_ADDR : Nat := 0x111E * 256 + 1
/-- R136, 0x111F. -/
abbrev Reg.CNT_ASSIGN_FAIL : Nat := 0x111F * 256 + 1
/-- R136, 0x1120. -/
abbrev Reg.SEG_ROUTE_HOME : Nat := 0x1120 * 256 + 1
/-- R136, 0x1121. -/
abbrev Reg.SEG_ROUTE_BRANCH : Nat := 0x1121 * 256 + 1
/-- R137, 0x1130. -/
abbrev Reg.TRUNK_QUEUE_SIZE : Nat := 0x1130 * 256 + 1
/-- R137, 0x1131. -/
abbrev Reg.TRUNK_AGE_C3 : Nat := 0x1131 * 256 + 1
/-- R137, 0x1132. -/
abbrev Reg.TRUNK_AGE_C4 : Nat := 0x1132 * 256 + 1
/-- R137, 0x1133. -/
abbrev Reg.TRUNK_AGE_C6 : Nat := 0x1133 * 256 + 1
/-- R137, 0x1134. -/
abbrev Reg.TRUNK_KEEPALIVE : Nat := 0x1134 * 256 + 1
/-- R137, 0x1135. -/
abbrev Reg.TRUNK_DEAD : Nat := 0x1135 * 256 + 1
/-- R137, 0x1136. -/
abbrev Reg.TRUNK_QUEUED_C3 : Nat := 0x1136 * 256 + 1
/-- R137, 0x1137. -/
abbrev Reg.TRUNK_QUEUED_C4 : Nat := 0x1137 * 256 + 1
/-- R137, 0x1138. -/
abbrev Reg.TRUNK_QUEUED_C6 : Nat := 0x1138 * 256 + 1
/-- R139, T+0x0. -/
abbrev Reg.TRUNK_CHANNEL (n : Nat) : Nat := (0x1140 + n * 0x10) * 256 + 1
/-- R139, T+0x1. -/
abbrev Reg.TRUNK_PEER (n : Nat) : Nat := (0x1141 + n * 0x10) * 256 + 1
/-- R139, T+0x2. -/
abbrev Reg.TRUNK_SEG_MASK (n : Nat) : Nat := (0x1142 + n * 0x10) * 256 + 1
/-- R139, T+0x3. -/
abbrev Reg.TRUNK_STATE (n : Nat) : Nat := (0x1143 + n * 0x10) * 256 + 1
/-- R139, T+0x4. -/
abbrev Reg.TRUNK_RTO (n : Nat) : Nat := (0x1144 + n * 0x10) * 256 + 1
/-- R139, T+0x5. -/
abbrev Reg.TRUNK_RETRIES (n : Nat) : Nat := (0x1145 + n * 0x10) * 256 + 1
/-- R139, T+0x6. -/
abbrev Reg.TRUNK_DEFLATE (n : Nat) : Nat := (0x1146 + n * 0x10) * 256 + 1
/-- R139, T+0x7. -/
abbrev Reg.TRUNK_QUEUED (n : Nat) : Nat := (0x1147 + n * 0x10) * 256 + 1
/-- R139, T+0x8. -/
abbrev Reg.TRUNK_CNT_TX (n : Nat) : Nat := (0x1148 + n * 0x10) * 256 + 1
/-- R139, T+0x9. -/
abbrev Reg.TRUNK_CNT_RX (n : Nat) : Nat := (0x1149 + n * 0x10) * 256 + 1
/-- R139, T+0xA. -/
abbrev Reg.TRUNK_CNT_RETX (n : Nat) : Nat := (0x114A + n * 0x10) * 256 + 1
/-- R139, T+0xB. -/
abbrev Reg.TRUNK_CNT_DROP_FULL (n : Nat) : Nat := (0x114B + n * 0x10) * 256 + 1
/-- R139, T+0xC. -/
abbrev Reg.TRUNK_CNT_DROP_AGE (n : Nat) : Nat := (0x114C + n * 0x10) * 256 + 1
/-- R139, T+0xD. -/
abbrev Reg.TRUNK_CNT_DROP_RETRY (n : Nat) : Nat := (0x114D + n * 0x10) * 256 + 1
/-- R139, T+0xE. -/
abbrev Reg.TRUNK_CNT_DROP_CLASS (n : Nat) : Nat := (0x114E + n * 0x10) * 256 + 1
/-- R139, T+0xF. -/
abbrev Reg.TRUNK_CNT_BAD_BLOCK (n : Nat) : Nat := (0x114F + n * 0x10) * 256 + 1
/-- R168, 0x1200. -/
abbrev Reg.CT_ENABLE : Nat := 0x1200 * 256 + 1
/-- R168, 0x1201. -/
abbrev Reg.HOP_LIMIT : Nat := 0x1201 * 256 + 1
/-- R168, 0x1202. -/
abbrev Reg.LINK_HOLD : Nat := 0x1202 * 256 + 1
/-- R168, 0x1203. -/
abbrev Reg.TRACK_AGE : Nat := 0x1203 * 256 + 1
/-- R168, 0x1204. -/
abbrev Reg.TRACK_SIZE : Nat := 0x1204 * 256 + 1
/-- R168, 0x1205. -/
abbrev Reg.TRACK_USED : Nat := 0x1205 * 256 + 1
/-- R168, 0x1209. -/
abbrev Reg.AGE_C1 : Nat := 0x1209 * 256 + 1
/-- R168, 0x120A. -/
abbrev Reg.AGE_C2 : Nat := 0x120A * 256 + 1
/-- R168, 0x120B. -/
abbrev Reg.AGE_C3 : Nat := 0x120B * 256 + 1
/-- R168, 0x120C. -/
abbrev Reg.AGE_C4 : Nat := 0x120C * 256 + 1
/-- R168, 0x120D. -/
abbrev Reg.AGE_C5 : Nat := 0x120D * 256 + 1
/-- R168, 0x120E. -/
abbrev Reg.AGE_C6 : Nat := 0x120E * 256 + 1
/-- R168, 0x120F. -/
abbrev Reg.AGE_C7 : Nat := 0x120F * 256 + 1
/-- R168, 0x1250. -/
abbrev Reg.CNT_DUP : Nat := 0x1250 * 256 + 1
/-- R168, 0x1251. -/
abbrev Reg.CNT_STALE : Nat := 0x1251 * 256 + 1
/-- R168, 0x1252. -/
abbrev Reg.CNT_TRACK_EVICT : Nat := 0x1252 * 256 + 1
/-- R168, 0x1253. -/
abbrev Reg.CNT_TRACK_EXPIRE : Nat := 0x1253 * 256 + 1
/-- R168, 0x1254. -/
abbrev Reg.CNT_NOT_MEMBER : Nat := 0x1254 * 256 + 1
/-- R168, 0x1258.01. -/
abbrev Reg.LP_PORT : Nat := 0x1258 * 256 + 1
/-- R168, 0x1258.02. -/
abbrev Reg.LP_CAUSE : Nat := 0x1258 * 256 + 2
/-- R168, 0x1258.03. -/
abbrev Reg.LP_SOURCE : Nat := 0x1258 * 256 + 3
/-- R168, 0x1258.04. -/
abbrev Reg.LP_STREAM : Nat := 0x1258 * 256 + 4
/-- R168, 0x1258.05. -/
abbrev Reg.LP_SEQUENCE : Nat := 0x1258 * 256 + 5
/-- R168, 0x1258.06. -/
abbrev Reg.LP_TICK : Nat := 0x1258 * 256 + 6
/-- R169, P+0x0. -/
abbrev Reg.FW_CNT_RX (n : Nat) : Nat := (0x1210 + n * 0x10) * 256 + 1
/-- R169, P+0x1. -/
abbrev Reg.FW_CNT_TX (n : Nat) : Nat := (0x1211 + n * 0x10) * 256 + 1
/-- R169, P+0x2. -/
abbrev Reg.FW_CNT_HOP_CHECK (n : Nat) : Nat := (0x1212 + n * 0x10) * 256 + 1
/-- R169, P+0x3. -/
abbrev Reg.FW_CNT_BAD_HEADER (n : Nat) : Nat := (0x1213 + n * 0x10) * 256 + 1
/-- R169, P+0x4. -/
abbrev Reg.FW_CNT_POISON_TX (n : Nat) : Nat := (0x1214 + n * 0x10) * 256 + 1
/-- R169, P+0x5. -/
abbrev Reg.FW_CNT_POISON_FWD (n : Nat) : Nat := (0x1215 + n * 0x10) * 256 + 1
/-- R169, P+0x6. -/
abbrev Reg.FW_CNT_POISON_RX (n : Nat) : Nat := (0x1216 + n * 0x10) * 256 + 1
/-- R169, P+0x7. -/
abbrev Reg.FW_CNT_STRIPPED (n : Nat) : Nat := (0x1217 + n * 0x10) * 256 + 1
/-- R169, P+0x8. -/
abbrev Reg.FW_CNT_UNDELIVERED (n : Nat) : Nat := (0x1218 + n * 0x10) * 256 + 1
/-- R169, P+0x9. -/
abbrev Reg.FW_CNT_ORPHAN (n : Nat) : Nat := (0x1219 + n * 0x10) * 256 + 1
/-- R169, P+0xA. -/
abbrev Reg.FW_CNT_AGED (n : Nat) : Nat := (0x121A + n * 0x10) * 256 + 1
/-- R169, P+0xB. -/
abbrev Reg.FW_CNT_HOP_LIMIT (n : Nat) : Nat := (0x121B + n * 0x10) * 256 + 1
/-- R169, P+0xC. -/
abbrev Reg.FW_CNT_HOLD_SENT (n : Nat) : Nat := (0x121C + n * 0x10) * 256 + 1
/-- R169, P+0xD. -/
abbrev Reg.FW_CNT_HOLD_FLUSH (n : Nat) : Nat := (0x121D + n * 0x10) * 256 + 1
/-- R169, P+0xE. -/
abbrev Reg.FW_CNT_CUT (n : Nat) : Nat := (0x121E + n * 0x10) * 256 + 1
/-- R169, P+0xF. -/
abbrev Reg.FW_HOLD_STATE (n : Nat) : Nat := (0x121F + n * 0x10) * 256 + 1
/-- R198, 0x1300. -/
abbrev Reg.SW_PORTS : Nat := 0x1300 * 256 + 1
/-- R198, 0x1301. -/
abbrev Reg.SW_CELL_BYTES : Nat := 0x1301 * 256 + 1
/-- R198, 0x1302. -/
abbrev Reg.SW_SLOT_NS : Nat := 0x1302 * 256 + 1
/-- R198, 0x1303. -/
abbrev Reg.SW_BANKS : Nat := 0x1303 * 256 + 1
/-- R198, 0x1304. -/
abbrev Reg.SW_POOL : Nat := 0x1304 * 256 + 1
/-- R198, 0x1305. -/
abbrev Reg.SW_LIMIT_SUM : Nat := 0x1305 * 256 + 1
/-- R198, 0x1306. -/
abbrev Reg.SW_FREE : Nat := 0x1306 * 256 + 1
/-- R198, 0x1307. -/
abbrev Reg.LOCAL_WAIT : Nat := 0x1307 * 256 + 1
/-- R198, 0x1308. -/
abbrev Reg.FAIR_WINDOW : Nat := 0x1308 * 256 + 1
/-- R198, 0x1309. -/
abbrev Reg.CNT_ACCOUNT : Nat := 0x1309 * 256 + 1
/-- R198, 0x1310+p.01. -/
abbrev Reg.BUF_LIMIT_C0 (n : Nat) : Nat := (0x1310 + n) * 256 + 1
/-- R198, 0x1310+p.02 to .08. -/
abbrev Reg.BUF_LIMIT_Cc (n i : Nat) : Nat := (0x1310 + n) * 256 + (2 + i)
/-- R198, 0x1320+p.01 to .08. -/
abbrev Reg.BUF_USED (n i : Nat) : Nat := (0x1320 + n) * 256 + (1 + i)
/-- R198, 0x1330+p.01 to .08. -/
abbrev Reg.ACTIVE_SRC (n i : Nat) : Nat := (0x1330 + n) * 256 + (1 + i)
/-- R198, Q+0x0. -/
abbrev Reg.SWO_CNT_CELLS (n : Nat) : Nat := (0x1340 + n * 0x8) * 256 + 1
/-- R198, Q+0x1. -/
abbrev Reg.SWO_CNT_DROP_LIMIT (n : Nat) : Nat := (0x1341 + n * 0x8) * 256 + 1
/-- R198, Q+0x2. -/
abbrev Reg.SWO_CNT_DROP_WAIT (n : Nat) : Nat := (0x1342 + n * 0x8) * 256 + 1
/-- R198, Q+0x3. -/
abbrev Reg.SWO_CNT_INSERT (n : Nat) : Nat := (0x1343 + n * 0x8) * 256 + 1
/-- R198, Q+0x4. -/
abbrev Reg.SWO_USED_PEAK (n : Nat) : Nat := (0x1344 + n * 0x8) * 256 + 1
/-- R226, 0x1400. -/
abbrev Reg.TC_POLY : Nat := 0x1400 * 256 + 1
/-- R226, 0x1401. -/
abbrev Reg.TC_TEST_VALUE : Nat := 0x1401 * 256 + 1
/-- R226, 0x1402. -/
abbrev Reg.EGRESS_BURST_LIMIT : Nat := 0x1402 * 256 + 1
/-- R226, 0x1403. -/
abbrev Reg.ECC_REPORT : Nat := 0x1403 * 256 + 1
/-- R226, 0x1410. -/
abbrev Reg.CNT_EGRESS_SERIAL : Nat := 0x1410 * 256 + 1
/-- R226, 0x1411. -/
abbrev Reg.CNT_EGRESS_CAN : Nat := 0x1411 * 256 + 1
/-- R226, 0x1412. -/
abbrev Reg.CNT_EGRESS_DISC : Nat := 0x1412 * 256 + 1
/-- R226, 0x1413. -/
abbrev Reg.CNT_EGRESS_ENGINE : Nat := 0x1413 * 256 + 1
/-- R226, 0x1414. -/
abbrev Reg.CNT_EGRESS_HOST : Nat := 0x1414 * 256 + 1
/-- R226, 0x1415. -/
abbrev Reg.CNT_BRIDGE_FAIL : Nat := 0x1415 * 256 + 1
/-- R226, 0x1416. -/
abbrev Reg.CNT_LOCAL_FAIL : Nat := 0x1416 * 256 + 1
/-- R226, 0x1417. -/
abbrev Reg.CNT_MEM_WRITE_FAIL : Nat := 0x1417 * 256 + 1
/-- R226, 0x1418. -/
abbrev Reg.CNT_TRUNK_FAIL : Nat := 0x1418 * 256 + 1
/-- R226, 0x1419. -/
abbrev Reg.CNT_ECC_CORR : Nat := 0x1419 * 256 + 1
/-- R226, 0x141A. -/
abbrev Reg.CNT_ECC_UNCORR : Nat := 0x141A * 256 + 1
/-- R226, 0x141B. -/
abbrev Reg.CNT_INJECTED : Nat := 0x141B * 256 + 1
/-- R227, 0x1430.01. -/
abbrev Reg.INJ_TARGET : Nat := 0x1430 * 256 + 1
/-- R227, 0x1430.02. -/
abbrev Reg.INJ_INDEX : Nat := 0x1430 * 256 + 2
/-- R227, 0x1430.03. -/
abbrev Reg.INJ_COUNT : Nat := 0x1430 * 256 + 3
/-- R227, 0x1430.04. -/
abbrev Reg.INJ_ARM : Nat := 0x1430 * 256 + 4
/-- R227, 0x1430.05. -/
abbrev Reg.INJ_LEFT : Nat := 0x1430 * 256 + 5
/-- R227, 0x1430.06. -/
abbrev Reg.INJ_ACTIVE : Nat := 0x1430 * 256 + 6
/-- R227, 0x1440.01. -/
abbrev Reg.LF_CHECKER : Nat := 0x1440 * 256 + 1
/-- R227, 0x1440.02. -/
abbrev Reg.LF_INSTANCE : Nat := 0x1440 * 256 + 2
/-- R227, 0x1440.03. -/
abbrev Reg.LF_SOURCE : Nat := 0x1440 * 256 + 3
/-- R227, 0x1440.04. -/
abbrev Reg.LF_STREAM : Nat := 0x1440 * 256 + 4
/-- R227, 0x1440.05. -/
abbrev Reg.LF_SEQUENCE : Nat := 0x1440 * 256 + 5
/-- R227, 0x1440.06. -/
abbrev Reg.LF_TICK : Nat := 0x1440 * 256 + 6
/-- R227, 0x1440.07. -/
abbrev Reg.LF_INJECTED : Nat := 0x1440 * 256 + 7
/-- R228, X+0x0. -/
abbrev Reg.RX_CNT_RX_CHECK (n : Nat) : Nat := (0x1420 + n * 0x4) * 256 + 1
/-- R228, X+0x1. -/
abbrev Reg.RX_CNT_RX_LENGTH (n : Nat) : Nat := (0x1421 + n * 0x4) * 256 + 1
/-- R228, X+0x2. -/
abbrev Reg.RX_CNT_RX_CODE (n : Nat) : Nat := (0x1422 + n * 0x4) * 256 + 1
/-- R228, X+0x3. -/
abbrev Reg.RX_CNT_RX_LINK (n : Nat) : Nat := (0x1423 + n * 0x4) * 256 + 1
/-- R273, 0x5000. -/
abbrev Reg.TIME_NOW : Nat := 0x5000 * 256 + 1
/-- R273, 0x5001. -/
abbrev Reg.TICK_NOW : Nat := 0x5001 * 256 + 1
/-- R273, 0x5002. -/
abbrev Reg.TICK_PERIOD : Nat := 0x5002 * 256 + 1
/-- R273, 0x5003. -/
abbrev Reg.TIME_STATE : Nat := 0x5003 * 256 + 1
/-- R273, 0x5004. -/
abbrev Reg.TIME_VALID : Nat := 0x5004 * 256 + 1
/-- R273, 0x5005. -/
abbrev Reg.TIME_SET : Nat := 0x5005 * 256 + 1
/-- R273, 0x5006. -/
abbrev Reg.TIME_PRIORITY : Nat := 0x5006 * 256 + 1
/-- R273, 0x5007. -/
abbrev Reg.SYNC_PERIOD : Nat := 0x5007 * 256 + 1
/-- R273, 0x5008. -/
abbrev Reg.SLEW_LIMIT : Nat := 0x5008 * 256 + 1
/-- R273, 0x5009. -/
abbrev Reg.LOCK_THRESH : Nat := 0x5009 * 256 + 1
/-- R273, 0x500A. -/
abbrev Reg.MASTER_ADDR : Nat := 0x500A * 256 + 1
/-- R273, 0x500B. -/
abbrev Reg.MASTER_PRIORITY : Nat := 0x500B * 256 + 1
/-- R273, 0x500C. -/
abbrev Reg.SYNC_PORT : Nat := 0x500C * 256 + 1
/-- R273, 0x500D. -/
abbrev Reg.OFFSET : Nat := 0x500D * 256 + 1
/-- R273, 0x500E. -/
abbrev Reg.FREQ_ADJ : Nat := 0x500E * 256 + 1
/-- R273, 0x500F. -/
abbrev Reg.STEP_COUNT : Nat := 0x500F * 256 + 1
/-- R273, 0x5010. -/
abbrev Reg.LAST_STEP : Nat := 0x5010 * 256 + 1
/-- R273, 0x5011. -/
abbrev Reg.HOLDOVER_TIME : Nat := 0x5011 * 256 + 1
/-- R273, 0x5012. -/
abbrev Reg.TIME_BRIDGE : Nat := 0x5012 * 256 + 1
/-- R273, 0x5013. -/
abbrev Reg.PEER_PERIOD : Nat := 0x5013 * 256 + 1
/-- R273, 0x5018. -/
abbrev Reg.CNT_SYNC_RX : Nat := 0x5018 * 256 + 1
/-- R273, 0x5019. -/
abbrev Reg.CNT_SYNC_TX : Nat := 0x5019 * 256 + 1
/-- R273, 0x501A. -/
abbrev Reg.CNT_SYNC_LOSS : Nat := 0x501A * 256 + 1
/-- R273, 0x501B. -/
abbrev Reg.CNT_SYNC_NODELAY : Nat := 0x501B * 256 + 1
/-- R273, 0x501C. -/
abbrev Reg.CNT_MASTER_CHANGE : Nat := 0x501C * 256 + 1
/-- R273, 0x501D. -/
abbrev Reg.CNT_TICK_MISMATCH : Nat := 0x501D * 256 + 1
/-- R273, 0x5040. -/
abbrev Reg.PPS_ENABLE : Nat := 0x5040 * 256 + 1
/-- R273, 0x5041. -/
abbrev Reg.PPS_DELAY : Nat := 0x5041 * 256 + 1
/-- R273, 0x5042. -/
abbrev Reg.PPS_WINDOW : Nat := 0x5042 * 256 + 1
/-- R273, 0x5043. -/
abbrev Reg.PPS_STATE : Nat := 0x5043 * 256 + 1
/-- R273, 0x5044. -/
abbrev Reg.PPS_OFFSET : Nat := 0x5044 * 256 + 1
/-- R273, 0x5045. -/
abbrev Reg.PPS_OUT_ENABLE : Nat := 0x5045 * 256 + 1
/-- R273, 0x5046. -/
abbrev Reg.CNT_PPS_RX : Nat := 0x5046 * 256 + 1
/-- R273, 0x5047. -/
abbrev Reg.CNT_PPS_REJECT : Nat := 0x5047 * 256 + 1
/-- R273, 0x5060. -/
abbrev Reg.EVQ_BASE : Nat := 0x5060 * 256 + 1
/-- R273, 0x5061. -/
abbrev Reg.EVQ_SIZE : Nat := 0x5061 * 256 + 1
/-- R273, 0x5062. -/
abbrev Reg.EVQ_WR : Nat := 0x5062 * 256 + 1
/-- R273, 0x5063. -/
abbrev Reg.EVQ_RD : Nat := 0x5063 * 256 + 1
/-- R273, 0x5064. -/
abbrev Reg.EVQ_COUNT : Nat := 0x5064 * 256 + 1
/-- R273, 0x5065. -/
abbrev Reg.EVQ_LOST : Nat := 0x5065 * 256 + 1
/-- R273, 0x5066. -/
abbrev Reg.EVENT_CLOSE : Nat := 0x5066 * 256 + 1
/-- R273, 0x5067. -/
abbrev Reg.EVS_ENABLE : Nat := 0x5067 * 256 + 1
/-- R273, 0x5068. -/
abbrev Reg.EVS_DEST : Nat := 0x5068 * 256 + 1
/-- R273, 0x5069. -/
abbrev Reg.EVS_MIN_SEV : Nat := 0x5069 * 256 + 1
/-- R273, 0x506A. -/
abbrev Reg.CNT_EV_LATE : Nat := 0x506A * 256 + 1
/-- R273, 0x506B. -/
abbrev Reg.EVQ_MOVING : Nat := 0x506B * 256 + 1
/-- R273, 0x5080. -/
abbrev Reg.SCHED_BANKS : Nat := 0x5080 * 256 + 1
/-- R273, 0x5081. -/
abbrev Reg.SCHED_LATE : Nat := 0x5081 * 256 + 1
/-- R273, 0x5082. -/
abbrev Reg.SCHED_POST : Nat := 0x5082 * 256 + 1
/-- R273, 0x5083. -/
abbrev Reg.SCHED_CANCEL : Nat := 0x5083 * 256 + 1
/-- R273, 0x5084. -/
abbrev Reg.SCHED_SIZE : Nat := 0x5084 * 256 + 1
/-- R273, 0x5085. -/
abbrev Reg.SCHED_PENDING : Nat := 0x5085 * 256 + 1
/-- R273, 0x5086. -/
abbrev Reg.CNT_SCHED_DONE : Nat := 0x5086 * 256 + 1
/-- R273, 0x5087. -/
abbrev Reg.CNT_SCHED_LATE : Nat := 0x5087 * 256 + 1
/-- R273, 0x5088. -/
abbrev Reg.CNT_SCHED_RANGE : Nat := 0x5088 * 256 + 1
/-- R273, 0x5089. -/
abbrev Reg.CNT_SCHED_FULL : Nat := 0x5089 * 256 + 1
/-- R273, 0x508A. -/
abbrev Reg.CNT_SCHED_SKIPPED : Nat := 0x508A * 256 + 1
/-- R274, D+0x0. -/
abbrev Reg.PD_LINK_DELAY (n : Nat) : Nat := (0x5020 + n * 0x8) * 256 + 1
/-- R274, D+0x1. -/
abbrev Reg.PD_LINK_ASYM (n : Nat) : Nat := (0x5021 + n * 0x8) * 256 + 1
/-- R274, D+0x2. -/
abbrev Reg.PD_DELAY_VALID (n : Nat) : Nat := (0x5022 + n * 0x8) * 256 + 1
/-- R274, D+0x3. -/
abbrev Reg.PD_CNT_PD_TIMEOUT (n : Nat) : Nat := (0x5023 + n * 0x8) * 256 + 1
/-- R274, D+0x4. -/
abbrev Reg.PD_CNT_PD_OUTLIER (n : Nat) : Nat := (0x5024 + n * 0x8) * 256 + 1
/-- R318, C+0x00. -/
abbrev Reg.CH_ROLE (n : Nat) : Nat := (0x2000 + n * 0x20) * 256 + 1
/-- R318, C+0x01. -/
abbrev Reg.CH_BAUD (n : Nat) : Nat := (0x2001 + n * 0x20) * 256 + 1
/-- R318, C+0x02. -/
abbrev Reg.CH_BAUD_DIV (n : Nat) : Nat := (0x2002 + n * 0x20) * 256 + 1
/-- R318, C+0x03. -/
abbrev Reg.CH_FORMAT (n : Nat) : Nat := (0x2003 + n * 0x20) * 256 + 1
/-- R318, C+0x04. -/
abbrev Reg.CH_FRAMING (n : Nat) : Nat := (0x2004 + n * 0x20) * 256 + 1
/-- R318, C+0x05. -/
abbrev Reg.CH_GAP (n : Nat) : Nat := (0x2005 + n * 0x20) * 256 + 1
/-- R318, C+0x06. -/
abbrev Reg.CH_PINS (n : Nat) : Nat := (0x2006 + n * 0x20) * 256 + 1
/-- R318, C+0x07. -/
abbrev Reg.CH_DE_LEAD (n : Nat) : Nat := (0x2007 + n * 0x20) * 256 + 1
/-- R318, C+0x08. -/
abbrev Reg.CH_DE_LAG (n : Nat) : Nat := (0x2008 + n * 0x20) * 256 + 1
/-- R318, C+0x09. -/
abbrev Reg.CH_SPI (n : Nat) : Nat := (0x2009 + n * 0x20) * 256 + 1
/-- R318, C+0x0A. -/
abbrev Reg.CH_SPI_CS (n : Nat) : Nat := (0x200A + n * 0x20) * 256 + 1
/-- R318, C+0x0B. -/
abbrev Reg.CH_I2C (n : Nat) : Nat := (0x200B + n * 0x20) * 256 + 1
/-- R318, C+0x0C. -/
abbrev Reg.CH_RX_SINK (n : Nat) : Nat := (0x200C + n * 0x20) * 256 + 1
/-- R318, C+0x0D. -/
abbrev Reg.CH_RX_MAX (n : Nat) : Nat := (0x200D + n * 0x20) * 256 + 1
/-- R318, C+0x0E. -/
abbrev Reg.CH_FLUSH_AGE (n : Nat) : Nat := (0x200E + n * 0x20) * 256 + 1
/-- R318, C+0x0F. -/
abbrev Reg.CH_SWAP_ON_END (n : Nat) : Nat := (0x200F + n * 0x20) * 256 + 1
/-- R318, C+0x10. -/
abbrev Reg.CH_ID_SEL (n : Nat) : Nat := (0x2010 + n * 0x20) * 256 + 1
/-- R318, C+0x11. -/
abbrev Reg.CH_ID_TABLE (n : Nat) : Nat := (0x2011 + n * 0x20) * 256 + 1
/-- R318, C+0x12. -/
abbrev Reg.CH_DEFAULT_KEY (n : Nat) : Nat := (0x2012 + n * 0x20) * 256 + 1
/-- R318, C+0x13. -/
abbrev Reg.CH_MB (n : Nat) : Nat := (0x2013 + n * 0x20) * 256 + 1
/-- R318, C+0x14. -/
abbrev Reg.CH_SILENCE (n : Nat) : Nat := (0x2014 + n * 0x20) * 256 + 1
/-- R318, C+0x15. -/
abbrev Reg.CH_STATE (n : Nat) : Nat := (0x2015 + n * 0x20) * 256 + 1
/-- R318, C+0x16. -/
abbrev Reg.CH_COUNTS (n : Nat) : Nat := (0x2016 + n * 0x20) * 256 + 1
/-- R318, C+0x17. -/
abbrev Reg.CH_RESET (n : Nat) : Nat := (0x2017 + n * 0x20) * 256 + 1
/-- R318, C+0x18. -/
abbrev Reg.CH_CNT_RX_PKT (n : Nat) : Nat := (0x2018 + n * 0x20) * 256 + 1
/-- R318, C+0x19. -/
abbrev Reg.CH_CNT_TX_PKT (n : Nat) : Nat := (0x2019 + n * 0x20) * 256 + 1
/-- R318, C+0x1A. -/
abbrev Reg.CH_CNT_RX_CRC (n : Nat) : Nat := (0x201A + n * 0x20) * 256 + 1
/-- R318, C+0x1B. -/
abbrev Reg.CH_CNT_LINE_ERR (n : Nat) : Nat := (0x201B + n * 0x20) * 256 + 1
/-- R318, C+0x1C. -/
abbrev Reg.CH_CNT_RX_OVERRUN (n : Nat) : Nat := (0x201C + n * 0x20) * 256 + 1
/-- R318, C+0x1D. -/
abbrev Reg.CH_CNT_TX_DROP (n : Nat) : Nat := (0x201D + n * 0x20) * 256 + 1
/-- R318, C+0x1E. -/
abbrev Reg.CH_CNT_NOKEY (n : Nat) : Nat := (0x201E + n * 0x20) * 256 + 1
/-- R318, C+0x1F. -/
abbrev Reg.CH_CNT_QUEUE_RESET (n : Nat) : Nat := (0x201F + n * 0x20) * 256 + 1
/-- R350, C+0x0. -/
abbrev Reg.CAN_MODE (n : Nat) : Nat := (0x3000 + n * 0x10) * 256 + 1
/-- R350, C+0x1. -/
abbrev Reg.CAN_NBT (n : Nat) : Nat := (0x3001 + n * 0x10) * 256 + 1
/-- R350, C+0x2. -/
abbrev Reg.CAN_DBT (n : Nat) : Nat := (0x3002 + n * 0x10) * 256 + 1
/-- R350, C+0x3. -/
abbrev Reg.CAN_STATE (n : Nat) : Nat := (0x3003 + n * 0x10) * 256 + 1
/-- R350, C+0x4. -/
abbrev Reg.CAN_STATUS (n : Nat) : Nat := (0x3004 + n * 0x10) * 256 + 1
/-- R350, C+0x5. -/
abbrev Reg.CAN_ERRCNT (n : Nat) : Nat := (0x3005 + n * 0x10) * 256 + 1
/-- R350, C+0x6. -/
abbrev Reg.CAN_CMD (n : Nat) : Nat := (0x3006 + n * 0x10) * 256 + 1
/-- R350, C+0x7. -/
abbrev Reg.CAN_ABORT (n : Nat) : Nat := (0x3007 + n * 0x10) * 256 + 1
/-- R350, C+0x8. -/
abbrev Reg.CAN_TX_POST (n : Nat) : Nat := (0x3008 + n * 0x10) * 256 + 1
/-- R350, C+0x9. -/
abbrev Reg.MM_BASE (n : Nat) : Nat := (0x3009 + n * 0x10) * 256 + 1
/-- R350, C+0xA. -/
abbrev Reg.CAN_FC_LATCH (n : Nat) : Nat := (0x300A + n * 0x10) * 256 + 1
/-- R350, C+0xB.01. -/
abbrev Reg.CAN_RX_WR (n : Nat) : Nat := (0x300B + n * 0x10) * 256 + 1
/-- R350, C+0xB.02. -/
abbrev Reg.CAN_RX_RD (n : Nat) : Nat := (0x300B + n * 0x10) * 256 + 2
/-- R350, C+0xB.03. -/
abbrev Reg.CAN_RX_COUNT (n : Nat) : Nat := (0x300B + n * 0x10) * 256 + 3
/-- R350, C+0xC. -/
abbrev Reg.CAN_CNT_RX (n : Nat) : Nat := (0x300C + n * 0x10) * 256 + 1
/-- R350, C+0xD. -/
abbrev Reg.CAN_CNT_TX (n : Nat) : Nat := (0x300D + n * 0x10) * 256 + 1
/-- R350, C+0xE.01. -/
abbrev Reg.CAN_CNT_BUS_ERR (n : Nat) : Nat := (0x300E + n * 0x10) * 256 + 1
/-- R350, C+0xE.02. -/
abbrev Reg.CAN_CNT_ARB_LOST (n : Nat) : Nat := (0x300E + n * 0x10) * 256 + 2
/-- R350, C+0xE.03. -/
abbrev Reg.CAN_CNT_BUS_OFF (n : Nat) : Nat := (0x300E + n * 0x10) * 256 + 3
/-- R350, C+0xE.04. -/
abbrev Reg.CAN_CNT_TX_DROP (n : Nat) : Nat := (0x300E + n * 0x10) * 256 + 4
/-- R350, C+0xE.05. -/
abbrev Reg.CAN_CNT_TX_REPLACED (n : Nat) : Nat := (0x300E + n * 0x10) * 256 + 5
/-- R350, C+0xE.06. -/
abbrev Reg.CAN_CNT_RX_NOMATCH (n : Nat) : Nat := (0x300E + n * 0x10) * 256 + 6
/-- R350, C+0xE.07. -/
abbrev Reg.CAN_CNT_RX_OVERRUN (n : Nat) : Nat := (0x300E + n * 0x10) * 256 + 7
/-- R350, C+0xE.08. -/
abbrev Reg.CAN_CNT_LONE (n : Nat) : Nat := (0x300E + n * 0x10) * 256 + 8
/-- R350, C+0xE.09. -/
abbrev Reg.CAN_CNT_ABORT_LATE (n : Nat) : Nat := (0x300E + n * 0x10) * 256 + 9
/-- R350, C+0xE.0A. -/
abbrev Reg.CAN_ACK_RUN (n : Nat) : Nat := (0x300E + n * 0x10) * 256 + 10
/-- R350, C+0xF. -/
abbrev Reg.CAN_TXQ (n : Nat) : Nat := (0x300F + n * 0x10) * 256 + 1
/-- R375, E+0x0. -/
abbrev Reg.ENG_CTRL (n : Nat) : Nat := (0x3400 + n * 0x10) * 256 + 1
/-- R375, E+0x1. -/
abbrev Reg.ENG_STATE (n : Nat) : Nat := (0x3401 + n * 0x10) * 256 + 1
/-- R375, E+0x2. -/
abbrev Reg.ENG_PINS (n : Nat) : Nat := (0x3402 + n * 0x10) * 256 + 1
/-- R375, E+0x3. -/
abbrev Reg.ENG_CFG (n : Nat) : Nat := (0x3403 + n * 0x10) * 256 + 1
/-- R375, E+0x4. -/
abbrev Reg.ENG_DIR_INIT (n : Nat) : Nat := (0x3404 + n * 0x10) * 256 + 1
/-- R375, E+0x5. -/
abbrev Reg.ENG_SAFE (n : Nat) : Nat := (0x3405 + n * 0x10) * 256 + 1
/-- R375, E+0x6. -/
abbrev Reg.ENG_DIV (n : Nat) : Nat := (0x3406 + n * 0x10) * 256 + 1
/-- R375, E+0x7. -/
abbrev Reg.ENG_WRAP (n : Nat) : Nat := (0x3407 + n * 0x10) * 256 + 1
/-- R375, E+0x8. -/
abbrev Reg.ENG_PROG (n : Nat) : Nat := (0x3408 + n * 0x10) * 256 + 1
/-- R375, E+0x9. -/
abbrev Reg.ENG_PROG_FORCE (n : Nat) : Nat := (0x3409 + n * 0x10) * 256 + 1
/-- R375, E+0xA. -/
abbrev Reg.ENG_CMPR (n : Nat) : Nat := (0x340A + n * 0x10) * 256 + 1
/-- R375, E+0xB.01. -/
abbrev Reg.ES_PC (n : Nat) : Nat := (0x340B + n * 0x10) * 256 + 1
/-- R375, E+0xB.02. -/
abbrev Reg.ES_SR (n : Nat) : Nat := (0x340B + n * 0x10) * 256 + 2
/-- R375, E+0xB.03. -/
abbrev Reg.ES_FILL (n : Nat) : Nat := (0x340B + n * 0x10) * 256 + 3
/-- R375, E+0xB.04. -/
abbrev Reg.ES_EQ (n : Nat) : Nat := (0x340B + n * 0x10) * 256 + 4
/-- R375, E+0xB.05. -/
abbrev Reg.ES_CNT (n : Nat) : Nat := (0x340B + n * 0x10) * 256 + 5
/-- R375, E+0xB.06. -/
abbrev Reg.ES_PENDING (n : Nat) : Nat := (0x340B + n * 0x10) * 256 + 6
/-- R375, E+0xB.07. -/
abbrev Reg.ES_TX_WORDS (n : Nat) : Nat := (0x340B + n * 0x10) * 256 + 7
/-- R375, E+0xB.08. -/
abbrev Reg.ES_RX_WORDS (n : Nat) : Nat := (0x340B + n * 0x10) * 256 + 8
/-- R375, E+0xC. -/
abbrev Reg.ENG_FLAGS (n : Nat) : Nat := (0x340C + n * 0x10) * 256 + 1
/-- R375, E+0xD. -/
abbrev Reg.ENG_CNT_UNDERRUN (n : Nat) : Nat := (0x340D + n * 0x10) * 256 + 1
/-- R375, E+0xE. -/
abbrev Reg.ENG_CNT_OVERRUN (n : Nat) : Nat := (0x340E + n * 0x10) * 256 + 1
/-- R375, E+0xF.01. -/
abbrev Reg.ENG_CNT_TX_REFUSED (n : Nat) : Nat := (0x340F + n * 0x10) * 256 + 1
/-- R375, E+0xF.02. -/
abbrev Reg.ENG_CNT_RX_EMPTY (n : Nat) : Nat := (0x340F + n * 0x10) * 256 + 2
/-- R375, E+0xF.03. -/
abbrev Reg.ENG_CNT_EV_DROP (n : Nat) : Nat := (0x340F + n * 0x10) * 256 + 3
/-- R375, E+0xF.04. -/
abbrev Reg.ENG_CNT_FORCE (n : Nat) : Nat := (0x340F + n * 0x10) * 256 + 4
/-- R400, B+0x0. -/
abbrev Reg.DISC_DIR (n : Nat) : Nat := (0x4000 + n * 0x8) * 256 + 1
/-- R400, B+0x1.01. -/
abbrev Reg.DISC_INVERT (n : Nat) : Nat := (0x4001 + n * 0x8) * 256 + 1
/-- R400, B+0x1.02. -/
abbrev Reg.DISC_OD (n : Nat) : Nat := (0x4001 + n * 0x8) * 256 + 2
/-- R400, B+0x1.03. -/
abbrev Reg.DISC_KEY_BASE (n : Nat) : Nat := (0x4001 + n * 0x8) * 256 + 3
/-- R400, B+0x1.04. -/
abbrev Reg.DISC_EV_MASK (n : Nat) : Nat := (0x4001 + n * 0x8) * 256 + 4
/-- R400, B+0x1.05. -/
abbrev Reg.DISC_SEV (n : Nat) : Nat := (0x4001 + n * 0x8) * 256 + 5
/-- R400, B+0x1.06. -/
abbrev Reg.DISC_READBACK (n : Nat) : Nat := (0x4001 + n * 0x8) * 256 + 6
/-- R400, B+0x2. -/
abbrev Reg.DISC_IN (n : Nat) : Nat := (0x4002 + n * 0x8) * 256 + 1
/-- R400, B+0x3. -/
abbrev Reg.DISC_OUT (n : Nat) : Nat := (0x4003 + n * 0x8) * 256 + 1
/-- R400, B+0x4. -/
abbrev Reg.DISC_SAFE (n : Nat) : Nat := (0x4004 + n * 0x8) * 256 + 1
/-- R400, B+0x5.01. -/
abbrev Reg.DISC_RAW (n : Nat) : Nat := (0x4005 + n * 0x8) * 256 + 1
/-- R400, B+0x5.02. -/
abbrev Reg.DISC_PIN (n : Nat) : Nat := (0x4005 + n * 0x8) * 256 + 2
/-- R400, B+0x5.03. -/
abbrev Reg.DISC_HOLD (n : Nat) : Nat := (0x4005 + n * 0x8) * 256 + 3
/-- R400, B+0x5.04. -/
abbrev Reg.DISC_VIO (n : Nat) : Nat := (0x4005 + n * 0x8) * 256 + 4
/-- R400, B+0x5.05. -/
abbrev Reg.DISC_SEQ (n : Nat) : Nat := (0x4005 + n * 0x8) * 256 + 5
/-- R400, B+0x6.01 to .08. -/
abbrev Reg.DISC_DEB (n i : Nat) : Nat := (0x4006 + n * 0x8) * 256 + (1 + i)
/-- R400, B+0x7.01. -/
abbrev Reg.DISC_CNT_CHANGES (n : Nat) : Nat := (0x4007 + n * 0x8) * 256 + 1
/-- R400, B+0x7.02. -/
abbrev Reg.DISC_CNT_OUT_ITEMS (n : Nat) : Nat := (0x4007 + n * 0x8) * 256 + 2
/-- R400, B+0x7.03. -/
abbrev Reg.DISC_CNT_OUT_DROP (n : Nat) : Nat := (0x4007 + n * 0x8) * 256 + 3
/-- R400, B+0x7.04. -/
abbrev Reg.DISC_CNT_READBACK (n : Nat) : Nat := (0x4007 + n * 0x8) * 256 + 4
/-- R400, B+0x7.05. -/
abbrev Reg.DISC_CNT_REC_LOST (n : Nat) : Nat := (0x4007 + n * 0x8) * 256 + 5
/-- R401, M+0x0. -/
abbrev Reg.MEAS_ENABLE (n : Nat) : Nat := (0x4400 + n * 0x10) * 256 + 1
/-- R401, M+0x1. -/
abbrev Reg.MEAS_RATE (n : Nat) : Nat := (0x4401 + n * 0x10) * 256 + 1
/-- R401, M+0x2. -/
abbrev Reg.MEAS_BLOCK (n : Nat) : Nat := (0x4402 + n * 0x10) * 256 + 1
/-- R401, M+0x3. -/
abbrev Reg.MEAS_KEY (n : Nat) : Nat := (0x4403 + n * 0x10) * 256 + 1
/-- R401, M+0x4. -/
abbrev Reg.MEAS_OPEN_EN (n : Nat) : Nat := (0x4404 + n * 0x10) * 256 + 1
/-- R401, M+0x5. -/
abbrev Reg.MEAS_CAL_OFFSET (n : Nat) : Nat := (0x4405 + n * 0x10) * 256 + 1
/-- R401, M+0x6. -/
abbrev Reg.MEAS_CAL_GAIN (n : Nat) : Nat := (0x4406 + n * 0x10) * 256 + 1
/-- R401, M+0x7.01. -/
abbrev Reg.THR_SET (n q : Nat) : Nat := (0x4407 + n * 0x10 + q) * 256 + 1
/-- R401, M+0x7.02. -/
abbrev Reg.THR_CLEAR (n q : Nat) : Nat := (0x4407 + n * 0x10 + q) * 256 + 2
/-- R401, M+0x7.03. -/
abbrev Reg.THR_COUNT (n q : Nat) : Nat := (0x4407 + n * 0x10 + q) * 256 + 3
/-- R401, M+0x7.04. -/
abbrev Reg.THR_ENABLE (n q : Nat) : Nat := (0x4407 + n * 0x10 + q) * 256 + 4
/-- R401, M+0x9. -/
abbrev Reg.MEAS_LAST (n : Nat) : Nat := (0x4409 + n * 0x10) * 256 + 1
/-- R401, M+0xA. -/
abbrev Reg.MEAS_LAST_TIME (n : Nat) : Nat := (0x440A + n * 0x10) * 256 + 1
/-- R401, M+0xB. -/
abbrev Reg.MEAS_STATE (n : Nat) : Nat := (0x440B + n * 0x10) * 256 + 1
/-- R401, M+0xC. -/
abbrev Reg.MEAS_SEQ (n : Nat) : Nat := (0x440C + n * 0x10) * 256 + 1
/-- R401, M+0xD.01. -/
abbrev Reg.MEAS_CNT_SETS (n : Nat) : Nat := (0x440D + n * 0x10) * 256 + 1
/-- R401, M+0xD.02. -/
abbrev Reg.MEAS_CNT_SETS_LOST (n : Nat) : Nat := (0x440D + n * 0x10) * 256 + 2
/-- R401, M+0xD.03. -/
abbrev Reg.MEAS_CNT_OVER (n : Nat) : Nat := (0x440D + n * 0x10) * 256 + 3
/-- R401, M+0xD.04. -/
abbrev Reg.MEAS_CNT_OPEN (n : Nat) : Nat := (0x440D + n * 0x10) * 256 + 4
/-- R401, M+0xD.05. -/
abbrev Reg.MEAS_CNT_THR (n : Nat) : Nat := (0x440D + n * 0x10) * 256 + 5
/-- R427, 0x6000. -/
abbrev Reg.MAP_ROUTE_BASE : Nat := 0x6000 * 256 + 1
/-- R427, 0x6001. -/
abbrev Reg.MAP_ROUTE_BANKS : Nat := 0x6001 * 256 + 1
/-- R427, 0x6002. -/
abbrev Reg.MAP_ROUTE_KEYS : Nat := 0x6002 * 256 + 1
/-- R427, 0x6003. -/
abbrev Reg.MAP_ENTRY_BASE : Nat := 0x6003 * 256 + 1
/-- R427, 0x6004. -/
abbrev Reg.MAP_ENTRIES : Nat := 0x6004 * 256 + 1
/-- R427, 0x6005. -/
abbrev Reg.MAP_SLOTS : Nat := 0x6005 * 256 + 1
/-- R427, 0x6006. -/
abbrev Reg.MAP_RULES : Nat := 0x6006 * 256 + 1
/-- R427, 0x6007. -/
abbrev Reg.MAP_WORK_LIMIT : Nat := 0x6007 * 256 + 1
/-- R427, 0x6008. -/
abbrev Reg.MAP_LOAD : Nat := 0x6008 * 256 + 1
/-- R427, 0x6009. -/
abbrev Reg.MAP_LOAD_PEAK : Nat := 0x6009 * 256 + 1
/-- R427, 0x6010. -/
abbrev Reg.CNT_IN : Nat := 0x6010 * 256 + 1
/-- R427, 0x6011. -/
abbrev Reg.CNT_OUT : Nat := 0x6011 * 256 + 1
/-- R427, 0x6012. -/
abbrev Reg.CNT_NO_ROUTE : Nat := 0x6012 * 256 + 1
/-- R427, 0x6013. -/
abbrev Reg.CNT_ORIGIN_MISMATCH : Nat := 0x6013 * 256 + 1
/-- R427, 0x6014. -/
abbrev Reg.CNT_MAP_FAULT : Nat := 0x6014 * 256 + 1
/-- R427, 0x6015. -/
abbrev Reg.CNT_SAT : Nat := 0x6015 * 256 + 1
/-- R427, 0x6016. -/
abbrev Reg.CNT_OPS : Nat := 0x6016 * 256 + 1
/-- R427, 0x6017. -/
abbrev Reg.CNT_RULE_TRIPS : Nat := 0x6017 * 256 + 1
/-- R427, 0x6020.01. -/
abbrev Reg.MF_CAUSE : Nat := 0x6020 * 256 + 1
/-- R427, 0x6020.02. -/
abbrev Reg.MF_ROUTE : Nat := 0x6020 * 256 + 2
/-- R427, 0x6020.03. -/
abbrev Reg.MF_ENTRY : Nat := 0x6020 * 256 + 3
/-- R427, 0x6020.04. -/
abbrev Reg.MF_SOURCE : Nat := 0x6020 * 256 + 4
/-- R427, 0x6020.05. -/
abbrev Reg.MF_SEQUENCE : Nat := 0x6020 * 256 + 5
/-- R427, 0x6020.06. -/
abbrev Reg.MF_TICK : Nat := 0x6020 * 256 + 6
/-- R428, .01. -/
abbrev Reg.RULE_CTRL (n : Nat) : Nat := (0x6400 + n) * 256 + 1
/-- R428, .02. -/
abbrev Reg.RULE_SLOT (n : Nat) : Nat := (0x6400 + n) * 256 + 2
/-- R428, .03. -/
abbrev Reg.RULE_TRIP (n : Nat) : Nat := (0x6400 + n) * 256 + 3
/-- R428, .04. -/
abbrev Reg.RULE_RELEASE (n : Nat) : Nat := (0x6400 + n) * 256 + 4
/-- R428, .05. -/
abbrev Reg.RULE_COUNT (n : Nat) : Nat := (0x6400 + n) * 256 + 5
/-- R428, .06. -/
abbrev Reg.RULE_LINE (n : Nat) : Nat := (0x6400 + n) * 256 + 6
/-- R428, .07. -/
abbrev Reg.RULE_STALE (n : Nat) : Nat := (0x6400 + n) * 256 + 7
/-- R428, .08. -/
abbrev Reg.RULE_SEV (n : Nat) : Nat := (0x6400 + n) * 256 + 8
/-- R428, .09. -/
abbrev Reg.RULE_STATE (n : Nat) : Nat := (0x6400 + n) * 256 + 9
/-- R428, .0A. -/
abbrev Reg.RULE_RESET (n : Nat) : Nat := (0x6400 + n) * 256 + 10
/-- R428, .0B. -/
abbrev Reg.RULE_TRIPS (n : Nat) : Nat := (0x6400 + n) * 256 + 11
/-- R429, .01. -/
abbrev Reg.SIG_VALUE (n : Nat) : Nat := (0x6800 + n) * 256 + 1
/-- R429, .02. -/
abbrev Reg.SIG_TICK (n : Nat) : Nat := (0x6800 + n) * 256 + 2
/-- R429, .03. -/
abbrev Reg.SIG_FLAGS (n : Nat) : Nat := (0x6800 + n) * 256 + 3
/-- R429, .04. -/
abbrev Reg.SIG_ROUTE (n : Nat) : Nat := (0x6800 + n) * 256 + 4
/-- R467, W+0x0. -/
abbrev Reg.WIN_BASE (n : Nat) : Nat := (0x7000 + n * 0x4) * 256 + 1
/-- R467, W+0x1. -/
abbrev Reg.WIN_TARGET (n : Nat) : Nat := (0x7001 + n * 0x4) * 256 + 1
/-- R467, W+0x2. -/
abbrev Reg.WIN_CTRL (n : Nat) : Nat := (0x7002 + n * 0x4) * 256 + 1
/-- R467, W+0x3.01. -/
abbrev Reg.WIN_FLAGS (n : Nat) : Nat := (0x7003 + n * 0x4) * 256 + 1
/-- R467, W+0x3.02. -/
abbrev Reg.WIN_CNT_WIN_ACC (n : Nat) : Nat := (0x7003 + n * 0x4) * 256 + 2
/-- R467, W+0x3.03. -/
abbrev Reg.WIN_CNT_WIN_FAULT (n : Nat) : Nat := (0x7003 + n * 0x4) * 256 + 3
/-- R467, W+0x3.04. -/
abbrev Reg.WIN_CNT_PF_SUPPRESSED (n : Nat) : Nat := (0x7003 + n * 0x4) * 256 + 4
/-- R468, V+0x0. -/
abbrev Reg.MV_CMD (n : Nat) : Nat := (0x7400 + n * 0x8) * 256 + 1
/-- R468, V+0x1.01. -/
abbrev Reg.MV_MODE (n : Nat) : Nat := (0x7401 + n * 0x8) * 256 + 1
/-- R468, V+0x1.02. -/
abbrev Reg.MV_CLASS (n : Nat) : Nat := (0x7401 + n * 0x8) * 256 + 2
/-- R468, V+0x1.03. -/
abbrev Reg.MV_DESC (n : Nat) : Nat := (0x7401 + n * 0x8) * 256 + 3
/-- R468, V+0x1.04. -/
abbrev Reg.MV_CAUSE (n : Nat) : Nat := (0x7401 + n * 0x8) * 256 + 4
/-- R468, .01. -/
abbrev Reg.Q_BASE (n q : Nat) : Nat := (0x7402 + n * 0x8 + q) * 256 + 1
/-- R468, .02. -/
abbrev Reg.Q_SIZE (n q : Nat) : Nat := (0x7402 + n * 0x8 + q) * 256 + 2
/-- R468, .03. -/
abbrev Reg.Q_HEAD (n q : Nat) : Nat := (0x7402 + n * 0x8 + q) * 256 + 3
/-- R468, .04. -/
abbrev Reg.Q_TAIL (n q : Nat) : Nat := (0x7402 + n * 0x8 + q) * 256 + 4
/-- R468, V+0x6. -/
abbrev Reg.MV_SESSION (n : Nat) : Nat := (0x7406 + n * 0x8) * 256 + 1
/-- R468, V+0x7.01. -/
abbrev Reg.MV_CNT_MV_DESC (n : Nat) : Nat := (0x7407 + n * 0x8) * 256 + 1
/-- R468, V+0x7.02. -/
abbrev Reg.MV_CNT_MV_BYTES (n : Nat) : Nat := (0x7407 + n * 0x8) * 256 + 2
/-- R468, V+0x7.03. -/
abbrev Reg.MV_CNT_MV_PREEMPT (n : Nat) : Nat := (0x7407 + n * 0x8) * 256 + 3
/-- R468, V+0x7.04. -/
abbrev Reg.MV_CNT_MV_SUSPEND (n : Nat) : Nat := (0x7407 + n * 0x8) * 256 + 4
/-- R468, V+0x7.05. -/
abbrev Reg.MV_CNT_MV_PARTIAL (n : Nat) : Nat := (0x7407 + n * 0x8) * 256 + 5
/-- R469, 0x7480. -/
abbrev Reg.FAB_TIMEOUT : Nat := 0x7480 * 256 + 1
/-- R469, 0x7481. -/
abbrev Reg.FAB_TAGS : Nat := 0x7481 * 256 + 1
/-- R469, 0x7482. -/
abbrev Reg.FAB_TAGS_USED : Nat := 0x7482 * 256 + 1
/-- R469, 0x7483. -/
abbrev Reg.PF_LIFE : Nat := 0x7483 * 256 + 1
/-- R469, 0x7484.01. -/
abbrev Reg.FO_NODE : Nat := 0x7484 * 256 + 1
/-- R469, 0x7484.02. -/
abbrev Reg.FO_LEVEL : Nat := 0x7484 * 256 + 2
/-- R469, 0x7484.03. -/
abbrev Reg.FO_TOKEN : Nat := 0x7484 * 256 + 3
/-- R469, 0x7484.04. -/
abbrev Reg.FO_SESSION : Nat := 0x7484 * 256 + 4
/-- R469, 0x7484.05. -/
abbrev Reg.FO_STATUS : Nat := 0x7484 * 256 + 5
/-- R469, 0x7488. -/
abbrev Reg.CNT_FAB_TIMEOUT : Nat := 0x7488 * 256 + 1
/-- R469, 0x7489. -/
abbrev Reg.CNT_LATE_RSP : Nat := 0x7489 * 256 + 1
/-- R469, 0x748A. -/
abbrev Reg.CNT_WIN_MISS : Nat := 0x748A * 256 + 1
/-- R469, 0x748B. -/
abbrev Reg.CNT_FAB_FORMAT : Nat := 0x748B * 256 + 1
/-- R469, 0x7490.01. -/
abbrev Reg.FF_MASTER : Nat := 0x7490 * 256 + 1
/-- R469, 0x7490.02. -/
abbrev Reg.FF_CAUSE : Nat := 0x7490 * 256 + 2
/-- R469, 0x7490.03. -/
abbrev Reg.FF_ADDRESS : Nat := 0x7490 * 256 + 3
/-- R469, 0x7490.04. -/
abbrev Reg.FF_STATUS : Nat := 0x7490 * 256 + 4
/-- R469, 0x7490.05. -/
abbrev Reg.FF_TICK : Nat := 0x7490 * 256 + 5
/-- R470, 0x7800+b.01. -/
abbrev Reg.BANK_OWNER (n : Nat) : Nat := (0x7800 + n) * 256 + 1
/-- R470, 0x7800+b.02. -/
abbrev Reg.BANK_STATE (n : Nat) : Nat := (0x7800 + n) * 256 + 2
/-- R470, 0x7800+b.03. -/
abbrev Reg.CNT_WRITE_CLASH (n : Nat) : Nat := (0x7800 + n) * 256 + 3
/-- R470, 0x7840+s.01. -/
abbrev Reg.SWAP_FOR (n : Nat) : Nat := (0x7840 + n) * 256 + 1
/-- R470, 0x7840+s.02. -/
abbrev Reg.SWAP_PHASE (n : Nat) : Nat := (0x7840 + n) * 256 + 2
/-- R470, 0x7840+s.03. -/
abbrev Reg.CNT_SWAP_ABANDON (n : Nat) : Nat := (0x7840 + n) * 256 + 3
/-- R470, 0x7850. -/
abbrev Reg.STAGE_SET : Nat := 0x7850 * 256 + 1
/-- R470, 0x7851. -/
abbrev Reg.CNT_HANDOVER : Nat := 0x7851 * 256 + 1
/-- R470, 0x7852. -/
abbrev Reg.CNT_HANDOVER_REFUSED : Nat := 0x7852 * 256 + 1
/-- R470, 0x7853.01. -/
abbrev Reg.LC_BANK : Nat := 0x7853 * 256 + 1
/-- R470, 0x7853.02. -/
abbrev Reg.LC_WORD : Nat := 0x7853 * 256 + 2
/-- R470, 0x7853.03. -/
abbrev Reg.LC_TICK : Nat := 0x7853 * 256 + 3
/-- R495, 0x7C00. -/
abbrev Reg.LHP_ENABLE : Nat := 0x7C00 * 256 + 1
/-- R495, 0x7C01. -/
abbrev Reg.LHP_STATE : Nat := 0x7C01 * 256 + 1
/-- R495, 0x7C02. -/
abbrev Reg.LHP_BCLK_KHZ : Nat := 0x7C02 * 256 + 1
/-- R495, 0x7C03. -/
abbrev Reg.LHP_LOCK_MAX : Nat := 0x7C03 * 256 + 1
/-- R495, 0x7C04. -/
abbrev Reg.LHP_REISSUE : Nat := 0x7C04 * 256 + 1
/-- R495, 0x7C05. -/
abbrev Reg.LHP_ERR_PENDING : Nat := 0x7C05 * 256 + 1
/-- R495, 0x7C06. -/
abbrev Reg.LHP_SB_STATE : Nat := 0x7C06 * 256 + 1
/-- R495, 0x7C07. -/
abbrev Reg.LHP_IRQ_STATE : Nat := 0x7C07 * 256 + 1
/-- R495, 0x7C08. -/
abbrev Reg.LHP_IRQ_POL : Nat := 0x7C08 * 256 + 1
/-- R495, 0x7C10+i. -/
abbrev Reg.LHP_IRQ_SEL (n : Nat) : Nat := (0x7C10 + n) * 256 + 1
/-- R495, .01. -/
abbrev Reg.HR_BASE (n : Nat) : Nat := (0x7C20 + n) * 256 + 1
/-- R495, .02. -/
abbrev Reg.HR_SIZE_EXP (n : Nat) : Nat := (0x7C20 + n) * 256 + 2
/-- R495, .03. -/
abbrev Reg.HR_CTRL (n : Nat) : Nat := (0x7C20 + n) * 256 + 3
/-- R495, 0x7C30. -/
abbrev Reg.LHP_SEM_HELD : Nat := 0x7C30 * 256 + 1
/-- R495, 0x7C40+k. -/
abbrev Reg.LHP_SEM (n : Nat) : Nat := (0x7C40 + n) * 256 + 1
/-- R495, .01. -/
abbrev Reg.XQ_BASE : Nat := 0x7C60 * 256 + 1
/-- R495, .02. -/
abbrev Reg.XQ_SIZE : Nat := 0x7C60 * 256 + 2
/-- R495, .03. -/
abbrev Reg.XQ_HEAD : Nat := 0x7C60 * 256 + 3
/-- R495, .04. -/
abbrev Reg.XQ_TAIL : Nat := 0x7C60 * 256 + 4
/-- R495, .05. -/
abbrev Reg.XQ_NOTIFY : Nat := 0x7C60 * 256 + 5
/-- R495, .06. -/
abbrev Reg.XQ_ERR : Nat := 0x7C60 * 256 + 6
/-- R495, 0x7C70. -/
abbrev Reg.CNT_HOST_RD : Nat := 0x7C70 * 256 + 1
/-- R495, 0x7C71. -/
abbrev Reg.CNT_HOST_WR : Nat := 0x7C71 * 256 + 1
/-- R495, 0x7C72. -/
abbrev Reg.CNT_HOST_ERR : Nat := 0x7C72 * 256 + 1
/-- R495, 0x7C73. -/
abbrev Reg.CNT_HOST_MISS : Nat := 0x7C73 * 256 + 1
/-- R495, 0x7C74. -/
abbrev Reg.CNT_RETRY : Nat := 0x7C74 * 256 + 1
/-- R495, 0x7C75. -/
abbrev Reg.CNT_REISSUE_JOIN : Nat := 0x7C75 * 256 + 1
/-- R495, 0x7C76. -/
abbrev Reg.CNT_REISSUE_LOST : Nat := 0x7C76 * 256 + 1
/-- R495, 0x7C77. -/
abbrev Reg.CNT_LOCK : Nat := 0x7C77 * 256 + 1
/-- R495, 0x7C78. -/
abbrev Reg.CNT_LOCK_BROKEN : Nat := 0x7C78 * 256 + 1
/-- R495, 0x7C79. -/
abbrev Reg.CNT_LOCK_RETRY : Nat := 0x7C79 * 256 + 1
/-- R495, 0x7C7A. -/
abbrev Reg.CNT_XFER : Nat := 0x7C7A * 256 + 1
/-- R495, 0x7C7B. -/
abbrev Reg.CNT_XFER_ERR : Nat := 0x7C7B * 256 + 1
/-- R495, .01. -/
abbrev Reg.HE_ADDR : Nat := 0x7C80 * 256 + 1
/-- R495, .02. -/
abbrev Reg.HE_DIR : Nat := 0x7C80 * 256 + 2
/-- R495, .03. -/
abbrev Reg.HE_STATUS : Nat := 0x7C80 * 256 + 3
/-- R495, .04. -/
abbrev Reg.HE_TICK : Nat := 0x7C80 * 256 + 4
/-- R530, 0x8000. -/
abbrev Reg.TW_ENABLE : Nat := 0x8000 * 256 + 1
/-- R530, 0x8001. -/
abbrev Reg.TW_RANK : Nat := 0x8001 * 256 + 1
/-- R530, 0x8002. -/
abbrev Reg.TW_SERVICE_ADDR : Nat := 0x8002 * 256 + 1
/-- R530, 0x8003. -/
abbrev Reg.TW_PEER_ADDR : Nat := 0x8003 * 256 + 1
/-- R530, 0x8004. -/
abbrev Reg.TW_STATE : Nat := 0x8004 * 256 + 1
/-- R530, 0x8005. -/
abbrev Reg.TW_TOKEN : Nat := 0x8005 * 256 + 1
/-- R530, 0x8006. -/
abbrev Reg.TW_READY : Nat := 0x8006 * 256 + 1
/-- R530, 0x8007. -/
abbrev Reg.TW_PATHS : Nat := 0x8007 * 256 + 1
/-- R530, 0x8008. -/
abbrev Reg.HB_PERIOD : Nat := 0x8008 * 256 + 1
/-- R530, 0x8009. -/
abbrev Reg.PAIR_WAIT : Nat := 0x8009 * 256 + 1
/-- R530, 0x800A. -/
abbrev Reg.SNAP_PERIOD : Nat := 0x800A * 256 + 1
/-- R530, 0x800B. -/
abbrev Reg.JOIN_WAIT : Nat := 0x800B * 256 + 1
/-- R530, 0x800C. -/
abbrev Reg.TW_CMD : Nat := 0x800C * 256 + 1
/-- R530, 0x800D. -/
abbrev Reg.SWITCH_STATE : Nat := 0x800D * 256 + 1
/-- R530, 0x8010. -/
abbrev Reg.EPOCH_COMMITTED : Nat := 0x8010 * 256 + 1
/-- R530, 0x8011. -/
abbrev Reg.EPOCH_PENDING : Nat := 0x8011 * 256 + 1
/-- R530, 0x8012. -/
abbrev Reg.JSEQ_LAST : Nat := 0x8012 * 256 + 1
/-- R530, 0x8013. -/
abbrev Reg.JOURNAL_USED : Nat := 0x8013 * 256 + 1
/-- R530, 0x8014. -/
abbrev Reg.IMAGE_SIZE : Nat := 0x8014 * 256 + 1
/-- R530, 0x8018.01. -/
abbrev Reg.LS_CAUSE : Nat := 0x8018 * 256 + 1
/-- R530, 0x8018.02. -/
abbrev Reg.LS_TICK : Nat := 0x8018 * 256 + 2
/-- R530, 0x8018.03. -/
abbrev Reg.LS_FROM : Nat := 0x8018 * 256 + 3
/-- R530, 0x8018.04. -/
abbrev Reg.LS_RESULT : Nat := 0x8018 * 256 + 4
/-- R530, 0x8020. -/
abbrev Reg.CNT_SWITCH : Nat := 0x8020 * 256 + 1
/-- R530, 0x8021. -/
abbrev Reg.CNT_SWITCH_FAIL : Nat := 0x8021 * 256 + 1
/-- R530, 0x8022. -/
abbrev Reg.CNT_TAKEOVER : Nat := 0x8022 * 256 + 1
/-- R530, 0x8023. -/
abbrev Reg.CNT_CONTEST : Nat := 0x8023 * 256 + 1
/-- R530, 0x8024. -/
abbrev Reg.CNT_HB_WIRE : Nat := 0x8024 * 256 + 1
/-- R530, 0x8025. -/
abbrev Reg.CNT_LINK_DOWN : Nat := 0x8025 * 256 + 1
/-- R530, 0x8026. -/
abbrev Reg.CNT_LINK_BAD : Nat := 0x8026 * 256 + 1
/-- R530, 0x8027. -/
abbrev Reg.CNT_LINK_RETX : Nat := 0x8027 * 256 + 1
/-- R530, 0x8028. -/
abbrev Reg.CNT_PAIR_MATCH : Nat := 0x8028 * 256 + 1
/-- R530, 0x8029. -/
abbrev Reg.CNT_PAIR_MISMATCH : Nat := 0x8029 * 256 + 1
/-- R530, 0x802A. -/
abbrev Reg.CNT_PAIR_LATE : Nat := 0x802A * 256 + 1
/-- R530, 0x802B. -/
abbrev Reg.CNT_HOLD_DROP : Nat := 0x802B * 256 + 1
/-- R530, 0x802C. -/
abbrev Reg.CNT_SNAP_COMMIT : Nat := 0x802C * 256 + 1
/-- R530, 0x802D. -/
abbrev Reg.CNT_SNAP_DISCARD : Nat := 0x802D * 256 + 1
/-- R530, 0x802E. -/
abbrev Reg.CNT_JOURNAL_OVF : Nat := 0x802E * 256 + 1
/-- R530, 0x802F. -/
abbrev Reg.CNT_IMAGE_DIFF : Nat := 0x802F * 256 + 1
/-- R559, 0x9000. -/
abbrev Reg.PWR_STATE : Nat := 0x9000 * 256 + 1
/-- R559, 0x9001. -/
abbrev Reg.VIN_MV : Nat := 0x9001 * 256 + 1
/-- R559, 0x9002. -/
abbrev Reg.SUPPLY_FLAGS : Nat := 0x9002 * 256 + 1
/-- R559, 0x9003. -/
abbrev Reg.DEGRADED_CLEAR : Nat := 0x9003 * 256 + 1
/-- R559, 0x9004.01. -/
abbrev Reg.LD_MIN_MV : Nat := 0x9004 * 256 + 1
/-- R559, 0x9004.02. -/
abbrev Reg.LD_DURATION : Nat := 0x9004 * 256 + 2
/-- R559, 0x9004.03. -/
abbrev Reg.LD_TICK : Nat := 0x9004 * 256 + 3
/-- R559, 0x9005. -/
abbrev Reg.CNT_DIP : Nat := 0x9005 * 256 + 1
/-- R559, 0x9006. -/
abbrev Reg.CNT_DEGRADED : Nat := 0x9006 * 256 + 1
/-- R559, 0x9010. -/
abbrev Reg.BK_RTC : Nat := 0x9010 * 256 + 1
/-- R559, 0x9011. -/
abbrev Reg.BK_VALID : Nat := 0x9011 * 256 + 1
/-- R559, 0x9012. -/
abbrev Reg.BK_VBAT_MV : Nat := 0x9012 * 256 + 1
/-- R559, 0x9013. -/
abbrev Reg.BK_CNT_POWER_FAIL : Nat := 0x9013 * 256 + 1
/-- R559, 0x9014. -/
abbrev Reg.PL_LOG : Nat := 0x9014 * 256 + 1
/-- R559, 0x9015. -/
abbrev Reg.PL_NEXT : Nat := 0x9015 * 256 + 1
/-- R559, 0x9016. -/
abbrev Reg.PL_CLEAR : Nat := 0x9016 * 256 + 1
/-- R559, .01. -/
abbrev Reg.FEED_ENABLE (n : Nat) : Nat := (0x9020 + n * 0x8) * 256 + 1
/-- R559, .02. -/
abbrev Reg.FEED_SCALE (n : Nat) : Nat := (0x9020 + n * 0x8) * 256 + 2
/-- R559, .03. -/
abbrev Reg.FEED_MIN_MV (n : Nat) : Nat := (0x9020 + n * 0x8) * 256 + 3
/-- R559, .04. -/
abbrev Reg.FEED_STATE (n : Nat) : Nat := (0x9020 + n * 0x8) * 256 + 4
/-- R559, .05. -/
abbrev Reg.FEED_MV (n : Nat) : Nat := (0x9020 + n * 0x8) * 256 + 5
/-- R559, .06. -/
abbrev Reg.CNT_FEED_REVERSE (n : Nat) : Nat := (0x9020 + n * 0x8) * 256 + 6
/-- R559, .07. -/
abbrev Reg.CNT_FEED_LOST (n : Nat) : Nat := (0x9020 + n * 0x8) * 256 + 7
/-- R560, F+0x0. -/
abbrev Reg.RAIL_CMD (n : Nat) : Nat := (0x9100 + n * 0x10) * 256 + 1
/-- R560, F+0x1. -/
abbrev Reg.RAIL_CFG (n : Nat) : Nat := (0x9101 + n * 0x10) * 256 + 1
/-- R560, F+0x2. -/
abbrev Reg.RAIL_FOLLOW (n : Nat) : Nat := (0x9102 + n * 0x10) * 256 + 1
/-- R560, F+0x3. -/
abbrev Reg.RAIL_SAFE (n : Nat) : Nat := (0x9103 + n * 0x10) * 256 + 1
/-- R560, F+0x4. -/
abbrev Reg.RAIL_FS_MA (n : Nat) : Nat := (0x9104 + n * 0x10) * 256 + 1
/-- R560, F+0x5. -/
abbrev Reg.RAIL_CURVE (n : Nat) : Nat := (0x9105 + n * 0x10) * 256 + 1
/-- R560, F+0x6. -/
abbrev Reg.RAIL_INSTANT (n : Nat) : Nat := (0x9106 + n * 0x10) * 256 + 1
/-- R560, F+0x7.01. -/
abbrev Reg.INRUSH_TIME (n : Nat) : Nat := (0x9107 + n * 0x10) * 256 + 1
/-- R560, F+0x7.02. -/
abbrev Reg.INRUSH_TRIP (n : Nat) : Nat := (0x9107 + n * 0x10) * 256 + 2
/-- R560, F+0x8.01. -/
abbrev Reg.RETRY_COUNT (n : Nat) : Nat := (0x9108 + n * 0x10) * 256 + 1
/-- R560, F+0x8.02. -/
abbrev Reg.RETRY_INTERVAL (n : Nat) : Nat := (0x9108 + n * 0x10) * 256 + 2
/-- R560, F+0x8.03. -/
abbrev Reg.RETRY_CLEAR (n : Nat) : Nat := (0x9108 + n * 0x10) * 256 + 3
/-- R560, F+0x8.04. -/
abbrev Reg.RAIL_COOL (n : Nat) : Nat := (0x9108 + n * 0x10) * 256 + 4
/-- R560, F+0x9. -/
abbrev Reg.RAIL_STATE (n : Nat) : Nat := (0x9109 + n * 0x10) * 256 + 1
/-- R560, F+0xA. -/
abbrev Reg.RAIL_I_MA (n : Nat) : Nat := (0x910A + n * 0x10) * 256 + 1
/-- R560, F+0xB. -/
abbrev Reg.RAIL_HEAT (n : Nat) : Nat := (0x910B + n * 0x10) * 256 + 1
/-- R560, F+0xC. -/
abbrev Reg.RAIL_FLAGS (n : Nat) : Nat := (0x910C + n * 0x10) * 256 + 1
/-- R560, F+0xD. -/
abbrev Reg.RAIL_RETRIES (n : Nat) : Nat := (0x910D + n * 0x10) * 256 + 1
/-- R560, F+0xE.01. -/
abbrev Reg.RAIL_CNT_TRIP (n : Nat) : Nat := (0x910E + n * 0x10) * 256 + 1
/-- R560, F+0xE.02. -/
abbrev Reg.RAIL_CNT_INSTANT (n : Nat) : Nat := (0x910E + n * 0x10) * 256 + 2
/-- R560, F+0xE.03. -/
abbrev Reg.RAIL_CNT_RETRY (n : Nat) : Nat := (0x910E + n * 0x10) * 256 + 3
/-- R560, F+0xE.04. -/
abbrev Reg.RAIL_CNT_LOCKOUT (n : Nat) : Nat := (0x910E + n * 0x10) * 256 + 4
/-- R560, F+0xE.05. -/
abbrev Reg.RAIL_CNT_BOUNCE (n : Nat) : Nat := (0x910E + n * 0x10) * 256 + 5
/-- R560, F+0xF.01. -/
abbrev Reg.LT_CAUSE (n : Nat) : Nat := (0x910F + n * 0x10) * 256 + 1
/-- R560, F+0xF.02. -/
abbrev Reg.LT_MA (n : Nat) : Nat := (0x910F + n * 0x10) * 256 + 2
/-- R560, F+0xF.03. -/
abbrev Reg.LT_TICK (n : Nat) : Nat := (0x910F + n * 0x10) * 256 + 3
/-- R594, 0xA000. -/
abbrev Reg.FC_STATE : Nat := 0xA000 * 256 + 1
/-- R594, 0xA001. -/
abbrev Reg.FC_SAFE_CMD : Nat := 0xA001 * 256 + 1
/-- R594, 0xA002. -/
abbrev Reg.FC_SAFE_CAUSE : Nat := 0xA002 * 256 + 1
/-- R594, 0xA003. -/
abbrev Reg.FC_SAFE_TICK : Nat := 0xA003 * 256 + 1
/-- R594, 0xA004. -/
abbrev Reg.FC_ACK : Nat := 0xA004 * 256 + 1
/-- R594, 0xA005. -/
abbrev Reg.FC_UNISOLATE : Nat := 0xA005 * 256 + 1
/-- R594, .01. -/
abbrev Reg.FC_TIMER (n : Nat) : Nat := (0xA008 + n) * 256 + 1
/-- R594, .02. -/
abbrev Reg.FC_CEILING (n : Nat) : Nat := (0xA008 + n) * 256 + 2
/-- R594, 0xA010. -/
abbrev Reg.FF_RECORD : Nat := 0xA010 * 256 + 1
/-- R594, 0xA011. -/
abbrev Reg.FF_MIN_SEV : Nat := 0xA011 * 256 + 1
/-- R594, 0xA012. -/
abbrev Reg.FQ_POP : Nat := 0xA012 * 256 + 1
/-- R594, 0xA013. -/
abbrev Reg.FQ_PEEK : Nat := 0xA013 * 256 + 1
/-- R594, 0xA014. -/
abbrev Reg.FQ_COUNT : Nat := 0xA014 * 256 + 1
/-- R594, 0xA015. -/
abbrev Reg.FQ_LOST : Nat := 0xA015 * 256 + 1
/-- R594, 0xA016. -/
abbrev Reg.FQ_SEQ : Nat := 0xA016 * 256 + 1
/-- R594, 0xA018. -/
abbrev Reg.FC_SEND_SEV : Nat := 0xA018 * 256 + 1
/-- R594, 0xA019. -/
abbrev Reg.FC_DEST : Nat := 0xA019 * 256 + 1
/-- R594, 0xA01A. -/
abbrev Reg.FC_EV_SEV : Nat := 0xA01A * 256 + 1
/-- R594, 0xA01B. -/
abbrev Reg.FI_WIRE_FILTER : Nat := 0xA01B * 256 + 1
/-- R594, 0xA020. -/
abbrev Reg.ESC_SLOTS : Nat := 0xA020 * 256 + 1
/-- R594, 0xA021. -/
abbrev Reg.ESC_USED : Nat := 0xA021 * 256 + 1
/-- R594, 0xA022. -/
abbrev Reg.ISO_TABLE : Nat := 0xA022 * 256 + 1
/-- R594, 0xA023. -/
abbrev Reg.ISO_COUNT : Nat := 0xA023 * 256 + 1
/-- R594, 0xA024. -/
abbrev Reg.FC_RESET_CAUSE : Nat := 0xA024 * 256 + 1
/-- R594, 0xA028. -/
abbrev Reg.CNT_RECORDS : Nat := 0xA028 * 256 + 1
/-- R594, 0xA029. -/
abbrev Reg.CNT_STEP_ISO : Nat := 0xA029 * 256 + 1
/-- R594, 0xA02A. -/
abbrev Reg.CNT_STEP_SAFE : Nat := 0xA02A * 256 + 1
/-- R594, 0xA02B. -/
abbrev Reg.CNT_STEP_RESET : Nat := 0xA02B * 256 + 1
/-- R594, 0xA02C. -/
abbrev Reg.CNT_SAFE : Nat := 0xA02C * 256 + 1
/-- R594, 0xA02D. -/
abbrev Reg.CNT_SELF_CHECK : Nat := 0xA02D * 256 + 1
/-- R594, 0xA02E. -/
abbrev Reg.CNT_FAULT_RX : Nat := 0xA02E * 256 + 1
/-- R594, 0xA02F. -/
abbrev Reg.CNT_ISO_FULL : Nat := 0xA02F * 256 + 1
/-- R594, .01. -/
abbrev Reg.FCINJ_KIND : Nat := 0xA030 * 256 + 1
/-- R594, .02. -/
abbrev Reg.FCINJ_SOURCE : Nat := 0xA030 * 256 + 2
/-- R594, .03. -/
abbrev Reg.FCINJ_INSTANCE : Nat := 0xA030 * 256 + 3
/-- R594, .04. -/
abbrev Reg.FCINJ_CAUSE : Nat := 0xA030 * 256 + 4
/-- R594, .05. -/
abbrev Reg.FCINJ_PAIR : Nat := 0xA030 * 256 + 5
/-- R594, .06. -/
abbrev Reg.FCINJ_TICKS : Nat := 0xA030 * 256 + 6
/-- R594, .07. -/
abbrev Reg.FCINJ_NOESC : Nat := 0xA030 * 256 + 7
/-- R594, .08. -/
abbrev Reg.FCINJ_ARM : Nat := 0xA030 * 256 + 8
/-- R594, .09. -/
abbrev Reg.FCINJ_BUSY : Nat := 0xA030 * 256 + 9
/-- R595, .01. -/
abbrev Reg.FI_CFG (n : Nat) : Nat := (0xA100 + n) * 256 + 1
/-- R595, .02. -/
abbrev Reg.FI_FILTER (n : Nat) : Nat := (0xA100 + n) * 256 + 2
/-- R595, .03. -/
abbrev Reg.FI_ISO (n : Nat) : Nat := (0xA100 + n) * 256 + 3
/-- R595, .04. -/
abbrev Reg.FI_STATE (n : Nat) : Nat := (0xA100 + n) * 256 + 4
/-- R633, 0xB000+i. -/
abbrev Reg.TEMP (n : Nat) : Nat := (0xB000 + n) * 256 + 1
/-- R633, 0xB004. -/
abbrev Reg.TEMP_MAX : Nat := 0xB004 * 256 + 1
/-- R633, 0xB005. -/
abbrev Reg.TEMP_WARN : Nat := 0xB005 * 256 + 1
/-- R633, 0xB006. -/
abbrev Reg.TEMP_CRIT : Nat := 0xB006 * 256 + 1
/-- R633, 0xB008. -/
abbrev Reg.SENSOR_PERIOD : Nat := 0xB008 * 256 + 1
/-- R633, .01. -/
abbrev Reg.VM_MV (n : Nat) : Nat := (0xB010 + n) * 256 + 1
/-- R633, .02. -/
abbrev Reg.VM_LOW (n : Nat) : Nat := (0xB010 + n) * 256 + 2
/-- R633, .03. -/
abbrev Reg.VM_HIGH (n : Nat) : Nat := (0xB010 + n) * 256 + 3
/-- R633, .01. -/
abbrev Reg.SL_TEMP_MAX (n : Nat) : Nat := (0xB030 + n) * 256 + 1
/-- R633, .02. -/
abbrev Reg.SL_TX_MIN (n : Nat) : Nat := (0xB030 + n) * 256 + 2
/-- R633, .03. -/
abbrev Reg.SL_RX_MIN (n : Nat) : Nat := (0xB030 + n) * 256 + 3
/-- R633, .04. -/
abbrev Reg.SL_STATE (n : Nat) : Nat := (0xB030 + n) * 256 + 4
/-- R633, 0xB0F0. -/
abbrev Reg.HEATHER_STATE : Nat := 0xB0F0 * 256 + 1
/-- R633, 0xB0F1. -/
abbrev Reg.CNT_WDT : Nat := 0xB0F1 * 256 + 1
/-- R633, 0xB0F2. -/
abbrev Reg.CNT_HTR_CORR : Nat := 0xB0F2 * 256 + 1
/-- R633, 0xB0F3. -/
abbrev Reg.CNT_HTR_UNCORR : Nat := 0xB0F3 * 256 + 1
/-- R634, 0xB100. -/
abbrev Reg.LOG_RAM_BASE : Nat := 0xB100 * 256 + 1
/-- R634, 0xB101. -/
abbrev Reg.LOG_RAM_SIZE : Nat := 0xB101 * 256 + 1
/-- R634, 0xB102. -/
abbrev Reg.LOG_RAM_WR : Nat := 0xB102 * 256 + 1
/-- R634, 0xB103. -/
abbrev Reg.LOG_SEQ_NEXT : Nat := 0xB103 * 256 + 1
/-- R634, 0xB104. -/
abbrev Reg.LOG_MIN_SEV : Nat := 0xB104 * 256 + 1
/-- R634, 0xB105. -/
abbrev Reg.LOG_AUDIT : Nat := 0xB105 * 256 + 1
/-- R634, 0xB106. -/
abbrev Reg.LOG_FLUSH : Nat := 0xB106 * 256 + 1
/-- R634, 0xB107. -/
abbrev Reg.LOG_FLASH_OLDEST : Nat := 0xB107 * 256 + 1
/-- R634, 0xB108. -/
abbrev Reg.LOG_FLASH_NEWEST : Nat := 0xB108 * 256 + 1
/-- R634, 0xB109. -/
abbrev Reg.LOG_FLASH_SEL : Nat := 0xB109 * 256 + 1
/-- R634, 0xB10A. -/
abbrev Reg.LOG_FLASH_DATA : Nat := 0xB10A * 256 + 1
/-- R634, 0xB10B. -/
abbrev Reg.LOG_ERASE : Nat := 0xB10B * 256 + 1
/-- R634, 0xB10C. -/
abbrev Reg.CNT_LOG_LOST : Nat := 0xB10C * 256 + 1
/-- R634, 0xB10D. -/
abbrev Reg.CNT_LOG_PAGES : Nat := 0xB10D * 256 + 1
/-- R635, 0xB200. -/
abbrev Reg.FW_RUNNING : Nat := 0xB200 * 256 + 1
/-- R635, 0xB201. -/
abbrev Reg.SLOT_STATE_A : Nat := 0xB201 * 256 + 1
/-- R635, 0xB202. -/
abbrev Reg.SLOT_STATE_B : Nat := 0xB202 * 256 + 1
/-- R635, 0xB203. -/
abbrev Reg.FW_VERSION_A : Nat := 0xB203 * 256 + 1
/-- R635, 0xB204. -/
abbrev Reg.FW_VERSION_B : Nat := 0xB204 * 256 + 1
/-- R635, 0xB205. -/
abbrev Reg.ROLLBACK_FUSE : Nat := 0xB205 * 256 + 1
/-- R635, 0xB206. -/
abbrev Reg.UPD_ALLOW : Nat := 0xB206 * 256 + 1
/-- R635, .01. -/
abbrev Reg.UT_ID : Nat := 0xB207 * 256 + 1
/-- R635, .02. -/
abbrev Reg.UT_SOURCE : Nat := 0xB207 * 256 + 2
/-- R635, .03. -/
abbrev Reg.UT_CHUNKS : Nat := 0xB207 * 256 + 3
/-- R635, .04. -/
abbrev Reg.UT_RECEIVED : Nat := 0xB207 * 256 + 4
/-- R635, .05. -/
abbrev Reg.UT_RESULT : Nat := 0xB207 * 256 + 5
/-- R635, 0xB208. -/
abbrev Reg.UPD_CMD : Nat := 0xB208 * 256 + 1
/-- R635, 0xB209. -/
abbrev Reg.CONFIRM_TIME : Nat := 0xB209 * 256 + 1
/-- R635, 0xB20A. -/
abbrev Reg.CONFIRM_LEFT : Nat := 0xB20A * 256 + 1
/-- R635, 0xB20B. -/
abbrev Reg.CNT_UPD_CHUNK : Nat := 0xB20B * 256 + 1
/-- R635, 0xB20C. -/
abbrev Reg.CNT_UPD_REFUSED : Nat := 0xB20C * 256 + 1
/-- R635, 0xB20D. -/
abbrev Reg.CNT_REVERT : Nat := 0xB20D * 256 + 1
/-- R636, 0xB300. -/
abbrev Reg.ST_BG_ENABLE : Nat := 0xB300 * 256 + 1
/-- R636, 0xB301. -/
abbrev Reg.ST_BG_ALG : Nat := 0xB301 * 256 + 1
/-- R636, 0xB302. -/
abbrev Reg.ST_BG_GAP : Nat := 0xB302 * 256 + 1
/-- R636, .01. -/
abbrev Reg.SW_COUNT : Nat := 0xB303 * 256 + 1
/-- R636, .02. -/
abbrev Reg.SWEEP_BANKS : Nat := 0xB303 * 256 + 2
/-- R636, .03. -/
abbrev Reg.SW_FAILED : Nat := 0xB303 * 256 + 3
/-- R636, .04. -/
abbrev Reg.SW_SKIPPED : Nat := 0xB303 * 256 + 4
/-- R636, .05. -/
abbrev Reg.SW_LAST_END : Nat := 0xB303 * 256 + 5
/-- R636, .01. -/
abbrev Reg.RUN_BANKS : Nat := 0xB308 * 256 + 1
/-- R636, .02. -/
abbrev Reg.RUN_ALG : Nat := 0xB308 * 256 + 2
/-- R636, .03. -/
abbrev Reg.RUN_BG : Nat := 0xB308 * 256 + 3
/-- R636, .04. -/
abbrev Reg.RUN_CMD : Nat := 0xB308 * 256 + 4
/-- R636, .05. -/
abbrev Reg.RUN_STATE : Nat := 0xB308 * 256 + 5
/-- R636, .06. -/
abbrev Reg.RUN_RESULTS : Nat := 0xB308 * 256 + 6
/-- R636, 0xB310+l. -/
abbrev Reg.ST_LANE (n : Nat) : Nat := (0xB310 + n) * 256 + 1
/-- R636, 0xB318. -/
abbrev Reg.ST_LAST_FAIL : Nat := 0xB318 * 256 + 1
/-- R636, 0xB320. -/
abbrev Reg.CNT_ST_PASS : Nat := 0xB320 * 256 + 1
/-- R636, 0xB321. -/
abbrev Reg.CNT_ST_FAIL : Nat := 0xB321 * 256 + 1
/-- R636, 0xB322. -/
abbrev Reg.CNT_ST_ABORT : Nat := 0xB322 * 256 + 1
/-- R636, 0xB323. -/
abbrev Reg.CNT_ST_SKIP : Nat := 0xB323 * 256 + 1
/-- R656, 0x0100. -/
abbrev Reg.MODE : Nat := 0x100 * 256 + 1
/-- R656, 0x0101. -/
abbrev Reg.MODE_FLAGS : Nat := 0x101 * 256 + 1
/-- R656, 0x0102. -/
abbrev Reg.MODE_CMD : Nat := 0x102 * 256 + 1
/-- R656, 0x0103. -/
abbrev Reg.MODE_TICK : Nat := 0x103 * 256 + 1
/-- R656, 0x0104. -/
abbrev Reg.AUTO_START : Nat := 0x104 * 256 + 1
/-- R656, 0x0105. -/
abbrev Reg.LEAVE_ERRORS : Nat := 0x105 * 256 + 1
/-- R656, 0x0110. -/
abbrev Reg.RESET_CAUSE : Nat := 0x110 * 256 + 1
/-- R656, 0x0111. -/
abbrev Reg.RESET_CMD : Nat := 0x111 * 256 + 1
/-- R656, 0x0112. -/
abbrev Reg.RESET_COUNT : Nat := 0x112 * 256 + 1
/-- R656, 0x0113. -/
abbrev Reg.BOOT_TIME : Nat := 0x113 * 256 + 1
/-- R656, 0x0120. -/
abbrev Reg.STRAPS : Nat := 0x120 * 256 + 1
/-- R656, 0x0130. -/
abbrev Reg.LC_STATE : Nat := 0x130 * 256 + 1
/-- R656, 0x0131. -/
abbrev Reg.LC_CMD : Nat := 0x131 * 256 + 1
/-- R656, 0x0132. -/
abbrev Reg.LC_RETURN : Nat := 0x132 * 256 + 1
/-- R656, 0x0133. -/
abbrev Reg.LC_RETURNS : Nat := 0x133 * 256 + 1
/-- R656, 0x0140. -/
abbrev Reg.CFG_CMD : Nat := 0x140 * 256 + 1
/-- R656, 0x0141.01. -/
abbrev Reg.CFG_COPY_IN_USE : Nat := 0x141 * 256 + 1
/-- R656, 0x0141.02. -/
abbrev Reg.CFG_GENERATION : Nat := 0x141 * 256 + 2
/-- R656, 0x0141.03. -/
abbrev Reg.CFG_SAVE_STATE : Nat := 0x141 * 256 + 3
/-- R656, 0x0141.04. -/
abbrev Reg.CFG_SKIPPED : Nat := 0x141 * 256 + 4
/-- R656, 0x0142. -/
abbrev Reg.CONFIG_RESULT : Nat := 0x142 * 256 + 1

/-- Objects of chapter 00, piece 0. -/
def objsIdentity0 : List ObjRow := [
  ⟨0x0, 0, 1, false, [⟨1, 1, .text, .ro, 0, 0, 0, 0, 0, 15, 0⟩]⟩,
  ⟨0x1, 0, 1, false, [⟨1, 1, .u16, .ro, 0, 0x1280, 0, 0, 0, 0, 0⟩]⟩,
  ⟨0x2, 0, 1, false, [⟨1, 1, .text, .ro, 0, 0, 0, 0, 0, 16, 0⟩]⟩,
  ⟨0x3, 0, 1, false, [⟨1, 1, .text, .ro, 0, 0, 0, 0, 0, 2, 0⟩]⟩,
  ⟨0x4, 0, 1, false, [⟨1, 1, .octets, .ro, 0, 0, 0, 0, 0, 16, 0⟩]⟩,
  ⟨0x5, 0, 1, false, [⟨1, 1, .u16, .ro, 0, 0x100, 0, 0, 0, 0, 0⟩]⟩,
  ⟨0x10, 0, 1, false, [⟨1, 1, .u8, .ro, 0, 4, 0, 0, 0, 0, 0⟩]⟩,
  ⟨0x11, 0, 1, false, [⟨1, 1, .u32, .ro, 0, 0x2710, 0, 0, 0, 0, 0⟩]⟩,
  ⟨0x12, 0, 1, false, [⟨1, 1, .bool, .ro, 0, 1, 0, 0, 0, 0, 0⟩]⟩,
  ⟨0x13, 0, 1, false, [⟨1, 1, .bool, .ro, 0, 1, 0, 0, 0, 0, 0⟩]⟩,
  ⟨0x20, 0, 1, false, [⟨1, 1, .u16, .ro, 0, 0x80, 0, 0, 0, 0, 0⟩]⟩,
  ⟨0x21, 0, 1, false, [⟨1, 1, .u8, .ro, 0, 0x20, 0, 0, 0, 0, 0⟩]⟩,
  ⟨0x22, 0, 1, false, [⟨1, 1, .u8, .ro, 0, 0x40, 0, 0, 0, 0, 0⟩]⟩,
  ⟨0x23, 0, 1, false, [⟨1, 1, .u8, .ro, 0, 0x20, 0, 0, 0, 0, 0⟩]⟩,
  ⟨0x24, 0, 1, false, [⟨1, 1, .u8, .ro, 0, 0x20, 0, 0, 0, 0, 0⟩]⟩,
  ⟨0x25, 0, 1, false, [⟨1, 1, .u8, .ro, 0, 0x10, 0, 0, 0, 0, 0⟩]⟩,
  ⟨0x30, 0, 1, false, [⟨1, 1, .u8, .ro, 0, 0x40, 0, 0, 0, 0, 0⟩]⟩,
  ⟨0x31, 0, 1, false, [⟨1, 1, .u32, .ro, 0, 0x10000, 0, 0, 0, 0, 0⟩]⟩,
  ⟨0x32, 0, 1, false, [⟨1, 1, .u8, .ro, 0, 2, 0, 0, 0, 0, 0⟩]⟩,
  ⟨0x33, 0, 1, false, [⟨1, 1, .u16, .ro, 0, 0x4000, 0, 0, 0, 0, 0⟩]⟩,
  ⟨0x34, 0, 1, false, [⟨1, 1, .u32, .ro, 0, 0x10000, 0, 0, 0, 0, 0⟩]⟩,
  ⟨0x35, 0, 1, false, [⟨1, 1, .u16, .ro, 0, 0x400, 0, 0, 0, 0, 0⟩]⟩,
  ⟨0x36, 0, 1, false, [⟨1, 1, .u16, .ro, 0, 0x100, 0, 0, 0, 0, 0⟩]⟩,
  ⟨0x37, 0, 1, false, [⟨1, 1, .u8, .ro, 0, 0x10, 0, 0, 0, 0, 0⟩]⟩]

/-- Objects of chapter 02, piece 0. -/
def objsDict0 : List ObjRow := [
  ⟨0x210, 0, 1, false, [⟨1, 1, .octets, .wo, 2, 0, 0, 0, 0, 8, 8⟩]⟩,
  ⟨0x211, 0, 1, false, [⟨1, 1, .octets, .wo, 2, 0, 0, 0, 0, 8, 8⟩]⟩,
  ⟨0x212, 0, 1, false, [⟨1, 1, .octets, .wo, 3, 0, 0, 0, 0, 8, 8⟩]⟩,
  ⟨0x213, 0, 1, false, [⟨1, 1, .u8, .ro, 0, 4, 0, 0, 0, 0, 0⟩]⟩,
  ⟨0x220, 0, 1, false, [⟨1, 1, .u8, .ro, 0, 0x20, 0, 0, 0, 0, 0⟩]⟩,
  ⟨0x221, 0, 1, false, [⟨1, 1, .u8, .ro, 0, 0, 0, 0, 0, 0, 0⟩]⟩,
  ⟨0x222, 0, 1, false, [⟨1, 1, .u16, .rw, 2, 0x3C, 1, 3600, 0, 0, 0⟩]⟩,
  ⟨0x223, 0, 1, true, [⟨1, 32, .u64, .ro, 1, 0, 0, 0, 0, 0, 0⟩]⟩,
  ⟨0x224, 0, 1, false, [⟨1, 1, .u8, .rw, 2, 5, 1, 20, 0, 0, 0⟩]⟩,
  ⟨0x225, 0, 1, false, [⟨1, 1, .u16, .rw, 2, 0x3C, 10, 3600, 0, 0, 0⟩]⟩,
  ⟨0x226, 0, 1, false, [⟨1, 1, .u16, .ro, 0, 0, 0, 0, 0, 0, 0⟩]⟩,
  ⟨0x230, 0, 1, false, [⟨1, 1, .u8, .ro, 0, 4, 0, 0, 0, 0, 0⟩]⟩,
  ⟨0x231, 0, 1, false, [⟨1, 1, .u8, .ro, 0, 0, 0, 0, 0, 0, 0⟩]⟩,
  ⟨0x232, 0, 1, false, [⟨1, 1, .u32, .rw, 2, 0x64, 1, 10000, 0, 0, 0⟩]⟩,
  ⟨0x233, 0, 1, false, [⟨1, 1, .u32, .rw, 2, 0x7530, 1000, 600000, 0, 0, 0⟩]⟩,
  ⟨0x234, 0, 1, false, [⟨1, 1, .u8, .ro, 0, 4, 0, 0, 0, 0, 0⟩]⟩,
  ⟨0x235, 0, 1, false, [⟨1, 1, .u8, .ro, 0, 0x40, 0, 0, 0, 0, 0⟩]⟩,
  ⟨0x240, 0, 1, false, [⟨1, 1, .u32, .rc, 1, 0, 0, 0, 0, 0, 0⟩]⟩,
  ⟨0x241, 0, 1, false, [⟨1, 1, .u32, .rc, 1, 0, 0, 0, 0, 0, 0⟩]⟩,
  ⟨0x242, 0, 1, false, [⟨1, 1, .u32, .rc, 1, 0, 0, 0, 0, 0, 0⟩]⟩,
  ⟨0x243, 0, 1, false, [⟨1, 1, .u32, .rc, 1, 0, 0, 0, 0, 0, 0⟩]⟩,
  ⟨0x244, 0, 1, false, [⟨1, 1, .u32, .rc, 1, 0, 0, 0, 0, 0, 0⟩]⟩,
  ⟨0x245, 0, 1, false, [⟨1, 1, .u32, .rc, 1, 0, 0, 0, 0, 0, 0⟩]⟩,
  ⟨0x246, 0, 1, false, [⟨1, 1, .u32, .rc, 1, 0, 0, 0, 0, 0, 0⟩]⟩]

/-- Objects of chapter 02, piece 1. -/
def objsDict1 : List ObjRow := [
  ⟨0x247, 0, 1, false, [⟨1, 1, .u32, .rc, 1, 0, 0, 0, 0, 0, 0⟩]⟩,
  ⟨0x249, 0, 1, true, [⟨1, 1, .u8, .ro, 1, 0, 0, 0, 0, 0, 0⟩,
    ⟨2, 2, .u8, .ro, 1, 0, 0, 0, 0, 0, 0⟩,
    ⟨3, 3, .u16, .ro, 1, 0, 0, 0, 0, 0, 0⟩,
    ⟨4, 4, .u8, .ro, 1, 0, 0, 0, 0, 0, 0⟩,
    ⟨5, 5, .u16, .ro, 1, 0, 0, 0, 0, 0, 0⟩,
    ⟨6, 6, .tick, .ro, 1, 0, 0, 0, 0, 0, 0⟩]⟩]

/-- Objects of chapter 03, piece 0. -/
def objsRing0 : List ObjRow := [
  ⟨0x1000, 0x10, 4, false, [⟨1, 1, .bool, .rwc, 2, 0, 0, 1, 0, 0, 0⟩]⟩,
  ⟨0x1001, 0x10, 4, false, [⟨1, 1, .u8, .ro, 0, 0, 0, 0, 0, 0, 0⟩]⟩,
  ⟨0x1002, 0x10, 4, false, [⟨1, 1, .u16, .ro, 0, 0xFFFF, 0, 0, 0, 0, 0⟩]⟩,
  ⟨0x1003, 0x10, 4, false, [⟨1, 1, .u8, .ro, 0, 0xFF, 0, 0, 0, 0, 0⟩]⟩,
  ⟨0x1004, 0x10, 4, false, [⟨1, 1, .u8, .rwc, 2, 0, 0, 255, 0x3, 0, 0⟩]⟩,
  ⟨0x1005, 0x10, 4, false, [⟨1, 1, .u8, .ro, 0, 0, 0, 0, 0, 0, 0⟩]⟩,
  ⟨0x1006, 0x10, 4, false, [⟨1, 1, .octets, .ro, 0, 0, 0, 0, 0, 96, 0⟩]⟩,
  ⟨0x1007, 0x10, 4, false, [⟨1, 1, .octets, .ro, 0, 0, 0, 0, 0, 22, 0⟩]⟩,
  ⟨0x1008, 0x10, 4, false, [⟨1, 1, .u32, .rc, 1, 0, 0, 0, 0, 0, 0⟩]⟩,
  ⟨0x1009, 0x10, 4, false, [⟨1, 1, .u32, .rc, 1, 0, 0, 0, 0, 0, 0⟩]⟩,
  ⟨0x100A, 0x10, 4, false, [⟨1, 1, .u32, .rc, 1, 0, 0, 0, 0, 0, 0⟩]⟩,
  ⟨0x100B, 0x10, 4, false, [⟨1, 1, .u32, .rc, 1, 0, 0, 0, 0, 0, 0⟩]⟩,
  ⟨0x100C, 0x10, 4, false, [⟨1, 1, .u32, .rc, 1, 0, 0, 0, 0, 0, 0⟩]⟩,
  ⟨0x100D, 0x10, 4, false, [⟨1, 1, .u32, .rc, 1, 0, 0, 0, 0, 0, 0⟩]⟩,
  ⟨0x100E, 0x10, 4, false, [⟨1, 1, .u32, .rc, 1, 0, 0, 0, 0, 0, 0⟩]⟩,
  ⟨0x100F, 0x10, 4, false, [⟨1, 1, .tick, .ro, 0, 0, 0, 0, 0, 0, 0⟩]⟩,
  ⟨0x1080, 0, 1, false, [⟨1, 1, .u8, .rwc, 2, 0, 0, 1, 0, 0, 0⟩]⟩,
  ⟨0x1081, 0, 1, false, [⟨1, 1, .u8, .rwc, 2, 0, 0, 1, 0, 0, 0⟩]⟩,
  ⟨0x1082, 0, 1, false, [⟨1, 1, .u16, .rw, 2, 0xA, 1, 1000, 0, 0, 0⟩]⟩,
  ⟨0x1083, 0, 1, false, [⟨1, 1, .u8, .rw, 2, 0x14, 0, 45, 0, 0, 0⟩]⟩,
  ⟨0x1084, 0, 1, false, [⟨1, 1, .u16, .rw, 2, 0x3E8, 0, 60000, 0, 0, 0⟩]⟩,
  ⟨0x1085, 0, 1, false, [⟨1, 1, .u16, .rw, 2, 0x7D0, 100, 60000, 0, 0, 0⟩]⟩,
  ⟨0x1086, 0, 1, false, [⟨1, 1, .u16, .rw, 2, 0x3E8, 100, 60000, 0, 0, 0⟩]⟩,
  ⟨0x1087, 0, 1, false, [⟨1, 1, .u8, .ro, 0, 4, 0, 0, 0, 0, 0⟩]⟩]

/-- Objects of chapter 03, piece 1. -/
def objsRing1 : List ObjRow := [
  ⟨0x1088, 0, 1, false, [⟨1, 1, .u32, .rc, 1, 0, 0, 0, 0, 0, 0⟩]⟩,
  ⟨0x1089, 0, 1, false, [⟨1, 1, .u32, .rc, 1, 0, 0, 0, 0, 0, 0⟩]⟩,
  ⟨0x1100, 0, 1, false, [⟨1, 1, .u16, .ro, 0, 0xFFFF, 0, 0, 0, 0, 0⟩]⟩,
  ⟨0x1101, 0, 1, false, [⟨1, 1, .u8, .ro, 0, 0, 0, 0, 0, 0, 0⟩]⟩,
  ⟨0x1102, 0, 1, false, [⟨1, 1, .u8, .rwc, 2, 0, 0, 63, 0, 0, 0⟩]⟩,
  ⟨0x1103, 0, 1, false, [⟨1, 1, .u16, .ro, 0, 0, 0, 0, 0, 0, 0⟩]⟩,
  ⟨0x1104, 0, 1, false, [⟨1, 1, .u16, .rwc, 2, 0x200, 0, 1022, 0, 0, 0⟩]⟩,
  ⟨0x1105, 0, 1, false, [⟨1, 1, .u8, .rwc, 2, 0, 0, 1, 0, 0, 0⟩]⟩,
  ⟨0x1106, 0, 1, false, [⟨1, 1, .u8, .rwc, 2, 0, 0, 63, 0, 0, 0⟩]⟩,
  ⟨0x1107, 0, 1, false, [⟨1, 1, .u16, .rwc, 2, 0x3FF, 0, 1023, 0, 0, 0⟩]⟩,
  ⟨0x1108, 0, 1, false, [⟨1, 1, .u16, .ro, 0, 0xFFFF, 0, 0, 0, 0, 0⟩]⟩,
  ⟨0x1109, 0, 1, false, [⟨1, 1, .u8, .ro, 0, 0, 0, 0, 0, 0, 0⟩]⟩,
  ⟨0x1110, 0, 1, false, [⟨1, 1, .u8, .ro, 0, 0, 0, 0, 0, 0, 0⟩]⟩,
  ⟨0x1111, 0, 1, false, [⟨1, 1, .u16, .ro, 0, 0, 0, 0, 0, 0, 0⟩]⟩,
  ⟨0x1112, 0, 1, false, [⟨1, 1, .u16, .ro, 0, 0xFFFF, 0, 0, 0, 0, 0⟩]⟩,
  ⟨0x1113, 0, 1, false, [⟨1, 1, .u16, .ro, 0, 0, 0, 0, 0, 0, 0⟩]⟩,
  ⟨0x1114, 0, 1, false, [⟨1, 1, .tick, .ro, 0, 0, 0, 0, 0, 0, 0⟩]⟩,
  ⟨0x1115, 0, 1, false, [⟨1, 1, .addr, .ro, 0, 0x310000, 0, 0, 0, 0, 0⟩]⟩,
  ⟨0x1116, 0, 1, false, [⟨1, 1, .addr, .ro, 0, 0x320000, 0, 0, 0, 0, 0⟩]⟩,
  ⟨0x1117, 0, 1, false, [⟨1, 1, .bool, .wo, 1, 0, 0, 1, 0, 0, 0⟩]⟩,
  ⟨0x1118, 0, 1, false, [⟨1, 1, .u32, .rw, 2, 0x4E20, 1000, 1000000, 0, 0, 0⟩]⟩,
  ⟨0x1119, 0, 1, false, [⟨1, 1, .u16, .rw, 2, 0x32, 10, 1000, 0, 0, 0⟩]⟩,
  ⟨0x111A, 0, 1, false, [⟨1, 1, .u32, .rc, 1, 0, 0, 0, 0, 0, 0⟩]⟩,
  ⟨0x111B, 0, 1, false, [⟨1, 1, .u32, .rc, 1, 0, 0, 0, 0, 0, 0⟩]⟩]

/-- Objects of chapter 03, piece 2. -/
def objsRing2 : List ObjRow := [
  ⟨0x111C, 0, 1, false, [⟨1, 1, .u32, .rc, 1, 0, 0, 0, 0, 0, 0⟩]⟩,
  ⟨0x111D, 0, 1, false, [⟨1, 1, .u32, .rc, 1, 0, 0, 0, 0, 0, 0⟩]⟩,
  ⟨0x111E, 0, 1, false, [⟨1, 1, .u32, .rc, 1, 0, 0, 0, 0, 0, 0⟩]⟩,
  ⟨0x111F, 0, 1, false, [⟨1, 1, .u32, .rc, 1, 0, 0, 0, 0, 0, 0⟩]⟩,
  ⟨0x1120, 0, 1, false, [⟨1, 1, .octets, .rwc, 2, 0, 0, 0, 0, 128, 128⟩]⟩,
  ⟨0x1121, 0, 1, false, [⟨1, 1, .octets, .rwc, 2, 0, 0, 0, 0, 128, 128⟩]⟩,
  ⟨0x1130, 0, 1, false, [⟨1, 1, .u32, .ro, 0, 0x40000, 0, 0, 0, 0, 0⟩]⟩,
  ⟨0x1131, 0, 1, false, [⟨1, 1, .u32, .rw, 2, 0xE10, 1, 86400, 0, 0, 0⟩]⟩,
  ⟨0x1132, 0, 1, false, [⟨1, 1, .u32, .rw, 2, 0x258, 1, 86400, 0, 0, 0⟩]⟩,
  ⟨0x1133, 0, 1, false, [⟨1, 1, .u32, .rw, 2, 0x15180, 1, 604800, 0, 0, 0⟩]⟩,
  ⟨0x1134, 0, 1, false, [⟨1, 1, .u16, .rw, 2, 0xA, 1, 600, 0, 0, 0⟩]⟩,
  ⟨0x1135, 0, 1, false, [⟨1, 1, .u16, .rw, 2, 0x3C, 3, 3600, 0, 0, 0⟩]⟩,
  ⟨0x1136, 0, 1, false, [⟨1, 1, .u32, .ro, 0, 0, 0, 0, 0, 0, 0⟩]⟩,
  ⟨0x1137, 0, 1, false, [⟨1, 1, .u32, .ro, 0, 0, 0, 0, 0, 0, 0⟩]⟩,
  ⟨0x1138, 0, 1, false, [⟨1, 1, .u32, .ro, 0, 0, 0, 0, 0, 0, 0⟩]⟩,
  ⟨0x1140, 0x10, 8, false, [⟨1, 1, .u8, .rwc, 2, 0xFF, 0, 127, 0, 0, 0⟩]⟩,
  ⟨0x1141, 0x10, 8, false, [⟨1, 1, .u16, .rwc, 2, 0xFFFF, 0, 65535, 0, 0, 0⟩]⟩,
  ⟨0x1142, 0x10, 8, false, [⟨1, 1, .u64, .rwc, 2, 0, 0, 18446744073709551615, 0, 0, 0⟩]⟩,
  ⟨0x1143, 0x10, 8, false, [⟨1, 1, .u8, .ro, 0, 0, 0, 0, 0, 0, 0⟩]⟩,
  ⟨0x1144, 0x10, 8, false, [⟨1, 1, .u16, .rw, 2, 0xBB8, 200, 60000, 0, 0, 0⟩]⟩,
  ⟨0x1145, 0x10, 8, false, [⟨1, 1, .u8, .rw, 2, 8, 1, 32, 0, 0, 0⟩]⟩,
  ⟨0x1146, 0x10, 8, false, [⟨1, 1, .bool, .rw, 2, 1, 0, 1, 0, 0, 0⟩]⟩,
  ⟨0x1147, 0x10, 8, false, [⟨1, 1, .u32, .ro, 0, 0, 0, 0, 0, 0, 0⟩]⟩,
  ⟨0x1148, 0x10, 8, false, [⟨1, 1, .u32, .rc, 1, 0, 0, 0, 0, 0, 0⟩]⟩]

/-- Objects of chapter 03, piece 3. -/
def objsRing3 : List ObjRow := [
  ⟨0x1149, 0x10, 8, false, [⟨1, 1, .u32, .rc, 1, 0, 0, 0, 0, 0, 0⟩]⟩,
  ⟨0x114A, 0x10, 8, false, [⟨1, 1, .u32, .rc, 1, 0, 0, 0, 0, 0, 0⟩]⟩,
  ⟨0x114B, 0x10, 8, false, [⟨1, 1, .u32, .rc, 1, 0, 0, 0, 0, 0, 0⟩]⟩,
  ⟨0x114C, 0x10, 8, false, [⟨1, 1, .u32, .rc, 1, 0, 0, 0, 0, 0, 0⟩]⟩,
  ⟨0x114D, 0x10, 8, false, [⟨1, 1, .u32, .rc, 1, 0, 0, 0, 0, 0, 0⟩]⟩,
  ⟨0x114E, 0x10, 8, false, [⟨1, 1, .u32, .rc, 1, 0, 0, 0, 0, 0, 0⟩]⟩,
  ⟨0x114F, 0x10, 8, false, [⟨1, 1, .u32, .rc, 1, 0, 0, 0, 0, 0, 0⟩]⟩]

/-- Objects of chapter 04, piece 0. -/
def objsForward0 : List ObjRow := [
  ⟨0x1200, 0, 1, false, [⟨1, 1, .bool, .rwc, 2, 1, 0, 1, 0, 0, 0⟩]⟩,
  ⟨0x1201, 0, 1, false, [⟨1, 1, .u8, .rw, 2, 8, 1, 63, 0, 0, 0⟩]⟩,
  ⟨0x1202, 0, 1, false, [⟨1, 1, .u32, .rw, 2, 0x3E8, 0, 100000, 0, 0, 0⟩]⟩,
  ⟨0x1203, 0, 1, false, [⟨1, 1, .u16, .rw, 2, 0x3E8, 10, 60000, 0, 0, 0⟩]⟩,
  ⟨0x1204, 0, 1, false, [⟨1, 1, .u16, .ro, 0, 0x1000, 0, 0, 0, 0, 0⟩]⟩,
  ⟨0x1205, 0, 1, false, [⟨1, 1, .u16, .ro, 0, 0, 0, 0, 0, 0, 0⟩]⟩,
  ⟨0x1209, 0, 1, false, [⟨1, 1, .u32, .rw, 2, 0x2710, 100, 100000000, 0, 0, 0⟩]⟩,
  ⟨0x120A, 0, 1, false, [⟨1, 1, .u32, .rw, 2, 0x3E8, 100, 100000000, 0, 0, 0⟩]⟩,
  ⟨0x120B, 0, 1, false, [⟨1, 1, .u32, .rw, 2, 0x186A0, 100, 100000000, 0, 0, 0⟩]⟩,
  ⟨0x120C, 0, 1, false, [⟨1, 1, .u32, .rw, 2, 0xF4240, 100, 100000000, 0, 0, 0⟩]⟩,
  ⟨0x120D, 0, 1, false, [⟨1, 1, .u32, .rw, 2, 0x2710, 100, 100000000, 0, 0, 0⟩]⟩,
  ⟨0x120E, 0, 1, false, [⟨1, 1, .u32, .rw, 2, 0x989680, 100, 100000000, 0, 0, 0⟩]⟩,
  ⟨0x120F, 0, 1, false, [⟨1, 1, .u32, .rw, 2, 0x186A0, 100, 100000000, 0, 0, 0⟩]⟩,
  ⟨0x1250, 0, 1, false, [⟨1, 1, .u32, .rc, 1, 0, 0, 0, 0, 0, 0⟩]⟩,
  ⟨0x1251, 0, 1, false, [⟨1, 1, .u32, .rc, 1, 0, 0, 0, 0, 0, 0⟩]⟩,
  ⟨0x1252, 0, 1, false, [⟨1, 1, .u32, .rc, 1, 0, 0, 0, 0, 0, 0⟩]⟩,
  ⟨0x1253, 0, 1, false, [⟨1, 1, .u32, .rc, 1, 0, 0, 0, 0, 0, 0⟩]⟩,
  ⟨0x1254, 0, 1, false, [⟨1, 1, .u32, .rc, 1, 0, 0, 0, 0, 0, 0⟩]⟩,
  ⟨0x1258, 0, 1, true, [⟨1, 1, .u8, .ro, 1, 0xFF, 0, 0, 0, 0, 0⟩,
    ⟨2, 2, .u8, .ro, 1, 0, 0, 0, 0, 0, 0⟩,
    ⟨3, 3, .u16, .ro, 1, 0xFFFF, 0, 0, 0, 0, 0⟩,
    ⟨4, 4, .u16, .ro, 1, 0, 0, 0, 0, 0, 0⟩,
    ⟨5, 5, .u16, .ro, 1, 0, 0, 0, 0, 0, 0⟩,
    ⟨6, 6, .tick, .ro, 1, 0, 0, 0, 0, 0, 0⟩]⟩,
  ⟨0x1210, 0x10, 4, false, [⟨1, 1, .u32, .rc, 1, 0, 0, 0, 0, 0, 0⟩]⟩,
  ⟨0x1211, 0x10, 4, false, [⟨1, 1, .u32, .rc, 1, 0, 0, 0, 0, 0, 0⟩]⟩,
  ⟨0x1212, 0x10, 4, false, [⟨1, 1, .u32, .rc, 1, 0, 0, 0, 0, 0, 0⟩]⟩,
  ⟨0x1213, 0x10, 4, false, [⟨1, 1, .u32, .rc, 1, 0, 0, 0, 0, 0, 0⟩]⟩,
  ⟨0x1214, 0x10, 4, false, [⟨1, 1, .u32, .rc, 1, 0, 0, 0, 0, 0, 0⟩]⟩]

/-- Objects of chapter 04, piece 1. -/
def objsForward1 : List ObjRow := [
  ⟨0x1215, 0x10, 4, false, [⟨1, 1, .u32, .rc, 1, 0, 0, 0, 0, 0, 0⟩]⟩,
  ⟨0x1216, 0x10, 4, false, [⟨1, 1, .u32, .rc, 1, 0, 0, 0, 0, 0, 0⟩]⟩,
  ⟨0x1217, 0x10, 4, false, [⟨1, 1, .u32, .rc, 1, 0, 0, 0, 0, 0, 0⟩]⟩,
  ⟨0x1218, 0x10, 4, false, [⟨1, 1, .u32, .rc, 1, 0, 0, 0, 0, 0, 0⟩]⟩,
  ⟨0x1219, 0x10, 4, false, [⟨1, 1, .u32, .rc, 1, 0, 0, 0, 0, 0, 0⟩]⟩,
  ⟨0x121A, 0x10, 4, false, [⟨1, 1, .u32, .rc, 1, 0, 0, 0, 0, 0, 0⟩]⟩,
  ⟨0x121B, 0x10, 4, false, [⟨1, 1, .u32, .rc, 1, 0, 0, 0, 0, 0, 0⟩]⟩,
  ⟨0x121C, 0x10, 4, false, [⟨1, 1, .u32, .rc, 1, 0, 0, 0, 0, 0, 0⟩]⟩,
  ⟨0x121D, 0x10, 4, false, [⟨1, 1, .u32, .rc, 1, 0, 0, 0, 0, 0, 0⟩]⟩,
  ⟨0x121E, 0x10, 4, false, [⟨1, 1, .u32, .rc, 1, 0, 0, 0, 0, 0, 0⟩]⟩,
  ⟨0x121F, 0x10, 4, false, [⟨1, 1, .u8, .ro, 0, 0, 0, 0, 0, 0, 0⟩]⟩]

/-- Objects of chapter 05, piece 0. -/
def objsSwitch0 : List ObjRow := [
  ⟨0x1300, 0, 1, false, [⟨1, 1, .u8, .ro, 0, 0x10, 0, 0, 0, 0, 0⟩]⟩,
  ⟨0x1301, 0, 1, false, [⟨1, 1, .u8, .ro, 0, 0x40, 0, 0, 0, 0, 0⟩]⟩,
  ⟨0x1302, 0, 1, false, [⟨1, 1, .u8, .ro, 0, 8, 0, 0, 0, 0, 0⟩]⟩,
  ⟨0x1303, 0, 1, false, [⟨1, 1, .u8, .ro, 0, 0x20, 0, 0, 0, 0, 0⟩]⟩,
  ⟨0x1304, 0, 1, false, [⟨1, 1, .u32, .ro, 0, 0x8000, 0, 0, 0, 0, 0⟩]⟩,
  ⟨0x1305, 0, 1, false, [⟨1, 1, .u32, .ro, 0, 0x7A00, 0, 0, 0, 0, 0⟩]⟩,
  ⟨0x1306, 0, 1, false, [⟨1, 1, .u32, .ro, 0, 0x8000, 0, 0, 0, 0, 0⟩]⟩,
  ⟨0x1307, 0, 1, false, [⟨1, 1, .u32, .rw, 2, 0x64, 1, 10000, 0, 0, 0⟩]⟩,
  ⟨0x1308, 0, 1, false, [⟨1, 1, .u16, .ro, 0, 0x3E8, 0, 0, 0, 0, 0⟩]⟩,
  ⟨0x1309, 0, 1, false, [⟨1, 1, .u32, .rc, 1, 0, 0, 0, 0, 0, 0⟩]⟩,
  ⟨0x1310, 1, 16, true, [⟨1, 1, .u32, .ro, 0, 0, 0, 0, 0, 0, 0⟩,
    ⟨2, 8, .u32, .rw, 2, 0, 0, 4294967295, 0, 0, 0⟩]⟩,
  ⟨0x1320, 1, 16, true, [⟨1, 8, .u32, .ro, 0, 0, 0, 0, 0, 0, 0⟩]⟩,
  ⟨0x1330, 1, 16, true, [⟨1, 8, .u16, .ro, 0, 1, 0, 0, 0, 0, 0⟩]⟩,
  ⟨0x1340, 8, 16, false, [⟨1, 1, .u32, .rc, 1, 0, 0, 0, 0, 0, 0⟩]⟩,
  ⟨0x1341, 8, 16, false, [⟨1, 1, .u32, .rc, 1, 0, 0, 0, 0, 0, 0⟩]⟩,
  ⟨0x1342, 8, 16, false, [⟨1, 1, .u32, .rc, 1, 0, 0, 0, 0, 0, 0⟩]⟩,
  ⟨0x1343, 8, 16, false, [⟨1, 1, .u32, .rc, 1, 0, 0, 0, 0, 0, 0⟩]⟩,
  ⟨0x1344, 8, 16, false, [⟨1, 1, .u32, .rc, 1, 0, 0, 0, 0, 0, 0⟩]⟩]

/-- Objects of chapter 06, piece 0. -/
def objsIntegrity0 : List ObjRow := [
  ⟨0x1400, 0, 1, false, [⟨1, 1, .u32, .ro, 0, 0x1EDC6F41, 0, 0, 0, 0, 0⟩]⟩,
  ⟨0x1401, 0, 1, false, [⟨1, 1, .u32, .ro, 0, 0xE3069283, 0, 0, 0, 0, 0⟩]⟩,
  ⟨0x1402, 0, 1, false, [⟨1, 1, .u16, .rw, 2, 0x10, 1, 65535, 0, 0, 0⟩]⟩,
  ⟨0x1403, 0, 1, false, [⟨1, 1, .u8, .rw, 2, 1, 0, 255, 0x1, 0, 0⟩]⟩,
  ⟨0x1410, 0, 1, false, [⟨1, 1, .u32, .rc, 1, 0, 0, 0, 0, 0, 0⟩]⟩,
  ⟨0x1411, 0, 1, false, [⟨1, 1, .u32, .rc, 1, 0, 0, 0, 0, 0, 0⟩]⟩,
  ⟨0x1412, 0, 1, false, [⟨1, 1, .u32, .rc, 1, 0, 0, 0, 0, 0, 0⟩]⟩,
  ⟨0x1413, 0, 1, false, [⟨1, 1, .u32, .rc, 1, 0, 0, 0, 0, 0, 0⟩]⟩,
  ⟨0x1414, 0, 1, false, [⟨1, 1, .u32, .rc, 1, 0, 0, 0, 0, 0, 0⟩]⟩,
  ⟨0x1415, 0, 1, false, [⟨1, 1, .u32, .rc, 1, 0, 0, 0, 0, 0, 0⟩]⟩,
  ⟨0x1416, 0, 1, false, [⟨1, 1, .u32, .rc, 1, 0, 0, 0, 0, 0, 0⟩]⟩,
  ⟨0x1417, 0, 1, false, [⟨1, 1, .u32, .rc, 1, 0, 0, 0, 0, 0, 0⟩]⟩,
  ⟨0x1418, 0, 1, false, [⟨1, 1, .u32, .rc, 1, 0, 0, 0, 0, 0, 0⟩]⟩,
  ⟨0x1419, 0, 1, false, [⟨1, 1, .u32, .rc, 1, 0, 0, 0, 0, 0, 0⟩]⟩,
  ⟨0x141A, 0, 1, false, [⟨1, 1, .u32, .rc, 1, 0, 0, 0, 0, 0, 0⟩]⟩,
  ⟨0x141B, 0, 1, false, [⟨1, 1, .u32, .rc, 1, 0, 0, 0, 0, 0, 0⟩]⟩,
  ⟨0x1430, 0, 1, true, [⟨1, 1, .u8, .rw, 2, 0, 0, 255, 0, 0, 0⟩,
    ⟨2, 2, .u8, .rw, 2, 0, 0, 255, 0, 0, 0⟩,
    ⟨3, 3, .u16, .rw, 2, 1, 1, 65535, 0, 0, 0⟩,
    ⟨4, 4, .bool, .wo, 2, 0, 0, 1, 0, 0, 0⟩,
    ⟨5, 5, .u16, .ro, 0, 0, 0, 0, 0, 0, 0⟩,
    ⟨6, 6, .bool, .ro, 0, 0, 0, 0, 0, 0, 0⟩]⟩,
  ⟨0x1440, 0, 1, true, [⟨1, 1, .u8, .ro, 1, 0, 0, 0, 0, 0, 0⟩,
    ⟨2, 2, .u8, .ro, 1, 0, 0, 0, 0, 0, 0⟩,
    ⟨3, 3, .u16, .ro, 1, 0xFFFF, 0, 0, 0, 0, 0⟩,
    ⟨4, 4, .u16, .ro, 1, 0, 0, 0, 0, 0, 0⟩,
    ⟨5, 5, .u16, .ro, 1, 0, 0, 0, 0, 0, 0⟩,
    ⟨6, 6, .tick, .ro, 1, 0, 0, 0, 0, 0, 0⟩,
    ⟨7, 7, .bool, .ro, 1, 0, 0, 0, 0, 0, 0⟩]⟩,
  ⟨0x1420, 4, 4, false, [⟨1, 1, .u32, .rc, 1, 0, 0, 0, 0, 0, 0⟩]⟩,
  ⟨0x1421, 4, 4, false, [⟨1, 1, .u32, .rc, 1, 0, 0, 0, 0, 0, 0⟩]⟩,
  ⟨0x1422, 4, 4, false, [⟨1, 1, .u32, .rc, 1, 0, 0, 0, 0, 0, 0⟩]⟩,
  ⟨0x1423, 4, 4, false, [⟨1, 1, .u32, .rc, 1, 0, 0, 0, 0, 0, 0⟩]⟩]

/-- Objects of chapter 07, piece 0. -/
def objsTime0 : List ObjRow := [
  ⟨0x5000, 0, 1, false, [⟨1, 1, .time, .ro, 0, 0, 0, 0, 0, 0, 0⟩]⟩,
  ⟨0x5001, 0, 1, false, [⟨1, 1, .tick, .ro, 0, 0, 0, 0, 0, 0, 0⟩]⟩,
  ⟨0x5002, 0, 1, false, [⟨1, 1, .u8, .rwc, 2, 0, 0, 6, 0, 0, 0⟩]⟩,
  ⟨0x5003, 0, 1, false, [⟨1, 1, .u8, .ro, 0, 0, 0, 0, 0, 0, 0⟩]⟩,
  ⟨0x5004, 0, 1, false, [⟨1, 1, .bool, .ro, 0, 0, 0, 0, 0, 0, 0⟩]⟩,
  ⟨0x5005, 0, 1, false, [⟨1, 1, .time, .rwc, 2, 0, 0, 18446744073709551615, 0, 0, 0⟩]⟩,
  ⟨0x5006, 0, 1, false, [⟨1, 1, .u8, .rwc, 2, 0x80, 1, 255, 0, 0, 0⟩]⟩,
  ⟨0x5007, 0, 1, false, [⟨1, 1, .u16, .rwc, 2, 4, 1, 1000, 0, 0, 0⟩]⟩,
  ⟨0x5008, 0, 1, false, [⟨1, 1, .u16, .rw, 2, 0x32, 1, 200, 0, 0, 0⟩]⟩,
  ⟨0x5009, 0, 1, false, [⟨1, 1, .u32, .rw, 2, 0x64, 10, 100000, 0, 0, 0⟩]⟩,
  ⟨0x500A, 0, 1, false, [⟨1, 1, .u16, .ro, 0, 0xFFFF, 0, 0, 0, 0, 0⟩]⟩,
  ⟨0x500B, 0, 1, false, [⟨1, 1, .u8, .ro, 0, 0xFF, 0, 0, 0, 0, 0⟩]⟩,
  ⟨0x500C, 0, 1, false, [⟨1, 1, .u8, .ro, 0, 0xFF, 0, 0, 0, 0, 0⟩]⟩,
  ⟨0x500D, 0, 1, false, [⟨1, 1, .i64, .ro, 0, 0, 0, 0, 0, 0, 0⟩]⟩,
  ⟨0x500E, 0, 1, false, [⟨1, 1, .i32, .ro, 0, 0, 0, 0, 0, 0, 0⟩]⟩,
  ⟨0x500F, 0, 1, false, [⟨1, 1, .u16, .ro, 0, 0, 0, 0, 0, 0, 0⟩]⟩,
  ⟨0x5010, 0, 1, false, [⟨1, 1, .i64, .ro, 0, 0, 0, 0, 0, 0, 0⟩]⟩,
  ⟨0x5011, 0, 1, false, [⟨1, 1, .u32, .ro, 0, 0, 0, 0, 0, 0, 0⟩]⟩,
  ⟨0x5012, 0, 1, false, [⟨1, 1, .u8, .rwc, 2, 0, 0, 2, 0, 0, 0⟩]⟩,
  ⟨0x5013, 0, 1, false, [⟨1, 1, .u16, .rw, 2, 0x3E8, 125, 60000, 0, 0, 0⟩]⟩,
  ⟨0x5018, 0, 1, false, [⟨1, 1, .u32, .rc, 1, 0, 0, 0, 0, 0, 0⟩]⟩,
  ⟨0x5019, 0, 1, false, [⟨1, 1, .u32, .rc, 1, 0, 0, 0, 0, 0, 0⟩]⟩,
  ⟨0x501A, 0, 1, false, [⟨1, 1, .u32, .rc, 1, 0, 0, 0, 0, 0, 0⟩]⟩,
  ⟨0x501B, 0, 1, false, [⟨1, 1, .u32, .rc, 1, 0, 0, 0, 0, 0, 0⟩]⟩]

/-- Objects of chapter 07, piece 1. -/
def objsTime1 : List ObjRow := [
  ⟨0x501C, 0, 1, false, [⟨1, 1, .u32, .rc, 1, 0, 0, 0, 0, 0, 0⟩]⟩,
  ⟨0x501D, 0, 1, false, [⟨1, 1, .u32, .rc, 1, 0, 0, 0, 0, 0, 0⟩]⟩,
  ⟨0x5040, 0, 1, false, [⟨1, 1, .bool, .rwc, 2, 0, 0, 1, 0, 0, 0⟩]⟩,
  ⟨0x5041, 0, 1, false, [⟨1, 1, .i32, .rw, 2, 0, -1000000, 1000000, 0, 0, 0⟩]⟩,
  ⟨0x5042, 0, 1, false, [⟨1, 1, .u32, .rw, 2, 0x3E8, 100, 100000, 0, 0, 0⟩]⟩,
  ⟨0x5043, 0, 1, false, [⟨1, 1, .u8, .ro, 0, 0, 0, 0, 0, 0, 0⟩]⟩,
  ⟨0x5044, 0, 1, false, [⟨1, 1, .i32, .ro, 0, 0, 0, 0, 0, 0, 0⟩]⟩,
  ⟨0x5045, 0, 1, false, [⟨1, 1, .bool, .rw, 2, 0, 0, 1, 0, 0, 0⟩]⟩,
  ⟨0x5046, 0, 1, false, [⟨1, 1, .u32, .rc, 1, 0, 0, 0, 0, 0, 0⟩]⟩,
  ⟨0x5047, 0, 1, false, [⟨1, 1, .u32, .rc, 1, 0, 0, 0, 0, 0, 0⟩]⟩,
  ⟨0x5060, 0, 1, false, [⟨1, 1, .addr, .ro, 0, 0x300000, 0, 0, 0, 0, 0⟩]⟩,
  ⟨0x5061, 0, 1, false, [⟨1, 1, .u16, .ro, 0, 0x400, 0, 0, 0, 0, 0⟩]⟩,
  ⟨0x5062, 0, 1, false, [⟨1, 1, .u16, .ro, 0, 0, 0, 0, 0, 0, 0⟩]⟩,
  ⟨0x5063, 0, 1, false, [⟨1, 1, .u16, .rw, 1, 0, 0, 65535, 0, 0, 0⟩]⟩,
  ⟨0x5064, 0, 1, false, [⟨1, 1, .u16, .ro, 0, 0, 0, 0, 0, 0, 0⟩]⟩,
  ⟨0x5065, 0, 1, false, [⟨1, 1, .u32, .rc, 1, 0, 0, 0, 0, 0, 0⟩]⟩,
  ⟨0x5066, 0, 1, false, [⟨1, 1, .u16, .rw, 2, 0xA, 2, 1000, 0, 0, 0⟩]⟩,
  ⟨0x5067, 0, 1, false, [⟨1, 1, .bool, .rw, 2, 0, 0, 1, 0, 0, 0⟩]⟩,
  ⟨0x5068, 0, 1, false, [⟨1, 1, .u16, .rw, 2, 0, 0, 65535, 0, 0, 0⟩]⟩,
  ⟨0x5069, 0, 1, false, [⟨1, 1, .u8, .rw, 2, 0, 0, 4, 0, 0, 0⟩]⟩,
  ⟨0x506A, 0, 1, false, [⟨1, 1, .u32, .rc, 1, 0, 0, 0, 0, 0, 0⟩]⟩,
  ⟨0x506B, 0, 1, false, [⟨1, 1, .bool, .ro, 0, 0, 0, 0, 0, 0, 0⟩]⟩,
  ⟨0x5080, 0, 1, false, [⟨1, 1, .u32, .rwc, 2, 0, 0, 4294967295, 0, 0, 0⟩]⟩,
  ⟨0x5081, 0, 1, false, [⟨1, 1, .u8, .rw, 2, 0, 0, 1, 0, 0, 0⟩]⟩]

/-- Objects of chapter 07, piece 2. -/
def objsTime2 : List ObjRow := [
  ⟨0x5082, 0, 1, false, [⟨1, 1, .octets, .wo, 1, 0, 0, 0, 0, 16, 16⟩]⟩,
  ⟨0x5083, 0, 1, false, [⟨1, 1, .bool, .wo, 2, 0, 0, 1, 0, 0, 0⟩]⟩,
  ⟨0x5084, 0, 1, false, [⟨1, 1, .u16, .ro, 0, 0x100, 0, 0, 0, 0, 0⟩]⟩,
  ⟨0x5085, 0, 1, false, [⟨1, 1, .u16, .ro, 0, 0, 0, 0, 0, 0, 0⟩]⟩,
  ⟨0x5086, 0, 1, false, [⟨1, 1, .u32, .rc, 1, 0, 0, 0, 0, 0, 0⟩]⟩,
  ⟨0x5087, 0, 1, false, [⟨1, 1, .u32, .rc, 1, 0, 0, 0, 0, 0, 0⟩]⟩,
  ⟨0x5088, 0, 1, false, [⟨1, 1, .u32, .rc, 1, 0, 0, 0, 0, 0, 0⟩]⟩,
  ⟨0x5089, 0, 1, false, [⟨1, 1, .u32, .rc, 1, 0, 0, 0, 0, 0, 0⟩]⟩,
  ⟨0x508A, 0, 1, false, [⟨1, 1, .u32, .rc, 1, 0, 0, 0, 0, 0, 0⟩]⟩,
  ⟨0x5020, 8, 4, false, [⟨1, 1, .u32, .ro, 0, 0, 0, 0, 0, 0, 0⟩]⟩,
  ⟨0x5021, 8, 4, false, [⟨1, 1, .i32, .rw, 2, 0, -1000000, 1000000, 0, 0, 0⟩]⟩,
  ⟨0x5022, 8, 4, false, [⟨1, 1, .bool, .ro, 0, 0, 0, 0, 0, 0, 0⟩]⟩,
  ⟨0x5023, 8, 4, false, [⟨1, 1, .u32, .rc, 1, 0, 0, 0, 0, 0, 0⟩]⟩,
  ⟨0x5024, 8, 4, false, [⟨1, 1, .u32, .rc, 1, 0, 0, 0, 0, 0, 0⟩]⟩]

/-- Objects of chapter 08, piece 0. -/
def objsSerial0 : List ObjRow := [
  ⟨0x2000, 0x20, 128, false, [⟨1, 1, .u8, .rwc, 2, 0, 0, 7, 0, 0, 0⟩]⟩,
  ⟨0x2001, 0x20, 128, false, [⟨1, 1, .u32, .rwc, 2, 0x2580, 800, 20000000, 0, 0, 0⟩]⟩,
  ⟨0x2002, 0x20, 128, false, [⟨1, 1, .u32, .ro, 0, 0x51615, 0, 0, 0, 0, 0⟩]⟩,
  ⟨0x2003, 0x20, 128, false, [⟨1, 1, .u8, .rwc, 2, 2, 0, 255, 0, 0, 0⟩]⟩,
  ⟨0x2004, 0x20, 128, false, [⟨1, 1, .u8, .rwc, 2, 0, 0, 255, 0, 0, 0⟩]⟩,
  ⟨0x2005, 0x20, 128, false, [⟨1, 1, .u16, .rw, 2, 0x23, 10, 65535, 0, 0, 0⟩]⟩,
  ⟨0x2006, 0x20, 128, false, [⟨1, 1, .u8, .rwc, 2, 0, 0, 255, 0x3F, 0, 0⟩]⟩,
  ⟨0x2007, 0x20, 128, false, [⟨1, 1, .u16, .rw, 2, 0x10, 0, 4095, 0, 0, 0⟩]⟩,
  ⟨0x2008, 0x20, 128, false, [⟨1, 1, .u16, .rw, 2, 8, 0, 4095, 0, 0, 0⟩]⟩,
  ⟨0x2009, 0x20, 128, false, [⟨1, 1, .u32, .rwc, 2, 0x2000014, 0, 4294967295, 0xFF7FFFFF, 0, 0⟩]⟩,
  ⟨0x200A, 0x20, 128, false, [⟨1, 1, .u16, .rwc, 2, 0x1FF, 0, 65535, 0, 0, 0⟩]⟩,
  ⟨0x200B, 0x20, 128, false, [⟨1, 1, .u32, .rwc, 2, 0x230020, 0, 4294967295, 0, 0, 0⟩]⟩,
  ⟨0x200C, 0x20, 128, false, [⟨1, 1, .u8, .rwc, 2, 0, 0, 255, 0, 0, 0⟩]⟩,
  ⟨0x200D, 0x20, 128, false, [⟨1, 1, .u16, .rw, 2, 0x100, 1, 496, 0, 0, 0⟩]⟩,
  ⟨0x200E, 0x20, 128, false, [⟨1, 1, .u16, .rw, 2, 0x3E8, 0, 65535, 0, 0, 0⟩]⟩,
  ⟨0x200F, 0x20, 128, false, [⟨1, 1, .bool, .rw, 2, 1, 0, 1, 0, 0, 0⟩]⟩,
  ⟨0x2010, 0x20, 128, false, [⟨1, 1, .u8, .rw, 2, 0, 0, 255, 0, 0, 0⟩]⟩,
  ⟨0x2011, 0x20, 128, false, [⟨1, 1, .octets, .rw, 2, 0, 0, 0, 0, 384, 384⟩]⟩,
  ⟨0x2012, 0x20, 128, false, [⟨1, 1, .u16, .rw, 2, 0xFFFF, 0, 65535, 0, 0, 0⟩]⟩,
  ⟨0x2013, 0x20, 128, false, [⟨1, 1, .u8, .rw, 2, 7, 0, 255, 0x7, 0, 0⟩]⟩,
  ⟨0x2014, 0x20, 128, false, [⟨1, 1, .u32, .rw, 2, 0, 0, 3600000, 0, 0, 0⟩]⟩,
  ⟨0x2015, 0x20, 128, false, [⟨1, 1, .u8, .ro, 0, 0, 0, 0, 0, 0, 0⟩]⟩,
  ⟨0x2016, 0x20, 128, false, [⟨1, 1, .u64, .ro, 0, 0, 0, 0, 0, 0, 0⟩]⟩,
  ⟨0x2017, 0x20, 128, false, [⟨1, 1, .bool, .wo, 1, 0, 0, 1, 0, 0, 0⟩]⟩]

/-- Objects of chapter 08, piece 1. -/
def objsSerial1 : List ObjRow := [
  ⟨0x2018, 0x20, 128, false, [⟨1, 1, .u32, .rc, 1, 0, 0, 0, 0, 0, 0⟩]⟩,
  ⟨0x2019, 0x20, 128, false, [⟨1, 1, .u32, .rc, 1, 0, 0, 0, 0, 0, 0⟩]⟩,
  ⟨0x201A, 0x20, 128, false, [⟨1, 1, .u32, .rc, 1, 0, 0, 0, 0, 0, 0⟩]⟩,
  ⟨0x201B, 0x20, 128, false, [⟨1, 1, .u32, .rc, 1, 0, 0, 0, 0, 0, 0⟩]⟩,
  ⟨0x201C, 0x20, 128, false, [⟨1, 1, .u32, .rc, 1, 0, 0, 0, 0, 0, 0⟩]⟩,
  ⟨0x201D, 0x20, 128, false, [⟨1, 1, .u32, .rc, 1, 0, 0, 0, 0, 0, 0⟩]⟩,
  ⟨0x201E, 0x20, 128, false, [⟨1, 1, .u32, .rc, 1, 0, 0, 0, 0, 0, 0⟩]⟩,
  ⟨0x201F, 0x20, 128, false, [⟨1, 1, .u32, .rc, 1, 0, 0, 0, 0, 0, 0⟩]⟩]

/-- Objects of chapter 09, piece 0. -/
def objsCan0 : List ObjRow := [
  ⟨0x3000, 0x10, 32, false, [⟨1, 1, .u8, .rwc, 2, 0, 0, 255, 0, 0, 0⟩]⟩,
  ⟨0x3001, 0x10, 32, false, [⟨1, 1, .u32, .rwc, 2, 0x78F3E01, 0, 4294967295, 0x7FFFFFFF, 0, 0⟩]⟩,
  ⟨0x3002, 0x10, 32, false, [⟨1, 1, .u32, .rwc, 2, 0x27A6780, 0, 4294967295, 0x3FFFFFF, 0, 0⟩]⟩,
  ⟨0x3003, 0x10, 32, false, [⟨1, 1, .u8, .ro, 0, 0, 0, 0, 0, 0, 0⟩]⟩,
  ⟨0x3004, 0x10, 32, false, [⟨1, 1, .u16, .ro, 0, 0, 0, 0, 0, 0, 0⟩]⟩,
  ⟨0x3005, 0x10, 32, false, [⟨1, 1, .u32, .ro, 0, 0, 0, 0, 0, 0, 0⟩]⟩,
  ⟨0x3006, 0x10, 32, false, [⟨1, 1, .u8, .wo, 1, 0, 1, 2, 0, 0, 0⟩]⟩,
  ⟨0x3007, 0x10, 32, false, [⟨1, 1, .u64, .wo, 1, 0, 0, 18446744073709551615, 0, 0, 0⟩]⟩,
  ⟨0x3008, 0x10, 32, false, [⟨1, 1, .octets, .wo, 1, 0, 0, 0, 0, 72, 0⟩]⟩,
  ⟨0x3009, 0x10, 32, false, [⟨1, 1, .addr, .ro, 0, 0, 0, 0, 0, 0, 0⟩]⟩,
  ⟨0x300A, 0x10, 32, false, [⟨1, 1, .octets, .ro, 0, 0, 0, 0, 0, 10, 0⟩]⟩,
  ⟨0x300B, 0x10, 32, true, [⟨1, 1, .u8, .ro, 0, 0, 0, 0, 0, 0, 0⟩,
    ⟨2, 2, .u8, .rw, 1, 0, 0, 9, 0, 0, 0⟩,
    ⟨3, 3, .u8, .ro, 0, 0, 0, 0, 0, 0, 0⟩]⟩,
  ⟨0x300C, 0x10, 32, false, [⟨1, 1, .u32, .rc, 1, 0, 0, 0, 0, 0, 0⟩]⟩,
  ⟨0x300D, 0x10, 32, false, [⟨1, 1, .u32, .rc, 1, 0, 0, 0, 0, 0, 0⟩]⟩,
  ⟨0x300E, 0x10, 32, true, [⟨1, 1, .u32, .rc, 1, 0, 0, 0, 0, 0, 0⟩,
    ⟨2, 2, .u32, .rc, 1, 0, 0, 0, 0, 0, 0⟩,
    ⟨3, 3, .u32, .rc, 1, 0, 0, 0, 0, 0, 0⟩,
    ⟨4, 4, .u32, .rc, 1, 0, 0, 0, 0, 0, 0⟩,
    ⟨5, 5, .u32, .rc, 1, 0, 0, 0, 0, 0, 0⟩,
    ⟨6, 6, .u32, .rc, 1, 0, 0, 0, 0, 0, 0⟩,
    ⟨7, 7, .u32, .rc, 1, 0, 0, 0, 0, 0, 0⟩,
    ⟨8, 8, .u32, .rc, 1, 0, 0, 0, 0, 0, 0⟩,
    ⟨9, 9, .u32, .rc, 1, 0, 0, 0, 0, 0, 0⟩,
    ⟨10, 10, .u8, .ro, 0, 0, 0, 0, 0, 0, 0⟩]⟩,
  ⟨0x300F, 0x10, 32, false, [⟨1, 1, .u64, .ro, 0, 0, 0, 0, 0, 0, 0⟩]⟩]

/-- Objects of chapter 10, piece 0. -/
def objsEngine0 : List ObjRow := [
  ⟨0x3400, 0x10, 64, false, [⟨1, 1, .u8, .wo, 2, 0, 0, 255, 0, 0, 0⟩]⟩,
  ⟨0x3401, 0x10, 64, false, [⟨1, 1, .u8, .ro, 0, 0, 0, 0, 0, 0, 0⟩]⟩,
  ⟨0x3402, 0x10, 64, false, [⟨1, 1, .u16, .rw, 2, 0, 0, 65535, 0, 0, 0⟩]⟩,
  ⟨0x3403, 0x10, 64, false, [⟨1, 1, .u32, .rw, 2, 0, 0, 4294967295, 0x1FFFF, 0, 0⟩]⟩,
  ⟨0x3404, 0x10, 64, false, [⟨1, 1, .u16, .rw, 2, 0, 0, 65535, 0, 0, 0⟩]⟩,
  ⟨0x3405, 0x10, 64, false, [⟨1, 1, .u16, .rw, 2, 0, 0, 65535, 0, 0, 0⟩]⟩,
  ⟨0x3406, 0x10, 64, false, [⟨1, 1, .u32, .rw, 2, 0xC8, 0, 4294967295, 0xFFFFFF, 0, 0⟩]⟩,
  ⟨0x3407, 0x10, 64, false, [⟨1, 1, .u32, .rw, 2, 0x3E0, 0, 4294967295, 0x3FF03FF, 0, 0⟩]⟩,
  ⟨0x3408, 0x10, 64, false, [⟨1, 1, .octets, .rw, 2, 0, 0, 0, 0, 64, 64⟩]⟩,
  ⟨0x3409, 0x10, 64, false, [⟨1, 1, .octets, .wo, 2, 0, 0, 0, 0, 64, 64⟩]⟩,
  ⟨0x340A, 0x10, 64, false, [⟨1, 1, .u32, .rw, 2, 0, 0, 4294967295, 0, 0, 0⟩]⟩,
  ⟨0x340B, 0x10, 64, true, [⟨1, 1, .u8, .ro, 0, 0, 0, 0, 0, 0, 0⟩,
    ⟨2, 2, .u32, .ro, 0, 0, 0, 0, 0, 0, 0⟩,
    ⟨3, 3, .u8, .ro, 0, 0, 0, 0, 0, 0, 0⟩,
    ⟨4, 4, .bool, .ro, 0, 0, 0, 0, 0, 0, 0⟩,
    ⟨5, 5, .u32, .ro, 0, 0, 0, 0, 0, 0, 0⟩,
    ⟨6, 6, .bool, .ro, 0, 0, 0, 0, 0, 0, 0⟩,
    ⟨7, 7, .u8, .ro, 0, 0, 0, 0, 0, 0, 0⟩,
    ⟨8, 8, .u8, .ro, 0, 0, 0, 0, 0, 0, 0⟩]⟩,
  ⟨0x340C, 0x10, 64, false, [⟨1, 1, .u8, .rc, 1, 0, 0, 0, 0, 0, 0⟩]⟩,
  ⟨0x340D, 0x10, 64, false, [⟨1, 1, .u32, .rc, 1, 0, 0, 0, 0, 0, 0⟩]⟩,
  ⟨0x340E, 0x10, 64, false, [⟨1, 1, .u32, .rc, 1, 0, 0, 0, 0, 0, 0⟩]⟩,
  ⟨0x340F, 0x10, 64, true, [⟨1, 1, .u32, .rc, 1, 0, 0, 0, 0, 0, 0⟩,
    ⟨2, 2, .u32, .rc, 1, 0, 0, 0, 0, 0, 0⟩,
    ⟨3, 3, .u32, .rc, 1, 0, 0, 0, 0, 0, 0⟩,
    ⟨4, 4, .u32, .rc, 1, 0, 0, 0, 0, 0, 0⟩]⟩]

/-- Objects of chapter 11, piece 0. -/
def objsDiscrete0 : List ObjRow := [
  ⟨0x4000, 8, 32, false, [⟨1, 1, .u8, .rwc, 2, 0, 0, 255, 0, 0, 0⟩]⟩,
  ⟨0x4001, 8, 32, true, [⟨1, 1, .u8, .rwc, 2, 0, 0, 255, 0, 0, 0⟩,
    ⟨2, 2, .u8, .rwc, 2, 0, 0, 255, 0, 0, 0⟩,
    ⟨3, 3, .u16, .rw, 2, 0xFFFF, 0, 65535, 0, 0, 0⟩,
    ⟨4, 4, .u8, .rw, 2, 0, 0, 255, 0, 0, 0⟩,
    ⟨5, 5, .u8, .rw, 2, 2, 0, 4, 0, 0, 0⟩,
    ⟨6, 6, .u8, .rw, 2, 0, 0, 255, 0, 0, 0⟩]⟩,
  ⟨0x4002, 8, 32, false, [⟨1, 1, .u8, .ro, 0, 0, 0, 0, 0, 0, 0⟩]⟩,
  ⟨0x4003, 8, 32, false, [⟨1, 1, .u8, .rwt, 1, 0, 0, 255, 0, 0, 0⟩]⟩,
  ⟨0x4004, 8, 32, false, [⟨1, 1, .u8, .rw, 2, 0, 0, 255, 0, 0, 0⟩]⟩,
  ⟨0x4005, 8, 32, true, [⟨1, 1, .u8, .ro, 0, 0, 0, 0, 0, 0, 0⟩,
    ⟨2, 2, .u8, .ro, 0, 0, 0, 0, 0, 0, 0⟩,
    ⟨3, 3, .u8, .ro, 0, 0, 0, 0, 0, 0, 0⟩,
    ⟨4, 4, .u8, .ro, 0, 0, 0, 0, 0, 0, 0⟩,
    ⟨5, 5, .u16, .ro, 0, 0, 0, 0, 0, 0, 0⟩]⟩,
  ⟨0x4006, 8, 32, true, [⟨1, 8, .u16, .rw, 2, 0, 0, 65535, 0, 0, 0⟩]⟩,
  ⟨0x4007, 8, 32, true, [⟨1, 1, .u32, .rc, 1, 0, 0, 0, 0, 0, 0⟩,
    ⟨2, 2, .u32, .rc, 1, 0, 0, 0, 0, 0, 0⟩,
    ⟨3, 3, .u32, .rc, 1, 0, 0, 0, 0, 0, 0⟩,
    ⟨4, 4, .u32, .rc, 1, 0, 0, 0, 0, 0, 0⟩,
    ⟨5, 5, .u32, .rc, 1, 0, 0, 0, 0, 0, 0⟩]⟩,
  ⟨0x4400, 0x10, 32, false, [⟨1, 1, .bool, .rwc, 2, 0, 0, 1, 0, 0, 0⟩]⟩,
  ⟨0x4401, 0x10, 32, false, [⟨1, 1, .u8, .rwc, 2, 3, 0, 6, 0, 0, 0⟩]⟩,
  ⟨0x4402, 0x10, 32, false, [⟨1, 1, .u8, .rwc, 2, 8, 1, 64, 0, 0, 0⟩]⟩,
  ⟨0x4403, 0x10, 32, false, [⟨1, 1, .u16, .rw, 2, 0xFFFF, 0, 65535, 0, 0, 0⟩]⟩,
  ⟨0x4404, 0x10, 32, false, [⟨1, 1, .bool, .rwc, 2, 0, 0, 1, 0, 0, 0⟩]⟩,
  ⟨0x4405, 0x10, 32, false, [⟨1, 1, .i16, .rw, 2, 0, -32768, 32767, 0, 0, 0⟩]⟩,
  ⟨0x4406, 0x10, 32, false, [⟨1, 1, .u16, .rw, 2, 0x8000, 16384, 65535, 0, 0, 0⟩]⟩,
  ⟨0x4407, 0x10, 32, true, [⟨1, 1, .i16, .rw, 2, 0, -32768, 32767, 0, 0, 0⟩,
    ⟨2, 2, .i16, .rw, 2, 0, -32768, 32767, 0, 0, 0⟩,
    ⟨3, 3, .u8, .rw, 2, 1, 1, 255, 0, 0, 0⟩,
    ⟨4, 4, .bool, .rw, 2, 0, 0, 1, 0, 0, 0⟩]⟩,
  ⟨0x4408, 0x10, 32, true, [⟨1, 1, .i16, .rw, 2, 0, -32768, 32767, 0, 0, 0⟩,
    ⟨2, 2, .i16, .rw, 2, 0, -32768, 32767, 0, 0, 0⟩,
    ⟨3, 3, .u8, .rw, 2, 1, 1, 255, 0, 0, 0⟩,
    ⟨4, 4, .bool, .rw, 2, 0, 0, 1, 0, 0, 0⟩]⟩,
  ⟨0x4409, 0x10, 32, false, [⟨1, 1, .i16, .ro, 0, 0, 0, 0, 0, 0, 0⟩]⟩,
  ⟨0x440A, 0x10, 32, false, [⟨1, 1, .time, .ro, 0, 0, 0, 0, 0, 0, 0⟩]⟩,
  ⟨0x440B, 0x10, 32, false, [⟨1, 1, .u8, .ro, 0, 0, 0, 0, 0, 0, 0⟩]⟩,
  ⟨0x440C, 0x10, 32, false, [⟨1, 1, .u16, .ro, 0, 0, 0, 0, 0, 0, 0⟩]⟩,
  ⟨0x440D, 0x10, 32, true, [⟨1, 1, .u32, .rc, 1, 0, 0, 0, 0, 0, 0⟩,
    ⟨2, 2, .u32, .rc, 1, 0, 0, 0, 0, 0, 0⟩,
    ⟨3, 3, .u32, .rc, 1, 0, 0, 0, 0, 0, 0⟩,
    ⟨4, 4, .u32, .rc, 1, 0, 0, 0, 0, 0, 0⟩,
    ⟨5, 5, .u32, .rc, 1, 0, 0, 0, 0, 0, 0⟩]⟩]

/-- Objects of chapter 12, piece 0. -/
def objsMapper0 : List ObjRow := [
  ⟨0x6000, 0, 1, false, [⟨1, 1, .addr, .ro, 0, 0x200000, 0, 0, 0, 0, 0⟩]⟩,
  ⟨0x6001, 0, 1, false, [⟨1, 1, .u8, .rwc, 2, 8, 1, 32, 0, 0, 0⟩]⟩,
  ⟨0x6002, 0, 1, false, [⟨1, 1, .u32, .ro, 0, 0x4000, 0, 0, 0, 0, 0⟩]⟩,
  ⟨0x6003, 0, 1, false, [⟨1, 1, .addr, .ro, 0, 0x280000, 0, 0, 0, 0, 0⟩]⟩,
  ⟨0x6004, 0, 1, false, [⟨1, 1, .u16, .ro, 0, 0x4000, 0, 0, 0, 0, 0⟩]⟩,
  ⟨0x6005, 0, 1, false, [⟨1, 1, .u16, .ro, 0, 0x800, 0, 0, 0, 0, 0⟩]⟩,
  ⟨0x6006, 0, 1, false, [⟨1, 1, .u16, .ro, 0, 0x400, 0, 0, 0, 0, 0⟩]⟩,
  ⟨0x6007, 0, 1, false, [⟨1, 1, .u8, .ro, 0, 0x80, 0, 0, 0, 0, 0⟩]⟩,
  ⟨0x6008, 0, 1, false, [⟨1, 1, .u32, .ro, 0, 0, 0, 0, 0, 0, 0⟩]⟩,
  ⟨0x6009, 0, 1, false, [⟨1, 1, .u32, .rc, 1, 0, 0, 0, 0, 0, 0⟩]⟩,
  ⟨0x6010, 0, 1, false, [⟨1, 1, .u32, .rc, 1, 0, 0, 0, 0, 0, 0⟩]⟩,
  ⟨0x6011, 0, 1, false, [⟨1, 1, .u32, .rc, 1, 0, 0, 0, 0, 0, 0⟩]⟩,
  ⟨0x6012, 0, 1, false, [⟨1, 1, .u32, .rc, 1, 0, 0, 0, 0, 0, 0⟩]⟩,
  ⟨0x6013, 0, 1, false, [⟨1, 1, .u32, .rc, 1, 0, 0, 0, 0, 0, 0⟩]⟩,
  ⟨0x6014, 0, 1, false, [⟨1, 1, .u32, .rc, 1, 0, 0, 0, 0, 0, 0⟩]⟩,
  ⟨0x6015, 0, 1, false, [⟨1, 1, .u32, .rc, 1, 0, 0, 0, 0, 0, 0⟩]⟩,
  ⟨0x6016, 0, 1, false, [⟨1, 1, .u64, .rc, 1, 0, 0, 0, 0, 0, 0⟩]⟩,
  ⟨0x6017, 0, 1, false, [⟨1, 1, .u32, .rc, 1, 0, 0, 0, 0, 0, 0⟩]⟩,
  ⟨0x6020, 0, 1, true, [⟨1, 1, .u8, .ro, 1, 0, 0, 0, 0, 0, 0⟩,
    ⟨2, 2, .u16, .ro, 1, 0xFFFF, 0, 0, 0, 0, 0⟩,
    ⟨3, 3, .u16, .ro, 1, 0xFFFF, 0, 0, 0, 0, 0⟩,
    ⟨4, 4, .u16, .ro, 1, 0xFFFF, 0, 0, 0, 0, 0⟩,
    ⟨5, 5, .u16, .ro, 1, 0, 0, 0, 0, 0, 0⟩,
    ⟨6, 6, .tick, .ro, 1, 0, 0, 0, 0, 0, 0⟩]⟩,
  ⟨0x6400, 1, 1024, true, [⟨1, 1, .u8, .rw, 2, 0, 0, 255, 0x3F, 0, 0⟩,
    ⟨2, 2, .u16, .rw, 2, 0, 0, 2047, 0, 0, 0⟩,
    ⟨3, 3, .i32, .rw, 2, 0, -2147483648, 2147483647, 0, 0, 0⟩,
    ⟨4, 4, .i32, .rw, 2, 0, -2147483648, 2147483647, 0, 0, 0⟩,
    ⟨5, 5, .u32, .rw, 2, 1, 1, 16777215, 0, 0, 0⟩,
    ⟨6, 6, .u16, .rw, 2, 0, 0, 65535, 0x1FF, 0, 0⟩,
    ⟨7, 7, .u32, .rw, 2, 0, 0, 16777215, 0, 0, 0⟩,
    ⟨8, 8, .u8, .rw, 2, 3, 0, 4, 0, 0, 0⟩,
    ⟨9, 9, .u8, .ro, 0, 0, 0, 0, 0, 0, 0⟩,
    ⟨10, 10, .bool, .wo, 1, 0, 0, 1, 0, 0, 0⟩,
    ⟨11, 11, .u32, .rc, 1, 0, 0, 0, 0, 0, 0⟩]⟩,
  ⟨0x6800, 1, 2048, true, [⟨1, 1, .i32, .ro, 0, 0, 0, 0, 0, 0, 0⟩,
    ⟨2, 2, .tick, .ro, 0, 0, 0, 0, 0, 0, 0⟩,
    ⟨3, 3, .u8, .ro, 0, 0, 0, 0, 0, 0, 0⟩,
    ⟨4, 4, .u16, .ro, 0, 0xFFFF, 0, 0, 0, 0, 0⟩]⟩]

/-- Objects of chapter 13, piece 0. -/
def objsFabric0 : List ObjRow := [
  ⟨0x7000, 4, 256, false, [⟨1, 1, .u32, .rw, 2, 0, 0, 4294967295, 0, 0, 0⟩]⟩,
  ⟨0x7001, 4, 256, false, [⟨1, 1, .addr, .rw, 2, 0, 0, 18446744073709551615, 0, 0, 0⟩]⟩,
  ⟨0x7002, 4, 256, false, [⟨1, 1, .u32, .rw, 2, 0x18, 0, 4294967295, 0x3FFFF, 0, 0⟩]⟩,
  ⟨0x7003, 4, 256, true, [⟨1, 1, .u8, .ro, 0, 0, 0, 0, 0, 0, 0⟩,
    ⟨2, 2, .u32, .rc, 1, 0, 0, 0, 0, 0, 0⟩,
    ⟨3, 3, .u32, .rc, 1, 0, 0, 0, 0, 0, 0⟩,
    ⟨4, 4, .u32, .rc, 1, 0, 0, 0, 0, 0, 0⟩]⟩,
  ⟨0x7400, 8, 16, false, [⟨1, 1, .u8, .wo, 2, 0, 0, 255, 0, 0, 0⟩]⟩,
  ⟨0x7401, 8, 16, true, [⟨1, 1, .u8, .ro, 0, 0, 0, 0, 0, 0, 0⟩,
    ⟨2, 2, .u8, .ro, 0, 0xFF, 0, 0, 0, 0, 0⟩,
    ⟨3, 3, .addr, .ro, 0, 0, 0, 0, 0, 0, 0⟩,
    ⟨4, 4, .u8, .ro, 0, 0, 0, 0, 0, 0, 0⟩]⟩,
  ⟨0x7402, 8, 16, true, [⟨1, 1, .addr, .rw, 2, 0, 0, 18446744073709551615, 0, 0, 0⟩,
    ⟨2, 2, .u16, .rw, 2, 0x10, 1, 1024, 0, 0, 0⟩,
    ⟨3, 3, .u16, .ro, 0, 0, 0, 0, 0, 0, 0⟩,
    ⟨4, 4, .u16, .rw, 1, 0, 0, 65535, 0, 0, 0⟩]⟩,
  ⟨0x7403, 8, 16, true, [⟨1, 1, .addr, .rw, 2, 0, 0, 18446744073709551615, 0, 0, 0⟩,
    ⟨2, 2, .u16, .rw, 2, 0x10, 1, 1024, 0, 0, 0⟩,
    ⟨3, 3, .u16, .ro, 0, 0, 0, 0, 0, 0, 0⟩,
    ⟨4, 4, .u16, .rw, 1, 0, 0, 65535, 0, 0, 0⟩]⟩,
  ⟨0x7404, 8, 16, true, [⟨1, 1, .addr, .rw, 2, 0, 0, 18446744073709551615, 0, 0, 0⟩,
    ⟨2, 2, .u16, .rw, 2, 0x10, 1, 1024, 0, 0, 0⟩,
    ⟨3, 3, .u16, .ro, 0, 0, 0, 0, 0, 0, 0⟩,
    ⟨4, 4, .u16, .rw, 1, 0, 0, 65535, 0, 0, 0⟩]⟩,
  ⟨0x7405, 8, 16, true, [⟨1, 1, .addr, .rw, 2, 0, 0, 18446744073709551615, 0, 0, 0⟩,
    ⟨2, 2, .u16, .rw, 2, 0x10, 1, 1024, 0, 0, 0⟩,
    ⟨3, 3, .u16, .ro, 0, 0, 0, 0, 0, 0, 0⟩,
    ⟨4, 4, .u16, .rw, 1, 0, 0, 65535, 0, 0, 0⟩]⟩,
  ⟨0x7406, 8, 16, false, [⟨1, 1, .u8, .rw, 2, 0, 0, 32, 0, 0, 0⟩]⟩,
  ⟨0x7407, 8, 16, true, [⟨1, 1, .u32, .rc, 1, 0, 0, 0, 0, 0, 0⟩,
    ⟨2, 2, .u64, .rc, 1, 0, 0, 0, 0, 0, 0⟩,
    ⟨3, 3, .u32, .rc, 1, 0, 0, 0, 0, 0, 0⟩,
    ⟨4, 4, .u32, .rc, 1, 0, 0, 0, 0, 0, 0⟩,
    ⟨5, 5, .u32, .rc, 1, 0, 0, 0, 0, 0, 0⟩]⟩,
  ⟨0x7480, 0, 1, false, [⟨1, 1, .u32, .rw, 2, 0x3E8, 10, 60000000, 0, 0, 0⟩]⟩,
  ⟨0x7481, 0, 1, false, [⟨1, 1, .u16, .ro, 0, 0x100, 0, 0, 0, 0, 0⟩]⟩,
  ⟨0x7482, 0, 1, false, [⟨1, 1, .u16, .ro, 0, 0, 0, 0, 0, 0, 0⟩]⟩,
  ⟨0x7483, 0, 1, false, [⟨1, 1, .u16, .rw, 2, 0xA, 1, 1000, 0, 0, 0⟩]⟩,
  ⟨0x7484, 0, 1, true, [⟨1, 1, .u16, .rw, 2, 0xFFFF, 0, 65535, 0, 0, 0⟩,
    ⟨2, 2, .u8, .rw, 2, 1, 1, 3, 0, 0, 0⟩,
    ⟨3, 3, .octets, .wo, 2, 0, 0, 0, 0, 8, 8⟩,
    ⟨4, 4, .u8, .ro, 0, 0, 0, 0, 0, 0, 0⟩,
    ⟨5, 5, .u8, .ro, 0, 0, 0, 0, 0, 0, 0⟩]⟩,
  ⟨0x7488, 0, 1, false, [⟨1, 1, .u32, .rc, 1, 0, 0, 0, 0, 0, 0⟩]⟩,
  ⟨0x7489, 0, 1, false, [⟨1, 1, .u32, .rc, 1, 0, 0, 0, 0, 0, 0⟩]⟩,
  ⟨0x748A, 0, 1, false, [⟨1, 1, .u32, .rc, 1, 0, 0, 0, 0, 0, 0⟩]⟩,
  ⟨0x748B, 0, 1, false, [⟨1, 1, .u32, .rc, 1, 0, 0, 0, 0, 0, 0⟩]⟩,
  ⟨0x7490, 0, 1, true, [⟨1, 1, .u16, .ro, 1, 0xFFFF, 0, 0, 0, 0, 0⟩,
    ⟨2, 2, .u8, .ro, 1, 0, 0, 0, 0, 0, 0⟩,
    ⟨3, 3, .addr, .ro, 1, 0, 0, 0, 0, 0, 0⟩,
    ⟨4, 4, .u8, .ro, 1, 0, 0, 0, 0, 0, 0⟩,
    ⟨5, 5, .tick, .ro, 1, 0, 0, 0, 0, 0, 0⟩]⟩,
  ⟨0x7800, 1, 64, true, [⟨1, 1, .u8, .rw, 2, 0, 0, 255, 0, 0, 0⟩,
    ⟨2, 2, .u8, .ro, 0, 0, 0, 0, 0, 0, 0⟩,
    ⟨3, 3, .u32, .rc, 1, 0, 0, 0, 0, 0, 0⟩]⟩,
  ⟨0x7840, 1, 2, true, [⟨1, 1, .u8, .ro, 0, 0xFF, 0, 0, 0, 0, 0⟩,
    ⟨2, 2, .u8, .ro, 0, 0, 0, 0, 0, 0, 0⟩,
    ⟨3, 3, .u32, .rc, 1, 0, 0, 0, 0, 0, 0⟩]⟩]

/-- Objects of chapter 13, piece 1. -/
def objsFabric1 : List ObjRow := [
  ⟨0x7850, 0, 1, false, [⟨1, 1, .u64, .rwc, 2, 0xF000000000000000, 0, 18446744073709551615, 0, 0, 0⟩]⟩,
  ⟨0x7851, 0, 1, false, [⟨1, 1, .u32, .rc, 1, 0, 0, 0, 0, 0, 0⟩]⟩,
  ⟨0x7852, 0, 1, false, [⟨1, 1, .u32, .rc, 1, 0, 0, 0, 0, 0, 0⟩]⟩,
  ⟨0x7853, 0, 1, true, [⟨1, 1, .u8, .ro, 1, 0xFF, 0, 0, 0, 0, 0⟩,
    ⟨2, 2, .u16, .ro, 1, 0, 0, 0, 0, 0, 0⟩,
    ⟨3, 3, .tick, .ro, 1, 0, 0, 0, 0, 0, 0⟩]⟩]

/-- Objects of chapter 14, piece 0. -/
def objsHost0 : List ObjRow := [
  ⟨0x7C00, 0, 1, false, [⟨1, 1, .bool, .rwc, 2, 0, 0, 1, 0, 0, 0⟩]⟩,
  ⟨0x7C01, 0, 1, false, [⟨1, 1, .u8, .ro, 0, 0, 0, 0, 0, 0, 0⟩]⟩,
  ⟨0x7C02, 0, 1, false, [⟨1, 1, .u32, .ro, 0, 0, 0, 0, 0, 0, 0⟩]⟩,
  ⟨0x7C03, 0, 1, false, [⟨1, 1, .u16, .rw, 2, 0x14, 1, 1000, 0, 0, 0⟩]⟩,
  ⟨0x7C04, 0, 1, false, [⟨1, 1, .u32, .rw, 2, 0x3E8, 10, 100000, 0, 0, 0⟩]⟩,
  ⟨0x7C05, 0, 1, false, [⟨1, 1, .bool, .rc, 1, 0, 0, 0, 0, 0, 0⟩]⟩,
  ⟨0x7C06, 0, 1, false, [⟨1, 1, .u8, .ro, 0, 0, 0, 0, 0, 0, 0⟩]⟩,
  ⟨0x7C07, 0, 1, false, [⟨1, 1, .u8, .ro, 0, 0, 0, 0, 0, 0, 0⟩]⟩,
  ⟨0x7C08, 0, 1, false, [⟨1, 1, .u8, .rw, 2, 0, 0, 255, 0, 0, 0⟩]⟩,
  ⟨0x7C10, 1, 8, false, [⟨1, 1, .u16, .rw, 2, 0, 0, 16383, 0, 0, 0⟩]⟩,
  ⟨0x7C20, 1, 16, true, [⟨1, 1, .u32, .rw, 2, 0, 0, 4294967295, 0, 0, 0⟩,
    ⟨2, 2, .u8, .rw, 2, 0xC, 8, 31, 0, 0, 0⟩,
    ⟨3, 3, .u16, .rw, 2, 0, 0, 65535, 0x3F, 0, 0⟩]⟩,
  ⟨0x7C30, 0, 1, false, [⟨1, 1, .u32, .ro, 0, 0, 0, 0, 0, 0, 0⟩]⟩,
  ⟨0x7C40, 1, 32, false, [⟨1, 1, .addr, .ro, 0, 0, 0, 0, 0, 0, 0⟩]⟩,
  ⟨0x7C60, 0, 1, true, [⟨1, 1, .addr, .rwc, 2, 0x3A0000, 0, 18446744073709551615, 0, 0, 0⟩,
    ⟨2, 2, .u16, .rwc, 2, 0x40, 1, 4096, 0, 0, 0⟩,
    ⟨3, 3, .u16, .ro, 0, 0, 0, 0, 0, 0, 0⟩,
    ⟨4, 4, .u16, .rw, 1, 0, 0, 65535, 0, 0, 0⟩,
    ⟨5, 5, .bool, .rc, 1, 0, 0, 0, 0, 0, 0⟩,
    ⟨6, 6, .bool, .rc, 1, 0, 0, 0, 0, 0, 0⟩]⟩,
  ⟨0x7C70, 0, 1, false, [⟨1, 1, .u32, .rc, 1, 0, 0, 0, 0, 0, 0⟩]⟩,
  ⟨0x7C71, 0, 1, false, [⟨1, 1, .u32, .rc, 1, 0, 0, 0, 0, 0, 0⟩]⟩,
  ⟨0x7C72, 0, 1, false, [⟨1, 1, .u32, .rc, 1, 0, 0, 0, 0, 0, 0⟩]⟩,
  ⟨0x7C73, 0, 1, false, [⟨1, 1, .u32, .rc, 1, 0, 0, 0, 0, 0, 0⟩]⟩,
  ⟨0x7C74, 0, 1, false, [⟨1, 1, .u32, .rc, 1, 0, 0, 0, 0, 0, 0⟩]⟩,
  ⟨0x7C75, 0, 1, false, [⟨1, 1, .u32, .rc, 1, 0, 0, 0, 0, 0, 0⟩]⟩,
  ⟨0x7C76, 0, 1, false, [⟨1, 1, .u32, .rc, 1, 0, 0, 0, 0, 0, 0⟩]⟩,
  ⟨0x7C77, 0, 1, false, [⟨1, 1, .u32, .rc, 1, 0, 0, 0, 0, 0, 0⟩]⟩,
  ⟨0x7C78, 0, 1, false, [⟨1, 1, .u32, .rc, 1, 0, 0, 0, 0, 0, 0⟩]⟩,
  ⟨0x7C79, 0, 1, false, [⟨1, 1, .u32, .rc, 1, 0, 0, 0, 0, 0, 0⟩]⟩]

/-- Objects of chapter 14, piece 1. -/
def objsHost1 : List ObjRow := [
  ⟨0x7C7A, 0, 1, false, [⟨1, 1, .u32, .rc, 1, 0, 0, 0, 0, 0, 0⟩]⟩,
  ⟨0x7C7B, 0, 1, false, [⟨1, 1, .u32, .rc, 1, 0, 0, 0, 0, 0, 0⟩]⟩,
  ⟨0x7C80, 0, 1, true, [⟨1, 1, .u32, .ro, 1, 0, 0, 0, 0, 0, 0⟩,
    ⟨2, 2, .u8, .ro, 1, 0, 0, 0, 0, 0, 0⟩,
    ⟨3, 3, .u8, .ro, 1, 0, 0, 0, 0, 0, 0⟩,
    ⟨4, 4, .tick, .ro, 1, 0, 0, 0, 0, 0, 0⟩]⟩]

/-- Objects of chapter 15, piece 0. -/
def objsTwin0 : List ObjRow := [
  ⟨0x8000, 0, 1, false, [⟨1, 1, .bool, .rwc, 2, 0, 0, 1, 0, 0, 0⟩]⟩,
  ⟨0x8001, 0, 1, false, [⟨1, 1, .u8, .ro, 0, 0, 0, 0, 0, 0, 0⟩]⟩,
  ⟨0x8002, 0, 1, false, [⟨1, 1, .u16, .rwc, 2, 0xFFFF, 0, 65535, 0, 0, 0⟩]⟩,
  ⟨0x8003, 0, 1, false, [⟨1, 1, .u16, .ro, 0, 0xFFFF, 0, 0, 0, 0, 0⟩]⟩,
  ⟨0x8004, 0, 1, false, [⟨1, 1, .u8, .ro, 0, 0, 0, 0, 0, 0, 0⟩]⟩,
  ⟨0x8005, 0, 1, false, [⟨1, 1, .bool, .ro, 0, 0, 0, 0, 0, 0, 0⟩]⟩,
  ⟨0x8006, 0, 1, false, [⟨1, 1, .bool, .ro, 0, 0, 0, 0, 0, 0, 0⟩]⟩,
  ⟨0x8007, 0, 1, false, [⟨1, 1, .u8, .ro, 0, 0, 0, 0, 0, 0, 0⟩]⟩,
  ⟨0x8008, 0, 1, false, [⟨1, 1, .u32, .rwc, 2, 0x64, 10, 10000, 0, 0, 0⟩]⟩,
  ⟨0x8009, 0, 1, false, [⟨1, 1, .u16, .rw, 2, 0x32, 10, 10000, 0, 0, 0⟩]⟩,
  ⟨0x800A, 0, 1, false, [⟨1, 1, .u32, .rw, 2, 0x64, 10, 10000, 0, 0, 0⟩]⟩,
  ⟨0x800B, 0, 1, false, [⟨1, 1, .u32, .rwc, 2, 0x32, 10, 10000, 0, 0, 0⟩]⟩,
  ⟨0x800C, 0, 1, false, [⟨1, 1, .u8, .wo, 1, 0, 1, 2, 0, 0, 0⟩]⟩,
  ⟨0x800D, 0, 1, false, [⟨1, 1, .u8, .ro, 0, 0, 0, 0, 0, 0, 0⟩]⟩,
  ⟨0x8010, 0, 1, false, [⟨1, 1, .u32, .ro, 0, 0, 0, 0, 0, 0, 0⟩]⟩,
  ⟨0x8011, 0, 1, false, [⟨1, 1, .u32, .ro, 0, 0, 0, 0, 0, 0, 0⟩]⟩,
  ⟨0x8012, 0, 1, false, [⟨1, 1, .u32, .ro, 0, 0, 0, 0, 0, 0, 0⟩]⟩,
  ⟨0x8013, 0, 1, false, [⟨1, 1, .u32, .ro, 0, 0, 0, 0, 0, 0, 0⟩]⟩,
  ⟨0x8014, 0, 1, false, [⟨1, 1, .u32, .ro, 0, 0x4000, 0, 0, 0, 0, 0⟩]⟩,
  ⟨0x8018, 0, 1, true, [⟨1, 1, .u8, .ro, 1, 0, 0, 0, 0, 0, 0⟩,
    ⟨2, 2, .tick, .ro, 1, 0, 0, 0, 0, 0, 0⟩,
    ⟨3, 3, .u16, .ro, 1, 0xFFFF, 0, 0, 0, 0, 0⟩,
    ⟨4, 4, .u8, .ro, 1, 0, 0, 0, 0, 0, 0⟩]⟩,
  ⟨0x8020, 0, 1, false, [⟨1, 1, .u32, .rc, 1, 0, 0, 0, 0, 0, 0⟩]⟩,
  ⟨0x8021, 0, 1, false, [⟨1, 1, .u32, .rc, 1, 0, 0, 0, 0, 0, 0⟩]⟩,
  ⟨0x8022, 0, 1, false, [⟨1, 1, .u32, .rc, 1, 0, 0, 0, 0, 0, 0⟩]⟩,
  ⟨0x8023, 0, 1, false, [⟨1, 1, .u32, .rc, 1, 0, 0, 0, 0, 0, 0⟩]⟩]

/-- Objects of chapter 15, piece 1. -/
def objsTwin1 : List ObjRow := [
  ⟨0x8024, 0, 1, false, [⟨1, 1, .u32, .rc, 1, 0, 0, 0, 0, 0, 0⟩]⟩,
  ⟨0x8025, 0, 1, false, [⟨1, 1, .u32, .rc, 1, 0, 0, 0, 0, 0, 0⟩]⟩,
  ⟨0x8026, 0, 1, false, [⟨1, 1, .u32, .rc, 1, 0, 0, 0, 0, 0, 0⟩]⟩,
  ⟨0x8027, 0, 1, false, [⟨1, 1, .u32, .rc, 1, 0, 0, 0, 0, 0, 0⟩]⟩,
  ⟨0x8028, 0, 1, false, [⟨1, 1, .u32, .rc, 1, 0, 0, 0, 0, 0, 0⟩]⟩,
  ⟨0x8029, 0, 1, false, [⟨1, 1, .u32, .rc, 1, 0, 0, 0, 0, 0, 0⟩]⟩,
  ⟨0x802A, 0, 1, false, [⟨1, 1, .u32, .rc, 1, 0, 0, 0, 0, 0, 0⟩]⟩,
  ⟨0x802B, 0, 1, false, [⟨1, 1, .u32, .rc, 1, 0, 0, 0, 0, 0, 0⟩]⟩,
  ⟨0x802C, 0, 1, false, [⟨1, 1, .u32, .rc, 1, 0, 0, 0, 0, 0, 0⟩]⟩,
  ⟨0x802D, 0, 1, false, [⟨1, 1, .u32, .rc, 1, 0, 0, 0, 0, 0, 0⟩]⟩,
  ⟨0x802E, 0, 1, false, [⟨1, 1, .u32, .rc, 1, 0, 0, 0, 0, 0, 0⟩]⟩,
  ⟨0x802F, 0, 1, false, [⟨1, 1, .u32, .rc, 1, 0, 0, 0, 0, 0, 0⟩]⟩]

/-- Objects of chapter 16, piece 0. -/
def objsPower0 : List ObjRow := [
  ⟨0x9000, 0, 1, false, [⟨1, 1, .u8, .ro, 0, 0, 0, 0, 0, 0, 0⟩]⟩,
  ⟨0x9001, 0, 1, false, [⟨1, 1, .u16, .ro, 0, 0, 0, 0, 0, 0, 0⟩]⟩,
  ⟨0x9002, 0, 1, false, [⟨1, 1, .u8, .ro, 0, 0, 0, 0, 0, 0, 0⟩]⟩,
  ⟨0x9003, 0, 1, false, [⟨1, 1, .u32, .rw, 2, 0x3E8, 10, 600000, 0, 0, 0⟩]⟩,
  ⟨0x9004, 0, 1, true, [⟨1, 1, .u16, .ro, 1, 0, 0, 0, 0, 0, 0⟩,
    ⟨2, 2, .u32, .ro, 1, 0, 0, 0, 0, 0, 0⟩,
    ⟨3, 3, .tick, .ro, 1, 0, 0, 0, 0, 0, 0⟩]⟩,
  ⟨0x9005, 0, 1, false, [⟨1, 1, .u32, .rc, 1, 0, 0, 0, 0, 0, 0⟩]⟩,
  ⟨0x9006, 0, 1, false, [⟨1, 1, .u32, .rc, 1, 0, 0, 0, 0, 0, 0⟩]⟩,
  ⟨0x9010, 0, 1, false, [⟨1, 1, .time, .ro, 0, 0, 0, 0, 0, 0, 0⟩]⟩,
  ⟨0x9011, 0, 1, false, [⟨1, 1, .bool, .ro, 0, 0, 0, 0, 0, 0, 0⟩]⟩,
  ⟨0x9012, 0, 1, false, [⟨1, 1, .u16, .ro, 0, 0, 0, 0, 0, 0, 0⟩]⟩,
  ⟨0x9013, 0, 1, false, [⟨1, 1, .u32, .ro, 0, 0, 0, 0, 0, 0, 0⟩]⟩,
  ⟨0x9014, 0, 1, false, [⟨1, 1, .octets, .ro, 0, 0, 0, 0, 0, 2048, 0⟩]⟩,
  ⟨0x9015, 0, 1, false, [⟨1, 1, .u8, .ro, 0, 0, 0, 0, 0, 0, 0⟩]⟩,
  ⟨0x9016, 0, 1, false, [⟨1, 1, .bool, .wo, 2, 0, 0, 1, 0, 0, 0⟩]⟩,
  ⟨0x9020, 8, 2, true, [⟨1, 1, .bool, .rw, 2, 1, 0, 1, 0, 0, 0⟩,
    ⟨2, 2, .u16, .rwc, 2, 0x7530, 0, 65535, 0, 0, 0⟩,
    ⟨3, 3, .u16, .rw, 2, 0x4650, 0, 65535, 0, 0, 0⟩,
    ⟨4, 4, .u8, .ro, 0, 0, 0, 0, 0, 0, 0⟩,
    ⟨5, 5, .u16, .ro, 0, 0, 0, 0, 0, 0, 0⟩,
    ⟨6, 6, .u32, .rc, 1, 0, 0, 0, 0, 0, 0⟩,
    ⟨7, 7, .u32, .rc, 1, 0, 0, 0, 0, 0, 0⟩]⟩,
  ⟨0x9100, 0x10, 16, false, [⟨1, 1, .bool, .rwt, 1, 0, 0, 1, 0, 0, 0⟩]⟩,
  ⟨0x9101, 0x10, 16, false, [⟨1, 1, .u8, .rwc, 2, 4, 0, 255, 0x7, 0, 0⟩]⟩,
  ⟨0x9102, 0x10, 16, false, [⟨1, 1, .u16, .rw, 2, 0xFFFF, 0, 255, 0, 0, 0⟩]⟩,
  ⟨0x9103, 0x10, 16, false, [⟨1, 1, .u8, .rw, 2, 0, 0, 2, 0, 0, 0⟩]⟩,
  ⟨0x9104, 0x10, 16, false, [⟨1, 1, .u16, .rwc, 2, 0x2710, 1, 65535, 0, 0, 0⟩]⟩,
  ⟨0x9105, 0x10, 16, false, [⟨1, 1, .octets, .rw, 2, 0, 0, 0, 0, 48, 48⟩]⟩,
  ⟨0x9106, 0x10, 16, false, [⟨1, 1, .u16, .rw, 2, 0x1F40, 0, 65535, 0, 0, 0⟩]⟩,
  ⟨0x9107, 0x10, 16, true, [⟨1, 1, .u16, .rw, 2, 0xA, 1, 1000, 0, 0, 0⟩,
    ⟨2, 2, .u16, .rw, 2, 0x1770, 0, 65535, 0, 0, 0⟩]⟩,
  ⟨0x9108, 0x10, 16, true, [⟨1, 1, .u8, .rw, 2, 3, 0, 255, 0, 0, 0⟩,
    ⟨2, 2, .u32, .rw, 2, 0x3E8, 100, 60000, 0, 0, 0⟩,
    ⟨3, 3, .u32, .rw, 2, 0xEA60, 1000, 3600000, 0, 0, 0⟩,
    ⟨4, 4, .u32, .rw, 2, 0x2710, 10, 3600000, 0, 0, 0⟩]⟩]

/-- Objects of chapter 16, piece 1. -/
def objsPower1 : List ObjRow := [
  ⟨0x9109, 0x10, 16, false, [⟨1, 1, .u8, .ro, 0, 1, 0, 0, 0, 0, 0⟩]⟩,
  ⟨0x910A, 0x10, 16, false, [⟨1, 1, .u16, .ro, 0, 0, 0, 0, 0, 0, 0⟩]⟩,
  ⟨0x910B, 0x10, 16, false, [⟨1, 1, .u16, .ro, 0, 0, 0, 0, 0, 0, 0⟩]⟩,
  ⟨0x910C, 0x10, 16, false, [⟨1, 1, .u8, .rc, 1, 0, 0, 0, 0, 0, 0⟩]⟩,
  ⟨0x910D, 0x10, 16, false, [⟨1, 1, .u8, .ro, 0, 0, 0, 0, 0, 0, 0⟩]⟩,
  ⟨0x910E, 0x10, 16, true, [⟨1, 1, .u32, .rc, 1, 0, 0, 0, 0, 0, 0⟩,
    ⟨2, 2, .u32, .rc, 1, 0, 0, 0, 0, 0, 0⟩,
    ⟨3, 3, .u32, .rc, 1, 0, 0, 0, 0, 0, 0⟩,
    ⟨4, 4, .u32, .rc, 1, 0, 0, 0, 0, 0, 0⟩,
    ⟨5, 5, .u32, .rc, 1, 0, 0, 0, 0, 0, 0⟩]⟩,
  ⟨0x910F, 0x10, 16, true, [⟨1, 1, .u8, .ro, 1, 0, 0, 0, 0, 0, 0⟩,
    ⟨2, 2, .u16, .ro, 1, 0, 0, 0, 0, 0, 0⟩,
    ⟨3, 3, .tick, .ro, 1, 0, 0, 0, 0, 0, 0⟩]⟩]

/-- Objects of chapter 17, piece 0. -/
def objsFault0 : List ObjRow := [
  ⟨0xA000, 0, 1, false, [⟨1, 1, .u8, .ro, 0, 0, 0, 0, 0, 0, 0⟩]⟩,
  ⟨0xA001, 0, 1, false, [⟨1, 1, .u8, .wo, 2, 0, 1, 2, 0, 0, 0⟩]⟩,
  ⟨0xA002, 0, 1, false, [⟨1, 1, .u8, .ro, 0, 0, 0, 0, 0, 0, 0⟩]⟩,
  ⟨0xA003, 0, 1, false, [⟨1, 1, .tick, .ro, 0, 0, 0, 0, 0, 0, 0⟩]⟩,
  ⟨0xA004, 0, 1, false, [⟨1, 1, .u16, .wo, 1, 0, 0, 65535, 0, 0, 0⟩]⟩,
  ⟨0xA005, 0, 1, false, [⟨1, 1, .u32, .wo, 2, 0, 0, 4294967295, 0, 0, 0⟩]⟩,
  ⟨0xA008, 1, 4, true, [⟨1, 1, .u32, .rw, 2, 0, 10, 1000000, 0, 0, 0⟩,
    ⟨2, 2, .u8, .rw, 2, 0, 0, 3, 0, 0, 0⟩]⟩,
  ⟨0xA010, 0, 1, false, [⟨1, 1, .octets, .rc, 1, 0, 0, 0, 0, 32, 0⟩]⟩,
  ⟨0xA011, 0, 1, false, [⟨1, 1, .u8, .rw, 2, 1, 0, 3, 0, 0, 0⟩]⟩,
  ⟨0xA012, 0, 1, false, [⟨1, 1, .octets, .rc, 1, 0, 0, 0, 0, 32, 0⟩]⟩,
  ⟨0xA013, 0, 1, false, [⟨1, 1, .octets, .ro, 1, 0, 0, 0, 0, 32, 0⟩]⟩,
  ⟨0xA014, 0, 1, false, [⟨1, 1, .u8, .ro, 0, 0, 0, 0, 0, 0, 0⟩]⟩,
  ⟨0xA015, 0, 1, false, [⟨1, 1, .u32, .rc, 1, 0, 0, 0, 0, 0, 0⟩]⟩,
  ⟨0xA016, 0, 1, false, [⟨1, 1, .u16, .ro, 0, 0, 0, 0, 0, 0, 0⟩]⟩,
  ⟨0xA018, 0, 1, false, [⟨1, 1, .u8, .rw, 2, 4, 0, 4, 0, 0, 0⟩]⟩,
  ⟨0xA019, 0, 1, false, [⟨1, 1, .u16, .rw, 2, 0xFFFF, 0, 65535, 0, 0, 0⟩]⟩,
  ⟨0xA01A, 0, 1, false, [⟨1, 1, .u8, .rw, 2, 1, 0, 4, 0, 0, 0⟩]⟩,
  ⟨0xA01B, 0, 1, false, [⟨1, 1, .u16, .rw, 2, 4, 2, 65535, 0, 0, 0⟩]⟩,
  ⟨0xA020, 0, 1, false, [⟨1, 1, .octets, .ro, 1, 0, 0, 0, 0, 1024, 0⟩]⟩,
  ⟨0xA021, 0, 1, false, [⟨1, 1, .u8, .ro, 0, 0, 0, 0, 0, 0, 0⟩]⟩,
  ⟨0xA022, 0, 1, false, [⟨1, 1, .octets, .ro, 1, 0, 0, 0, 0, 256, 0⟩]⟩,
  ⟨0xA023, 0, 1, false, [⟨1, 1, .u8, .ro, 0, 0, 0, 0, 0, 0, 0⟩]⟩,
  ⟨0xA024, 0, 1, false, [⟨1, 1, .octets, .ro, 1, 0, 0, 0, 0, 32, 0⟩]⟩,
  ⟨0xA028, 0, 1, false, [⟨1, 1, .u32, .rc, 1, 0, 0, 0, 0, 0, 0⟩]⟩]

/-- Objects of chapter 17, piece 1. -/
def objsFault1 : List ObjRow := [
  ⟨0xA029, 0, 1, false, [⟨1, 1, .u32, .rc, 1, 0, 0, 0, 0, 0, 0⟩]⟩,
  ⟨0xA02A, 0, 1, false, [⟨1, 1, .u32, .rc, 1, 0, 0, 0, 0, 0, 0⟩]⟩,
  ⟨0xA02B, 0, 1, false, [⟨1, 1, .u32, .rc, 1, 0, 0, 0, 0, 0, 0⟩]⟩,
  ⟨0xA02C, 0, 1, false, [⟨1, 1, .u32, .rc, 1, 0, 0, 0, 0, 0, 0⟩]⟩,
  ⟨0xA02D, 0, 1, false, [⟨1, 1, .u32, .rc, 1, 0, 0, 0, 0, 0, 0⟩]⟩,
  ⟨0xA02E, 0, 1, false, [⟨1, 1, .u32, .rc, 1, 0, 0, 0, 0, 0, 0⟩]⟩,
  ⟨0xA02F, 0, 1, false, [⟨1, 1, .u32, .rc, 1, 0, 0, 0, 0, 0, 0⟩]⟩,
  ⟨0xA030, 0, 1, true, [⟨1, 1, .u8, .rw, 2, 1, 1, 3, 0, 0, 0⟩,
    ⟨2, 2, .u16, .rw, 2, 0, 0, 65535, 0, 0, 0⟩,
    ⟨3, 3, .u16, .rw, 2, 0xFFFF, 0, 65535, 0, 0, 0⟩,
    ⟨4, 4, .u8, .rw, 2, 0, 0, 255, 0, 0, 0⟩,
    ⟨5, 5, .u8, .rw, 2, 1, 0, 255, 0, 0, 0⟩,
    ⟨6, 6, .u16, .rw, 2, 1, 1, 65535, 0, 0, 0⟩,
    ⟨7, 7, .bool, .rw, 2, 1, 0, 1, 0, 0, 0⟩,
    ⟨8, 8, .bool, .wo, 2, 0, 0, 1, 0, 0, 0⟩,
    ⟨9, 9, .bool, .ro, 0, 0, 0, 0, 0, 0, 0⟩]⟩,
  ⟨0xA100, 1, 132, true, [⟨1, 1, .u16, .rwc, 2, 0x28, 0, 65535, 0xFF, 0, 0⟩,
    ⟨2, 2, .u16, .rw, 2, 0, 0, 65535, 0, 0, 0⟩,
    ⟨3, 3, .u32, .rw, 2, 0, 0, 4294967295, 0xFFFF003F, 0, 0⟩,
    ⟨4, 4, .u8, .ro, 0, 0, 0, 0, 0, 0, 0⟩]⟩]

/-- Objects of chapter 18, piece 0. -/
def objsManage0 : List ObjRow := [
  ⟨0xB000, 1, 4, false, [⟨1, 1, .i16, .ro, 0, 0, 0, 0, 0, 0, 0⟩]⟩,
  ⟨0xB004, 0, 1, false, [⟨1, 1, .i16, .ro, 0, 0, 0, 0, 0, 0, 0⟩]⟩,
  ⟨0xB005, 0, 1, false, [⟨1, 1, .i16, .rw, 2, 0x190, -160, 500, 0, 0, 0⟩]⟩,
  ⟨0xB006, 0, 1, false, [⟨1, 1, .i16, .rw, 2, 0x1A4, -160, 500, 0, 0, 0⟩]⟩,
  ⟨0xB008, 0, 1, false, [⟨1, 1, .u16, .rw, 2, 0xA, 10, 10000, 0, 0, 0⟩]⟩,
  ⟨0xB010, 1, 10, true, [⟨1, 1, .u16, .ro, 0, 0, 0, 0, 0, 0, 0⟩,
    ⟨2, 2, .u16, .rw, 2, 0, 0, 65535, 0, 0, 0⟩,
    ⟨3, 3, .u16, .rw, 2, 0, 0, 65535, 0, 0, 0⟩]⟩,
  ⟨0xB030, 1, 4, true, [⟨1, 1, .i16, .rw, 2, 0x4B00, -32768, 32767, 0, 0, 0⟩,
    ⟨2, 2, .u16, .rw, 2, 0x3E8, 0, 65535, 0, 0, 0⟩,
    ⟨3, 3, .u16, .rw, 2, 0xC8, 0, 65535, 0, 0, 0⟩,
    ⟨4, 4, .u8, .ro, 0, 8, 0, 0, 0, 0, 0⟩]⟩,
  ⟨0xB0F0, 0, 1, false, [⟨1, 1, .u8, .ro, 0, 0, 0, 0, 0, 0, 0⟩]⟩,
  ⟨0xB0F1, 0, 1, false, [⟨1, 1, .u32, .rc, 1, 0, 0, 0, 0, 0, 0⟩]⟩,
  ⟨0xB0F2, 0, 1, false, [⟨1, 1, .u32, .rc, 1, 0, 0, 0, 0, 0, 0⟩]⟩,
  ⟨0xB0F3, 0, 1, false, [⟨1, 1, .u32, .rc, 1, 0, 0, 0, 0, 0, 0⟩]⟩,
  ⟨0xB100, 0, 1, false, [⟨1, 1, .addr, .ro, 0, 0x330000, 0, 0, 0, 0, 0⟩]⟩,
  ⟨0xB101, 0, 1, false, [⟨1, 1, .u16, .ro, 0, 0x1000, 0, 0, 0, 0, 0⟩]⟩,
  ⟨0xB102, 0, 1, false, [⟨1, 1, .u16, .ro, 0, 0, 0, 0, 0, 0, 0⟩]⟩,
  ⟨0xB103, 0, 1, false, [⟨1, 1, .u32, .ro, 0, 0, 0, 0, 0, 0, 0⟩]⟩,
  ⟨0xB104, 0, 1, false, [⟨1, 1, .u8, .rw, 2, 2, 0, 5, 0, 0, 0⟩]⟩,
  ⟨0xB105, 0, 1, false, [⟨1, 1, .u8, .rw, 2, 2, 1, 4, 0, 0, 0⟩]⟩,
  ⟨0xB106, 0, 1, false, [⟨1, 1, .u16, .rw, 2, 0x3C, 1, 3600, 0, 0, 0⟩]⟩,
  ⟨0xB107, 0, 1, false, [⟨1, 1, .u32, .ro, 0, 0, 0, 0, 0, 0, 0⟩]⟩,
  ⟨0xB108, 0, 1, false, [⟨1, 1, .u32, .ro, 0, 0, 0, 0, 0, 0, 0⟩]⟩,
  ⟨0xB109, 0, 1, false, [⟨1, 1, .u32, .rw, 1, 0, 0, 4294967295, 0, 0, 0⟩]⟩,
  ⟨0xB10A, 0, 1, false, [⟨1, 1, .octets, .ro, 1, 0, 0, 0, 0, 4096, 0⟩]⟩,
  ⟨0xB10B, 0, 1, false, [⟨1, 1, .bool, .wo, 3, 0, 0, 1, 0, 0, 0⟩]⟩,
  ⟨0xB10C, 0, 1, false, [⟨1, 1, .u32, .rc, 1, 0, 0, 0, 0, 0, 0⟩]⟩]

/-- Objects of chapter 18, piece 1. -/
def objsManage1 : List ObjRow := [
  ⟨0xB10D, 0, 1, false, [⟨1, 1, .u32, .rc, 1, 0, 0, 0, 0, 0, 0⟩]⟩,
  ⟨0xB200, 0, 1, false, [⟨1, 1, .u8, .ro, 0, 0, 0, 0, 0, 0, 0⟩]⟩,
  ⟨0xB201, 0, 1, false, [⟨1, 1, .u8, .ro, 0, 5, 0, 0, 0, 0, 0⟩]⟩,
  ⟨0xB202, 0, 1, false, [⟨1, 1, .u8, .ro, 0, 0, 0, 0, 0, 0, 0⟩]⟩,
  ⟨0xB203, 0, 1, false, [⟨1, 1, .u32, .ro, 0, 0, 0, 0, 0, 0, 0⟩]⟩,
  ⟨0xB204, 0, 1, false, [⟨1, 1, .u32, .ro, 0, 0, 0, 0, 0, 0, 0⟩]⟩,
  ⟨0xB205, 0, 1, false, [⟨1, 1, .u8, .ro, 0, 0, 0, 0, 0, 0, 0⟩]⟩,
  ⟨0xB206, 0, 1, false, [⟨1, 1, .bool, .rw, 2, 0, 0, 1, 0, 0, 0⟩]⟩,
  ⟨0xB207, 0, 1, true, [⟨1, 1, .u32, .ro, 0, 0, 0, 0, 0, 0, 0⟩,
    ⟨2, 2, .u16, .ro, 0, 0xFFFF, 0, 0, 0, 0, 0⟩,
    ⟨3, 3, .u32, .ro, 0, 0, 0, 0, 0, 0, 0⟩,
    ⟨4, 4, .u32, .ro, 0, 0, 0, 0, 0, 0, 0⟩,
    ⟨5, 5, .u8, .ro, 0, 0, 0, 0, 0, 0, 0⟩]⟩,
  ⟨0xB208, 0, 1, false, [⟨1, 1, .u8, .wo, 2, 0, 1, 4, 0, 0, 0⟩]⟩,
  ⟨0xB209, 0, 1, false, [⟨1, 1, .u16, .rw, 2, 0xA, 1, 1440, 0, 0, 0⟩]⟩,
  ⟨0xB20A, 0, 1, false, [⟨1, 1, .u32, .ro, 0, 0, 0, 0, 0, 0, 0⟩]⟩,
  ⟨0xB20B, 0, 1, false, [⟨1, 1, .u32, .rc, 1, 0, 0, 0, 0, 0, 0⟩]⟩,
  ⟨0xB20C, 0, 1, false, [⟨1, 1, .u32, .rc, 1, 0, 0, 0, 0, 0, 0⟩]⟩,
  ⟨0xB20D, 0, 1, false, [⟨1, 1, .u32, .rc, 1, 0, 0, 0, 0, 0, 0⟩]⟩,
  ⟨0xB300, 0, 1, false, [⟨1, 1, .bool, .rw, 2, 1, 0, 1, 0, 0, 0⟩]⟩,
  ⟨0xB301, 0, 1, false, [⟨1, 1, .u8, .rw, 2, 1, 0, 3, 0, 0, 0⟩]⟩,
  ⟨0xB302, 0, 1, false, [⟨1, 1, .u32, .rw, 2, 0x2710, 0, 3600000, 0, 0, 0⟩]⟩,
  ⟨0xB303, 0, 1, true, [⟨1, 1, .u32, .ro, 0, 0, 0, 0, 0, 0, 0⟩,
    ⟨2, 2, .u16, .ro, 0, 0xFFFF, 0, 0, 0, 0, 0⟩,
    ⟨3, 3, .octets, .ro, 0, 0, 0, 0, 0, 9, 0⟩,
    ⟨4, 4, .octets, .ro, 0, 0, 0, 0, 0, 9, 0⟩,
    ⟨5, 5, .time, .ro, 0, 0, 0, 0, 0, 0, 0⟩]⟩,
  ⟨0xB308, 0, 1, true, [⟨1, 1, .octets, .rw, 2, 0, 0, 0, 0, 9, 9⟩,
    ⟨2, 2, .u8, .rw, 2, 1, 0, 3, 0, 0, 0⟩,
    ⟨3, 3, .u8, .rw, 2, 1, 0, 255, 0, 0, 0⟩,
    ⟨4, 4, .u8, .wo, 2, 0, 1, 2, 0, 0, 0⟩,
    ⟨5, 5, .u8, .ro, 0, 0, 0, 0, 0, 0, 0⟩,
    ⟨6, 6, .octets, .ro, 1, 0, 0, 0, 0, 4224, 0⟩]⟩,
  ⟨0xB310, 1, 2, false, [⟨1, 1, .octets, .ro, 0, 0, 0, 0, 0, 16, 0⟩]⟩,
  ⟨0xB318, 0, 1, false, [⟨1, 1, .octets, .ro, 1, 0, 0, 0, 0, 16, 0⟩]⟩,
  ⟨0xB320, 0, 1, false, [⟨1, 1, .u32, .rc, 1, 0, 0, 0, 0, 0, 0⟩]⟩,
  ⟨0xB321, 0, 1, false, [⟨1, 1, .u32, .rc, 1, 0, 0, 0, 0, 0, 0⟩]⟩]

/-- Objects of chapter 18, piece 2. -/
def objsManage2 : List ObjRow := [
  ⟨0xB322, 0, 1, false, [⟨1, 1, .u32, .rc, 1, 0, 0, 0, 0, 0, 0⟩]⟩,
  ⟨0xB323, 0, 1, false, [⟨1, 1, .u32, .rc, 1, 0, 0, 0, 0, 0, 0⟩]⟩]

/-- Objects of chapter 19, piece 0. -/
def objsMode0 : List ObjRow := [
  ⟨0x100, 0, 1, false, [⟨1, 1, .u8, .ro, 0, 3, 0, 0, 0, 0, 0⟩]⟩,
  ⟨0x101, 0, 1, false, [⟨1, 1, .u16, .ro, 0, 2, 0, 0, 0, 0, 0⟩]⟩,
  ⟨0x102, 0, 1, false, [⟨1, 1, .u8, .wo, 2, 0, 1, 6, 0, 0, 0⟩]⟩,
  ⟨0x103, 0, 1, false, [⟨1, 1, .tick, .ro, 0, 0, 0, 0, 0, 0, 0⟩]⟩,
  ⟨0x104, 0, 1, false, [⟨1, 1, .bool, .rw, 2, 1, 0, 1, 0, 0, 0⟩]⟩,
  ⟨0x105, 0, 1, false, [⟨1, 1, .u16, .ro, 0, 0, 0, 0, 0, 0, 0⟩]⟩,
  ⟨0x110, 0, 1, false, [⟨1, 1, .u8, .ro, 0, 1, 0, 0, 0, 0, 0⟩]⟩,
  ⟨0x111, 0, 1, false, [⟨1, 1, .u32, .wo, 2, 0, 0, 4294967295, 0, 0, 0⟩]⟩,
  ⟨0x112, 0, 1, false, [⟨1, 1, .u32, .ro, 0, 0, 0, 0, 0, 0, 0⟩]⟩,
  ⟨0x113, 0, 1, false, [⟨1, 1, .u32, .ro, 0, 0, 0, 0, 0, 0, 0⟩]⟩,
  ⟨0x120, 0, 1, false, [⟨1, 1, .u16, .ro, 0, 0, 0, 0, 0, 0, 0⟩]⟩,
  ⟨0x130, 0, 1, false, [⟨1, 1, .u8, .ro, 0, 1, 0, 0, 0, 0, 0⟩]⟩,
  ⟨0x131, 0, 1, false, [⟨1, 1, .u8, .wo, 2, 0, 1, 2, 0, 0, 0⟩]⟩,
  ⟨0x132, 0, 1, false, [⟨1, 1, .octets, .wo, 2, 0, 0, 0, 0, 128, 128⟩]⟩,
  ⟨0x133, 0, 1, false, [⟨1, 1, .u8, .ro, 0, 0, 0, 0, 0, 0, 0⟩]⟩,
  ⟨0x140, 0, 1, false, [⟨1, 1, .u8, .wo, 2, 0, 1, 2, 0, 0, 0⟩]⟩,
  ⟨0x141, 0, 1, true, [⟨1, 1, .u8, .ro, 0, 0xFF, 0, 0, 0, 0, 0⟩,
    ⟨2, 2, .u32, .ro, 0, 0, 0, 0, 0, 0, 0⟩,
    ⟨3, 3, .u8, .ro, 0, 0, 0, 0, 0, 0, 0⟩,
    ⟨4, 4, .u16, .ro, 0, 0, 0, 0, 0, 0, 0⟩]⟩,
  ⟨0x142, 0, 1, false, [⟨1, 1, .u8, .ro, 0, 1, 0, 0, 0, 0, 0⟩]⟩]

/-- A piece of the table: its objects lie from lo to hi. -/
structure ObjPiece where
  lo : Nat
  hi : Nat
  rows : List ObjRow

/-- Every object of the dictionary, in the order of the chapters. -/
def objTable : List ObjPiece := [
  ⟨0x0000, 0x0037, objsIdentity0⟩, ⟨0x0210, 0x0246, objsDict0⟩, ⟨0x0247, 0x0249, objsDict1⟩,
  ⟨0x1000, 0x1087, objsRing0⟩, ⟨0x1088, 0x111B, objsRing1⟩, ⟨0x111C, 0x11B8, objsRing2⟩,
  ⟨0x1149, 0x11BF, objsRing3⟩, ⟨0x1200, 0x1258, objsForward0⟩, ⟨0x1215, 0x124F, objsForward1⟩,
  ⟨0x1300, 0x13BC, objsSwitch0⟩, ⟨0x1400, 0x1440, objsIntegrity0⟩, ⟨0x5000, 0x501B, objsTime0⟩,
  ⟨0x501C, 0x5081, objsTime1⟩, ⟨0x5020, 0x508A, objsTime2⟩, ⟨0x2000, 0x2FF7, objsSerial0⟩,
  ⟨0x2018, 0x2FFF, objsSerial1⟩, ⟨0x3000, 0x31FF, objsCan0⟩, ⟨0x3400, 0x37FF, objsEngine0⟩,
  ⟨0x4000, 0x45FD, objsDiscrete0⟩, ⟨0x6000, 0x6FFF, objsMapper0⟩, ⟨0x7000, 0x7841, objsFabric0⟩,
  ⟨0x7850, 0x7853, objsFabric1⟩, ⟨0x7C00, 0x7C79, objsHost0⟩, ⟨0x7C7A, 0x7C80, objsHost1⟩,
  ⟨0x8000, 0x8023, objsTwin0⟩, ⟨0x8024, 0x802F, objsTwin1⟩, ⟨0x9000, 0x91F8, objsPower0⟩,
  ⟨0x9109, 0x91FF, objsPower1⟩, ⟨0xA000, 0xA028, objsFault0⟩, ⟨0xA029, 0xA183, objsFault1⟩,
  ⟨0xB000, 0xB10C, objsManage0⟩, ⟨0xB10D, 0xB321, objsManage1⟩, ⟨0xB322, 0xB323, objsManage2⟩,
  ⟨0x0100, 0x0142, objsMode0⟩]

/-- Object o is one of the row's objects. -/
def ObjRow.has (r : ObjRow) (o : Nat) : Bool :=
  if r.stride = 0 then o == r.base
  else Nat.ble r.base o && ((o - r.base) % r.stride == 0) && Nat.blt ((o - r.base) / r.stride) r.count

/-- The row of a piece that holds object o. -/
def objFind (o : Nat) : List ObjRow → Option ObjRow
  | [] => none
  | r :: rs => if r.has o then some r else objFind o rs

/-- The row of the dictionary that holds object o (R87: none is NO_OBJECT). -/
def objLookup (o : Nat) : List ObjPiece → Option ObjRow
  | [] => none
  | p :: ps =>
    if Nat.ble p.lo o && Nat.ble o p.hi then (match objFind o p.rows with
      | some r => some r
      | none => objLookup o ps)
    else objLookup o ps

/-- The member row of member m. -/
def memFind (m : Nat) : List MemRow → Option MemRow
  | [] => none
  | r :: rs => if Nat.ble r.m0 m && Nat.ble m r.m1 then some r else memFind m rs

/-- Object row of object o. -/
def objectOf (o : Nat) : Option ObjRow := objLookup o objTable

/-- Member row of member m of object o. -/
def memberOf (o m : Nat) : Option MemRow := match objectOf o with
  | some r => memFind m r.members
  | none => none

/-- R34: the highest member number an object holds. -/
def ObjRow.high (r : ObjRow) : Nat := r.members.foldl (fun a x => max a x.m1) 0

/-- BUF_LIMIT at reset, R193, for output p and class c. -/
def bufLimitReset (p c : Nat) : Nat :=
  let row : List Nat :=
    if p < 4 then [0, 64, 1024, 512, 256, 512, 256, 1024]
    else if p < 12 then [0, 0, 256, 128, 64, 512, 128, 256]
    else if p = 12 then [0, 0, 1024, 512, 0, 512, 0, 0]
    else if p = 13 then [0, 0, 0, 0, 256, 0, 0, 1024]
    else if p = 14 then [0, 256, 0, 0, 512, 0, 512, 0]
    else [0, 0, 0, 0, 256, 0, 0, 1024]
  row.getD c 0

/-- Owner of bank b at the end of BOOT, R455, by the owner codes of R456. -/
def bankOwnerReset (b : Nat) : Nat :=
  if b < 32 then 0 else if b < 44 then 3 else if b < 48 then 6 else if b < 54 then 1
  else if b < 58 then 2 else if b < 60 then 5 else 1

/-- VM_LOW and VM_HIGH of monitor k, R601. -/
def vmonLimits (k : Nat) : Nat × Nat :=
  if k < 4 then (760, 840) else if k = 4 then (3135, 3465) else if k = 5 then (1710, 1890) else if k = 6 then (3135, 3465)
  else if k = 7 then (855, 945) else if k = 8 then (1238, 1262) else (1800, 3650)

/-- The defaults that differ from instance to instance (R134, R193, R327, R375, R455, R594, R601, R678); none leaves the
table's own default. -/
def specialDefault (o m : Nat) : Option Nat :=
  if o < 0x1040 then (if 0x1000 ≤ o ∧ o % 16 = 0 ∧ m = 1 then some (if o < 0x1020 then 1 else 0) else none)
  else if 0x1310 ≤ o ∧ o < 0x1320 then some (bufLimitReset (o - 0x1310) (m - 1))
  else if 0x3000 ≤ o ∧ o < 0x3200 then
    (if o % 16 = 9 then some (0x2C0000 + ((o - 0x3000) / 16) * 0x2000) else none)
  else if 0x3400 ≤ o ∧ o < 0x3800 then
    (if o % 16 = 2 then some (0x140 + 6 * (((o - 0x3400) / 16) % 8)) else none)
  else if 0x7800 ≤ o ∧ o < 0x7840 ∧ m = 1 then some (bankOwnerReset (o - 0x7800))
  else if 0xA008 ≤ o ∧ o < 0xA00C then
    some (if m = 1 then [1000000, 100000, 10000, 10].getD (o - 0xA008) 0 else [0, 0, 1, 2].getD (o - 0xA008) 0)
  else if 0xB010 ≤ o ∧ o < 0xB01A then
    (if m = 2 then some (vmonLimits (o - 0xB010)).1 else if m = 3 then some (vmonLimits (o - 0xB010)).2 else none)
  else none

/-- The value that member key k holds at reset. -/
def regDefault (k : Nat) : Nat :=
  match specialDefault (k / 256) (k % 256) with
  | some v => v
  | none => match memberOf (k / 256) (k % 256) with
    | some r => r.dflt
    | none => 0

/-- Width in bits of a value of fixed width, R39. -/
def Ty.bits : Ty → Nat
  | .bool => 8 | .u8 => 8 | .i8 => 8 | .u16 => 16 | .i16 => 16 | .u32 => 32 | .i32 => 32 | .u64 => 64 | .i64 => 64
  | .f32 => 32 | .octets => 0 | .text => 0 | .time => 64 | .tick => 48 | .addr => 64

/-- Type code of R39. -/
def Ty.code : Ty → Nat
  | .bool => 1 | .u8 => 2 | .i8 => 3 | .u16 => 4 | .i16 => 5 | .u32 => 6 | .i32 => 7 | .u64 => 8 | .i64 => 9
  | .f32 => 10 | .octets => 11 | .text => 12 | .time => 13 | .tick => 14 | .addr => 15

/-- The value's types that are two's complement. -/
def Ty.signed : Ty → Bool
  | .i8 => true | .i16 => true | .i32 => true | .i64 => true
  | _ => false

/-- Access code of R36. -/
def Acc.code : Acc → Nat
  | .ro => 0 | .rw => 1 | .wo => 2 | .rc => 3 | .rwc => 4 | .rwt => 5

/-- R36: the member descriptor; LONG says that the value can exceed 8 bytes, READ_EFFECT is R37. -/
def MemRow.descriptor (r : MemRow) : Nat :=
  r.ty.code + r.acc.code * 2 ^ 8 + r.lvl * 2 ^ 11 + (if r.acc = .rc then 2 ^ 13 else 0)
    + (if 8 < r.maxLen then 2 ^ 14 + (r.maxLen - 1) * 2 ^ 16 else 0)

/-- R34: the object descriptor, member .00. -/
def ObjRow.descriptor (r : ObjRow) : Nat :=
  (if r.isRecord then 0x10 else match r.members with
    | [] => 0
    | x :: _ => x.ty.code) + r.high * 256

/-- R36, R81: the value can exceed 8 bytes. -/
def MemRow.isLong (r : MemRow) : Bool := Nat.blt 8 r.maxLen

/-- The member holds octets or text. -/
def MemRow.isBytes (r : MemRow) : Bool := r.ty == .octets || r.ty == .text

end Sys2Proof.Machine
end

