-- ==== Sys2Proof/Machine/State.lean ====
section
/-! DEFINITION. The machine's state as plain data: every piece of state the spec gives the VX1280, one structure per
chapter, the store of the dictionary's members, the memory, and the queue of waiting commands. Also the reasons for a
fault or a refusal, and the state after reset. -/

namespace Sys2Proof.Machine

/-- Memory: (address, byte) pairs, addresses strictly rising, no entry equal to what an unlisted address reads as. The
addresses are the local offsets of R21: banks 0 to 63 from 0, swap banks from 0x400000. -/
abbrev Memory := List Host.Cell

/-! The object dictionary engine (chapter 02). -/

/-- A dictionary request: the DICT_REQ frame whose payload spells it (R59), and the level of one that the node's own
firmware makes, or that a register command stands for; none for a request that a frame carried. -/
structure Req where
  f : Frame := {}
  lvl : Option Nat := none
  deriving DecidableEq, Repr

/-- A kept transaction of a session (R67): its number, and the response's payload with SEGMENTED and LAST; none for a posted
request. -/
structure Replay where
  txn : Nat
  rsp : Option (Bytes × Bool × Bool)
  deriving DecidableEq, Repr

/-- A session (R52 to R56, R67). -/
structure Session where
  level : Nat
  src : Nat
  lastReq : Nat
  replay : List Replay := []
  deriving DecidableEq, Repr

/-- A segmented transfer (R71 to R80). The owner is a session number, or 0x10000 + source for session 0; `key` is the
member's, `bank` the staging bank, whose contents are `buf`. -/
structure SegXfer where
  owner : Nat
  write : Bool
  key : Nat
  bank : Nat
  buf : Bytes
  total : Nat
  next : Nat
  lastAt : Nat
  timeout : Nat
  deriving DecidableEq, Repr

/-- A pending RWT value (R43): member, value, the tick at which it takes effect, when the write completed, its source. -/
structure PendRwt where
  key : Nat
  value : Nat
  tick : Nat
  done : Nat
  src : Nat
  deriving DecidableEq, Repr

/-- An answer that the engine gave to a request that no frame carried (R61). -/
structure DictAnswer where
  cmd : Nat
  key : Nat
  status : Nat
  data : Bytes
  deriving DecidableEq, Repr

/-- The dictionary engine: open sessions by number, refused OPENs in a row, the end of a lockout, the request queue, the
segmented transfers, `ended` the owners and members whose transfer ended abandoned (true) or aborted (false) (R78, R80), the
pending RWT values, the last answer on a local path; at the standby of a pair the OPENs that wait for their number (level
and source) and the numbers that came before their OPEN (R506). -/
structure DictState where
  sessions : List (Nat × Session) := []
  fails : Nat := 0
  lockEnd : Option Nat := none
  queue : List Req := []
  xfers : List SegXfer := []
  ended : List (Nat × Nat × Bool) := []
  rwt : List PendRwt := []
  answer : Option DictAnswer := none
  opens : List (Nat × Nat) := []
  numbers : List Nat := []
  deriving DecidableEq, Repr

/-! Ring links, membership and trunks (chapter 03). -/

/-- A ring port beside its dictionary objects (R91 to R106): the levels of RP_p_PRES_N (as `present`), RP_p_LOS, RP_p_TX_FAULT and
RP_p_TX_DIS; what the module answers at address 0xA0; whether the receive side has lock or synchronisation, and every condition
of DOWN; whether the port sends fault or configuration ordered sets, and whether it will after the frame in transmission (R98);
its timers and marks. -/
structure RingPort where
  enabled : Bool := false
  present : Bool := false
  module : Option Bytes := none
  los : Bool := false
  txFault : Bool := false
  lock : Bool := false
  faultDue : Bool := false
  good : Bool := false
  failing : Bool := false
  serdes : Bool := false
  txDis : Bool := true
  sendFault : Bool := false
  viaJoined : Bool := false
  everUp : Bool := false
  qualEnd : Option Nat := none
  wrapEnd : Option Nat := none
  holdEnd : Option Nat := none
  reqNext : Option Nat := none
  reqSent : Bool := false
  wrapped : Bool := false
  wrapDue : Bool := false
  sfpNext : Option Nat := none
  sfpBad : Nat := 0
  sfpGood : Nat := 0
  deriving DecidableEq, Repr

/-- A member record of the census (R115). -/
structure Member where
  addr : Nat := 0xFFFF
  service : Nat := 0xFFFF
  twin : Nat := 0
  flags : Nat := 0
  ports : Nat := 0
  addrSrc : Nat := 0
  family : Nat := 0x1280
  other : Nat := 0xFFFF
  segment : Nat := 0
  uid : Bytes := []
  deriving DecidableEq, Repr

/-- A census table waiting for its apply tick (R120). -/
structure PendTable where
  tick : Nat
  gen : Nat
  origin : Nat
  members : List Member
  deriving DecidableEq, Repr

/-- The census of one pair: the newest generation seen, the census handled, its batches and timers, the APPLY_LEAD at its
origination, and the table applied (R113 to R121). -/
structure Census where
  newest : Nat := 0
  lead : Nat := 0
  handled : Option (Nat × Nat) := none
  cause : Nat := 0
  own : Bool := false
  appended : Bool := false
  returned : List Member := []
  finals : List (Nat × List Member) := []
  gap : Bool := false
  deadline : Option Nat := none
  finalEnd : Option Nat := none
  held : Option Nat := none
  pending : Option PendTable := none
  table : List Member := []
  deriving DecidableEq, Repr

/-- A trunk block (R127). -/
structure TrunkBlock where
  linkSeq : Nat := 0
  ack : Nat := 0
  kind : Nat := 0
  format : Nat := 1
  body : Bytes := []
  deriving DecidableEq, Repr

/-- A block sent and not acknowledged (R132): the frame it belongs to, the end of its TRUNK_RTO and the times it was sent. -/
structure TrunkSent where
  block : TrunkBlock
  fid : Nat
  deadline : Nat
  times : Nat := 1
  deriving DecidableEq, Repr

/-- A queued frame: system time when it entered the queue, in nanoseconds, and the retries fixed when it was first sent (R131, R139). -/
structure Queued where
  frame : Frame
  entered : Nat
  retries : Option Nat := none
  deriving DecidableEq, Repr

/-- A frame whose sending has begun (R131): its number, when it entered the queue and the retries it may take. -/
structure TrunkFrame where
  fid : Nat
  frame : Frame
  entered : Nat
  retries : Nat
  deriving DecidableEq, Repr

/-- One plane of a trunk (R129, R132): sequence numbers, the window, how many of its last blocks are still to be resent,
the frames begun, the rest of the body being cut, and the body being joined. -/
structure TrunkPlane where
  txSeq : Nat := 1
  rxSeq : Nat := 0
  nextFid : Nat := 0
  unacked : List TrunkSent := []
  again : Nat := 0
  frames : List TrunkFrame := []
  rest : Bytes := []
  first : Bool := true
  deflated : Bool := false
  joining : Bytes := []
  joinDeflated : Bool := false
  joinOpen : Bool := false
  lastSent : Nat := 0
  ackDue : Bool := false
  deriving DecidableEq, Repr

/-- A serial trunk (R125 to R133): its planes; the frames that wait; the characters of the slot that runs on its line; and those
received since the last flag. -/
structure Trunk where
  control : TrunkPlane := {}
  manage : TrunkPlane := {}
  queue : List Queued := []
  slot : Nat := 3
  lastGood : Nat := 0
  resetDue : Bool := false
  resetWait : Bool := false
  lastReset : Nat := 0
  line : Bytes := []
  rx : Bytes := []
  deriving DecidableEq, Repr

/-- What left a ring port last: the frame, whether its end was poisoned, and the bytes after which the port ended it, where it
ended it at once (R140, R141, R159). -/
structure LineSent where
  frame : Frame := {}
  poisoned : Bool := false
  cut : Option Nat := none
  deriving DecidableEq, Repr

/-- Ring links, membership and trunks (R91 to R142). -/
structure RingState where
  ports : List (Nat × RingPort) := []
  linkWaitEnd : Option Nat := none
  lone : Bool := false
  degradedUntilCensus : Bool := false
  home : Census := {}
  branch : Census := {}
  trunks : List (Nat × Trunk) := []
  sent : List (Nat × LineSent) := []
  deriving DecidableEq, Repr

/-! Frames and forwarding (chapter 04) and the switch core (chapter 05). -/

/-- A tracked stream (R160 to R162): ORIGIN_KEY, CLASS, STREAM, LAST and the time of its last update. -/
structure Track where
  okey : Nat
  cls : Nat
  stream : Nat
  last : Nat
  used : Nat
  deriving DecidableEq, Repr

/-- A frame arriving at a ring port: the frame, since when, its entry in the switch (none when it was disposed of), whether
the node delivers it, and whether the checker reads its transit check inverted (R223). -/
structure Arriving where
  frame : Frame
  since : Nat := 0
  entry : Option Nat := none
  deliver : Bool := false
  inverted : Bool := false
  deriving DecidableEq, Repr

/-- A port's output hold (R164, R165). -/
structure Hold where
  since : Nat
  ends : Nat
  deriving DecidableEq, Repr

/-- Forwarding state (R160 to R165). -/
structure FwdState where
  tracker : List Track := []
  seqs : List (Nat × Nat × Nat × Nat) := []
  arriving : List (Nat × Arriving) := []
  holds : List (Nat × Hold) := []
  deriving DecidableEq, Repr

/-- One output of a switch entry: cells matched, cells that have come to that output's stage, cells that have left the stage
for the line or the consumer, whether this copy is finished, whether it waited in a frozen queue (R165), and whether a cell
of it proved uncorrectable (R219). -/
structure OutCopy where
  out : Nat
  sent : Nat := 0
  come : Nat := 0
  gone : Nat := 0
  done : Bool := false
  held : Bool := false
  bad : Bool := false
  deriving DecidableEq, Repr

/-- A frame in the switch (R172, R173, R183): its input, its cells and the banks they lie in, the cells freed, how it ended
(none while it arrives; false for a bad end of the given cause, 0 for one that arrived poisoned), the outputs it is bound for,
and the end of its wait for room. -/
structure SwEntry where
  id : Nat
  inp : Nat
  frame : Frame
  cells : Nat
  banks : List Nat := []
  since : Nat
  freed : Nat := 0
  ended : Option Bool := some true
  cause : Nat := 0
  cut : Bool := false
  outs : List OutCopy := []
  waitEnd : Option Nat := none
  deriving DecidableEq, Repr

/-- One output of the switch (R174, R175): its stage (entries of the cells in it, oldest first), the frame lock, the holder and hold
budget of each class, the local rotating pointer, and at a ring port the instant (in 0.1 ns) its line is free. -/
structure SwOut where
  stage : List Nat := []
  lock : Option Nat := none
  holder : List (Nat × (Nat × Nat)) := []
  localPtr : Nat := 4
  busy : Nat := 0
  deriving DecidableEq, Repr

/-- A cell on its way from its bank to an output's stage (R176): output, entry, and the slots until it is recorded. -/
structure Flight where
  out : Nat
  id : Nat
  wait : Nat
  deriving DecidableEq, Repr

/-- The switch core and buffer manager (R170 to R197). `lastBank` is the bank of the cell placed last; `fairMs` and
`accountMs` number the milliseconds of system time whose ends R194 and R192 act on next. -/
structure SwitchState where
  pipe : List Flight := []
  lastBank : Nat := 63
  fairMs : Nat := 0
  accountMs : Nat := 0
  seeking : List SwEntry := []
  entries : List SwEntry := []
  outs : List (Nat × SwOut) := []
  acceptPtr : List (Nat × Nat) := []
  nextId : Nat := 0
  insT : List (Nat × Nat) := []
  insK : List (Nat × Nat) := []
  starts : List (Nat × Nat × Nat) := []
  srcKeys : List (Nat × Nat × Nat) := []
  delivered : List (Nat × Frame) := []
  deriving DecidableEq, Repr

/-- End-to-end integrity (chapter 06): the checker and instance of the injection armed (R223), egress failures of a second per
checker and instance with that second, the value of EGRESS_BURST_LIMIT that a write left in force and the second of that
write, and the FCLK cycle of the last failure recorded (R221). -/
structure IntegState where
  armed : Nat × Nat := (0, 0)
  egress : List (Nat × Nat × Nat) := []
  egressSecond : Nat := 0
  burstOld : Option (Nat × Nat) := none
  lastFail : Option Nat := none
  deriving DecidableEq, Repr

/-! Time and the tick (chapter 07). -/

/-- Per ring port: the link delay exchange (R243, R244): the exchanges that wait for their response (number, t1, the local instant
at which 1 ms has gone by since the request left), oldest first. -/
structure PeerPort where
  waiting : List (Nat × Nat × Nat) := []
  nextExchange : Nat := 0
  results : List Nat := []
  taken : Nat := 0
  misses : Nat := 0
  burst : Nat := 0
  nextAt : Option Nat := none
  deriving DecidableEq, Repr

/-- The time base. `now` counts local nanoseconds of FCLK since power-on; `sys` is system time in units of 2^-32 ns
(R229); f and a are in units of 2^-32 * 10^-9 (log entry 12). `lastTick` is the last tick that fired, not reduced; `tag` the number
that the tick units gave its captures (R30); `armed` the tick of the last arm record; `firstAccepted` and `ppsFirst` tell whether a
TIME_SYNC was accepted and a valid 1PPS edge seen since the end of BOOT (R249). -/
structure TimeState where
  now : Nat := 0
  sys : Nat := 0
  f : Int := 0
  a : Int := 0
  periodCode : Nat := 0
  prioInForce : Nat := 128
  bridgeInForce : Nat := 0
  lastTick : Option Nat := none
  armed : Option Nat := none
  tag : Option Nat := none
  inRun : Nat := 0
  outRun : Nat := 0
  firstAccepted : Bool := false
  everAccepted : Bool := false
  lastAccept : Nat := 0
  masterSync : Nat := 4
  enteredState : Nat := 0
  heard : List (Nat × Nat × Nat) := []
  peers : List (Nat × PeerPort) := []
  ppsExpected : Bool := false
  ppsValid : Nat := 0
  ppsRejected : Nat := 0
  ppsLast : Nat := 0
  ppsOut : Bool := false
  ppsFirst : Bool := false
  newPeriod : Option Nat := none
  nextSync : Nat := 0
  steppedTo : Nat := 0
  deriving DecidableEq, Repr

/-- An event record (R258). -/
structure EvRec where
  tick : Nat := 0
  node : Nat := 0
  source : Nat := 0
  kind : Nat := 0
  sev : Nat := 0
  flags : Nat := 0
  value : Nat := 0
  seq : Nat := 0
  deriving DecidableEq, Repr

/-- The event stream: records waiting for their tick's close, ticks waiting to close with their close instants, and
the event queue (R262 to R266). -/
structure EventState where
  early : List EvRec := []
  opened : List EvRec := []
  waiting : List (Nat × Nat) := []
  closed : Option Nat := none
  slots : List (Nat × EvRec) := []
  seq : Nat := 0
  lostBefore : Bool := false
  moving : Bool := false
  held : List EvRec := []
  heldRd : List Nat := []
  limited : List (Nat × Nat) := []
  deriving DecidableEq, Repr

/-- One pending entry of the schedule table (R269, R270). -/
structure SchedEntry where
  target : Nat
  bank : Nat
  mask : Nat
  value : Nat
  deriving DecidableEq, Repr

/-- A value in a bank's output update register (R384, R399): when it was complete, 0 for a scheduled entry, 1 for an item and
2 for a write, and for an entry due at its target the target tick. -/
structure OutUpd where
  at_ : Nat
  rank : Nat
  bank : Nat
  mask : Nat
  value : Nat
  target : Option Nat := none
  deriving DecidableEq, Repr

/-- The schedule table, its post register (R19) and the values waiting in the output update registers for a strobe. -/
structure SchedState where
  table : List SchedEntry := []
  post : Option SchedEntry := none
  updates : List OutUpd := []
  deriving DecidableEq, Repr

/-! Serial channels (chapter 08). -/

/-- A closed receive record (R297): the flags [15:9] of its length word, key, number, tick, payload and check. -/
structure RxRec where
  flags : Nat := 0
  key : Nat := 0
  seq : Nat := 0
  tick : Nat := 0
  payload : Bytes := []
  check : Nat := 0
  deriving DecidableEq, Repr

/-- A packet in reception: the settings that its first byte fixed, the payload it may reach in its bank, whether that is
less than CH_RX_MAX, and whether the rest of it is ignored (R299, R302, R306). -/
structure Packet where
  bytes : Bytes := []
  tick : Nat := 0
  since : Nat := 0
  flags : Nat := 0
  sel : Nat := 0
  table : Bytes := []
  mb : Nat := 0
  dflt : Nat := 0xFFFF
  gap : Nat := 0
  cap : Nat := 0
  short : Bool := false
  skip : Bool := false
  deriving DecidableEq, Repr

/-- A record in a transmit bank (R310): its bytes, and the STREAM and SEQUENCE of the item that brought it. -/
structure TxRec where
  data : Bytes
  cls : Nat := 5
  stream : Nat := 0
  seq : Nat := 0
  deriving DecidableEq, Repr

/-- A serial channel beside its objects (R273 to R318): receive banks as records with the bytes already popped, the open packet, transmit
staging and banks, the bytes on the line, DE, its lag for the record under way and the lag's end, chip select, when the record under
way began (by `now` and by system time), when the last received and the last sent stop bit ended, the bytes of an I²C write that a
read follows (R289), and its other times. `port` is the last answer of its data port,
none for an error response. -/
structure Chan where
  rxFill : List RxRec := []
  rxDrain : List RxRec := []
  rxRead : Nat := 0
  fillSince : Nat := 0
  packet : Option Packet := none
  lostBefore : Bool := false
  lostNow : Bool := false
  rxSeq : Nat := 0
  staging : List Frame := []
  txFill : List TxRec := []
  txDrain : List TxRec := []
  busy : Bool := false
  line : Bytes := []
  de : Bool := false
  lag : Nat := 0
  deUntil : Nat := 0
  cs : Bool := false
  startAt : Nat := 0
  startSys : Nat := 0
  lastEnd : Nat := 0
  sentEnd : Nat := 0
  pecRun : Bytes := []
  retries : Nat := 0
  arbEnd : Option Nat := none
  stuckNext : Option Nat := none
  silentFrom : Nat := 0
  silent : Bool := false
  taken : Nat := 0
  port : Option Bytes := none
  deriving DecidableEq, Repr


/-! CAN FD controllers (chapter 09). -/

/-- A transmit mailbox (R329), and the STREAM and SEQUENCE of the item that filled it. -/
structure Mailbox where
  ident : Nat := 0
  frame : Nat := 0
  state : Nat := 0
  tick : Nat := 0
  offset : Nat := 0
  fcSof : Nat := 0
  attempts : Nat := 0
  data : Bytes := []
  cls : Nat := 5
  stream : Nat := 0
  seq : Nat := 0
  deriving DecidableEq, Repr

/-- A CAN controller beside its objects: mailboxes, receive slots, staging and post register, error counters, the ACTIVE
mailbox with the instant S of R336 in half nanoseconds and whether a late abort waits on it; filter bytes overwritten since the
last frame: offset, old byte and the time of the write (R328); the end of the intermission after the last attempt (R515). Of the
transmit staging, the bytes of each item with the instant at which they have left it, and when the hold buffer is free (R332).
`flagTx` tells that the last error flag was sent as a transmitter (R344). -/
structure Can where
  idleAt : Nat := 0
  boxes : List (Nat × Mailbox) := []
  slots : List (Nat × Bytes) := []
  staging : List (Nat × Nat) := []
  holdFree : Nat := 0
  post : Option Frame := none
  flagTx : Bool := false
  tec : Nat := 0
  rxErr : Nat := 0
  delay : Nat := 0
  active : Option Nat := none
  started : Bool := false
  sAt : Nat := 0
  lateAbort : Bool := false
  rxSeq : Nat := 0
  lastSof : Nat := 0
  offSince : Nat := 0
  filterOld : List (Nat × Byte × Nat) := []
  deriving DecidableEq, Repr

/-- The frame counter's latch (R342): counter and tick; and the counter at the strobes before it, newest first, as tick and counter,
for as long as a frame may last (R343). -/
structure FcLatch where
  counter : Nat := 0
  tick : Nat := 0
  past : List (Nat × Nat) := []
  deriving DecidableEq, Repr


/-! Pin engines (chapter 10). -/

/-- A pin engine beside its objects (R357): registers, queues, pending changes, the progress of the instruction under way,
the levels and directions of its group, the last answer of its data registers (none for an error response), the local ns at
which the next engine cycle begins, and the last tick strobe that a WAIT may use, with the instant at which it is visible (R362). CMPR
is held in ENG_CMPR. -/
structure Engine where
  sr : Nat := 0
  fill : Nat := 0
  cnt : Nat := 0
  eq : Bool := false
  pc : Nat := 0
  tx : List Nat := []
  rx : List Nat := []
  acc : Nat := 0
  wraps : Nat := 0
  stopAtWrap : Bool := false
  pendProg : Option Bytes := none
  pendWrap : Option Nat := none
  pendDiv : Option Nat := none
  bitsDone : Nat := 0
  overrun : Bool := false
  tickSeen : Option (Nat × Nat) := none
  since : Nat := 0
  levels : Nat := 0
  dirs : Nat := 0
  safeDue : Bool := false
  port : Option Bytes := none
  deriving DecidableEq, Repr



/-! Discrete lines and measurement inputs (chapter 11). -/

/-- A discrete bank beside its objects (R378, R379): per line the debounce run, the strobes since its pin changed (up to 2) and the run of
readback differences (up to 2); the code of the last supply sense; whether the supply has left; the lines driven. -/
structure DiscBank where
  runs : List (Nat × Nat) := []
  age : List (Nat × Nat) := []
  diffs : List (Nat × Nat) := []
  sensed : Option Nat := none
  gone : Bool := false
  driven : Nat := 0
  deriving DecidableEq, Repr

/-- Discrete lines: the banks; per cluster the switch entries of its waiting records and whether one was lost; the lines that
rules hold (rule, line, level), and the rules disabled since the last pass with the time; whether CONFIG has been left since
reset; whether the unit keeps its lines high-impedance or frozen (R505, R518); safe values lately overwritten: member, old value
and the time of the write (R33). -/
structure DiscState where
  banks : List (Nat × DiscBank) := []
  records : List (Nat × List Nat) := []
  lost : List (Nat × Bool) := []
  holds : List (Nat × Nat × Bool) := []
  drops : List (Nat × Nat) := []
  left : Bool := false
  mute : Bool := false
  frozen : Bool := false
  safeOld : List (Nat × Nat × Nat) := []
  deriving DecidableEq, Repr

/-- One threshold pair (R396, R397): its state, its run, the state of its last record and the tick of that record. -/
structure MeasPair where
  active : Bool := false
  run : Nat := 0
  recorded : Bool := false
  recTick : Option Nat := none
  deriving DecidableEq, Repr

/-- A measurement input beside its objects (R389 to R398): the instant (ns of system time) after which samples are taken, the last sample
instant, the STEP_COUNT it knows, samples that still carry SETTLING, the set in formation with its key, first instant and
flags, the switch entries of its waiting sets, and its pairs. -/
structure Meas where
  running : Bool := false
  start : Nat := 0
  lastAt : Option Nat := none
  steps : Nat := 0
  settle : Nat := 0
  opened : Bool := false
  clipped : Bool := false
  settling : Bool := false
  codes : List Nat := []
  key : Nat := 0
  t0 : Nat := 0
  flags : Nat := 0
  sets : List Nat := []
  lostBefore : Bool := false
  pairA : MeasPair := {}
  pairB : MeasPair := {}
  deriving DecidableEq, Repr


/-! The signal mapper and the interlock rules (chapter 12). -/

/-- An output item that a route has built (R413, R414): its route key, DEST_KIND, DEST, CLASS code, URGENT, OUT_KEY, LEAD and payload. -/
structure MapOut where
  route : Nat
  kind : Nat
  dest : Nat
  cls : Nat
  urgent : Bool
  key : Nat
  lead : Nat
  payload : Bytes
  deriving DecidableEq, Repr

/-- A slot store waiting for release (R415): slot, value (I32 image), whether it saturated, route key. -/
structure SlotStore where
  slot : Nat
  value : Nat
  sat : Bool
  route : Nat
  deriving DecidableEq, Repr

/-- A route entry (R405, R406). -/
structure MapRoute where
  flags : Nat
  dest : Nat
  outId : Nat
  canFrame : Nat
  canMailbox : Nat
  outLen : Nat
  program : Nat
  outKey : Nat
  origin : Nat
  next : Nat
  lead : Nat
  tail : Nat
  deriving DecidableEq, Repr

/-- Where an item's chain stands (R408): the route it runs and its key, how many routes the chain may still reach with this one, and the
mapping entry that it fetches next (none: the route begins). -/
structure MapStep where
  key : Nat
  route : MapRoute
  left : Nat
  entry : Option Nat := none
  deriving DecidableEq, Repr

/-- An input item in the mapper: the outputs and the stores that its chain has made, the map fault (cause, route, entry), whether
its check read the carried bits inverted (R223); the output payload in building, the work done (R408), the routes reached
whose HITS has not risen yet, where the chain stands (none: at its end), and when its next unit of work is due (ns, local). -/
structure MapRun where
  item : Frame
  outs : List MapOut := []
  stores : List SlotStore := []
  fault : Option (Nat × Nat × Nat) := none
  inverted : Bool := false
  out : Bytes := []
  work : Nat := 0
  hits : List Nat := []
  at_ : Option MapStep := none
  due : Nat := 0
  deriving DecidableEq, Repr

/-- An interlock rule beside its objects (R421, R422): its state, its run, staleness, and an accepted reset that waits for the next pass. -/
structure Rule where
  st : Nat := 0
  run : Nat := 0
  stale : Bool := false
  reset : Bool := false
  deriving DecidableEq, Repr

/-- The mapper (R418 to R421): the items being run, oldest first; entries run in the MAP_LOAD window under way and that window; the rules;
the tick of the last pass. -/
structure MapState where
  runs : List MapRun := []
  ops : Nat := 0
  window : Nat := 0
  rules : List (Nat × Rule) := []
  lastPass : Option Nat := none
  deriving DecidableEq, Repr


/-! Fabric, windows, DMA and memory banks (chapter 13). -/

/-- The master of a fabric access: window w (for the host port, or for Heather), mover m, or the session opener of R445. -/
inductive FabOwner where
  | window (w : Nat) (host : Bool)
  | mover (m : Nat)
  | opener
  deriving DecidableEq, Repr

/-- An access that has left for SP_13 or waits for a tag (R433): its number and tag, its master, whether it writes and
whether it goes as DICT_REQ, with the TRANSACTION and the session binding it then has (R59, R439), node and local offset, the
bytes read or written, and for a prefetch the part of the line that the master asked for. -/
structure FabAccess where
  id : Nat
  tag : Option Nat := none
  owner : FabOwner
  write : Bool := false
  dict : Bool := false
  txn : Nat := 0
  sess : Nat := 0
  node : Nat := 0
  off : Nat := 0
  count : Nat := 0
  data : Bytes := []
  want : Option (Nat × Nat) := none
  deadline : Nat := 0
  deriving DecidableEq, Repr

/-- The line buffer of a window (R442): fabric address of its first byte, its bytes and the end of its life. -/
structure LineBuf where
  base : Nat
  data : Bytes
  ends : Nat
  deriving DecidableEq, Repr

/-- A read of a mover (R449): the access it waits for, its place in the transfer, its data once there. -/
structure MvRead where
  id : Nat
  pos : Nat
  len : Nat
  data : Option Bytes := none
  deriving DecidableEq, Repr

/-- A DMA mover beside its objects: the descriptor under way (class, local offset and its fields), the next byte to read,
DONE, reads and the write outstanding, pieces read and not yet written, bytes read that are not yet a whole element of a fixed
destination, why it stops (0 no, 1 preemption, 2 DISABLE, 3 ABORT, 4 ABORT and DISABLE), the failure met (cause, status, side,
LOST), the accesses of it that wait for a semaphore (true for a write, with address and length), and the check bits of words read
that are not those of their data, by place in the transfer (R207). -/
structure Mover where
  cls : Nat := 0
  desc : Nat := 0
  src : Nat := 0
  dst : Nat := 0
  len : Nat := 0
  ctrl : Nat := 0
  burst : Nat := 0
  next : Nat := 0
  done : Nat := 0
  reads : List MvRead := []
  pieces : List (Nat × Bytes) := []
  tail : Bytes := []
  writing : Option (Nat × Nat × Nat) := none
  stop : Nat := 0
  fail : Option (Nat × Nat × Nat × Nat) := none
  barred : List (Bool × Nat × Nat) := []
  checks : List (Nat × Nat) := []
  deriving DecidableEq, Repr

/-- An access that a held semaphore makes wait (R484): of Heather, or a request from another node with the word of R461. -/
inductive Retried where
  | heather (a : Nat) (write : Bool) (n : Nat) (bs : Bytes)
  | request (f : Frame) (clash : Option Nat)
  deriving DecidableEq, Repr

/-- An answer for the host port (R213): access number, status, bytes, whether its check fails, and the item that brought it. -/
structure HostDone where
  id : Nat
  st : Nat
  data : Bytes
  bad : Bool := false
  item : Frame := {}
  deriving DecidableEq, Repr

/-- A handover in progress (R457): bank, new owner, its end, and the request that waits for the answer. -/
structure Handover where
  bank : Nat
  owner : Nat
  deadline : Nat
  req : Option Req := none
  deriving DecidableEq, Repr

/-- The fabric unit: movers; accesses outstanding or waiting for a tag, oldest first; the TRANSACTION of its next DICT_REQ; line
buffers; the last answer to an access of Heather (none while awaited); answers for the host port; handovers; the starts of
borrows; the accesses that wait for a semaphore; and the word that port 0 writes in the FCLK cycle of the command under way (R461),
none between commands. -/
structure FabState where
  movers : List (Nat × Mover) := []
  accesses : List FabAccess := []
  nextId : Nat := 0
  nextTxn : Nat := 0
  lines : List (Nat × LineBuf) := []
  heather : Option (Nat × Bytes) := none
  hostDone : List HostDone := []
  handovers : List Handover := []
  borrows : List (Nat × Nat) := []
  retried : List Retried := []
  clash : Option Nat := none
  deriving DecidableEq, Repr


/-! The local host port (chapter 14). -/

/-- What a host cycle waits for: nothing, room in the write buffer (R476), an access (whose answer comes over the ring or not), or the
handover of a bank. -/
inductive HostWait where
  | ready
  | room
  | access (id : Nat) (ring : Bool)
  | bank (b : Nat)
  deriving DecidableEq, Repr

/-- A host cycle: address, direction, bytes, whether R475 ends it with LHP_RETRY_N, the range record it uses (KIND, HR_BASE,
posted, fetch size), whether it is locked, the bytes to write or those read, what it waits for and since when, the status of
an access that failed, whether a write has been answered, whether the fetch under way asks a read-effect region, and whether data
from one has come. -/
structure HostCycle where
  addr : Nat
  write : Bool
  count : Nat
  beyond : Bool := false
  kind : Nat := 0
  base : Nat := 0
  posted : Bool := false
  fetch : Nat := 2
  locked : Bool := false
  data : Bytes := []
  wait : HostWait := .ready
  since : Nat := 0
  failed : Option Nat := none
  done : Bool := false
  asks : Bool := false
  effect : Bool := false
  deriving DecidableEq, Repr

/-- How the last host cycle ended (R475): its bytes, on a read as driven on LHP_AD, and whether LHP_RETRY_N ended it. -/
structure HostEnd where
  addr : Nat
  write : Bool
  data : Bytes
  retry : Bool
  deriving DecidableEq, Repr

/-- A retried access that the port keeps, and the end of its LHP_REISSUE (R491). -/
structure Kept where
  cycle : HostCycle
  ends : Nat
  deriving DecidableEq, Repr

/-- A locked sequence: its end under LHP_LOCK_MAX, and whether it is broken (R483, R485). -/
structure HostLock where
  ends : Nat
  broken : Bool := false
  deriving DecidableEq, Repr

/-- The host transfer descriptor under way: its place, HOST_ADDR, LOCAL, LENGTH, CTRL, bytes moved, reissues made, the
instant of the next reissue (R486 to R489). -/
structure Xfer where
  desc : Nat
  host : Nat
  loc : Nat
  len : Nat
  ctrl : Nat
  pos : Nat := 0
  tries : Nat := 0
  again : Option Nat := none
  deriving DecidableEq, Repr

/-- The local host port beside its objects: LHP_BCLK present, the host cycle under way, how the last one ended, retried
accesses kept, answers still to come that are not kept, the locked sequence, the descriptor under way, since when LHP_BREQ_N
is low, whether the port keeps the bus between two cycles of its own and whether it has raised LHP_BREQ_N for a grant withdrawn
(R488), and the last device cycle on the bus (address and bytes). The side-band levels are the fault collector's. -/
structure HostState where
  clock : Bool := false
  cycle : Option HostCycle := none
  last : Option HostEnd := none
  kept : List Kept := []
  orphans : List Nat := []
  lock : Option HostLock := none
  xfer : Option Xfer := none
  breqSince : Option Nat := none
  master : Bool := false
  raised : Bool := false
  driven : Option (Nat × Bytes) := none
  deriving DecidableEq, Repr

/-! The twin pair (chapter 15). -/

/-- The records of the twin link (R500). SWITCH has op 1 OFFER, 2 ACCEPT, 3 RELEASED, 4 ABORT, its tick, and the kind and number
of an instance: 1 serial channel, 2 CAN controller, 3 pin engine, 0 all outputs. A JOURNAL record names the bank of an output
item, whose frame does not, in `inst`. -/
inductive TwBody where
  | status (s : TwStatus)
  | image (i : OutImage)
  | switch (op tick kind inst : Nat)
  | grant (g : TwGrant)
  | number (answer : Bool) (id cls stream seq : Nat)
  | sent (jseq kind inst stream seq : Nat)
  | journal (jseq inst : Nat) (f : Frame)
  | mark (e t j : Nat)
  | chunk (e i : Nat) (data : Bytes)
  | commit (e n crc : Nat)
  deriving DecidableEq, Repr

/-- A record on a lane (R499): LINK_SEQ, ACK, body. -/
structure TwRec where
  seq : Nat
  ack : Nat
  body : TwBody
  deriving DecidableEq, Repr

/-- A lane of the twin link (R499, R500): the next LINK_SEQ, the last received in order, the records waiting, those sent and
not acknowledged with the end of their 10 µs, and whether the next record is taken whatever
its number, as at the first of a link that was not live. -/
structure TwLane where
  txSeq : Nat := 1
  rxSeq : Nat := 0
  queue : List TwBody := []
  unacked : List TwRec := []
  deadline : Option Nat := none
  fresh : Bool := true
  deriving DecidableEq, Repr

/-- An item in the pairing hold (R510): the route that built it, its occurrence, the frame, and what is left of its PAIR_WAIT at
an instant. -/
structure HeldOut where
  route : Nat
  occ : Nat
  frame : Frame
  left : Nat
  since : Nat
  deriving DecidableEq, Repr

/-- A snapshot shadow (R525, R526): epoch, J, chunks by index. -/
structure Shadow where
  epoch : Nat
  j : Nat
  chunks : List (Nat × Bytes) := []
  deriving DecidableEq, Repr

/-- The twin controller beside its objects. Lanes; HB_OUT_P (none while both outputs are low) and the next instants of the
heartbeat and of STATUS; instants of the last wire sign, any sign and good record, and wire signs in a row since a break;
the last STATUS since the unit left CONFIG, the HB_PERIOD of the last since the end of BOOT (0: none; R504), and digests that
differed in a row; the rank in force; ends of the settle, contest hold and JOIN_WAIT; the
instant from which a new holder may drive; the last pass. Of a switchover: its cause, the T agreed, images sent and
received, the last agreed image, whether no new record starts, instances still held by the former holder or awaited by the
new one, the end of the 2 s. The ticks of a safe release and of its taking (R517). Snapshots: the next, T_E to
capture, J, the image captured, the pending and the committed shadow. The journal, the numbers received above the contiguous
ones, a gap, whether journal records act as they arrive. The pair's numbering: occurrences per class and stream, the pairing
hold, early grants with their ends, single frames waiting for a number, the number of the next request; GRANTs that wait for room
in their lane, each with the switch input and the frame whose hand-off waits for it (R509). A session number that clashed (R506);
whether a STATUS has arrived since the peer was last found lost; the neighbour's unit address is the service address (R496); the
instant of strobe T (R515); the outputs start from the frozen image at the next strobe (R519). -/
structure TwinState where
  lanes : List (Nat × TwLane) := []
  hb : Option Bool := none
  hbAt : Nat := 0
  statusAt : Nat := 0
  lastWire : Option Nat := none
  lastSign : Nat := 0
  linkLast : Nat := 0
  wireSigns : Nat := 2
  peer : Option TwStatus := none
  peerPeriod : Nat := 0
  diffs : Nat := 0
  rank : Nat := 0
  settleEnd : Option Nat := none
  witnessBad : Bool := false
  holdEnd : Option Nat := none
  joinEnd : Option Nat := none
  driveAt : Option Nat := none
  passAt : Nat := 0
  cause : Nat := 0
  strobeT : Option Nat := none
  sent : List OutImage := []
  got : List OutImage := []
  agreed : Option OutImage := none
  quiet : Bool := false
  held : List (Nat × Nat) := []
  awaiting : List (Nat × Nat) := []
  releaseEnd : Option Nat := none
  safeAt : Option Nat := none
  takeAt : Option Nat := none
  snapNext : Option Nat := none
  snapTick : Option Nat := none
  snapJ : Nat := 0
  shot : Option Bytes := none
  pend : Option Shadow := none
  comm : Option Shadow := none
  journal : List JournalRec := []
  seen : List Nat := []
  low : Nat := 0
  gap : Bool := false
  applying : Bool := false
  occs : List (Nat × Nat × Nat × Nat) := []
  hold : List HeldOut := []
  grants : List (TwGrant × Nat) := []
  waiting : List (Nat × Nat × Frame) := []
  nextNumber : Nat := 0
  granting : List (Nat × TwGrant × Option (Nat × Frame)) := []
  sessClash : Bool := false
  heard : Bool := false
  addrClash : Bool := false
  strobeAt : Option Nat := none
  thaw : Bool := false
  deriving DecidableEq, Repr


/-! Power supervision and field-rail fuses (chapter 16). -/

/-- A field rail beside its objects (R547 to R553): the gate; heat H; whether the fault timer runs, and whether it started
since the last strobe; the gate's last instants on and off; INRUSH_TIME and W in force since the turn-on, RETRY_INTERVAL since
the turn-off, in ns; since when the settle condition holds; since when power-good is asserted; a write of 1 to RAIL_CMD
in LOCKOUT and not yet used; the level of FLD_n_PRES_N; since when it is absent and the state it had; the last sample instant; the
command at the last strobe that no hold of outputs governed (R555); whether the fault timer has started while power-good was
asserted, and whether power-good has been asserted since the turn-on (R551, R552). -/
structure Rail where
  gate : Bool := false
  heat : Nat := 0
  timer : Bool := false
  fresh : Bool := false
  onAt : Nat := 0
  offAt : Nat := 0
  inrush : Nat := 0
  window : Nat := 0
  interval : Nat := 0
  settle : Option Nat := none
  good : Option Nat := none
  wrote : Bool := false
  presHigh : Bool := false
  away : Option (Nat × Nat) := none
  sampled : Nat := 0
  kept : Bool := false
  warned : Bool := false
  reached : Bool := false
  deriving DecidableEq, Repr

/-- A dip episode (R534, R535): its start, the tick of its start, the lowest sample. -/
structure Dip where
  start : Nat
  tick : Nat
  low : Nat
  deriving DecidableEq, Repr

/-- The power supervisor and the backup domain (R531 to R541): the rails; the episode; since when POWER_DEGRADED holds and
since when VIN_MV is good; the last VBAT sense; entries written to the power-loss log; the real-time counter's value in ns at
a local instant; the instants of the samples that VIN_MV and FEED_MV of the feeds hold (R532, R542); the instant of the last end of
safe state, after which rails follow their lines again (R555). -/
structure PowerState where
  rails : List (Nat × Rail) := []
  dip : Option Dip := none
  degSince : Option Nat := none
  goodSince : Nat := 0
  vbat : Nat := 0
  entryNo : Nat := 0
  rtc : Nat := 0
  rtcAt : Nat := 0
  vinAt : Nat := 0
  feedAt : List (Nat × Nat) := []
  followFrom : Option Nat := none
  deriving DecidableEq, Repr


/-! Faults and the safe state (chapter 17). -/

/-- A fault record (R566). No bytes of it are `noEsc`, which marks a record of an injection with INJ_NOESC (R592), and what
UNLOCKED of R259 was at its onset and at its clearing. -/
structure FaultRec where
  onset : Nat := 0
  clear : Nat := tickUnknown
  node : Nat := 0
  source : Nat := 0
  sev : Nat := 0
  cause : Nat := 0
  flags : Nat := 0
  inst : Nat := 0xFFFF
  seq : Nat := 0
  detail : Nat := 0
  noEsc : Bool := false
  unlocked : Bool := false
  clearUnlocked : Bool := false
  deriving DecidableEq, Repr

/-- An active condition: source, instance, cause, its onset record's FAULT_SEQ once placed, whether that record was
lost unread from the queue (R572), and its DETAIL and INJECTED. -/
structure Active where
  source : Nat
  inst : Nat
  cause : Nat
  onset : Nat
  sev : Nat
  seq : Option Nat := none
  lost : Bool := false
  detail : Nat := 0
  injected : Bool := false
  deriving DecidableEq, Repr

/-- An escalation slot (R577, R578): the record, the step taken, the timer's end, its ceiling and its response time in
ns. -/
structure EscSlot where
  record : FaultRec
  step : Nat := 0
  timer : Option Nat := none
  ceiling : Nat := 0
  period : Nat := 0
  deriving DecidableEq, Repr

/-- Per fault input or side-band line: the runs of R562 and R563 and the accepted states. -/
structure FaultInput where
  assertRun : Nat := 0
  quietRun : Nat := 0
  wireRun : Nat := 0
  goodRun : Nat := 0
  asserted : Bool := false
  wire : Nat := 0
  pair : Nat := 0
  deriving DecidableEq, Repr

/-- The fault collector and the safe-state controller; `isoAt` holds when isolations were lately put in force or released (R33). -/
structure FaultState where
  inputs : List (Nat × FaultInput) := []
  arrivals : List FaultRec := []
  waiting : List (Nat × Nat) := []
  closed : Option Nat := none
  queue : List FaultRec := []
  lostBefore : Bool := false
  first : Option FaultRec := none
  active : List Active := []
  slots : List EscSlot := []
  isos : List (Nat × Nat × Nat) := []
  safe : Bool := false
  safeAt : Nat := 0
  safeCopy : Bool := false
  selfFail : Bool := false
  exitPending : Option Nat := none
  exitSrc : Nat := 0
  leaving : List (Nat × Nat × Nat) := []
  isoAt : List ((Nat × Nat × Nat) × Nat) := []
  resetAt : Option Nat := none
  lines : Nat := 0
  injLeft : Nat := 0
  injInput : Nat := 0
  injPair : Nat := 0
  injNoEsc : Bool := false
  limited : List (Nat × Nat × Nat) := []
  deriving DecidableEq, Repr


/-! Management, self-test and update (chapter 18). -/

/-- An entry for the logs before it takes its LOG_SEQ (R604). -/
structure LogRec where
  tick : Nat
  flags : Nat
  kind : Nat
  node : Nat
  source : Nat
  body : Bytes
  deriving DecidableEq, Repr

/-- The RAM log by index, how many of its newest entries wait to be copied to flash, since when one waits, whether the next
copy carries LOST_BEFORE, the second of the last LOG_LOST report, the flash log (oldest first), the entries that wait for
the firmware to run (R599, R603 to R607), and whether an erase of the flash log waits for the end of a dip. -/
structure LogState where
  ram : List (Nat × Bytes) := []
  waiting : Nat := 0
  since : Option Nat := none
  lostBefore : Bool := false
  lostAt : Option Nat := none
  flash : List Bytes := []
  held : List LogRec := []
  eraseDue : Bool := false
  deriving DecidableEq, Repr

/-- A firmware slot of the flash (R609, R612): the bytes TOTAL of its image and its chunks by number. `factory` marks the image
that the part is shipped with, whose bytes the model does not hold (log entry 9). -/
structure Slot where
  factory : Bool := false
  total : Nat := 0
  chunks : List (Nat × Bytes) := []
  deriving DecidableEq, Repr

/-- A transfer (R615 to R617): XFER_ID, SOURCE of its BEGIN, TOTAL, header, the chunks received, the map last saved, whether a
BEGIN has made or resumed it since the last restart, the erase before it, and who waits for its full checks. -/
structure UpdXfer where
  id : Nat
  source : Nat
  total : Nat
  header : Bytes
  got : List Nat := []
  saved : List Nat := []
  live : Bool := true
  erasing : Bool := true
  checker : Nat := 0
  deriving DecidableEq, Repr

/-- A trial (R620, R621): its slot, the previous one, and its end once Heather has restarted into it. -/
structure Trial where
  slot : Nat
  prev : Nat
  ends : Option Nat := none
  deriving DecidableEq, Repr

/-- Firmware slots, boot record, transfer, numbers of transfers that another replaced; the trial, a revert by a reset that is
not yet reported; an ACTIVATE that waits for the end of an offer or of a dip; fuses that wait for the end of a dip, and with them the
chunk map and the end of a trial in the boot record (R534); why
Heather restarts; the next sensor reading; per monitor the readings outside and within its range in a row; sensor limits
overwritten at this moment: member, old value, instant (R596 to R621, R631). -/
structure MgmtState where
  slotA : Slot := { factory := true }
  slotB : Slot := {}
  boot : Nat := 0
  xfer : Option UpdXfer := none
  gone : List Nat := []
  trial : Option Trial := none
  revertDue : Option Nat := none
  activate : Bool := false
  fuseDue : Option Nat := none
  mapDue : Bool := false
  recordDue : Option Trial := none
  restart : Nat := 0
  sensorAt : Nat := 0
  vmon : List (Nat × Nat × Nat) := []
  limOld : List (Nat × Nat × Nat) := []
  deriving DecidableEq, Repr

/-- What a lane of the self-test engine does (R622 to R628). -/
inductive StPhase where
  | idle
  | drain
  | copyIn
  | test
  | copyBack
  | inPlace
  | run
  | clear
  deriving DecidableEq, Repr

/-- A lane (R622 to R628): the banks of the sweep still to be taken (true for those tried before), whether its swap bank has
been tested, the bank in hand, what it does (drain: its owner drains it) and since when, the end of its last step, and of a
destructive run the backgrounds still to be run on the bank and the owner that gets it back. -/
structure StLane where
  todo : List (Nat × Bool) := []
  swapDone : Bool := false
  bank : Nat := 0
  phase : StPhase := .idle
  since : Nat := 0
  ended : Nat := 0
  grounds : List Nat := []
  owner : Nat := 0
  deriving DecidableEq, Repr

/-- The self-test engine beside its objects: its lanes, whether a sweep is under way and its algorithm, and the banks,
algorithm and backgrounds of a destructive run (R622 to R630). -/
structure TestState where
  lanes : List (Nat × StLane) := []
  sweeping : Bool := false
  alg : Nat := 1
  queue : List Nat := []
  runAlg : Nat := 1
  runGrounds : List Nat := []
  deriving DecidableEq, Repr

/-! Modes, reset and start-up (chapter 19). -/

/-- Where the node stands between supply off and operation (R637, R644 to R651). -/
inductive Phase where
  | off
  | backup
  | reset
  | boot
  | run
  deriving DecidableEq, Repr

/-- A copy of the configuration store (R653). -/
structure CfgCopy where
  gen : Nat := 0
  valid : Bool := false
  empty : Bool := true
  dictMajor : Nat := 1
  values : List (Nat × Nat) := []
  blobs : List (Nat × Bytes) := []
  tables : List (Nat × Byte) := []
  deriving DecidableEq, Repr

/-- Modes, straps, resets, the configuration store. Phase, base mode and overlays; whether outputs are held as in CONFIG; instants
of writes of MODE_CMD that act at a strobe, and the trigger of a leave; the mode before the last reset and whether the main
supply was on then; whether the automatic start has been made or does not come. The strap fields are the levels on the balls; the latched
ones are in STRAPS, STRAP_NODE and TW_RANK. Reset: its sources, the instant of release. The store: its copies, the copy
being saved, an erase that waits for the end of a dip. The end of a Heather restart (R599). The banks that the route table gains
once they hold no cell (R459). -/
structure NodeState where
  phase : Phase := .reset
  base : Nat := 3
  contested : Bool := false
  degraded : Bool := false
  quiescent : Bool := false
  updating : Bool := false
  ioHold : Bool := true
  enterAt : Option Nat := none
  quietAt : List (Bool × Nat) := []
  leaveAt : Option Nat := none
  trigger : Nat := 0
  was : Nat := 0
  wasUp : Bool := false
  started : Bool := false
  strapNode : Nat := 0
  strapRank : Nat := 0
  bootSrc : Nat := 0
  bootLatched : Nat := 0
  lockPin : Bool := false
  resetNLow : Bool := false
  sources : List Nat := [1]
  releasedAt : Nat := 0
  copyA : CfgCopy := {}
  copyB : CfgCopy := {}
  saving : Option (Bool × CfgCopy) := none
  heatherEnd : Option Nat := none
  cfgEraseDue : Bool := false
  routeDrain : List Nat := []
  deriving DecidableEq, Repr

/-! The test access port (chapter 20). -/

/-- Instructions of R671. -/
inductive JtagInstr where
  | bypass | idcode | samplePreload | extest | clamp | highz
  deriving DecidableEq, Repr

/-- The test access port: the instruction in force, the boundary register as loaded, the levels last sampled, and the device
identification or bypass register as last read (R671, R672). -/
structure JtagState where
  instr : JtagInstr := .idcode
  boundary : Bytes := []
  sampled : Bytes := []
  out : Nat := 0
  deriving DecidableEq, Repr

/-- Everything the machine holds beside its memory and the queue of waiting commands. `regs` holds the values of the
dictionary's members of fixed width under their keys, `blobs` those of OCTETS and TEXT members; `inForce` is the image
of the members that apply on leaving CONFIG (R643). `free` is the model's own counter of the free values drawn (log
entry 1). -/
structure Core where
  free : Nat := 0
  regs : List (Nat × Nat) := []
  blobs : List (Nat × Bytes) := []
  inForce : List (Nat × Nat) := []
  time : TimeState := {}
  ev : EventState := {}
  sched : SchedState := {}
  node : NodeState := {}
  dict : DictState := {}
  ring : RingState := {}
  fwd : FwdState := {}
  sw : SwitchState := {}
  integ : IntegState := {}
  fc : FaultState := {}
  chans : List (Nat × Chan) := []
  cans : List (Nat × Can) := []
  fcLatch : FcLatch := {}
  engs : List (Nat × Engine) := []
  disc : DiscState := {}
  meas : List (Nat × Meas) := []
  map : MapState := {}
  fab : FabState := {}
  lhp : HostState := {}
  twin : TwinState := {}
  pwr : PowerState := {}
  log : LogState := {}
  mgmt : MgmtState := {}
  test : TestState := {}
  jtag : JtagState := {}
  deriving DecidableEq, Repr

/-- The machine's state: the commands waiting (first in, first out), the memory, and the rest. -/
structure State where
  pending : List Instr
  mem : Memory
  core : Core
  deriving DecidableEq, Repr

/-- Reasons for a fault. The block has no exception entry and the spec stops it nowhere, so no command of the model
raises one: safe. -/
inductive Fault where
  deriving DecidableEq, Repr

/-- Reasons for a refusal. -/
inductive Refusal where
  /-- Raised by an arm of exec whose command has no meaning yet: safe. -/
  | notModelled (mnemonic : String)
  deriving DecidableEq, Repr

/-- The machine right after reset (R644 to R647): held in the reset of POWER_ON, every object at its default, the memory
with nothing listed, no command waiting. -/
def State.reset : State := { pending := [], mem := [], core := {} }

end Sys2Proof.Machine
end

