-- ==== Sys2Proof/Machine/Ops.lean ====
section
/-! DEFINITION. The named operations that every family of commands shares: the register store, memory, time and ticks,
event records, frames, the ring a frame is placed on, and the lifts from the machine's parts to the outcome of a
command. -/

namespace Sys2Proof.Machine

/-! Lifts. A meaning is typed by what it may change: `Core → Core`, `Memory → Core → Core` where it reads memory, and
`Memory → Core → Memory × Core` where it stores to memory. None touches the queue. -/

/-- A command that changes the core alone. -/
def onCore (f : Core → Core) (s : State) : Host.Outcome State Fault Refusal := .next { s with core := f s.core }

/-- A command that reads memory and changes the core alone. -/
def onRead (f : Memory → Core → Core) (s : State) : Host.Outcome State Fault Refusal :=
  .next { s with core := f s.mem s.core }

/-- A command that may store to memory. -/
def onMem (f : Memory → Core → Memory × Core) (s : State) : Host.Outcome State Fault Refusal :=
  .next { s with mem := (f s.mem s.core).1, core := (f s.mem s.core).2 }

/-! The register store. -/

/-- The value of the member with key k. -/
def Core.reg (c : Core) (k : Nat) : Nat := mapGet (regDefault k) k c.regs

/-- Sets the member with key k. -/
def Core.setReg (c : Core) (k v : Nat) : Core := { c with regs := mapSet (regDefault k) k v c.regs }

/-- The value in force of a member that applies on leaving CONFIG (R643 step 1). -/
def Core.cfg (c : Core) (k : Nat) : Nat := mapGet (regDefault k) k c.inForce

/-- Adds n to a counter, saturating at 0xFFFF_FFFF. -/
def Core.incBy (c : Core) (k n : Nat) : Core := c.setReg k (satAdd32 (c.reg k) n)

/-- Adds 1 to a counter. -/
def Core.inc (c : Core) (k : Nat) : Core := c.incBy k 1

/-- Adds 1 to a counter when b holds. -/
def Core.incIf (c : Core) (b : Bool) (k : Nat) : Core := if b then c.inc k else c

/-- The signed value of the w-bit member with key k. -/
def Core.regI (c : Core) (w k : Nat) : Int := toInt w (c.reg k)

/-- The member is not 0. -/
def Core.flag (c : Core) (k : Nat) : Bool := c.reg k != 0

/-- The default of an OCTETS or TEXT member: the lengths and contents of the object tables. -/
def blobDefault (k : Nat) : Bytes :=
  if k = Reg.VENDOR_NAME then [0x49, 0x73, 0x69, 0x61, 0x70, 0x72, 0x61, 0x20, 0x44, 0x65, 0x76, 0x69, 0x63, 0x65, 0x73]
  else if k = Reg.ORDER_CODE then
    [0x56, 0x58, 0x31, 0x32, 0x38, 0x30, 0x2D, 0x46, 0x42, 0x31, 0x32, 0x39, 0x36, 0x2D, 0x42, 0x31]
  else if k = Reg.SILICON_REV then [0x42, 0x31]
  else if k = Reg.DEVICE_UID then zeros 16
  else if k = Reg.TOKEN_L1 ∨ k = Reg.TOKEN_L2 then zeros 8
  else if k = Reg.TOKEN_L3 then 1 :: zeros 7
  else if k = Reg.SEG_ROUTE_HOME ∨ k = Reg.SEG_ROUTE_BRANCH then List.replicate 128 0xFF
  else match memberOf (k / 256) (k % 256) with
    | some r =>
      if k / 256 ≥ 0x9105 ∧ k / 256 < 0x9200 ∧ k / 256 % 16 = 5 then
        ([(1000, 100000000), (1250, 30000000), (1500, 10000000), (2000, 3000000), (3000, 1000000), (4000, 300000),
          (5000, 100000), (6000, 30000)] : List (Nat × Nat)).flatMap (fun v => leBytes 2 v.1 ++ leBytes 4 v.2)
      else if 0 < r.fixLen then zeros r.fixLen
      else if k = Reg.PL_LOG then zeros 2048
      else if k = Reg.FF_RECORD ∨ k = Reg.FC_RESET_CAUSE then zeros 32
      else if k = Reg.SW_FAILED ∨ k = Reg.SW_SKIPPED then zeros 9
      else if r.ty = .octets ∧ (r.maxLen = 16 ∨ r.maxLen = 10) then zeros r.maxLen
      else []
    | none => []

/-- The bytes of an OCTETS or TEXT member. -/
def Core.blob (c : Core) (k : Nat) : Bytes := mapGet (blobDefault k) k c.blobs

/-- Replaces the bytes of an OCTETS or TEXT member (R41). -/
def Core.setBlob (c : Core) (k : Nat) (b : Bytes) : Core := { c with blobs := mapSet (blobDefault k) k b c.blobs }

/-- Draws the next free value (log entry 1). -/
def Core.draw (c : Core) : Nat × Core := (Config.freeValue c.free, { c with free := c.free + 1 })

/-! Memory. -/

/-- What an unlisted address reads as: banks are cleared at step 2 of R650. -/
def emptyByte : Byte := 0

/-- The byte at local offset a. -/
def Memory.read (m : Memory) (a : Nat) : Byte := mapGet emptyByte a m

/-- Stores one byte, keeping the canonical form. -/
def Memory.write (m : Memory) (a : Nat) (b : Byte) : Memory := mapSet emptyByte a b m

/-- n bytes from local offset a. -/
def Memory.readN (m : Memory) (a : Nat) : Nat → Bytes
  | 0 => []
  | n + 1 => m.read a :: Memory.readN m (a + 1) n

/-- Stores a string of bytes from local offset a, lowest address first. -/
def Memory.writeN (m : Memory) (a : Nat) : Bytes → Memory
  | [] => m
  | b :: bs => Memory.writeN (m.write a b) (a + 1) bs

/-- The little-endian value of n bytes at local offset a. -/
def Memory.field (m : Memory) (a n : Nat) : Nat := leVal (m.readN a n)

/-- The canonical form: addresses strictly rise, no listed byte equals what an unlisted address reads as. -/
def Memory.wfFrom (b : Nat) : Memory → Bool
  | [] => true
  | (a, v) :: rest => Nat.ble b a && (v != emptyByte) && Memory.wfFrom (a + 1) rest

/-- The memory is in canonical form. -/
def Memory.wf (m : Memory) : Bool := Memory.wfFrom 0 m

/-! SECDED of the banks (R217). The 8 check bits of the word at physical offset 8 * w are the memory's byte at checkBase + w, which
lies outside the local map: no access names it. -/

/-- Where the check bits of word 0 stand. -/
abbrev checkBase : Nat := 0x800000

/-- The word at physical offset 8 * w. -/
def Memory.word (m : Memory) (w : Nat) : Nat := m.field (8 * w) 8

/-- The check bits stored with it. -/
def Memory.checkOf (m : Memory) (w : Nat) : Nat := (m.read (checkBase + w)).toNat

/-- What a read of the word shows. -/
def Memory.eccWord (m : Memory) (w : Nat) : EccVerdict × Nat := secdedRead (m.word w) (m.checkOf w)

/-- The words that n bytes from physical offset a touch. -/
def wordsOf (a n : Nat) : List Nat := if n = 0 then [] else (List.range ((a + n - 1) / 8 + 1 - a / 8)).map (fun i => a / 8 + i)

/-- A word whose error can be corrected is stored corrected. -/
def Memory.mend (m : Memory) (w : Nat) : Memory :=
  match m.eccWord w with
  | (.corrected, d) => m.writeN (8 * w) (leBytes 8 d)
  | _ => m

/-- The check bits of word w after a write of n bytes from a: made afresh, but a word of `old` that was uncorrectable and is not
written whole keeps its error (log entry 92). -/
def Memory.sealWord (old : Memory) (a n : Nat) (m : Memory) (w : Nat) : Memory :=
  let kept : Bool := (old.eccWord w).1 == .bad && !(Nat.ble a (8 * w) && Nat.ble (8 * w + 8) (a + n))
  let e := if kept then Nat.xor (secdedOf (old.word w)) (old.checkOf w) else 0
  m.write (checkBase + w) (byteOf (Nat.xor (secdedOf (m.word w)) e))

/-- R207, R217: bytes stored from physical offset a; words written in part are corrected first, and every word gets its check
bits. -/
def Memory.store (m : Memory) (a : Nat) (bs : Bytes) : Memory :=
  let ws := wordsOf a bs.length
  ws.foldl (Memory.sealWord m a bs.length) ((ws.foldl Memory.mend m).writeN a bs)

/-- n bytes from physical offset a as their reader gets them, single-bit errors corrected (R218). -/
def Memory.fetch (m : Memory) (a n : Nat) : Bytes :=
  slice ((wordsOf a n).flatMap (fun w => leBytes 8 (m.eccWord w).2)) (a % 8) n

/-- The memory without the contents of physical bank b (64 and 65 are the swap banks): zeros with valid check bits. -/
def Memory.wipe (m : Memory) (b : Nat) : Memory :=
  m.filter (fun x => !(x.1 / 65536 == b || (Nat.ble checkBase x.1 && (x.1 - checkBase) / 8192 == b)))

/-- The words of physical bank b of which anything is listed. -/
def Memory.wordsIn (m : Memory) (b : Nat) : List Nat :=
  (m.filterMap (fun x =>
    if x.1 / 65536 = b then some (x.1 / 8)
    else if checkBase ≤ x.1 ∧ (x.1 - checkBase) / 8192 = b then some (x.1 - checkBase) else none)).eraseDups

/-- R462, R464: bank d becomes bank b word for word: single-bit errors corrected, with check bits made afresh; an uncorrectable word
with its 72 bits unchanged. -/
def Memory.copyBank (m : Memory) (b d : Nat) : Memory :=
  (m.wordsIn b).foldl (fun (t : Memory) w =>
    let v := m.eccWord w
    let chk := if v.1 = .bad then m.checkOf w else secdedOf v.2
    let w' := w % 8192 + 8192 * d
    (t.writeN (8 * w') (leBytes 8 v.2)).write (checkBase + w') (byteOf chk)) (m.wipe d)

/-! Time and ticks (R229 to R231). -/

/-- Tick period of a code of R230, in ns. -/
def periodOf (code : Nat) : Nat := [1000, 2000, 5000, 10000, 20000, 50000, 100000].getD code 1000

/-- The tick period in force, in ns. -/
def Core.period (c : Core) : Nat := periodOf c.time.periodCode

/-- System time in whole nanoseconds. -/
def Core.sysNs (c : Core) : Nat := c.time.sys / 2 ^ 32

/-- The tick count that system time gives, not reduced. -/
def Core.tickFull (c : Core) : Nat := c.sysNs / c.period

/-- R231: the tick number of system time. -/
def Core.tickNow (c : Core) : Nat := c.tickFull % tickMod

/-- The tick that a record made now carries: the number of the last strobe that fired (R32), or of system time before the
first. -/
def Core.tick (c : Core) : Nat := match c.time.tag with
  | some n => n % tickMod
  | none => c.tickNow

/-- Local time in ns. -/
def Core.now (c : Core) : Nat := c.time.now

/-- R229: d local nanoseconds pass; system time rises by d * (1 + a). -/
def Core.advance (c : Core) (d : Nat) : Core :=
  { c with time := { c.time with
      now := c.time.now + d
      sys := ((c.time.sys : Int) + d * 2 ^ 32 + (d : Int) * c.time.a / 1000000000).toNat % 2 ^ 96 } }

/-- Time passes until local instant t. -/
def Core.advanceTo (c : Core) (t : Nat) : Core := if c.time.now < t then c.advance (t - c.time.now) else c

/-- Time passes until system time is t ns. -/
def Core.advanceSys (c : Core) (t : Nat) : Core :=
  if c.sysNs < t then
    let d : Nat := t * 2 ^ 32 - c.time.sys
    { c with time := { c.time with
        now := c.time.now + (((d : Int) * 1000000000) / (1000000000 * 2 ^ 32 + c.time.a)).toNat
        sys := t * 2 ^ 32 } }
  else c

/-- The end of the millisecond of system time with number `last`: time passes until then unless it is there already. -/
def Core.endMs (c : Core) (last : Nat) : Core :=
  if c.sysNs / 1000000 = last then c.advanceSys ((last + 1) * 1000000) else c

/-- Ticks in a span of us microseconds, rounded up. -/
def Core.ticksOfUs (c : Core) (us : Nat) : Nat := (us * 1000 + c.period - 1) / c.period

/-- R33, R423: the rule holds that act at a strobe now: those in the output update registers without the rules disabled 10 ns or
more ago. -/
def Core.heldLines (c : Core) : List (Nat × Nat × Bool) :=
  c.disc.holds.filter (fun h => !c.disc.drops.any (fun d => d.1 == h.1 && Nat.ble (d.2 + 10) c.now))

/-- The node serves and forwards: BOOT has ended and no reset holds (R88, R639). -/
def Core.up (c : Core) : Bool := c.node.phase == .run

/-- The base mode is one of operation (R637 codes 5 and 6). -/
def Core.operating (c : Core) : Bool := c.up && (c.node.base == 5 || c.node.base == 6)

/-- R639: field I/O (serial channels, CAN controllers, engines) runs. -/
def Core.fieldRuns (c : Core) : Bool := c.operating && !c.node.ioHold && !c.node.quiescent

/-- R639: the mapper and the interlock rules run. -/
def Core.mapRuns (c : Core) : Bool := c.operating && !c.node.ioHold

/-! Addresses and identities. -/

/-- The node's home address (0xFFFF when unaddressed). -/
def Core.homeAddr (c : Core) : Nat := c.reg Reg.NODE_ADDR

/-- R496: the node is a member of a twin pair: a service address of its home segment, other than its own address and its peer's, is
in force. -/
def Core.inPair (c : Core) : Bool :=
  let a := c.cfg Reg.TW_SERVICE_ADDR
  c.cfg Reg.TW_ENABLE == 1 && Nat.blt a 0x10000 && a / 1024 % 64 == c.cfg Reg.SEGMENT && a % 1024 != 0x3FF && a != c.homeAddr
    && !c.twin.addrClash

/-- R143: the ORIGIN_KEY of what the node publishes: the twin service address of a unit of a pair. -/
def Core.originKey (c : Core) : Nat := if c.inPair then c.cfg Reg.TW_SERVICE_ADDR else c.homeAddr

/-- Segment of an address. -/
def segOf (a : Nat) : Nat := a / 1024 % 64

/-- R144: the address is a multicast address. -/
def isMcast (a : Nat) : Bool := a == 0xFFFF || a % 1024 == 0x3FF

/-! Event records (R258 to R266). -/

/-- R259 [5]: the time base is not in LOCKED or MASTER, or TIME_VALID is 0. -/
def Core.unlocked (c : Core) : Bool :=
  !((c.reg Reg.TIME_STATE == 1 || c.reg Reg.TIME_STATE == 3) && c.flag Reg.TIME_VALID)

/-- Slot index i of the event queue, oldest first. -/
def evSlot (c : Core) (i : Nat) : EvRec := mapGet {} ((c.reg Reg.EVQ_RD + i) % 1024) c.ev.slots

/-- Puts a record with its EVENT_SEQ into slot i. -/
def Core.putEvSlot (c : Core) (i : Nat) (r : EvRec) : Core :=
  { c with ev := { c.ev with slots := mapSet {} i { r with seq := c.ev.seq } c.ev.slots, seq := (c.ev.seq + 1) % 65536 } }

/-- R263: the position, from the oldest, of the oldest record of the lowest severity below FAULT. -/
def evVictim (c : Core) : Option Nat :=
  let n := c.reg Reg.EVQ_COUNT
  let pick (s : Nat) : Option Nat := (List.range n).find? (fun i => (evSlot c i).sev == s)
  (List.range 4).findSome? pick

/-- R264: every record after position v moves one slot back. -/
def Core.shiftEvents (c : Core) (v : Nat) : Core :=
  (List.range (c.reg Reg.EVQ_COUNT - 1 - v)).foldl
    (fun c j => { c with ev := { c.ev with
      slots := mapSet {} ((c.reg Reg.EVQ_RD + v + j) % 1024) (evSlot c (v + j + 1)) c.ev.slots } }) c

/-! The RAM log (R603 to R607). -/

/-- A one-shot report made at once, for the logs and other places below the collector: it waits for the close of the
present tick (R568). -/
def Core.pushReport (c : Core) (source inst sev cause : Nat) : Core :=
  { c with fc := { c.fc with arrivals := c.fc.arrivals ++
    [{ onset := c.tick, clear := c.tick, node := c.originKey, source := source, sev := sev, cause := cause, flags := 16,
       inst := inst, unlocked := c.unlocked }] } }

/-- The 32 bytes of a log entry (R604). -/
def LogRec.bytes (r : LogRec) (seq : Nat) : Bytes :=
  leBytes 6 r.tick ++ [byteOf r.flags, byteOf r.kind] ++ leBytes 2 r.node ++ leBytes 2 r.source ++ leBytes 4 seq
    ++ padTo 16 r.body

/-- R606, R607: an entry is written to the RAM log; one overwritten before it was copied is lost. -/
def Core.logWrite (c : Core) (r : LogRec) : Core :=
  let wr := c.reg Reg.LOG_RAM_WR
  let seq := c.reg Reg.LOG_SEQ_NEXT
  let full : Bool := Nat.ble 4096 c.log.waiting
  let c := if full then
      let sec := c.sysNs / 1000000000
      let c := { c with log := { c.log with waiting := c.log.waiting - 1, lostBefore := true } }
      let c := c.inc Reg.CNT_LOG_LOST
      if c.log.lostAt = some sec then c
      else ({ c with log := { c.log with lostAt := some sec } }).pushReport 0x188 0xFFFF 1 0
    else c
  let c := { c with log := { c.log with
    ram := mapSet [] wr (r.bytes seq) c.log.ram, waiting := c.log.waiting + 1, since := some (c.log.since.getD c.now) } }
  (c.setReg Reg.LOG_RAM_WR ((wr + 1) % 4096)).setReg Reg.LOG_SEQ_NEXT ((seq + 1) % 2 ^ 32)

/-- The management firmware runs: no reset, no BOOT, no Heather restart, no recovery loader (R596, R599, R621). -/
def Core.firmware (c : Core) : Bool := c.up && c.reg Reg.HEATHER_STATE == 0

/-- R599, R605: an entry is made; while no firmware runs it waits. -/
def Core.logAdd (c : Core) (r : LogRec) : Core :=
  if !c.firmware then { c with log := { c.log with held := c.log.held ++ [r] } } else c.logWrite r

/-- R605 kind 1: the copy of a record placed in the event queue. -/
def Core.logEvent (c : Core) (r : EvRec) : Core :=
  if r.sev < c.reg Reg.LOG_MIN_SEV then c
  else c.logAdd { tick := r.tick, flags := b2n (bit r.flags 1) + 2 * b2n (bit r.flags 5), kind := 1, node := r.node,
                  source := r.source, body := [byteOf r.kind, byteOf r.sev] ++ leBytes 2 r.flags ++ leBytes 8 r.value
                    ++ leBytes 2 r.seq }

/-- R605 kinds 4 to 8: an entry of the firmware, software-stamped. -/
def Core.logNote (c : Core) (kind : Nat) (body : Bytes) : Core :=
  c.logAdd { tick := c.tickNow, flags := 1 + 2 * b2n c.unlocked, kind := kind, node := c.originKey, source := 0xC03,
             body := body }

/-- R263, R264: places one record in the event queue; tells whether it was placed. -/
def Core.placeEvent (c : Core) (r : EvRec) : Core × Bool :=
  if c.ev.moving then ({ c with ev := { c.ev with held := c.ev.held ++ [r] } }, false)
  else
    let n := c.reg Reg.EVQ_COUNT
    let wr := c.reg Reg.EVQ_WR
    if n < 1024 then
      let r' := { r with flags := setBit r.flags 4 (bit r.flags 4 || c.ev.lostBefore), seq := c.ev.seq }
      let c := (c.putEvSlot wr r').logEvent r'
      (((({ c with ev := { c.ev with lostBefore := false } }).setReg Reg.EVQ_WR ((wr + 1) % 1024)).setReg Reg.EVQ_COUNT (n + 1)), true)
    else
      let c := c.inc Reg.EVQ_LOST
      if r.sev < 4 then ({ c with ev := { c.ev with lostBefore := true } }, false)
      else match evVictim c with
        | none => ({ c with ev := { c.ev with lostBefore := true } }, false)
        | some v =>
          let c := c.shiftEvents v
          let r' := { r with flags := setBit r.flags 4 true, seq := c.ev.seq }
          let c := (c.putEvSlot ((wr + 1023) % 1024) r').logEvent r'
          (({ c with ev := { c.ev with moving := true, lostBefore := false } }).setReg Reg.EVQ_MOVING 1, true)

/-- The order of R262: SEVERITY descending, NODE ascending, SOURCE ascending. -/
def evBefore (a b : EvRec) : Bool :=
  if a.sev ≠ b.sev then Nat.blt b.sev a.sev
  else if a.node ≠ b.node then Nat.blt a.node b.node
  else Nat.blt a.source b.source

/-- The 24 bytes of an event record (R258). -/
def EvRec.bytes (r : EvRec) : Bytes :=
  leBytes 6 r.tick ++ leBytes 2 r.node ++ leBytes 2 r.source ++ [byteOf r.kind, byteOf r.sev] ++ leBytes 2 r.flags
    ++ leBytes 8 r.value ++ leBytes 2 r.seq

/-! Frames. -/

/-- Bytes 0 to 29 of the header (R143). -/
def Frame.head30 (f : Frame) : Bytes :=
  [byteOf (f.version * 16 + f.kind % 16),
   byteOf (f.cls * 32 + b2n f.mcast * 16 + b2n f.segm * 8 + b2n f.last * 4 + b2n f.pair * 2 + b2n f.urgent),
   byteOf f.hop, byteOf f.res] ++ leBytes 2 f.dst ++ leBytes 2 f.src ++ leBytes 2 f.okey ++ leBytes 2 f.stream
    ++ leBytes 2 f.seq ++ leBytes 2 f.len ++ leBytes 6 f.tick ++ leBytes 8 f.corr

/-- R146: the HOP_CHECK that the header calls for. -/
def Frame.hopCrc (f : Frame) : Nat := crc16 f.head30

/-- R200: the transit check over the header, with HOP_COUNT, CORRECTION and HOP_CHECK as zero, and the payload. -/
def Frame.transitCrc (f : Frame) : Nat :=
  crc32c ({ f with hop := 0, corr := 0 }.head30 ++ zeros 2 ++ f.payload)

/-- R202: the frame with its LENGTH and its transit check made afresh. -/
def Frame.transitSeal (f : Frame) : Frame :=
  let f := { f with len := f.payload.length }
  { f with check := f.transitCrc }

/-- The frame with both checks made afresh (R146, R202). -/
def Frame.seal (f : Frame) : Frame :=
  let f := f.transitSeal
  { f with hopCheck := f.hopCrc }

/-- R146: HOP_CHECK made afresh after a mutable field has changed. -/
def Frame.rehop (f : Frame) : Frame := { f with hopCheck := f.hopCrc }

/-- R170: cells of a frame; 36 bytes of header and transit check with the payload. -/
def Frame.cells (f : Frame) : Nat := (f.payload.length + 36 + 63) / 64

/-! Where a bank's contents stand (R20, R462, R465). -/

/-- The bank for which swap bank s stands in. -/
def Core.swapFor (c : Core) (s : Nat) : Option Nat :=
  if c.reg (Reg.SWAP_FOR s) = 0xFF then none else some (c.reg (Reg.SWAP_FOR s))

/-- The swap bank that stands in for bank b. -/
def Core.swapOf (c : Core) (b : Nat) : Option Nat := (List.range 2).find? (fun s => c.swapFor s == some b)

/-- R465: a swap bank's offset, for the owner of the bank that it stands in for, is that bank's. -/
def Core.swapAlias (c : Core) (off : Nat) : Nat :=
  if 0x400000 ≤ off ∧ off < 0x420000 then
    match c.swapFor ((off - 0x400000) / 65536) with
    | some b => b * 65536 + off % 65536
    | none => off
  else off

/-- R462: the physical bank that accesses to bank b reach, and where their writes are also applied: b itself with the swap bank
in COPY_IN, the swap bank in ALIASED, the swap bank with b in COPY_BACK. -/
def Core.bankPlace (c : Core) (b : Nat) : Nat × Option Nat :=
  match c.swapOf b with
  | none => (b, none)
  | some s =>
    let ph := c.reg (Reg.SWAP_PHASE s)
    if ph = 2 then (64 + s, none) else if ph = 3 then (64 + s, some b) else (b, some (64 + s))

/-- The physical offset that an access to a local offset reaches. -/
def Core.place (c : Core) (off : Nat) : Nat :=
  let a := c.swapAlias off
  (c.bankPlace (a / 65536)).1 * 65536 + a % 65536

/-- n bytes from a local offset, cut at the end of a bank. -/
def cutBank (off n : Nat) : List (Nat × Nat) :=
  let here := 65536 - off % 65536
  if n ≤ here then [(off, n)] else [(off, here), (off + here, n - here)]

/-- n bytes of bank storage from a local offset, as their reader gets them. -/
def Core.fetch (c : Core) (m : Memory) (off n : Nat) : Bytes :=
  (cutBank off n).flatMap (fun p => m.fetch (c.place p.1) p.2)

/-- The little-endian value of n bytes of bank storage. -/
def Core.fetchNum (c : Core) (m : Memory) (off n : Nat) : Nat := leVal (c.fetch m off n)

/-- Bytes stored into bank storage from a local offset, and into the other bank of a copy under way. -/
def Core.store (c : Core) (m : Memory) (off : Nat) (bs : Bytes) : Memory :=
  (cutBank off bs.length).foldl (fun (m : Memory) p =>
    let part := slice bs (p.1 - off) p.2
    let a := c.swapAlias p.1
    let x := c.bankPlace (a / 65536)
    let m := m.store (x.1 * 65536 + a % 65536) part
    match x.2 with
    | some t => m.store (t * 65536 + a % 65536) part
    | none => m) m

/-- Removes a delivered item that waits at a switch port. -/
def Core.undeliver (c : Core) (port : Nat) (f : Frame) : Core :=
  { c with sw := { c.sw with delivered := removeFirst (port, f) c.sw.delivered } }

/-- The next SEQUENCE of a stream this node originates (R160), and the count advanced. -/
def Core.nextSeq (c : Core) (okey cls stream : Nat) : Nat × Core :=
  let hit (x : Nat × Nat × Nat × Nat) : Bool := x.1 == okey && x.2.1 == cls && x.2.2.1 == stream
  match c.fwd.seqs.find? hit with
  | some x => (x.2.2.2, { c with fwd := { c.fwd with
      seqs := c.fwd.seqs.map (fun y => if hit y then (okey, cls, stream, (x.2.2.2 + 1) % 65536) else y) } })
  | none => (0, { c with fwd := { c.fwd with seqs := c.fwd.seqs ++ [(okey, cls, stream, 1)] } })

/-- The ring port record p. -/
def Core.port (c : Core) (p : Nat) : RingPort := mapGet {} p c.ring.ports

/-- Replaces ring port record p. -/
def Core.setPort (c : Core) (p : Nat) (r : RingPort) : Core :=
  { c with ring := { c.ring with ports := mapSet {} p r c.ring.ports } }

/-- Port p is in JOINED (R97 code 5). -/
def Core.joined (c : Core) (p : Nat) : Bool := c.reg (Reg.RP_STATE p) == 5

/-- Pair of a ring port: 0 home, 1 branch. -/
def pairOf (p : Nat) : Nat := p / 2

/-- The other port of a pair. -/
def otherPort (p : Nat) : Nat := if p % 2 = 0 then p + 1 else p - 1

/-- The census of a pair. -/
def Core.census (c : Core) (pair : Nat) : Census := if pair = 0 then c.ring.home else c.ring.branch

/-- Replaces the census of a pair. -/
def Core.setCensus (c : Core) (pair : Nat) (x : Census) : Core :=
  if pair = 0 then { c with ring := { c.ring with home := x } } else { c with ring := { c.ring with branch := x } }

/-- The node's address on a pair. -/
def Core.addrOn (c : Core) (pair : Nat) : Nat := if pair = 0 then c.homeAddr else c.reg Reg.BRANCH_ADDR

/-- The segment of a pair. -/
def Core.segmentOn (c : Core) (pair : Nat) : Nat :=
  if pair = 0 then c.cfg Reg.SEGMENT else c.cfg Reg.BRANCH_SEGMENT

/-- R98, R104: the port by which a frame bound for port p leaves, the wrap included; none when the pair has no port
carrying traffic. It turns from DOWN on, also for frames that arrive before LINK_HOLD has ended (R165; DESIGN CHOICE, log entry 118). -/
def Core.turn (c : Core) (p : Nat) : Option Nat :=
  if c.joined p then some p else if c.joined (otherPort p) then some (otherPort p) else none

/-- Position of an address in a census table. -/
def memberIx (t : List Member) (a : Nat) : Option Nat := t.findIdx? (fun m => m.addr == a || m.service == a)

/-- The address is a member of the applied table (NODE_ADDR). -/
def isMember (t : List Member) (a : Nat) : Bool := t.any (fun m => m.addr == a)

/-- R108, R118: the members of a wrapped segment from its west end to its east end. Its table lists them as the loop first visits
them: from the originator east to the member with WRAPPED_EAST, then back past the originator to the west end. -/
def chainOf (t : List Member) : Option (List Member) :=
  (t.findIdx? (fun m => bit m.flags 3)).map (fun e => (t.drop (e + 1)).reverse ++ t.take (e + 1))

/-- R108: hops from position i to position j on a closed ring of n members, sent on the primary ring or on the secondary. -/
def ringHops (n : Nat) (primary : Bool) (i j : Nat) : Nat := if primary then (j + n - i) % n else (i + n - j) % n

/-- R108: hops from place i to place j of a chain of n members, the frame turning at its ends. -/
def chainHops (n : Nat) (primary : Bool) (i j : Nat) : Nat :=
  if primary then (if i < j then j - i else 2 * (n - 1) - i - j) else (if j < i then i - j else i + j)

/-- R108: the hops after which a frame that node a sends on a ring first reaches a member that holds address b; none when the table
does not have both. -/
def hopsTo (t : List Member) (primary : Bool) (a b : Nat) : Option Nat :=
  let (ms, hops) := match chainOf t with
    | some ch => (ch, chainHops ch.length primary)
    | none => (t, ringHops t.length primary)
  let there := (List.range ms.length).filter (fun j => match ms[j]? with
    | some m => m.addr == b || m.service == b
    | none => false)
  match memberIx ms a, there with
  | some i, j :: js => some (js.foldl (fun x k => min x (hops i k)) (hops i j))
  | _, _ => none

/-- The entry of SEG_ROUTE_HOME or SEG_ROUTE_BRANCH for segment s (R123), in force. -/
def Core.segRoute (c : Core) (pair s : Nat) : Nat :=
  fieldAt (c.blob (if pair = 0 then Reg.SEG_ROUTE_HOME else Reg.SEG_ROUTE_BRANCH)) (2 * s) 2

/-- R108: the rings (true for primary) on which a pair places a frame that the node originates. -/
def Core.ringsFor (c : Core) (pair : Nat) (f : Frame) : List Bool :=
  if f.kind = 6 ∨ f.kind = 3 then [true, false]
  else if f.kind = 8 then [true]
  else if isMcast f.dst && (f.dst == 0xFFFF || segOf f.dst == c.segmentOn pair) then [f.stream % 2 == 0]
  else
    let t := (c.census pair).table
    let target := if segOf f.dst = c.segmentOn pair then f.dst else c.segRoute pair (segOf f.dst)
    match hopsTo t true (c.addrOn pair) target, hopsTo t false (c.addrOn pair) target with
    | some x, some y => [Nat.ble x y]
    | _, _ => [true]

/-- The east port of a pair sends the primary ring, the west port the secondary. -/
def portOfRing (pair : Nat) (primary : Bool) : Nat := 2 * pair + (if primary then 0 else 1)

/-- R165 case 2: frames routed to a port that is still JOINED under its WRAP_QUAL timer after its hold has ended, or that is
outside JOINED and has no wrap path, are discarded. -/
def Core.discarding (c : Core) (q : Nat) : Bool :=
  Nat.blt q 4 && c.reg (Reg.FW_HOLD_STATE q) == 0 && (!c.joined q || (c.port q).failing)

/-- Hands a frame to the switch at input inp for the given outputs: it seeks admission at each (R184), but is discarded where R165
case 2 says so. -/
def Core.submit (c : Core) (inp : Nat) (outs : List Nat) (f : Frame) : Core :=
  let c := (outs.filter c.discarding).foldl (fun (c : Core) q => c.inc (Reg.FW_CNT_HOLD_FLUSH q)) c
  let outs := outs.filter (fun q => !c.discarding q)
  if outs.isEmpty then c
  else { c with sw := { c.sw with
    srcKeys := if c.sw.srcKeys.contains (inp, f.cls, f.okey) then c.sw.srcKeys else (inp, f.cls, f.okey) :: c.sw.srcKeys
    nextId := c.sw.nextId + 1
    seeking := c.sw.seeking ++ [{ id := c.sw.nextId, inp := inp, frame := f, cells := f.cells, since := c.now,
                                   outs := outs.map (fun o =>
                                     { out := o, held := Nat.blt o 4 && c.reg (Reg.FW_HOLD_STATE o) != 0 }) }] } }

/-- The access goes as a DICT_REQ: into object space, or as the OPEN of R445. -/
def FabAccess.asDict (a : FabAccess) : Bool := a.dict || a.owner == .opener

/-- The outstanding access whose DICT_REQ has this TRANSACTION. -/
def Core.accessOfTxn (c : Core) (txn : Nat) : Option FabAccess :=
  c.fab.accesses.find? (fun a => a.tag.isSome && a.asDict && a.txn == txn)

/-- R12: the switch port of a master: SP_13 of a mover, SP_14 of Heather, SP_15 of the local host port. What R433, R441, R449 and
R454 say of an access that leaves SP_13 holds of it at its own port (log entry 94). -/
def FabOwner.port : FabOwner → Nat
  | .window _ host => if host then 15 else 14
  | .mover _ => 13
  | .opener => 14

/-- The switch port of the consumer of a frame kind (R145). A DICT_RSP goes to the master whose access its TRANSACTION names, or to
management. -/
def Core.consumerPort (c : Core) (f : Frame) : Nat :=
  if f.kind = 1 ∨ f.kind = 2 ∨ (f.kind = 0 ∧ f.cls = 5) then 12
  else if f.kind = 0 then 13
  else if f.kind = 5 then ((c.accessOfTxn (fieldAt f.payload 0 2)).map (fun a => a.owner.port)).getD 14
  else 14

/-- The multicast address covers a node with this address. -/
def covers (dst a : Nat) : Bool := dst == 0xFFFF || (dst % 1024 == 0x3FF && segOf dst == segOf a)

/-- R144, R152: the multicast address covers the node, by its home or its branch address. -/
def Core.coversNode (c : Core) (dst : Nat) : Bool :=
  (List.range 2).any (fun pair => c.addrOn pair != 0xFFFF && covers dst (c.addrOn pair))

/-- R23: an access to this address is served on the chip. -/
def Core.ownAddress (c : Core) (a : Nat) : Bool := !isMcast a && (a == c.homeAddr || a == c.addrOn 1)

/-- R112, R151: the node may originate this frame: it is addressed and a member of an applied table, or the frame is a
census frame, or PEER_DELAY of an addressed node. -/
def Core.mayOriginate (c : Core) (f : Frame) : Bool :=
  f.kind == 8 || (c.homeAddr != 0xFFFF && (f.kind == 7 || isMember c.ring.home.table c.homeAddr))

/-- The ring ports by which a frame that the node originates on a pair leaves, the wrap included (R98, R104, R108): where
both rings turn to the one joined port, one copy leaves there (DESIGN CHOICE, log entry 118). -/
def Core.ringOuts (c : Core) (pair : Nat) (f : Frame) : List Nat :=
  ((c.ringsFor pair f).filterMap (fun r => c.turn (portOfRing pair r))).eraseDups

/-! Duplicate discard (R160 to R162). -/

/-- R162: TRACK_USED follows the tracker. -/
def Core.setTracker (c : Core) (t : List Track) : Core :=
  ({ c with fwd := { c.fwd with tracker := t } }).setReg Reg.TRACK_USED t.length

/-- R162: position of the least recently updated entry. -/
def oldestTrack : List Track → Nat → Nat → Nat → Nat
  | [], _, best, _ => best
  | t :: ts, i, best, used => if t.used < used then oldestTrack ts (i + 1) i t.used else oldestTrack ts (i + 1) best used

/-- R161, R162: duplicate discard at delivery; true delivers. -/
def Core.dedup (c : Core) (f : Frame) : Bool × Core :=
  let hit (t : Track) : Bool := t.okey == f.okey && t.cls == f.cls && t.stream == f.stream
  match c.fwd.tracker.find? hit with
  | some t =>
    let d := (f.seq + 65536 - t.last) % 65536
    if d = 0 then (false, c.inc Reg.CNT_DUP)
    else if d < 32768 then
      (true, c.setTracker (c.fwd.tracker.map (fun t => if hit t then { t with last := f.seq, used := c.now } else t)))
    else (false, c.inc Reg.CNT_STALE)
  | none =>
    let e : Track := { okey := f.okey, cls := f.cls, stream := f.stream, last := f.seq, used := c.now }
    if c.fwd.tracker.length < 4096 then (true, c.setTracker (c.fwd.tracker ++ [e]))
    else
      let i := match c.fwd.tracker with
        | t :: ts => oldestTrack ts 1 0 t.used
        | [] => 0
      (true, (c.inc Reg.CNT_TRACK_EVICT).setTracker (c.fwd.tracker.eraseIdx i ++ [e]))

/-- R152: the consumer's port for the node's own copy of a multicast that covers it, unless it is a duplicate (R161). -/
def Core.ownCopy (c : Core) (f : Frame) : List Nat × Core :=
  if isMcast f.dst && c.coversNode f.dst && f.kind != 6 && f.kind != 7 && f.kind != 8 then
    let (fresh, c) := c.dedup f
    (if fresh then [c.consumerPort f] else [], c)
  else ([], c)

/-- R124 case 2: the lowest-numbered active trunk that reaches segment s. -/
def Core.trunkFor (c : Core) (s : Nat) : Option Nat :=
  (List.range 8).find? (fun t => c.cfg (Reg.TRUNK_CHANNEL t) != 0xFF && bit (c.cfg (Reg.TRUNK_SEG_MASK t)) s)

/-- R125: switch port through which a trunk's frames leave, that of its channel's cluster. -/
def Core.trunkPort (c : Core) (t : Nat) : Nat := 4 + c.cfg (Reg.TRUNK_CHANNEL t) / 16

/-- The banks that their owners drain: for a handover (R457), for the route table (R459), or for the self-test engine (R628). -/
def Core.drainBanks (c : Core) : List Nat :=
  c.fab.handovers.map (fun h => h.bank) ++ c.node.routeDrain ++ (c.test.lanes.filter (fun x => x.2.phase == .drain)).map (fun x => x.2.bank)

/-! The twin link's lanes and the pair's numbers (R499, R500, R505, R508 to R510, R515, R527). -/

/-- R500: the order in which a record is served in its lane. -/
def TwBody.serve : TwBody → Nat
  | .status _ | .image _ | .switch .. | .grant _ | .number .. => 1
  | .sent .. | .mark .. | .chunk .. | .commit .. => 2
  | .journal .. => 3

/-- Lane l. -/
def Core.lane (c : Core) (l : Nat) : TwLane := mapGet {} l c.twin.lanes

/-- Replaces lane l. -/
def Core.setLane (c : Core) (l : Nat) (x : TwLane) : Core :=
  { c with twin := { c.twin with lanes := mapSet {} l x c.twin.lanes } }

/-- R499: records of a lane are sent while fewer than 32 wait for their acknowledgement. -/
def TwLane.pump (now : Nat) : Nat → TwLane → TwLane
  | 0, x => x
  | n + 1, x =>
    match x.queue with
    | [] => x
    | b :: rest =>
      if 32 ≤ x.unacked.length then x
      else TwLane.pump now n { x with queue := rest, txSeq := (x.txSeq + 1) % 65536,
                                      unacked := x.unacked ++ [{ seq := x.txSeq, ack := x.rxSeq, body := b }],
                                      deadline := some (x.deadline.getD (now + 10000)) }

/-- R501: the twin controller runs: TW_ENABLE is 1, from the end of BOOT and in every mode. -/
def Core.twRuns (c : Core) : Bool := c.up && c.cfg Reg.TW_ENABLE == 1

/-- R500, R501: a record is queued on a lane, behind those served before it. From reset to the end of BOOT nothing is sent. -/
def Core.twSend (c : Core) (l : Nat) (b : TwBody) : Core :=
  if !c.twRuns then c
  else
    let x := c.lane l
    let q := insertBy (fun (a b : TwBody) => Nat.blt a.serve b.serve) b x.queue
    c.setLane l (TwLane.pump c.now 32 { x with queue := q })

/-- R500: the lane of the plane of a class. -/
def planeLane (cls : Nat) : Nat := if cls = 5 ∨ cls = 7 then 2 else if cls = 4 ∨ cls = 6 then 3 else 1

/-- The unit is in STANDBY of a pair (R505). -/
def Core.standby (c : Core) : Bool := c.inPair && c.reg Reg.TW_STATE == 2

/-- The unit holds the output token beside a peer that it knows (R505, R521). -/
def Core.holder (c : Core) : Bool :=
  c.inPair && c.reg Reg.TW_STATE == 1 && c.reg Reg.TW_TOKEN == 1 && c.reg Reg.TW_PEER_ADDR != 0xFFFF

/-- The twin link is live (R500). -/
def Core.linkLive (c : Core) : Bool := bit (c.reg Reg.TW_PATHS) 1

/-- R514, R515, R518: the unit may start a record, frame or pass at an instance: 1 serial channel, 2 CAN controller, 3 pin
engine. -/
def Core.mayStart (c : Core) (kind inst : Nat) : Bool :=
  !c.inPair || (c.reg Reg.TW_STATE == 1 && !c.twin.quiet && c.twin.driveAt.isNone && !c.twin.awaiting.contains (kind, inst))

/-- The unit drives the pins of instance `inst` of the kind (1 serial channel, 2 CAN controller, 3 pin engine). -/
def Core.drivesField (c : Core) (kind inst : Nat) : Bool :=
  !c.inPair || c.twin.held.contains (kind, inst)
    || (c.flag Reg.TW_TOKEN && !c.disc.mute && c.twin.driveAt.isNone && !c.twin.awaiting.contains (kind, inst))

/-- R509: the occurrence of a frame: how many of its class and stream have carried its tick. -/
def Core.occurrence (c : Core) (cls stream tick : Nat) : Nat × Core :=
  let hit (x : Nat × Nat × Nat × Nat) : Bool := x.1 == cls && x.2.1 == stream && x.2.2.1 == tick
  match c.twin.occs.find? hit with
  | some x =>
    let n := x.2.2.2 + 1
    (n, { c with twin := { c.twin with occs := c.twin.occs.map (fun y => if hit y then (cls, stream, tick, n) else y) } })
  | none => (1, { c with twin := { c.twin with occs := c.twin.occs ++ [(cls, stream, tick, 1)] } })

/-- A record is a GRANT. -/
def TwBody.isGrant : TwBody → Bool
  | .grant _ => true
  | _ => false

/-- R500, R509: lane l has room for a GRANT. -/
def Core.grantRoom (c : Core) (l : Nat) : Bool :=
  Nat.blt ((c.lane l).queue.filter TwBody.isGrant).length (Config.grantRoom l + 1)

/-- R509: the holder queues the GRANT of a frame that it numbers. With the link live one that finds no room in its lane waits, and
with it the frame's hand-off (`originate`); one that finds none while the link is not live is not sent (log entry 49). -/
def Core.grantFrame (c : Core) (cls stream seq tick key : Nat) : Core :=
  if !c.holder then c
  else
    let (n, c) := c.occurrence cls stream tick
    let l := planeLane cls
    let g : TwGrant := { cls := cls, stream := stream, seq := seq, tick := tick, occ := n, key := key }
    if c.grantRoom l && !c.twin.granting.any (fun x => x.1 == l) then c.twSend l (.grant g)
    else if c.linkLive then { c with twin := { c.twin with granting := c.twin.granting ++ [(l, g, none)] } }
    else c

/-- R527: the next JSEQ of the holder. -/
def Core.nextJseq (c : Core) : Nat × Core :=
  let j := (c.reg Reg.JSEQ_LAST + 1) % 2 ^ 32
  (j, c.setReg Reg.JSEQ_LAST j)

/-- R515, R527: the holder tells the standby that it has completed an item, and the former holder its successor, under its last
JSEQ, in the lane of the item's plane (R500); a scheduled entry, which any of several items can have set, in that of the control
plane. -/
def Core.twSent (c : Core) (kind inst cls stream seq : Nat) : Core :=
  if !(c.holder || c.twin.held.contains (kind, inst)) then c
  else
    let (j, c) := if c.holder then c.nextJseq else (c.reg Reg.JSEQ_LAST, c)
    c.twSend (planeLane cls) (.sent j kind inst stream seq)

/-- R527: the holder journals a frame that changes the image; `inst` is the bank of an output item. -/
def Core.twJournal (c : Core) (inst : Nat) (f : Frame) : Core :=
  if !c.holder then c
  else
    let (j, c) := c.nextJseq
    c.twSend (planeLane f.cls) (.journal j inst f)

/-- R510: a frame of the standby waits for its number, which it asks of the holder. -/
def Core.askNumber (c : Core) (inp : Nat) (f : Frame) : Core :=
  ({ c with twin := { c.twin with waiting := c.twin.waiting ++ [(f.seq, inp, f)] } }).twSend (planeLane f.cls)
    (.number false f.seq f.cls f.stream 0)

/-- R123, R165: the ports by which a frame enters a pair: none where no segment has been joined there. A branch pair that has left
its segment has no wrap path for it. -/
def Core.crossPorts (c : Core) (pair : Nat) (f : Frame) : Option (List Nat) :=
  let outs := c.ringOuts pair f
  if !outs.isEmpty then some outs
  else if pair == 1 && ((c.port 2).viaJoined || (c.port 3).viaJoined) then some ((c.ringsFor pair f).map (portOfRing pair))
  else none

/-- R124 steps 2 and 3 of a frame on a pair whose route entry names this node: the lowest-numbered trunk for its segment, or the
other pair where that has joined a segment (R123); none for step 4. -/
def Core.crossOuts (c : Core) (pair : Nat) (f : Frame) : Option (List Nat) :=
  match c.trunkFor (segOf f.dst) with
  | some t => some [c.trunkPort t]
  | none => c.crossPorts (1 - pair) f

/-- R147: a frame that crosses, or goes onto a trunk. One that entered here over a trunk has no ring port whose CNT_HOP_LIMIT could
count it (log entry 97). -/
def Core.submitCross (c : Core) (inp : Nat) (outs : List Nat) (f : Frame) : Core :=
  if c.reg Reg.HOP_LIMIT ≤ f.hop then c else c.submit inp outs { f with hop := f.hop + 1 }

/-- R124: a frame that enters the ring at this node for another segment than its home segment. -/
def Core.sendAway (c : Core) (inp : Nat) (f : Frame) : Core :=
  let e := c.segRoute 0 (segOf f.dst)
  if e ≠ 0xFFFF ∧ e = c.homeAddr then
    match c.crossOuts 0 f with
    | some outs => c.submitCross inp outs f
    | none => c.inc Reg.CNT_LONE_DROP
  else if e = 0xFFFF ∨ c.ring.lone then c.inc Reg.CNT_LONE_DROP
  else c.submit inp (c.ringOuts 0 f) f

/-- A frame enters the ring at this node, from switch input inp: by its home pair, with its own copy of a multicast (R152); a
system-wide multicast enters the branch segment too (R24, R167); a lone node keeps its own multicasts and drops what is for
other nodes (R106). -/
def Core.toRing (c : Core) (inp : Nat) (f : Frame) : Core :=
  let (own, c) := c.ownCopy f
  if f.dst = 0xFFFF then
    let c := c.submit inp (c.ringOuts 0 f ++ own) f
    if own.isEmpty then c else c.submitCross inp ((c.crossPorts 1 f).getD []) f
  else if segOf f.dst ≠ c.segmentOn 0 then (c.submit inp own f).sendAway inp f
  else if c.ring.lone ∧ ¬ isMcast f.dst then c.inc Reg.CNT_LONE_DROP
  else c.submit inp (c.ringOuts 0 f ++ own) f

/-- R151: a frame of this node is handed to the switch at input inp. A frame whose destination is an address of this node is served
on the chip (R23). -/
def Core.handOff (c : Core) (inp : Nat) (f : Frame) : Core :=
  if c.ownAddress f.dst then c.submit inp [c.consumerPort f] f
  else if !c.mayOriginate f then c.inc Reg.CNT_NOT_MEMBER
  else c.toRing inp f

/-- A GRANT that waits for room belongs to this frame. -/
def grantsFrame (f : Frame) (x : Nat × TwGrant × Option (Nat × Frame)) : Bool :=
  x.2.2.isNone && x.2.1.cls == f.cls && x.2.1.stream == f.stream && x.2.1.seq == f.seq

/-- R151: a subsystem at switch input inp originates a frame. One that the standby has not numbered waits for its number (R510); one
whose GRANT waits for room in its lane waits with it (R509). -/
def Core.originate (c : Core) (inp : Nat) (f : Frame) : Core :=
  if 65536 ≤ f.seq then c.askNumber inp f
  else if f.okey = c.originKey ∧ c.twin.granting.any (grantsFrame f) then
    { c with twin := { c.twin with
      granting := c.twin.granting.map (fun x => if grantsFrame f x then (x.1, x.2.1, some (inp, f)) else x) } }
  else c.handOff inp f

/-- R509: the GRANTs that wait are queued as their lanes have room, and their frames handed off; all of them once the unit holds the
token beside a live link no more. The first argument bounds them. -/
def Core.grantPump : Nat → Core → Core
  | 0, c => c
  | n + 1, c =>
    let go (x : Nat × TwGrant × Option (Nat × Frame)) : Bool := !c.linkLive || !c.holder || c.grantRoom x.1
    match c.twin.granting.find? go with
    | none => c
    | some x =>
      let c' : Core := { c with twin := { c.twin with granting := removeFirst x c.twin.granting } }
      let c' := if c.linkLive && c.holder then c'.twSend x.1 (.grant x.2.1) else c'
      Core.grantPump n (match x.2.2 with
        | some y => c'.handOff y.1 y.2
        | none => c')

/-- R509: the GRANTs that wait go on. -/
def Core.grantsGo (c : Core) : Core := Core.grantPump c.twin.granting.length c

/-- R133: a frame that came over a trunk enters the segment, or is delivered here through duplicate discard (R150). -/
def Core.fromTrunk (c : Core) (inp : Nat) (f : Frame) : Core :=
  if c.ownAddress f.dst then
    let (fresh, c) := c.dedup f
    if fresh then c.submit inp [c.consumerPort f] f else c
  else c.toRing inp f

/-- The number of a frame of this node: its own count, which the holder of a pair grants; at a standby whose link is live a
request number from 65536 up, in place of the number it will ask for (R160, R509, R510). -/
def Core.numberFrame (c : Core) (cls stream tick : Nat) (note : Nat := 0xFFFF) : Nat × Core :=
  if c.standby && c.linkLive then
    (65536 + c.twin.nextNumber, { c with twin := { c.twin with nextNumber := (c.twin.nextNumber + 1) % 65536 } })
  else
    let (q, c) := c.nextSeq c.originKey cls stream
    (q, c.grantFrame cls stream q tick note)

/-- Makes a frame of this node: identity, sequence and both checks (R143, R160, R202). `note` is what its GRANT carries as
route key. -/
def Core.make (c : Core) (kind cls dst stream tick : Nat) (urgent segm last : Bool) (payload : Bytes)
    (note : Nat := 0xFFFF) : Frame × Core :=
  let key := c.originKey
  let (q, c) := c.numberFrame cls stream tick note
  (({ kind := kind, cls := cls, dst := dst, src := c.homeAddr, okey := key, stream := stream, seq := q, tick := tick,
      mcast := isMcast dst, pair := key != c.homeAddr, urgent := urgent, segm := segm, last := last,
      payload := payload } : Frame).seal, c)

/-- R266: sends the placed records of one tick to EVS_DEST, 42 a frame. A frame that R151 then discards has taken its SEQUENCE
(DESIGN CHOICE, log entry 108). -/
def Core.sendEvents (c : Core) (tick : Nat) : Nat → List EvRec → Core
  | 0, _ => c
  | n + 1, rs =>
    if rs.isEmpty then c
    else
      let part := rs.take 42
      let (f, c) := c.make 2 3 (c.reg Reg.EVS_DEST) 0 tick (part.any (fun r => r.sev == 4)) false false
        (part.flatMap EvRec.bytes)
      (c.originate 14 f).sendEvents tick n (rs.drop 42)

/-- R266, R508: the records placed are streamed when EVS_ENABLE is 1, in a pair by the holder alone. -/
def Core.streamEvents (c : Core) (tick : Nat) (placed : List EvRec) : Core :=
  if c.flag Reg.EVS_ENABLE && (!c.inPair || c.flag Reg.TW_TOKEN) then
    c.sendEvents tick 16 (placed.filter (fun r => Nat.ble (c.reg Reg.EVS_MIN_SEV) r.sev))
  else c

/-- The record as the queue holds it once placed: with its EVENT_SEQ, and LOST_BEFORE where a record was lost before it or gave
way to it (R258, R263). -/
def Core.asPlaced (c : Core) (r : EvRec) : EvRec :=
  { r with seq := c.ev.seq, flags := setBit r.flags 4 (bit r.flags 4 || c.ev.lostBefore || Nat.ble 1024 (c.reg Reg.EVQ_COUNT)) }

/-- Places records one after another and gives those placed. -/
def Core.placeAll (c : Core) : List EvRec → Core × List EvRec
  | [] => (c, [])
  | r :: rs =>
    let r' := c.asPlaced r
    let (c, ok) := c.placeEvent r
    let (c, out) := c.placeAll rs
    (c, if ok then r' :: out else out)

/-- R262: a record reaches the event stream. -/
def Core.addEvent (c : Core) (r : EvRec) : Core :=
  match c.time.lastTick with
  | none => { c with ev := { c.ev with early := c.ev.early ++ [r] } }
  | some _ =>
    let late : Bool := match c.ev.closed with
      | some k => !tickAhead r.tick k
      | none => false
    if late || Nat.ble 512 c.ev.opened.length then
      let r := { r with flags := setBit r.flags 6 true }
      let c := c.inc Reg.CNT_EV_LATE
      let (c, placed) := c.placeAll [r]
      c.streamEvents r.tick placed
    else { c with ev := { c.ev with opened := c.ev.opened ++ [r] } }

/-- An event record of this node, made now (R258, R259); a software stamp carries SOFT_STAMP and the tick of system time (R267). -/
def Core.mkEvent (c : Core) (source kind sev value : Nat) (soft : Bool) : EvRec :=
  { tick := if soft then c.tickNow else c.tick, node := c.originKey, source := source, kind := kind, sev := sev,
    flags := b2n soft * 2 + b2n c.unlocked * 32, value := value % 2 ^ 64 }

/-- A hardware event. -/
def Core.event (c : Core) (source kind sev value : Nat) : Core := c.addEvent (c.mkEvent source kind sev value false)

/-- A hardware event written at most once per source and kind in a tick (R315). -/
def Core.eventOnce (c : Core) (source kind sev value : Nat) : Core :=
  if c.ev.limited.contains (source, kind) then c
  else ({ c with ev := { c.ev with limited := (source, kind) :: c.ev.limited } }).event source kind sev value

/-- An event that the management firmware writes (R267). -/
def Core.softEvent (c : Core) (source kind sev value : Nat) : Core := c.addEvent (c.mkEvent source kind sev value true)

/-! Modes (R637, R638, R641). -/

/-- R638: the modes that apply, as bits code - 2. -/
def Core.modeBits (c : Core) : Nat :=
  b2n (c.node.phase == .boot) + (if c.up then 2 ^ (c.node.base - 2) else 0) + b2n c.node.contested * 2 ^ 5
    + b2n c.node.degraded * 2 ^ 6 + b2n c.node.quiescent * 2 ^ 7 + b2n c.fc.safe * 2 ^ 8 + b2n c.node.updating * 2 ^ 9

/-- R638: the first mode that applies. -/
def Core.modeCode (c : Core) : Nat :=
  if c.node.phase = .boot then 2
  else if c.node.updating then 11
  else if c.node.base = 4 then 4
  else if c.node.base = 3 then 3
  else if c.fc.safe then 10
  else if c.node.contested then 7
  else if c.node.degraded then 8
  else if c.node.quiescent then 9
  else c.node.base

/-- R638, R641: MODE and MODE_FLAGS follow; a change of MODE records its tick and writes the mode event with the trigger
code. -/
def Core.refreshMode (c : Core) (trigger : Nat) : Core :=
  let c' := c.setReg Reg.MODE_FLAGS c.modeBits
  if c.modeCode = c.reg Reg.MODE then c'
  else
    ((c'.setReg Reg.MODE c.modeCode).setReg Reg.MODE_TICK c.tick).softEvent 0xC03 0x10 2
      (c.reg Reg.MODE + c.modeCode * 256 + trigger * 65536)

end Sys2Proof.Machine
end

