-- ==== Sys2Proof/Machine/Jtag.lean ====
section
/-! DEFINITION. The test access port (chapter 20, R671, R672). -/

namespace Sys2Proof.Machine

/-- R671: version, part, manufacturer field and 1. -/
def idcode : Nat := 0x212804C3

/-- An instruction comes into force. -/
def Core.jtagLoad (c : Core) (i : JtagInstr) (out : Nat) : Core := { c with jtag := { c.jtag with instr := i, out := out } }

/-- SAMPLE/PRELOAD: the levels of the digital balls are sampled and the boundary register is loaded; no ball changes. -/
def Core.samplePreload (c : Core) (levels boundary : Bytes) : Core :=
  { c with jtag := { c.jtag with instr := .samplePreload, sampled := levels, boundary := boundary } }

/-- R672: the instruction in force takes the balls: only while RESET_N is held low. -/
def Core.jtagTakes (c : Core) : Bool :=
  c.node.resetNLow && (c.jtag.instr == .extest || c.jtag.instr == .clamp || c.jtag.instr == .highz)

/-- What the balls of the boundary register carry: none where they are high-impedance or not taken. -/
def Core.jtagDrives (c : Core) : Option Bytes :=
  if c.jtagTakes && c.jtag.instr != .highz then some c.jtag.boundary else none

/-- R672: RESET_N rises: an instruction that took the balls acts as BYPASS until it is loaded again. -/
def Core.jtagRelease (c : Core) : Core :=
  if c.jtag.instr = .extest ∨ c.jtag.instr = .clamp ∨ c.jtag.instr = .highz then c.jtagLoad .bypass 0 else c

end Sys2Proof.Machine
end

