-- ==== Sys2Proof/Machine/Line.lean ====
section
/-! DEFINITION. What a ring port puts on its line (R95, R98, R140, R141): frames as 64B/66B blocks or as code groups, and what it
sends while it sends no frame; and the records of the twin link. -/

namespace Sys2Proof.Machine

/-- A frame as it crosses the line: header, payload, transit check. -/
def Frame.wire (f : Frame) : Bytes := f.head30 ++ leBytes 2 f.hopCheck ++ f.payload ++ leBytes 4 f.check

/-- The frame bytes that the line carried: all, or those sent before the port ended the frame at once, whose terminate block holds
none (R159). -/
def LineSent.bytes (x : LineSent) : Bytes :=
  match x.cut with
  | none => x.frame.wire
  | some n => x.frame.wire.take (7 + (n - 7) / 8 * 8)

/-- A 64B/66B block: start 0x78, data, terminate of a type with its bytes, error and idle of type 0x1E. -/
inductive PcsBlock where
  | start (bs : Bytes)
  | data (bs : Bytes)
  | terminate (type : Nat) (bs : Bytes)
  | error
  | idle
  deriving DecidableEq, Repr

/-- R140: the type of a terminate block that holds n bytes. -/
def terminateType (n : Nat) : Nat := [0x87, 0x99, 0xAA, 0xB4, 0xCC, 0xD2, 0xE1, 0xFF].getD n 0

/-- Data blocks of 8 bytes and the terminate block; `fuel` is at least the number of blocks. -/
def restBlocks : Nat → Bytes → List PcsBlock
  | 0, _ => []
  | n + 1, bs => if bs.length < 8 then [.terminate (terminateType bs.length) bs] else .data (bs.take 8) :: restBlocks n (bs.drop 8)

/-- R140: a frame at 10GBASE-R, up to the one idle block that separates it from the next. -/
def LineSent.blocks (x : LineSent) : List PcsBlock :=
  .start (x.bytes.take 7) :: restBlocks (x.bytes.length + 1) (x.bytes.drop 7) ++ (if x.poisoned then [.error, .idle] else [.idle])

/-- A code group or ordered set at 1000BASE-X. -/
inductive CodeGroup where
  | s
  | d (b : Byte)
  | v
  | tr
  | i2
  deriving DecidableEq, Repr

/-- R141: a frame at 1000BASE-X, up to the one /I2/ that separates it from the next. -/
def LineSent.groups (x : LineSent) : List CodeGroup :=
  .s :: x.bytes.map .d ++ (if x.poisoned then [.v, .tr, .i2] else [.tr, .i2])

/-- What a port sends while it sends no frame. -/
inductive LineFill where
  | off
  | idle
  | remoteFault
  | config (word : Nat)
  deriving DecidableEq, Repr

/-- The rate of a port's pair in force: 0 10GBASE-R, 1 1000BASE-X (R94). -/
def Core.rateOf (c : Core) (p : Nat) : Nat := c.cfg (if p < 2 then Reg.HOME_RATE else Reg.BRANCH_RATE)

/-- R95: the word of the configuration ordered sets that a port sends: the full-duplex bit alone. -/
abbrev configWord : Nat := 0x0020

/-- R95, R98: what port p sends while it sends no frame. -/
def Core.lineFill (c : Core) (p : Nat) : LineFill :=
  let r := c.port p
  if !r.serdes then .off
  else if !r.sendFault then .idle
  else if c.rateOf p = 1 then .config configWord else .remoteFault

/-- R95: three configuration ordered sets in a row match: the link partner is present. -/
def partnerPresent : List (BitVec 16) → Bool
  | a :: b :: d :: rest => (a == b && b == d) || partnerPresent (b :: d :: rest)
  | _ => false

/-- A frame leaves ring port p; CNT_TX counts one with a good end (R169). -/
def Core.sendLine (c : Core) (p : Nat) (x : LineSent) : Core :=
  ({ c with ring := { c.ring with sent := mapSet {} p x c.ring.sent } }).incIf (!x.poisoned) (Reg.FW_CNT_TX p)

/-- A frame leaves ring port p with a good end. -/
def Core.sendOn (c : Core) (p : Nat) (f : Frame) : Core := c.sendLine p { frame := f }

/-- R98: after the end of the frame in transmission a port whose receive side has failed sends its fault. -/
def Core.lineFree (c : Core) (p : Nat) : Core :=
  let r := c.port p
  if r.faultDue then c.setPort p { r with faultDue := false, sendFault := true } else c

/-! The twin link (R499, R500). -/

/-- R500: the KIND of a record. -/
def TwBody.kind : TwBody → Nat
  | .status _ => 1
  | .image _ => 2
  | .switch .. => 3
  | .grant _ => 4
  | .number .. => 5
  | .sent .. => 6
  | .journal .. => 7
  | .mark .. => 8
  | .chunk .. => 9
  | .commit .. => 10

/-- The body of a record: the contents of R500 in its order, each in its least whole bytes, the lowest first, and a GRANT filled
up to the 28 bytes of its record (R509; log entry 49). -/
def TwBody.bytes : TwBody → Bytes
  | .status s => leBytes 1 s.mode ++ leBytes 1 s.st ++ leBytes 1 s.rank ++ leBytes 1 (b2n s.token) ++ leBytes 4 s.period
      ++ leBytes 4 s.epoch ++ leBytes 4 s.jseq ++ leBytes 4 s.digest
  | .image i => leBytes 32 i.lines ++ leBytes 2 i.rails ++ leBytes 6 i.tick
  | .switch op tick kind inst => leBytes 1 op ++ leBytes 6 tick ++ leBytes 1 kind ++ leBytes 1 inst
  | .grant g => leBytes 1 g.cls ++ leBytes 2 g.stream ++ leBytes 2 g.seq ++ leBytes 6 g.tick ++ leBytes 2 g.occ ++ leBytes 2 g.key
      ++ zeros 1
  | .number answer id cls stream seq => leBytes 1 (b2n answer) ++ leBytes 4 id ++ leBytes 1 cls ++ leBytes 2 stream ++ leBytes 2 seq
  | .sent j kind inst stream seq => leBytes 4 j ++ leBytes 1 kind ++ leBytes 1 inst ++ leBytes 2 stream ++ leBytes 2 seq
  | .journal j inst f => leBytes 4 j ++ leBytes 1 inst ++ f.wire
  | .mark e t j => leBytes 4 e ++ leBytes 6 t ++ leBytes 4 j
  | .chunk e i data => leBytes 4 e ++ leBytes 1 i ++ data
  | .commit e n crc => leBytes 4 e ++ leBytes 1 n ++ leBytes 4 crc

/-- R499: the CRC-32C of a record over head and body, with the FLAGS and the body length that its head gives. -/
def twCrc (flags len seq ack : Nat) (b : TwBody) : Nat :=
  crc32c (leBytes 1 b.kind ++ leBytes 1 flags ++ leBytes 2 len ++ leBytes 2 seq ++ leBytes 2 ack ++ b.bytes)

/-- R499: a record on lane l as it crosses the link: an 8-byte head, the body, a CRC-32C over both. -/
def TwRec.wire (l : Nat) (r : TwRec) : Bytes :=
  let body := r.body.bytes
  leBytes 1 r.body.kind ++ leBytes 1 l ++ leBytes 2 body.length ++ leBytes 2 r.seq ++ leBytes 2 r.ack ++ body
    ++ leBytes 4 (twCrc l body.length r.seq r.ack r.body)

/-- R499: an arriving record passes: its length is that of its body, and its CRC is that of its head and body. -/
def TwHead.good (h : TwHead) (seq ack : Nat) (b : TwBody) : Bool :=
  h.len == b.bytes.length && h.crc == twCrc h.flags h.len seq ack b

/-- What a record carries when it arrives as it was sent on lane l. -/
def TwBody.head (b : TwBody) (l seq ack : Nat) (tick : Nat := 0) : TwHead :=
  { flags := l, len := b.bytes.length, crc := twCrc l b.bytes.length seq ack b, tick := tick }

end Sys2Proof.Machine
end

