-- ==== Sys2Proof/Machine/Safe.lean ====
section
/-! DEFINITION. What safe state, an isolation and the end of safe state do at once to each resource (R517, R582, R587, R590),
with the parts of serial channels, CAN controllers, pin engines and field rails that they act on. -/

namespace Sys2Proof.Machine

/-! Fault sources (R565). -/

/-- Numbers of the fault sources (R565). -/
abbrev Src.FC_SELF_CHECK : Nat := 0x084
abbrev Src.TICK_ARM_LATE : Nat := 0x100
abbrev Src.DICT_LOCKOUT : Nat := 0x101
abbrev Src.PORT_MISWIRED : Nat := 0x102
abbrev Src.RING_WRAP : Nat := 0x103
abbrev Src.LONE : Nat := 0x104
abbrev Src.DUP_ADDR : Nat := 0x105
abbrev Src.TRUNK_DOWN : Nat := 0x106
abbrev Src.RING_HEADER : Nat := 0x107
abbrev Src.RING_POISON : Nat := 0x108
abbrev Src.SW_DROP : Nat := 0x109
abbrev Src.SW_BUF_ACCOUNT : Nat := 0x10A
abbrev Src.EGRESS_CHECK : Nat := 0x10B
abbrev Src.EGRESS_CHECK_BURST : Nat := 0x10C
abbrev Src.BRIDGE_CHECK : Nat := 0x10D
abbrev Src.LOCAL_CHECK : Nat := 0x10E
abbrev Src.BANK_ECC_CORR : Nat := 0x10F
abbrev Src.BANK_ECC_UNCORR : Nat := 0x110
abbrev Src.TIME_TICK_MISMATCH : Nat := 0x111
abbrev Src.TIME_HOLDOVER : Nat := 0x112
abbrev Src.PPS_LOST : Nat := 0x113
abbrev Src.CH_PTR_MISMATCH : Nat := 0x114
abbrev Src.CAN_BUS_OFF : Nat := 0x115
abbrev Src.DISC_READBACK : Nat := 0x116
abbrev Src.DISC_SUPPLY : Nat := 0x117
abbrev Src.MAP_FAULT : Nat := 0x118
abbrev Src.WIN_FAULT : Nat := 0x119
abbrev Src.WIN_PREFETCH_CONFIG : Nat := 0x11A
abbrev Src.MV_FAULT : Nat := 0x11B
abbrev Src.WRITE_CLASH : Nat := 0x11C
abbrev Src.LHP_ERROR : Nat := 0x11D
abbrev Src.LHP_LOCK_BROKEN : Nat := 0x11E
abbrev Src.LHP_DATA_LOST : Nat := 0x11F
abbrev Src.TW_PEER_LOST : Nat := 0x120
abbrev Src.TW_CONTESTED : Nat := 0x121
abbrev Src.TW_CONFIG : Nat := 0x122
abbrev Src.TW_RANK_CLASH : Nat := 0x123
abbrev Src.TW_LINK_DOWN : Nat := 0x124
abbrev Src.TW_HB_WIRE : Nat := 0x125
abbrev Src.POWER_DIP : Nat := 0x126
abbrev Src.POWER_DEGRADED : Nat := 0x127
abbrev Src.SUPPLY_SD : Nat := 0x128
abbrev Src.SUPPLY_MEAS : Nat := 0x129
abbrev Src.FEED_REVERSE : Nat := 0x12A
abbrev Src.FEED_LOST : Nat := 0x12B
abbrev Src.VBAT_LOW : Nat := 0x12C
abbrev Src.RAIL_TRIP : Nat := 0x12D
abbrev Src.RAIL_LOCKOUT : Nat := 0x12E

/-- No instance (R566). -/
abbrev noInst : Nat := 0xFFFF

/-- The onset of a condition, for places below the collector: it waits for the close of the present tick (R568);
after that close the collector places it as the command goes on (`Core.flushLate`). -/
def Core.pushRaise (c : Core) (source inst sev : Nat) : Core :=
  if c.fc.active.any (fun a => a.source == source && a.inst == inst && a.cause == 0) then c
  else { c with fc := { c.fc with
    active := c.fc.active ++ [{ source := source, inst := inst, cause := 0, onset := c.tick, sev := sev }]
    arrivals := c.fc.arrivals ++ [{ onset := c.tick, node := c.originKey, source := source, sev := sev, inst := inst, unlocked := c.unlocked }] } }

/-! Isolations (R565, R582). -/

/-- Severity of a source whose severity the table fixes (R565, and R632 for the management sources). -/
def srcSev (s : Nat) : Nat :=
  if s = 0x084 then 3
  else if [0x102, 0x104, 0x105, 0x10A, 0x10C, 0x110, 0x111, 0x114, 0x120, 0x121, 0x122, 0x123, 0x127, 0x128, 0x12E].contains s then 2
  else if s = 0x10F then 0
  else if [0x180, 0x182, 0x184, 0x18A, 0x18B].contains s then 2
  else if s = 0x181 ∨ s = 0x18D then 0
  else 1

/-- Isolation kinds of R582. -/
inductive IsoKind where
  | none | input | port | channel | can | engine | bank | window | mover | host | rail
  deriving DecidableEq, Repr

/-- The isolation action of a source (R565); check faults go by checker code. -/
def isoKind (s checker : Nat) : IsoKind :=
  if s < 0x84 then .input
  else if s = 0x107 ∨ s = 0x108 then .port
  else if s = 0x10B ∨ s = 0x10C then
    (if checker = 4 then .channel else if checker = 5 then .can else if checker = 6 then .bank
     else if checker = 7 then .engine else if checker = 8 then .host else .none)
  else if s = 0x114 then .channel
  else if s = 0x116 then .bank
  else if s = 0x119 then .window
  else if s = 0x11B then .mover
  else if s = 0x11D ∨ s = 0x11E then .host
  else if s = 0x12D ∨ s = 0x12E then .rail
  else .none

/-- An isolation of this source and instance is in force (R582), or released and waiting for the next strobe (R583). -/
def Core.isolated (c : Core) (source inst : Nat) : Bool :=
  (c.fc.isos ++ c.fc.leaving).any (fun e => e.1 == source && e.2.1 == inst)

/-- R582: an isolation of this kind and instance is in force. -/
def Core.isolatedKind (c : Core) (k : IsoKind) (inst : Nat) : Bool :=
  (c.fc.isos ++ c.fc.leaving).any (fun e => isoKind e.1 e.2.2 == k && e.2.1 == inst)

/-! Serial channels (R276, R277, R310, R318, R587). -/

/-- R125, R276: the trunk is active: it names a channel in UART role at 1,200 to 115,200 bit/s. -/
def Core.trunkActive (c : Core) (t : Nat) : Bool :=
  let n := c.cfg (Reg.TRUNK_CHANNEL t)
  Nat.blt n 128 && c.cfg (Reg.CH_ROLE n) == 1 && Nat.ble 1200 (c.cfg (Reg.CH_BAUD n)) && Nat.ble (c.cfg (Reg.CH_BAUD n)) 115200

/-- Channel n. -/
def Core.chan (c : Core) (n : Nat) : Chan := mapGet {} n c.chans

/-- Replaces channel n. -/
def Core.setChan (c : Core) (n : Nat) (x : Chan) : Core := { c with chans := mapSet {} n x c.chans }

/-- The trunk that names channel n (R125). -/
def Core.trunkOf (c : Core) (n : Nat) : Option Nat := (List.range 8).find? (fun t => c.cfg (Reg.TRUNK_CHANNEL t) == n)

/-- R276, R285, R288: the settings of channel n conflict. -/
def Core.chanConflict (c : Core) (n : Nat) : Bool :=
  let role := c.cfg (Reg.CH_ROLE n)
  let spi := c.cfg (Reg.CH_SPI n)
  let own := bits (c.cfg (Reg.CH_I2C n)) 8 2
  let m := if n % 2 = 0 then n + 1 else n - 1
  (role == 3 && (Nat.ble (bits spi 15 0) (bits spi 22 19)
      || (bits (c.cfg (Reg.CH_SPI_CS n)) 8 0 == 0x100
        && !(c.cfg (Reg.CH_ROLE m) == 0 || (c.cfg (Reg.CH_ROLE m) == 1 && !bit (c.cfg (Reg.CH_PINS m)) 5)))))
    || ((role == 5 || role == 7) && (Nat.blt own 8 || Nat.blt 0x77 own))
    || (match c.trunkOf n with
      | some t => !c.trunkActive t
      | none => false)

/-- The role that channel n plays: OFF under an isolation (R582) or a conflict (R276). -/
def Core.chRole (c : Core) (n : Nat) : Nat :=
  if c.isolatedKind .channel n || c.chanConflict n then 0 else c.cfg (Reg.CH_ROLE n)

/-- CH_STATE of a running channel (R277, R318). -/
def Core.chanState (c : Core) (n : Nat) : Core :=
  let x := c.chan n
  c.setReg (Reg.CH_STATE n)
    (if x.taken ≠ 0 then 2 else if c.chanConflict n then 5 else if c.cfg (Reg.CH_ROLE n) = 0 ∨ c.isolatedKind .channel n then 0
     else if x.stuckNext.isSome then 4 else if (c.trunkOf n).isSome then 3 else 1)

/-- The transmit side drops its records; a transmitter ends its present character and releases DE. -/
def Core.clearTx (c : Core) (n : Nat) : Core :=
  let x := c.chan n
  (c.incBy (Reg.CH_CNT_TX_DROP n) (x.txFill.length + x.txDrain.length)).setChan n
    { x with txFill := [], txDrain := [], busy := false, de := false, cs := false, arbEnd := none, retries := 0 }

/-- Bits of a character. -/
def Core.charBits (c : Core) (n : Nat) : Nat :=
  let f := c.cfg (Reg.CH_FORMAT n)
  1 + (if bit f 0 then 7 else 8) + (if bits f 2 1 = 0 then 0 else 1) + (if bit f 3 then 2 else 1)

/-- Nanoseconds of k tenths of a character. -/
def Core.charTime (c : Core) (n k : Nat) : Nat := c.charBits n * c.reg (Reg.CH_BAUD_DIV n) * 5 * k / 160

/-- Nanoseconds of k half-periods of SCLK (R284). -/
def Core.sclkTime (c : Core) (n k : Nat) : Nat := 5 * bits (c.cfg (Reg.CH_SPI n)) 15 0 * k

/-- The time of one character, or of a byte on SPI (R303). -/
def Core.unitTime (c : Core) (n : Nat) : Nat := if c.chRole n = 3 then c.sclkTime n 16 else c.charTime n 10

/-- The transmit side drops its records: the transmitter ends its present character, and DE its lag; the next record starts no
earlier (R303). -/
def Core.clearLine (c : Core) (n : Nat) : Core :=
  let x := c.chan n
  let left := c.unitTime n - (c.now - x.startAt) % max 1 (c.unitTime n)
  let c := c.clearTx n
  if x.busy ∧ c.chRole n ≤ 3 then
    c.setChan n { c.chan n with sentEnd := c.now + left, deUntil := if c.chRole n = 2 then c.now + left + x.lag else 0 }
  else c

/-- R587: safe entry at a channel: its transmitter ends its present character; staging and transmit banks are cleared, each dropped
item and record counted. -/
def Core.chanSafe (c : Core) (n : Nat) : Core :=
  let c := (c.clearLine n).incBy (Reg.CH_CNT_TX_DROP n) (c.chan n).staging.length
  c.setChan n { c.chan n with staging := [] }

/-! CAN FD controllers (R347, R587). -/

/-- Controller n. -/
def Core.can (c : Core) (n : Nat) : Can := mapGet {} n c.cans

/-- Replaces controller n. -/
def Core.setCan (c : Core) (n : Nat) (x : Can) : Core := { c with cans := mapSet {} n x c.cans }

/-- Mailbox m of a controller. -/
def Can.box (x : Can) (m : Nat) : Mailbox := mapGet {} m x.boxes

/-- CAN_TXQ: the mailboxes READY or ACTIVE (R350). -/
def Can.txq (x : Can) : Nat :=
  x.boxes.foldl (fun a b => if b.2.state = 1 ∨ b.2.state = 2 then a + 2 ^ b.1 else a) 0

/-- Replaces mailbox m of controller n. -/
def Core.setBox (c : Core) (n m : Nat) (b : Mailbox) : Core :=
  let x := { c.can n with boxes := mapSet {} m b (c.can n).boxes }
  (c.setCan n x).setReg (Reg.CAN_TXQ n) x.txq

/-- The state of a mailbox changes. -/
def Core.boxState (c : Core) (n m st : Nat) : Core := c.setBox n m { (c.can n).box m with state := st }

/-- A controller's event. -/
def Core.canEvent (c : Core) (n kind sev value : Nat) : Core := c.eventOnce (0x200 + n) kind sev value

/-- R347: LONE clears. -/
def Core.loneClear (c : Core) (n value : Nat) : Core :=
  if bit (c.reg (Reg.CAN_STATUS n)) 0 then
    (c.setReg (Reg.CAN_STATUS n) (setBit (c.reg (Reg.CAN_STATUS n)) 0 false)).canEvent n 6 0 value
  else c

/-- R347: LONE clears when an abort leaves nothing to send. -/
def Core.loneAborted (c : Core) (n : Nat) : Core := if (c.can n).txq = 0 then c.loneClear n 1 else c

/-- R587: safe entry at a controller: READY mailboxes become ABORTED, and so does one selected whose frame is not yet on the bus;
staging is cleared. -/
def Core.canSafe (c : Core) (n : Nat) : Core :=
  let c := if (c.can n).started then c else (match (c.can n).active with
    | some m => (c.boxState n m 4).setCan n { ((c.boxState n m 4).can n) with active := none, lateAbort := false }
    | none => c)
  let x := c.can n
  let ready := (x.boxes.filter (fun b => b.2.state == 1)).map (fun b => b.1)
  let c := ready.foldl (fun (c : Core) (m : Nat) => c.boxState n m 4) c
  let c := c.setCan n { c.can n with staging := [] }
  if ready.isEmpty then c else c.loneAborted n

/-! Safe values at a strobe (R33). -/

/-- A value enters its bank's output update register (R384). -/
def Core.update (c : Core) (u : OutUpd) : Core := { c with sched := { c.sched with updates := c.sched.updates ++ [u] } }

/-- The value of register k that a write less than 10 ns ago has replaced, which a strobe now still takes. -/
def Core.safeOlder (c : Core) (k : Nat) : Option Nat :=
  (c.disc.safeOld.find? (fun x => x.1 == k && Nat.blt c.now (x.2.2 + 10))).map (fun x => x.2.1)

/-- A write of safe value k is too new for a strobe now. -/
def Core.safeLate (c : Core) (k : Nat) : Bool := (c.safeOlder k).isSome

/-- R33: the safe value k that a strobe now takes: that complete at least 10 ns before. -/
def Core.safeValue (c : Core) (k : Nat) : Nat := (c.safeOlder k).getD (c.reg k)

/-- A write of safe value k (DISC_SAFE, ENG_SAFE). -/
def Core.setSafe (c : Core) (k v : Nat) : Core :=
  let old := c.disc.safeOld.filter (fun x => Nat.blt c.now (x.2.2 + 10)) ++ [(k, c.reg k, c.now)]
  { c with disc := { c.disc with safeOld := old } }.setReg k v

/-- R33: an isolation has been put in force or released at least 10 ns before now. -/
def Core.isoRipe (c : Core) (e : Nat × Nat × Nat) : Bool := !c.fc.isoAt.any (fun x => x.1 == e && Nat.blt c.now (x.2 + 10))

/-- Isolations are put in force or released now. -/
def Core.isoChange (c : Core) (es : List (Nat × Nat × Nat)) : Core :=
  { c with fc := { c.fc with isoAt := c.fc.isoAt.filter (fun x => Nat.blt c.now (x.2 + 10)) ++ es.map (fun e => (e, c.now)) } }

/-! Pin engines (R277, R351 to R355, R369, R372). -/

/-- Engine n. -/
def Core.eng (c : Core) (n : Nat) : Engine := mapGet {} n c.engs

/-- Replaces engine n. -/
def Core.setEng (c : Core) (n : Nat) (x : Engine) : Core := { c with engs := mapSet {} n x c.engs }

/-- ENG_STATE. -/
def Core.engState (c : Core) (n : Nat) : Nat := c.reg (Reg.ENG_STATE n)

/-- Sets ENG_STATE. -/
def Core.setEngState (c : Core) (n st : Nat) : Core := c.setReg (Reg.ENG_STATE n) st

/-- PIN_BASE and PIN_COUNT of an ENG_PINS value (R351). -/
def pinGroup (v : Nat) : Nat × Nat := (bits v 5 0, bits v 8 6 + 1)

/-- The cluster pin indexes of engine n's group. -/
def Core.engPins (c : Core) (n : Nat) : List Nat :=
  let (b, k) := pinGroup (c.reg (Reg.ENG_PINS n))
  (List.range k).map (fun i => b + i)

/-- The pins (bits A, B, C) of channel ch that engines other than STOPPED have taken. -/
def Core.takenPins (c : Core) (ch : Nat) : Nat :=
  let k := ch / 16
  (List.range 3).foldl (fun a j =>
    let i := 3 * (ch % 16) + j
    if (List.range 8).any (fun e => c.engState (8 * k + e) != 0 && (c.engPins (8 * k + e)).contains i) then a + 2 ^ j else a) 0

/-- The channels of engine n's group get back the pins that no other engine holds (R277, R355). -/
def Core.giveBackPins (c : Core) (n : Nat) : Core :=
  let chans := ((c.engPins n).map (fun i => 16 * (n / 8) + i / 3)).eraseDups
  chans.foldl (fun (c : Core) (ch : Nat) =>
    if (c.chan ch).taken = c.takenPins ch then c
    else (c.setChan ch { c.chan ch with taken := c.takenPins ch }).chanState ch) c

/-- A pin level in a group word. -/
def setLevel (levels pin : Nat) (b : Bool) : Nat := setBit levels pin b

/-- Result of running bits of a shift: done, or stalled. -/
inductive ShiftEnd where
  | done
  | stalled
  deriving DecidableEq, Repr

/-- R361, R364: the bits of a SHIFT_OUT. -/
def shiftOut (cfg total : Nat) (x : Engine) : Nat → ShiftEnd × Engine
  | 0 => (.done, x)
  | k + 1 =>
    if total ≤ x.bitsDone then (.done, x)
    else
      let refill : Bool := bit cfg 14 && x.fill == 0
      if refill && x.tx.isEmpty then (.stalled, x)
      else
        let x := if refill then { x with sr := x.tx.headD 0, tx := x.tx.drop 1, fill := 32 } else x
        let lsb := bit cfg 13
        let out := if lsb then bit x.sr 0 else bit x.sr 31
        let x := { x with sr := if lsb then x.sr / 2 else x.sr * 2 % 2 ^ 32, fill := x.fill - 1, bitsDone := x.bitsDone + 1,
                          levels := if bit cfg 9 then setLevel x.levels (bits cfg 2 0) out else x.levels }
        shiftOut cfg total x k

/-- The engine cycles of engine n that have ended since its next cycle began (R356): a cycle lasts INT CCLK periods of 5 ns, one
more when the accumulator carries. -/
def Core.engElapsed (c : Core) (n : Nat) (t : Nat) : Nat :=
  let x := c.eng n
  let div := c.reg (Reg.ENG_DIV n)
  (256 * ((t - x.since) / 5) + 255 - x.acc) / (256 * bits div 15 0 + bits div 23 16)

/-- R361, R364: the bits of a SHIFT_IN; bit i of `ins` is the level read for the i-th bit taken now. -/
def shiftIn (cfg total : Nat) (ins : BitVec 32) (taken : Nat) (x : Engine) : Nat → ShiftEnd × Engine
  | 0 => (.done, x)
  | k + 1 =>
    let spill : Bool := bit cfg 15 && x.fill == 32 && x.overrun
    if spill && Nat.ble 4 x.rx.length then (.stalled, x)
    else
      let x := if spill then { x with rx := x.rx ++ [x.sr], fill := 0, overrun := false } else x
      if total ≤ x.bitsDone then (.done, x)
      else
        let b := bit cfg 10 && ins.getLsbD taken
        let x := { x with sr := if bit cfg 13 then x.sr / 2 + b2n b * 2 ^ 31 else (x.sr * 2 + b2n b) % 2 ^ 32,
                          fill := min 32 (x.fill + 1), bitsDone := x.bitsDone + 1,
                          overrun := bit cfg 15 && x.fill == 31 }
        shiftIn cfg total ins (taken + 1) x k

/-- The engine cycles of engine n that have begun before instant t (R356). -/
def Core.engBegun (c : Core) (n t : Nat) : Nat := if t ≤ (c.eng n).since then 0 else c.engElapsed n (t - 1) + 1

/-- The local instant at which the engine cycle under way now began. -/
def Core.engCycleStart (c : Core) (n : Nat) : Nat :=
  let x := c.eng n
  let div := c.reg (Reg.ENG_DIV n)
  let k := c.engBegun n c.now - 1
  x.since + 5 * (k * bits div 15 0 + (x.acc + k * bits div 23 16) / 256)

/-- The pins of a group as SET changes them (R361, R363). -/
def setPins (cfg count w : Nat) (x : Engine) : Engine :=
  let v := w % 256
  let keep (i : Nat) (out : Bool) : Bool :=
    (bit cfg 9 && bits cfg 2 0 == i && !out) || (bit cfg 11 && bits cfg 8 6 == i && !out) || (bit cfg 10 && bits cfg 5 3 == i && out)
  let pick (f : Nat → Bool) : Nat := (List.range count).foldl (fun a i => if f i then a + 2 ^ i else a) 0
  match bits w 12 11 with
  | 0 => { x with levels := pick (fun i => if bit x.dirs i then bit v i else bit x.levels i) }
  | 1 => { x with levels := pick (fun i => bit x.levels i || (bit v i && bit x.dirs i)) }
  | 2 => { x with levels := pick (fun i => bit x.levels i && !(bit v i && bit x.dirs i)) }
  | _ => { x with dirs := pick (fun i => if keep i (bit v i) then bit x.dirs i else bit v i) }

/-- Engine cycles of an instruction that does not stall, from where it stands; none is given for a WAIT (R361). -/
def instrCycles (w bitsDone : Nat) : Option Nat :=
  match w / 2 ^ 13 with
  | 0 | 1 => some (2 * (bits w 12 8 + 1 - bitsDone))
  | 2 => some (bits w 9 0 + 1)
  | 3 => none
  | _ => some 1

/-- What a shift under way in engine x has done after k cycles ended and `begun` cycles began: its bits, and the levels that the bit under
way and the shift clock have put on the pins (R361). -/
def shiftPartial (cfg w k begun : Nat) (ins : BitVec 32) (x : Engine) : Nat × Engine :=
  let left := bits w 12 8 + 1 - x.bitsDone
  let taken := min left (if w / 2 ^ 13 = 0 ∨ bit w 1 then k / 2 else (k + 1) / 2)
  let y := if w / 2 ^ 13 = 0 then (shiftOut cfg (bits w 12 8 + 1) x (min left ((begun + 1) / 2))).2
    else (shiftIn cfg (x.bitsDone + taken) ins 0 x (taken + b2n (Nat.blt (2 * taken) begun))).2
  (x.bitsDone + taken,
    if bit w 0 ∧ bit cfg 11 ∧ 0 < begun then { y with levels := setLevel y.levels (bits cfg 8 6) (bit cfg 12 != (begun % 2 == 1)) } else y)

/-- Engine n as a command that abandons its instruction finds it: CNT with the cycles run; the bits that a shift has made, which come
first, the words it has pulled and those it has spilled; the pins of a SET whose cycle has begun. The levels that a SHIFT_IN took are
no operand of such a command: a free value (log entries 1 and 27). -/
def Core.engPartial (c : Core) (n : Nat) : Nat × Core :=
  let x := c.eng n
  let w := fieldAt (c.blob (Reg.ENG_PROG n)) (2 * x.pc) 2
  let cfg := c.reg (Reg.ENG_CFG n)
  let st := c.engState n
  if st = 0 ∨ 3 < st then (x.bitsDone, c)
  else
    let most := if st = 1 then instrCycles w x.bitsDone else none
    let begun := (most.map (fun m => min m (c.engBegun n c.now))).getD (c.engBegun n c.now)
    let k := (most.map (fun m => min m (c.engElapsed n c.now))).getD (c.engElapsed n c.now)
    let x := { x with cnt := (x.cnt + begun) % 2 ^ 32 }
    if st = 1 ∧ w / 2 ^ 13 ≤ 1 then
      let (v, c) := if w / 2 ^ 13 = 1 ∧ bit cfg 15 ∧ 0 < begun then c.draw else (0, c)
      let (made, y) := shiftPartial cfg w k begun (BitVec.ofNat 32 v) x
      (made, c.setEng n y)
    else
      let y := if st = 1 ∧ w / 2 ^ 13 = 4 ∧ 0 < begun then setPins cfg (c.engPins n).length w x else x
      (x.bitsDone, c.setEng n y)

/-- An engine stops: its pins are released (R355, R369). -/
def Core.engHalt (c : Core) (n : Nat) : Core :=
  let c := c.setEng n { c.eng n with bitsDone := 0, overrun := false, stopAtWrap := false, safeDue := false, tickSeen := none, dirs := 0 }
  (c.setEngState n 0).giveBackPins n

/-- STOP: the instruction under way is abandoned (R369). -/
def Core.engStop (c : Core) (n : Nat) : Core := (c.engPartial n).2.engHalt n

/-- R372: the engine halts; its outputs hold the levels they have. -/
def Core.engSafe (c : Core) (n : Nat) : Core :=
  if c.engState n = 0 then c
  else
    let c := (c.engPartial n).2
    (c.setEng n { c.eng n with bitsDone := 0, overrun := false, stopAtWrap := false, tickSeen := none, safeDue := true }).setEngState n 5

/-! Field rails (R547, R551, R582). -/

/-- Rail n. -/
def Core.rail (c : Core) (n : Nat) : Rail := mapGet {} n c.pwr.rails

/-- Replaces rail n. -/
def Core.setRail (c : Core) (n : Nat) (x : Rail) : Core := { c with pwr := { c.pwr with rails := mapSet {} n x c.pwr.rails } }

/-- The gate of rail n goes low, and RETRY_INTERVAL runs from now (R547). -/
def Core.railOff (c : Core) (n : Nat) : Core :=
  let x := c.rail n
  if !x.gate then c.setRail n { x with settle := none, good := none }
  else c.setRail n { x with gate := false, offAt := c.now, interval := 1000000 * c.reg (Reg.RETRY_INTERVAL n), settle := none,
                            good := none }

/-- A rail's event (R557). -/
def Core.railEvent (c : Core) (n kind sev value : Nat) : Core := c.eventOnce (0x500 + n) kind sev value

/-- R551: rail n enters LOCKOUT. -/
def Core.railLock (c : Core) (n : Nat) : Core :=
  let st := c.reg (Reg.RAIL_STATE n)
  if st = 6 ∨ st = 0 then c
  else
    let c := c.railOff n
    let c := ((c.setRail n { c.rail n with wrote := false }).setReg (Reg.RAIL_STATE n) 6).inc (Reg.RAIL_CNT_LOCKOUT n)
    let c := c.setReg (Reg.RAIL_FLAGS n) (setBit (c.reg (Reg.RAIL_FLAGS n)) 3 true)
    (c.railEvent n 4 3 (c.reg (Reg.RAIL_RETRIES n))).pushRaise Src.RAIL_LOCKOUT n 2

/-! Safe state and isolations. -/

/-- R497: the witness port, the home port that faces the peer. -/
def Core.witnessPort (c : Core) : Option Nat :=
  [0, 1].find? (fun p => c.reg Reg.TW_PEER_ADDR != 0xFFFF && c.reg (Reg.RP_NEIGHBOUR p) == c.reg Reg.TW_PEER_ADDR)

/-- R503: a link failure at the witness port during the settle. -/
def Core.witnessFails (c : Core) (p : Nat) : Core :=
  if c.twin.settleEnd.isSome && c.witnessPort == some p then { c with twin := { c.twin with witnessBad := true } } else c

/-- R516, R528: a switchover under way is abandoned: its former holder keeps the token, and its standby releases its outputs. -/
def Core.twAbandon (c : Core) (why : Nat) (tell : Bool) : Core :=
  if c.reg Reg.SWITCH_STATE = 0 ∧ c.twin.strobeT.isNone then c
  else
    let c := { c with disc := { c.disc with mute := c.standby }
                      twin := { c.twin with strobeT := none, sent := [], got := [], quiet := false, applying := false } }
    let c := ((c.setReg Reg.SWITCH_STATE 0).inc Reg.CNT_SWITCH_FAIL).event 0xC01 7 3 why
    let c := (((c.setReg Reg.LS_CAUSE c.twin.cause).setReg Reg.LS_TICK c.tick).setReg Reg.LS_FROM 0xFFFF).setReg Reg.LS_RESULT 2
    if tell then c.twSend 0 (.switch 4 c.tick 0 0) else c

/-- R517: at safe entry the holder of a ready standby that is not in safe state names the strobe of its release: the first at
least 20 µs later. -/
def Core.safePass (c : Core) : Core :=
  let ready : Bool := match c.twin.peer with
    | some s => s.st == 2 && s.epoch != 0 && s.mode != 10
    | none => false
  if !c.holder || !ready || !c.linkLive then c
  else
    let t := ((c.sysNs + 20000 + c.period - 1) / c.period) % tickMod
    ({ c with twin := { c.twin with safeAt := some t } }).twSend 0 (.switch 3 t 0 0)

/-- R587: what the resources do at safe entry. Discrete outputs and rails follow at the strobe (R386, R555). -/
def Core.safeResources (c : Core) : Core :=
  let c := (c.chans.map (fun x => x.1)).foldl (fun (c : Core) (n : Nat) => c.chanSafe n) c
  let c := (c.cans.map (fun x => x.1)).foldl (fun (c : Core) (n : Nat) => c.canSafe n) c
  let c := (List.range 64).foldl (fun (c : Core) (n : Nat) => c.engSafe n) c
  (c.twAbandon 4 true).safePass

/-- R453, R582: the mover acts as after DISABLE: an IDLE one at once, a RUNNING one as its accesses end. -/
def Core.stopMover (c : Core) (k : Nat) : Core :=
  if c.reg (Reg.MV_MODE k) = 1 then c.setReg (Reg.MV_MODE k) 0
  else if c.reg (Reg.MV_MODE k) = 2 then
    { c with fab := { c.fab with movers := mapSet {} k { (mapGet {} k c.fab.movers : Mover) with stop := 2 } c.fab.movers } }
  else c

/-- R582: what an ISOLATE step does at once beside the entry in ISO_TABLE. Banks, windows and CAN controllers look the
isolation up; ring ports and the host port follow it. -/
def Core.isolateResource (c : Core) (source inst checker : Nat) : Core :=
  match isoKind source checker with
  | .channel => c.chanState inst
  | .engine => if c.engState inst = 0 then c else c.engStop inst
  | .mover => c.stopMover inst
  | .rail => c.railLock inst
  | .input => (bitList 16 (bits (c.reg (Reg.FI_ISO source)) 31 16)).foldl (fun (c : Core) (n : Nat) => c.railLock n) c
  | .port | .can | .bank | .window | .host | .none => c

/-- R386: DISC_OUT is loaded with DISC_SAFE for every output line, and with it the values that the strobe drives. A value of
DISC_SAFE too new for this strobe follows at the next (R33). -/
def Core.loadSafe (c : Core) : Core :=
  (List.range 32).foldl (fun (c : Core) b =>
    let k := Reg.DISC_SAFE b
    let d := if c.disc.left then c.cfg (Reg.DISC_DIR b) else 0
    let c := c.setReg (Reg.DISC_OUT b) (Nat.land (c.reg (Reg.DISC_OUT b)) (255 - d) + Nat.land (c.safeValue k) d)
    if c.safeLate k then c.update { at_ := c.now, rank := 2, bank := b, mask := d, value := c.reg k } else c) c

/-- R590: the resources resume when safe state ends: DISC_OUT as R386 says; channels and controllers with empty staging; rails
keep their commands (R555); engines stay as they are until START (R372). -/
def Core.leaveSafeResources (c : Core) : Core := c.loadSafe

end Sys2Proof.Machine
end

