-- ==== Sys2Proof/Machine/Report.lean ====
section
/-! DEFINITION. Reports to the fault collector: fault records, their order, the fault queue, the first-fault record,
escalation slots and steps, isolations and safe entry (R565 to R586). -/

namespace Sys2Proof.Machine

/-- R586: the node enters safe state. The first cause and its tick are recorded; a further cause changes nothing, but that a
self-check mismatch at the same moment is the cause recorded (R593). -/
def Core.enterSafe (c : Core) (cause : Nat) : Core :=
  if c.fc.safe then (if cause = 2 ∧ c.fc.safeAt = c.now then c.setReg Reg.FC_SAFE_CAUSE 2 else c)
  else
    let c := { c with fc := { c.fc with safe := true, safeCopy := true, safeAt := c.now } }
    let c := c.setReg Reg.FC_STATE (setBit (c.reg Reg.FC_STATE) 0 true)
    let c := (c.setReg Reg.FC_SAFE_CAUSE cause).setReg Reg.FC_SAFE_TICK c.tick
    let c := c.inc Reg.CNT_SAFE
    (c.safeResources).refreshMode 14

/-- R574: the event record of a fault record: KIND 1 ONSET, written from FC_EV_SEV up, 2 CLEAR, 3 STEP; UNLOCKED is what it was
when `tick` was stamped (R259). -/
def Core.faultEvent (c : Core) (r : FaultRec) (kind tick step : Nat) (unlocked : Bool) : Core :=
  if kind = 1 ∧ r.sev < c.reg Reg.FC_EV_SEV then c
  else
    let e := c.mkEvent (0x600 + r.source) kind 4
      (r.sev + r.cause * 2 ^ 8 + r.inst * 2 ^ 16 + r.seq * 2 ^ 32 + step * 2 ^ 48) false
    c.addEvent { e with tick := tick, flags := setBit (setBit (setBit e.flags 3 (bit r.flags 2)) 2 (bit r.flags 1)) 5 unlocked }

/-- The 32 bytes of a fault record (R566). -/
def FaultRec.bytes (r : FaultRec) : Bytes :=
  leBytes 6 r.onset ++ leBytes 6 r.clear ++ leBytes 2 r.node ++ leBytes 2 r.source ++ [byteOf r.sev, byteOf r.cause]
    ++ leBytes 2 r.flags ++ leBytes 2 r.inst ++ leBytes 2 r.seq ++ leBytes 8 r.detail

/-- What an isolation is made by beside its source and instance: FI_ISO of an input as the step finds it (R595), else the checker
code. -/
def Core.isoBy (c : Core) (r : FaultRec) : Nat := if r.source < 0x84 then c.reg (Reg.FI_ISO r.source) else r.detail % 256

/-- R582: an ISOLATE step for a record. -/
def Core.isolate (c : Core) (r : FaultRec) : Core :=
  let c := c.inc Reg.CNT_STEP_ISO
  if isoKind r.source (r.detail % 256) = .none then c
  else if c.fc.isos.any (fun e => e.1 == r.source && e.2.1 == r.inst) then c
  else if 64 ≤ c.fc.isos.length then c.inc Reg.CNT_ISO_FULL
  else
    let c := { c with fc := { c.fc with isos := c.fc.isos ++ [(r.source, r.inst, c.isoBy r)] } }
    let c := c.isoChange [(r.source, r.inst, c.isoBy r)]
    (c.setReg Reg.ISO_COUNT c.fc.isos.length).isolateResource r.source r.inst (r.detail % 256)

/-- R579: sets ESCALATED in the record wherever it is still held. -/
def Core.markEscalated (c : Core) (seq : Nat) : Core :=
  let mark (r : FaultRec) : FaultRec := if r.seq = seq then { r with flags := setBit r.flags 7 true } else r
  { c with fc := { c.fc with
      queue := c.fc.queue.map mark
      first := c.fc.first.map mark
      slots := c.fc.slots.map (fun (s : EscSlot) => { s with record := mark s.record }) } }

/-- One escalation step for a record: 1 ISOLATE, 2 SAFE, 3 RESET (R577, R579, R582, R584, R586). -/
def Core.takeStep (c : Core) (r : FaultRec) (step : Nat) : Core :=
  let c := c.markEscalated r.seq
  let c := if step = 1 then c.isolate r
    else if step = 2 then (c.inc Reg.CNT_STEP_SAFE).enterSafe 1
    else
      let c := (c.inc Reg.CNT_STEP_RESET).setBlob Reg.FC_RESET_CAUSE ({ r with flags := setBit r.flags 7 true } : FaultRec).bytes
      { c with fc := { c.fc with resetAt := some (c.fc.resetAt.getD (c.now + 50000)) } }
  c.faultEvent r 3 c.tick step c.unlocked

/-- Steps from a to b for a record, in order. -/
def Core.takeSteps (c : Core) (r : FaultRec) (steps : List Nat) : Core := steps.foldl (fun c s => c.takeStep r s) c

/-- R594: FC_STATE[2] and ESC_USED follow the slots. -/
def Core.slotRegs (c : Core) : Core :=
  (c.setReg Reg.ESC_USED c.fc.slots.length).setReg Reg.FC_STATE
    (setBit (c.reg Reg.FC_STATE) 2 (Nat.ble 64 c.fc.slots.length))

/-- R577, R578: escalation of a record just placed. A record whose condition has already cleared takes its slot without a
running timer (R581). -/
def Core.escalate (c : Core) (r : FaultRec) (noEsc : Bool) : Core :=
  let ceil := c.reg (Reg.FC_CEILING r.sev)
  if ceil = 0 ∨ noEsc ∨ bit r.flags 6 then c
  else if c.fc.slots.length < 64 then
    let period := 1000 * c.reg (Reg.FC_TIMER r.sev)
    let timer := if bit r.flags 1 then none else some (c.now + period)
    ({ c with fc := { c.fc with slots := c.fc.slots ++ [({ record := r, timer := timer, ceiling := ceil, period := period }
      : EscSlot)] } }).slotRegs
  else c.takeSteps r ((List.range ceil).map (fun i => i + 1))

/-- R605 kind 2: the copy of a record placed in the fault queue. -/
def Core.logFault (c : Core) (r : FaultRec) : Core :=
  c.logAdd { tick := r.onset, flags := 2 * b2n r.unlocked, kind := 2, node := r.node, source := r.source,
             body := [byteOf r.sev, byteOf r.cause] ++ leBytes 2 r.flags ++ leBytes 2 r.inst ++ leBytes 2 r.seq
               ++ leBytes 6 r.clear }

/-- R572: the record that an arriving record replaces in a full queue: the oldest of the lowest severity below its own. -/
def faultVictim (q : List FaultRec) (sev : Nat) : Option Nat :=
  (List.range sev).findSome? (fun s => q.findIdx? (fun r => r.sev == s))

/-- R572: a record enters the fault queue. -/
def Core.enqueueFault (c : Core) (r : FaultRec) : Core :=
  let c := if c.fc.queue.length < 64 then
      { c with fc := { c.fc with
        queue := c.fc.queue ++ [{ r with flags := setBit r.flags 3 (bit r.flags 3 || c.fc.lostBefore) }],
        lostBefore := false } }
    else
      let c := c.inc Reg.FQ_LOST
      match faultVictim c.fc.queue r.sev with
      | some i =>
        let gone := (c.fc.queue[i]?.map (fun x => x.seq)).getD 0x10000
        { c with fc := { c.fc with
          queue := c.fc.queue.eraseIdx i ++ [{ r with flags := setBit r.flags 3 true }]
          lostBefore := false
          active := c.fc.active.map (fun (a : Active) => if a.seq = some gone then { a with lost := true } else a) } }
      | none => { c with fc := { c.fc with lostBefore := true } }
  c.setReg Reg.FQ_COUNT c.fc.queue.length

/-- R572: a record about to be placed carries LOST_BEFORE where a record was lost before it, or gives way to it. -/
def Core.lostMark (c : Core) (r : FaultRec) : Bool :=
  bit r.flags 3 || (if c.fc.queue.length < 64 then c.fc.lostBefore else (faultVictim c.fc.queue r.sev).isSome)

/-- R570 to R578: places one fault record. Gives the record with its FAULT_SEQ. -/
def Core.placeFault (c : Core) (r : FaultRec) (evTick : Nat) (noEsc : Bool) : FaultRec × Core :=
  let q := c.reg Reg.FQ_SEQ
  let r := { r with seq := q, flags := setBit r.flags 3 (c.lostMark r) }
  let c := (c.setReg Reg.FQ_SEQ ((q + 1) % 65536)).inc Reg.CNT_RECORDS
  let c := if c.fc.first.isNone && Nat.ble (c.reg Reg.FF_MIN_SEV) r.sev then
      { c with fc := { c.fc with first := some r } } else c
  let c := c.enqueueFault r
  let held := c.fc.queue.any (fun x => x.seq == q)
  let c := if held then c.logFault r else c
  let c := { c with fc := { c.fc with active := c.fc.active.map (fun (a : Active) =>
    if a.source = r.source ∧ a.inst = r.inst ∧ a.cause = r.cause ∧ a.seq = none ∧ ¬ bit r.flags 6 ∧ ¬ bit r.flags 1 then
      { a with seq := some q, lost := !held } else a) } }
  let c := if bit r.flags 6 then c else c.faultEvent r 1 evTick 0 r.unlocked
  let c := if bit r.flags 1 then c.faultEvent r 2 r.clear 0 r.clearUnlocked else c
  (r, c.escalate r noEsc)

/-- R575: sends the placed records of one tick whose severity is at least FC_SEND_SEV, 32 a frame, on both rings. A frame
that R151 then discards has taken its SEQUENCE (DESIGN CHOICE, log entry 108). -/
def Core.sendFaults (c : Core) (tick : Nat) : Nat → List FaultRec → Core
  | 0, _ => c
  | n + 1, rs =>
    if rs.isEmpty then c
    else
      let part := rs.take 32
      let (f, c) := c.make 3 1 (c.reg Reg.FC_DEST) 0 tick (part.any (fun r => r.sev == 3)) false false
        (part.flatMap FaultRec.bytes)
      (c.originate 14 f).sendFaults tick n (rs.drop 32)

/-- The records to send of those placed. -/
def Core.sendPlaced (c : Core) (tick : Nat) (rs : List FaultRec) : Core :=
  c.sendFaults tick 64 (rs.filter (fun r => Nat.ble (c.reg Reg.FC_SEND_SEV) r.sev))

/-- The tick whose close places a record: its onset, or its clearing for a clear record (R568). -/
def FaultRec.placeTick (r : FaultRec) : Nat := if bit r.flags 6 then r.clear else r.onset

/-- R569: the order of the records of one tick. -/
def faultBefore (a b : FaultRec) : Bool :=
  if a.sev ≠ b.sev then Nat.blt b.sev a.sev
  else if a.source ≠ b.source then Nat.blt a.source b.source
  else if a.inst ≠ b.inst then Nat.blt a.inst b.inst
  else Nat.blt a.cause b.cause

/-- Places records one after another. -/
def Core.placeFaults (c : Core) : List FaultRec → Core × List FaultRec
  | [] => (c, [])
  | r :: rs =>
    let (r', c) := c.placeFault r r.placeTick r.noEsc
    let (c, out) := c.placeFaults rs
    (c, r' :: out)

/-- R569: the collector has closed tick t. -/
def Core.closedFor (c : Core) (t : Nat) : Bool := match c.time.lastTick, c.fc.closed with
  | some _, some k => !tickAhead t k
  | _, _ => false

/-- R569: a record of a tick that has closed is placed at once, alone, with LATE_CLOSE. -/
def Core.placeLate (c : Core) (r : FaultRec) : Core :=
  let (c, out) := c.placeFaults [{ r with flags := setBit r.flags 5 true }]
  c.sendPlaced r.placeTick out

/-- R569: what lower places left with the collector, of a tick that has closed, is placed at once: the lockouts that an ISOLATE
step made, and 0x188 of the log (log entry 109). -/
def Core.flushLate (c : Core) : Nat → Core
  | 0 => c
  | n + 1 => match c.fc.arrivals.find? (fun r => c.closedFor r.placeTick) with
    | none => c
    | some r => (({ c with fc := { c.fc with arrivals := c.fc.arrivals.erase r } }).placeLate r).flushLate n

/-- A report reaches the collector (R568, R569): it waits for its tick's close, or is placed at once when that tick has
closed, with the lockouts of the steps that it caused. -/
def Core.arrive (c : Core) (r : FaultRec) : Core :=
  let r := { r with unlocked := c.unlocked, clearUnlocked := c.unlocked }
  if c.closedFor r.placeTick then
    let c := c.placeLate r
    if bit r.flags 6 then c else c.flushLate 64
  else { c with fc := { c.fc with arrivals := c.fc.arrivals ++ [r] } }

/-- A one-shot report (kind E): complete when it is reported. -/
def Core.reportSev (c : Core) (source inst sev cause detail : Nat) (injected : Bool) (noEsc : Bool := false) :
    Core :=
  c.arrive { onset := c.tick, clear := c.tick, noEsc := noEsc, node := c.originKey, source := source, sev := sev, cause := cause,
             flags := b2n injected * 4 + 16, inst := inst, detail := detail }

/-- A one-shot report of a source with a severity of the table. -/
def Core.report (c : Core) (source inst cause : Nat) : Core := c.reportSev source inst (srcSev source) cause 0 false

/-- A one-shot report made at most once per instance (and sub-instance) per tick. -/
def Core.reportOnce (c : Core) (source inst sub cause detail : Nat) (injected : Bool) : Core :=
  if c.fc.limited.contains (source, inst, sub) then c
  else ({ c with fc := { c.fc with limited := (source, inst, sub) :: c.fc.limited } }).reportSev source inst
    (srcSev source) cause detail injected

/-- The onset of a condition (kind C); one already active makes no second record. -/
def Core.raiseSev (c : Core) (source inst sev cause detail : Nat) (injected : Bool) (noEsc : Bool := false) : Core :=
  if c.fc.active.any (fun a => a.source == source && a.inst == inst && a.cause == cause) then c
  else
    let a : Active := { source := source, inst := inst, cause := cause, onset := c.tick, sev := sev, detail := detail,
                        injected := injected }
    let c := { c with fc := { c.fc with active := c.fc.active ++ [a] } }
    c.arrive { onset := c.tick, noEsc := noEsc, node := c.originKey, source := source, sev := sev, cause := cause,
               flags := b2n injected * 4, inst := inst, detail := detail }

/-- The onset of a condition of a source with a severity of the table. -/
def Core.raise (c : Core) (source inst cause : Nat) : Core := c.raiseSev source inst (srcSev source) cause 0 false

/-- R579: the timer of a slot has ended: its next step is taken, and the timer restarts while a step below the ceiling is left. -/
def Core.slotExpires (c : Core) (s : EscSlot) : Core :=
  let step := s.step + 1
  let upd (x : EscSlot) : EscSlot :=
    if x.record.seq = s.record.seq then
      { x with step := step, timer := if step < s.ceiling then some (c.now + s.period) else none } else x
  (({ c with fc := { c.fc with slots := c.fc.slots.map upd } }).takeStep s.record step).flushLate 64

/-- R593: the slot of record q expires now, as its condition clears: the step is taken first. -/
def Core.stepFirst (c : Core) (q : Nat) : Core :=
  match c.fc.slots.find? (fun s => s.record.seq == q && s.timer.any (fun t => Nat.ble t c.now)) with
  | some s => c.slotExpires s
  | none => c

/-- R571, R581: the clearing of a condition. -/
def Core.clear (c : Core) (source inst cause : Nat) : Core :=
  let hit (a : Active) : Bool := a.source == source && a.inst == inst && a.cause == cause
  match c.fc.active.find? hit with
  | none => c
  | some a =>
    let c := { c with fc := { c.fc with active := c.fc.active.filter (fun a => !hit a) } }
    let now := c.tick
    match a.seq with
    | none => { c with fc := { c.fc with arrivals := c.fc.arrivals.map (fun r =>
        if r.source = source ∧ r.inst = inst ∧ r.cause = cause ∧ r.clear = tickUnknown then
          { r with clear := now, clearUnlocked := c.unlocked, flags := setBit r.flags 1 true } else r) } }
    | some q =>
      let upd (r : FaultRec) : FaultRec :=
        if r.seq = q ∧ ¬ bit r.flags 6 then { r with clear := now, flags := setBit r.flags 1 true } else r
      let unread := c.fc.queue.any (fun r => r.seq == q && !bit r.flags 6)
      let c := c.stepFirst q
      let c := { c with fc := { c.fc with
        queue := c.fc.queue.map upd
        first := c.fc.first.map upd
        slots := c.fc.slots.map (fun (s : EscSlot) => if s.record.seq = q then { s with timer := none } else s) } }
      let r : FaultRec := { onset := a.onset, clear := now, node := c.originKey, source := source, sev := a.sev,
                            cause := cause, inst := inst, seq := q, detail := a.detail, flags := b2n a.injected * 4 }
      let c := c.faultEvent { r with flags := setBit r.flags 1 (unread || a.lost) } 2 now 0 c.unlocked
      if unread ∨ a.lost then c else c.arrive { r with sev := 0, flags := r.flags + 64 }

/-- The severity of a condition is raised or cleared as b says. -/
def Core.condition (c : Core) (b : Bool) (source inst cause : Nat) : Core :=
  if b then c.raise source inst cause else c.clear source inst cause

/-- R571: the conditions of a source and instance, whatever their cause, clear. -/
def Core.clearAll (c : Core) (source inst : Nat) : Core :=
  (c.fc.active.filter (fun a => a.source == source && a.inst == inst)).foldl (fun c a => c.clear source inst a.cause) c

end Sys2Proof.Machine
end

