-- ==== Sys2Proof/Machine/Track.lean ====
section
/-! DEFINITION. Checkers (R208, R220 to R225), reads of bank storage (R217 to R219) and the checks of a header, which every
receiver of frames and items uses. -/

namespace Sys2Proof.Machine

/-- R223: the armed injection hits this checker and instance. -/
def Core.injHits (c : Core) (code inst : Nat) : Bool :=
  Nat.blt 0 (c.reg Reg.INJ_LEFT) && c.integ.armed == (code, inst)

/-- R223: one injection is made. -/
def Core.injStep (c : Core) : Core :=
  let n := c.reg Reg.INJ_LEFT - 1
  let c := (c.setReg Reg.INJ_LEFT n).inc Reg.CNT_INJECTED
  if n = 0 then c.setReg Reg.INJ_ACTIVE 0 else c

/-- Verdict of a checker. -/
structure Verdict where
  ok : Bool
  injected : Bool
  deriving DecidableEq, Repr

/-- R223, R224: a checker begins the check of an item: whether it will read the check bits inverted is settled here, whatever is
armed or cancelled before the verdict. -/
def Core.beginCheck (c : Core) (code inst : Nat) : Bool × Core :=
  if c.injHits code inst then (true, c.injStep) else (false, c)

/-- A checker compares a carried check of the given width, which it read inverted or not, with the computed one (R222). -/
def verdictOf (inverted : Bool) (width carried computed : Nat) : Verdict :=
  { ok := (if inverted then Nat.xor carried (2 ^ width - 1) else carried) == computed, injected := inverted }

/-- A check that begins and ends in one command. -/
def Core.checkBits (c : Core) (code inst width carried computed : Nat) : Verdict × Core :=
  let (inv, c) := c.beginCheck code inst
  (verdictOf inv width carried computed, c)

/-- A checker verifies the transit check of a frame or item. -/
def Core.checkFrame (c : Core) (code inst : Nat) (f : Frame) : Verdict × Core :=
  c.checkBits code inst 32 f.check f.transitCrc

/-- R220, R221: LAST_CHECK_FAIL records a failure. Of failures in one FCLK cycle the one with the lower checker code stays, at
equal codes the one with the lower instance. -/
def Core.lastFail (c : Core) (code inst : Nat) (f : Frame) (injected : Bool) : Core :=
  let same : Bool := c.integ.lastFail == some (c.now / 2)
  let first : Bool := Nat.blt (c.reg Reg.LF_CHECKER) code
    || (c.reg Reg.LF_CHECKER == code && Nat.blt (c.reg Reg.LF_INSTANCE) inst)
  if same && first then c
  else
    let c := { c with integ := { c.integ with lastFail := some (c.now / 2) } }
    ((((((c.setReg Reg.LF_CHECKER code).setReg Reg.LF_INSTANCE inst).setReg Reg.LF_SOURCE f.src).setReg Reg.LF_STREAM
      f.stream).setReg Reg.LF_SEQUENCE f.seq).setReg Reg.LF_TICK c.tick).setReg Reg.LF_INJECTED (b2n injected)

/-! Reads of bank storage (R217 to R219). -/

/-- R218 to R220, R222: one word of physical bank b is read: an armed injection inverts check bits as it is read; errors are
counted and reported. True when it proves uncorrectable. Where a stored error meets the inversion, INJECTED is 1 only when the verdict is that
of the armed code (DESIGN CHOICE, log entry 20). -/
def Core.eccWord (c : Core) (b d chk : Nat) : Bool × Core :=
  let (inv1, c) := c.beginCheck 0x0D b
  let (inv2, c) := if inv1 then (false, c) else c.beginCheck 0x0E b
  match (secdedRead d (Nat.xor chk (if inv1 then 1 else if inv2 then 3 else 0))).1 with
  | .clean => (false, c)
  | .corrected =>
    let c := (c.inc Reg.CNT_ECC_CORR).lastFail 0x0D b { src := 0xFFFF } inv1
    (false, if bit (c.reg Reg.ECC_REPORT) 0 then c.reportOnce Src.BANK_ECC_CORR b 0 0 0x0D inv1 else c)
  | .bad =>
    let c := (c.inc Reg.CNT_ECC_UNCORR).lastFail 0x0E b { src := 0xFFFF } inv2
    (true, c.reportOnce Src.BANK_ECC_UNCORR b 0 0 0x0E inv2)

/-- Words of memory are read, in order; true when one proves uncorrectable. -/
def Core.eccWords (c : Core) (m : Memory) (ws : List Nat) : Bool × Core :=
  ws.foldl (fun (x : Bool × Core) w =>
    let (bad, c) := x.2.eccWord (w / 8192) (m.word w) (m.checkOf w)
    (x.1 || bad, c)) (false, c)

/-- n words of physical bank b whose contents another part of the state holds are read: their check bits are always those of the
contents, so that only an injection shows. -/
def Core.eccRead (c : Core) (b n : Nat) : Bool × Core :=
  if c.integ.armed.2 ≠ b ∨ c.integ.armed.1 < 0x0D then (false, c)
  else (List.range (min n (c.reg Reg.INJ_LEFT))).foldl (fun (x : Bool × Core) _ =>
    let (bad, c) := x.2.eccWord b 0 0
    (x.1 || bad, c)) (false, c)

/-- The owner of bank b reads n words of its structured contents. -/
def Core.eccOwner (c : Core) (b n : Nat) : Bool × Core := c.eccRead (c.bankPlace b).1 n

/-- The words that n bytes from a local offset touch are read where they stand; true when one proves uncorrectable. -/
def Core.eccScan (c : Core) (m : Memory) (off n : Nat) : Bool × Core :=
  c.eccWords m ((cutBank off n).flatMap (fun p => wordsOf (c.place p.1) p.2))

/-- R218: every word that n bytes from a local offset touch has the check bits of its contents. -/
def Core.wordsClean (c : Core) (m : Memory) (off n : Nat) : Bool :=
  ((cutBank off n).flatMap (fun p => wordsOf (c.place p.1) p.2)).all (fun w => (m.eccWord w).1 == .clean)

/-- DETAIL of a check fault (R566). -/
def checkDetail (code : Nat) (f : Frame) : Nat := code + f.src * 2 ^ 16 + f.stream * 2 ^ 32 + f.seq * 2 ^ 48

/-- R226: EGRESS_BURST_LIMIT in force: a value written acts from the next second of system time. -/
def Core.burstLimit (c : Core) : Nat :=
  match c.integ.burstOld with
  | some (v, sec) => if sec = c.sysNs / 1000000000 then v else c.reg Reg.EGRESS_BURST_LIMIT
  | none => c.reg Reg.EGRESS_BURST_LIMIT

/-- R226: a write of EGRESS_BURST_LIMIT. -/
def Core.burstLimitWrite (c : Core) (v : Nat) : Core :=
  let old := (c.burstLimit, c.sysNs / 1000000000)
  ({ c with integ := { c.integ with burstOld := some old } }).setReg Reg.EGRESS_BURST_LIMIT v

/-- R220: EGRESS_CHECK_BURST when an instance fails more than EGRESS_BURST_LIMIT items in one second of system time. -/
def Core.egressBurst (c : Core) (code inst : Nat) (f : Frame) (injected : Bool) : Core :=
  let sec := c.sysNs / 1000000000
  let old := if c.integ.egressSecond = sec then c.integ.egress else []
  let n := (match old.find? (fun x => x.1 == code && x.2.1 == inst) with
    | some x => x.2.2
    | none => 0) + 1
  let c := { c with integ := { c.integ with
    egressSecond := sec
    egress := (code, inst, n) :: old.filter (fun x => !(x.1 == code && x.2.1 == inst)) } }
  if n = c.burstLimit + 1 then
    c.reportSev Src.EGRESS_CHECK_BURST inst 2 0 (checkDetail code f) injected
  else c

/-- R213, R220: an item fails at egress; `cnt` is the counter of its kind. -/
def Core.egressFail (c : Core) (code inst cnt : Nat) (f : Frame) (injected : Bool) : Core :=
  let c := (c.inc cnt).lastFail code inst f injected
  (c.reportOnce Src.EGRESS_CHECK inst code 0 (checkDetail code f) injected).egressBurst code inst f injected

/-- R208, R220: an item fails at the management port, the fabric unit or a trunk. LOCAL_CHECK comes once a tick from each checker, of
which each trunk has one of its own (DESIGN CHOICE, log entry 106). -/
def Core.localFail (c : Core) (code inst cnt : Nat) (f : Frame) (injected : Bool) : Core :=
  let c := (c.inc cnt).lastFail code inst f injected
  c.reportOnce Src.LOCAL_CHECK inst code 0 (checkDetail code f) injected

/-- Checker, and what follows at an edge egress (R211, R213): tells whether the item may leave. -/
def Core.egress (c : Core) (code inst cnt : Nat) (f : Frame) : Bool × Core :=
  let (v, c) := c.checkFrame code inst f
  if v.ok then (true, c) else (false, c.egressFail code inst cnt f v.injected)

/-- The checker of the management port (R208): every item delivered to SP_14. -/
def Core.mgmtCheck (c : Core) (f : Frame) : Bool × Core :=
  let (v, c) := c.checkFrame 0x0A 0 f
  if v.ok then (true, c) else (false, c.localFail 0x0A 0 Reg.CNT_LOCAL_FAIL f v.injected)

/-- R148: the header is bad though HOP_CHECK passes. -/
def Frame.badHeader (f : Frame) : Bool :=
  let classes : List Nat := match f.kind with
    | 0 => [5, 7] | 1 => [2] | 2 => [3] | 3 => [1] | 4 => [4] | 5 => [4] | 6 => [0] | 7 => [0] | 8 => [4] | 9 => [6]
    | _ => []
  f.version != 1 || !classes.contains f.cls || f.res != 0 || Nat.blt 1024 f.len || f.mcast != isMcast f.dst
    || (f.last && !f.segm) || f.pair != (f.okey != f.src) || (f.urgent && f.cls != 1 && f.cls != 3)
    || (f.kind == 6 && f.len != 20) || (f.kind == 7 && f.len != 8)

/-- R148: RING_HEADER at most once per port per tick while CNT_HOP_CHECK or CNT_BAD_HEADER rises. -/
def Core.headerFault (c : Core) (p : Nat) (injected : Bool) : Core :=
  c.reportOnce Src.RING_HEADER p 0 0 0 injected

/-- Steps 1 and 2 of R149 at port p: true when the header stands. -/
def Core.headerOk (c : Core) (p : Nat) (f : Frame) : Bool × Core :=
  let (v, c) := c.checkBits 0x02 p 16 f.hopCheck f.hopCrc
  if !v.ok then
    (false, ((c.inc (Reg.FW_CNT_HOP_CHECK p)).lastFail 0x02 p f v.injected).headerFault p v.injected)
  else if f.badHeader then (false, (c.inc (Reg.FW_CNT_BAD_HEADER p)).headerFault p false)
  else (true, c.inc (Reg.FW_CNT_RX p))

/-- R157 step 2: LAST_POISON records a frame that this node finds bad, at the tick of detection. -/
def Core.recordPoison (c : Core) (out cause : Nat) (f : Frame) : Core :=
  (((((c.setReg Reg.LP_PORT out).setReg Reg.LP_CAUSE cause).setReg Reg.LP_SOURCE f.src).setReg Reg.LP_STREAM
    f.stream).setReg Reg.LP_SEQUENCE f.seq).setReg Reg.LP_TICK c.tick

/-- R157 steps 2 and 3: this node finds the frame bad: LAST_POISON, whose LP_PORT stays 0xFF until a poisoned end is sent (the spec
gives no output for a frame that is poisoned on none: DESIGN CHOICE, log entry 98), and RING_POISON with its cause, once per port
per tick. -/
def Core.foundBad (c : Core) (p cause : Nat) (f : Frame) (injected : Bool) : Core :=
  (c.recordPoison 0xFF cause f).reportOnce Src.RING_POISON p 0 cause (checkDetail 0x01 f) injected

/-- R157 step 1: a poisoned end leaves by an output: CNT_POISON_TX, and LP_PORT while LAST_POISON holds that frame. -/
def Core.poisoned (c : Core) (out cause : Nat) (f : Frame) : Core :=
  let same : Bool := c.reg Reg.LP_CAUSE == cause && c.reg Reg.LP_SOURCE == f.src && c.reg Reg.LP_STREAM == f.stream
    && c.reg Reg.LP_SEQUENCE == f.seq
  (if same then c.setReg Reg.LP_PORT out else c).inc (Reg.FW_CNT_POISON_TX out)

/-- R163: age limit of a class in ticks, rounded up. -/
def Core.ageLimit (c : Core) (cls : Nat) : Nat :=
  c.ticksOfUs (c.reg ([0, Reg.AGE_C1, Reg.AGE_C2, Reg.AGE_C3, Reg.AGE_C4, Reg.AGE_C5, Reg.AGE_C6, Reg.AGE_C7].getD cls 0))

/-- R163: the frame is over its age limit. -/
def Core.aged (c : Core) (f : Frame) : Bool :=
  if f.cls = 0 ∨ f.tick = tickUnknown ∨ f.corr = 0x7FFFFFFFFFFFFFFF then false
  else
    let age := tickDiff c.tickNow f.tick
    Nat.blt age (tickMod / 2) && Nat.blt (c.ageLimit f.cls) age

end Sys2Proof.Machine
end

