-- ==== Sys2Proof/Machine/Route.lean ====
section
/-! DEFINITION. The forwarding decision of a received frame (R124, R149 steps 4, 5, 7 and 8) and the result of its end (R142, R157,
R210), which the switch path and the timing path share. -/

namespace Sys2Proof.Machine

/-- What the forwarding decision gives for a frame: its outputs on the ring or across a bridge or trunk, or a discard. -/
inductive Route where
  | ports (outs : List Nat)
  | cross (outs : List Nat)
  | hopLimit
  | drop
  deriving DecidableEq, Repr

/-- The frame goes on along its ring, the wrap included. -/
def Core.onward (c : Core) (p : Nat) : List Nat := (c.turn (otherPort p)).toList

/-- R124: a frame for another segment. -/
def Core.crossRoute (c : Core) (p : Nat) (f : Frame) : Route :=
  let pair := pairOf p
  let e := c.segRoute pair (segOf f.dst)
  if e = 0xFFFF then .drop
  else if e ≠ c.addrOn pair then .ports (c.onward p)
  else match c.crossOuts pair f with
    | none => .drop
    | some outs => if c.reg Reg.HOP_LIMIT ≤ f.hop then .hopLimit else .cross outs

/-- R149 steps 7 and 8: where the frame goes on. -/
def Core.routeOf (c : Core) (p : Nat) (f : Frame) : Route :=
  let pair := pairOf p
  if f.dst = c.addrOn pair ∧ ¬ isMcast f.dst then .ports []
  else if f.dst = 0xFFFF ∨ segOf f.dst = c.segmentOn pair ∨ (c.inPair ∧ f.dst = c.cfg Reg.TW_SERVICE_ADDR) then
    .ports (c.onward p)
  else c.crossRoute p f

/-- R149 step 4, first condition: the frame is the node's own, or one that it put into the segment as a bridge or trunk
node. -/
def Core.ownFrame (c : Core) (pair : Nat) (f : Frame) : Bool :=
  c.addrOn pair != 0xFFFF && (f.src == c.addrOn pair
    || (segOf f.src != c.segmentOn pair && c.segRoute pair (segOf f.src) == c.addrOn pair))

/-- R149 step 4, second condition: the forwarding decision sends the frame by a port by which the node would now send it if it
originated it; a frame that would cross here leaves as an own one would (R124). -/
def Core.leavesAsOwn (c : Core) (p : Nat) (f : Frame) : Bool :=
  match c.routeOf p f with
  | .ports outs => outs.any (fun q => (c.ringOuts (pairOf p) f).contains q)
  | .cross _ => true
  | .hopLimit => true
  | .drop => false

/-- R149 step 5: the source is no member of the arriving pair's segment. -/
def Core.orphan (c : Core) (pair : Nat) (f : Frame) : Bool :=
  segOf f.src == c.segmentOn pair && !isMember (c.census pair).table f.src && f.kind != 8

/-- R153: a frame from port p to port q is cut through. -/
def Core.cutsTo (c : Core) (p q : Nat) : Bool := c.cfg Reg.CT_ENABLE == 1 && c.rateOf p == 0 && Nat.blt q 4 && c.rateOf q == 0

/-- R101, R148: the header of a frame that arrives at port p, whose port takes frames from QUALIFYING on; true when it stands and the
port is in JOINED. -/
def Core.joinedHeader (c : Core) (p : Nat) (f : Frame) : Bool × Core :=
  if !c.up || Nat.blt (c.reg (Reg.RP_STATE p)) 3 then (false, c)
  else
    let (ok, c) := c.headerOk p f
    (ok && c.joined p, c)

/-- R142: the cause code of a bad end, 0 for a poisoned one. -/
def endCause : EndKind → Nat
  | .good => 0
  | .poisoned => 0
  | .length => 2
  | .code => 3
  | .control => 3
  | .link => 4

/-- The frame at port p ends bad for a cause that this node finds (R142, R157, R210); `block` tells an invalid block or code group
(R134). -/
def Core.rxBad (c : Core) (p cause : Nat) (f : Frame) (injected : Bool) (block : Bool := false) : Core :=
  let c := c.inc (if cause = 1 then Reg.RX_CNT_RX_CHECK p else if cause = 2 then Reg.RX_CNT_RX_LENGTH p
    else if cause = 3 then Reg.RX_CNT_RX_CODE p else Reg.RX_CNT_RX_LINK p)
  let c := c.incIf block (Reg.RP_CNT_BAD_BLOCK p)
  let c := if cause = 1 then c.lastFail 0x01 p f injected else c
  c.foundBad p cause f injected

/-- R142, R208, R210: the frame at port p ends, its check read inverted or not; none for a good end with a passing check, else the
cause of the bad end, counted and reported. -/
def Core.rxEnd (c : Core) (p : Nat) (inverted : Bool) (f : Frame) (e : EndKind) : Option Nat × Core :=
  match e with
  | .poisoned => (some 0, c.inc (Reg.FW_CNT_POISON_RX p))
  | .good =>
    let v := verdictOf inverted 32 f.check f.transitCrc
    if f.payload.length ≠ f.len then (some 2, c.rxBad p 2 f false)
    else if v.ok then (none, c)
    else (some 1, c.rxBad p 1 f v.injected)
  | e => (some (endCause e), c.rxBad p (endCause e) f false (e == .code))

/-- R157: a port sends the poisoned end of a frame that arrived poisoned (cause 0) or that this node found bad. -/
def Core.poisonedEnd (c : Core) (out cause : Nat) (f : Frame) : Core :=
  if cause = 0 then c.inc (Reg.FW_CNT_POISON_FWD out) else c.poisoned out cause f

end Sys2Proof.Machine
end

