-- ==== Sys2Proof/Machine/Clock.lean ====
section
/-! DEFINITION. Time and the tick (chapter 07): the servo, the states of the time base, TIME_SYNC and PEER_DELAY, the
1PPS, the close of a tick's records, and the schedule table. -/

namespace Sys2Proof.Machine

/-- R237: SYNC_LOSS in ns: 3 times the SYNC_PERIOD of the master's last accepted TIME_SYNC, or of the node's own. -/
def Core.syncLoss (c : Core) : Nat :=
  3 * 1000000 * (if c.time.everAccepted then c.time.masterSync else c.reg Reg.SYNC_PERIOD)

/-- The state of the time base (R234). -/
def Core.timeState (c : Core) : Nat := c.reg Reg.TIME_STATE

/-- R238: MASTER_ADDR changes; a change to another address counts and writes MASTER_CHANGE. -/
def Core.setMaster (c : Core) (addr prio : Nat) : Core :=
  let old := c.reg Reg.MASTER_ADDR
  let c := (c.setReg Reg.MASTER_ADDR addr).setReg Reg.MASTER_PRIORITY prio
  if old = addr then c
  else (c.inc Reg.CNT_MASTER_CHANGE).event 0xC00 0x04 2 (addr + prio * 65536)

/-- The pair from which the node takes time (R246, R256). -/
def Core.timePair (c : Core) : Nat := if c.time.bridgeInForce = 2 then 1 else 0

/-- R238: in MASTER, MASTER_ADDR and MASTER_PRIORITY are the node's own on the pair from which it takes time. -/
def Core.ownMaster (c : Core) : Core :=
  if c.timeState = 1 then c.setMaster (c.addrOn c.timePair) c.time.prioInForce else c

/-- R261: the record of a change of state. -/
def Core.stateEvent (c : Core) (old new arg : Nat) : Core :=
  if new = 3 then c.event 0xC00 0x01 0 (c.reg Reg.OFFSET)
  else if old = 3 ∧ new = 2 then c.event 0xC00 0x02 2 (c.reg Reg.OFFSET)
  else if new = 4 then c.event 0xC00 0x03 3 (c.reg Reg.MASTER_ADDR)
  else if new = 5 then c.event 0xC00 0x0A 4 arg
  else c.event 0xC00 0x0B 2 (old + new * 256)

/-- R235, R251: in HOLDOVER and in MISMATCH the last value of f is a. -/
def Core.keepRate (c : Core) : Core :=
  ({ c with time := { c.time with a := c.time.f } }).setReg Reg.FREQ_ADJ (ofInt 32 (c.time.f / 2 ^ 32))

/-- R234: one change of state, its record, counters and reports. -/
def Core.moveTime (c : Core) (new arg : Nat) : Core :=
  let old := c.timeState
  if old = new then c
  else
    let c := (c.setReg Reg.TIME_STATE new).stateEvent old new arg
    let c := { c with time := { c.time with enteredState := c.now, inRun := 0, outRun := 0 } }
    let c := if old = 4 then c.clear Src.TIME_HOLDOVER noInst 0 else c
    let c := if old = 5 then c.clear Src.TIME_TICK_MISMATCH noInst 0 else c
    let c := if new = 4 ∨ new = 5 then c.keepRate else c
    if new = 4 then (c.inc Reg.CNT_SYNC_LOSS).raise Src.TIME_HOLDOVER noInst 0
    else if new = 5 then (c.inc Reg.CNT_TICK_MISMATCH).raise Src.TIME_TICK_MISMATCH noInst 0
    else if new = 1 then ({ c with time := { c.time with nextSync := c.now } }).ownMaster
    else c

/-! Measurement sets (R393, R394), which a step of system time closes. -/

/-- Input n. -/
def Core.measIn (c : Core) (n : Nat) : Meas := mapGet {} n c.meas

/-- Replaces input n. -/
def Core.setMeas (c : Core) (n : Nat) (x : Meas) : Core := { c with meas := mapSet {} n x c.meas }

/-- R393, R394: the set in formation is formed; the item, or its loss. -/
def Core.formSet (c : Core) (n : Nat) : Core :=
  let x := c.measIn n
  if x.codes.isEmpty then c
  else
    let q := c.reg (Reg.MEAS_SEQ n)
    let c := (c.setReg (Reg.MEAS_SEQ n) ((q + 1) % 65536)).inc (Reg.MEAS_CNT_SETS n)
    let waiting := x.sets.filter (fun i => c.sw.seeking.any (fun e => e.id == i))
    if 4 ≤ waiting.length then
      (c.setMeas n { x with codes := [], flags := 0, sets := waiting, lostBefore := true }).inc (Reg.MEAS_CNT_SETS_LOST n)
    else
      let t := x.t0 / c.period
      let p := leBytes 4 (x.t0 - t * c.period) ++ [byteOf (c.cfg (Reg.MEAS_RATE n)), byteOf x.codes.length]
        ++ leBytes 2 (setBit x.flags 4 x.lostBefore) ++ x.codes.flatMap (fun v => leBytes 2 v)
      let f : Frame := { kind := 1, cls := 2, dst := c.homeAddr, src := c.homeAddr, okey := c.originKey, stream := x.key,
                         seq := q, tick := t % tickMod, len := p.length, payload := p }
      (c.setMeas n { x with codes := [], flags := 0, sets := waiting ++ [c.sw.nextId], lostBefore := false }).submit (4 + n / 4)
        [12] { f with check := f.transitCrc }

/-- R394: a step closes the sets in formation with the samples they hold. -/
def Core.closeSets (c : Core) : Core := (c.meas.map (fun x => x.1)).foldl (fun (c : Core) (n : Nat) => c.formSet n) c

/-- R249: a step of system time by d (in 2^-32 ns): f and a become 0; the ms boundaries of R192 and R194 are those of the new time.
STEP_COUNT, for which the spec gives neither, wraps past
65,535 (DESIGN CHOICE, log entry 100). -/
def Core.stepTime (c : Core) (d : Int) : Core :=
  let ns := d / 2 ^ 32
  let c := c.closeSets
  let c := { c with time := { c.time with
    sys := (((c.time.sys : Int) + d) % (2 ^ 96 : Nat)).toNat, f := 0, a := 0 } }
  let c := { c with time := { c.time with steppedTo := c.sysNs }, sw := { c.sw with fairMs := c.sysNs / 1000000, accountMs := c.sysNs / 1000000 } }
  let c := (c.setReg Reg.FREQ_ADJ 0).setReg Reg.STEP_COUNT ((c.reg Reg.STEP_COUNT + 1) % 65536)
  (c.setReg Reg.LAST_STEP (ofInt 64 ns)).event 0xC00 0x05 3 (ofInt 64 ns)

/-- R248: one update of the servo; theta in 2^-32 ns, the period in ns. -/
def Core.servo (c : Core) (theta : Int) (tsync : Nat) : Core :=
  let lim : Int := (c.reg Reg.SLEW_LIMIT * 1000 * 2 ^ 32 : Nat)
  let f := clampInt (-lim) lim (c.time.f - theta * 1000000000 / (64 * tsync : Nat))
  let a := clampInt (-lim) lim (f - theta * 1000000000 / (4 * tsync : Nat))
  ({ c with time := { c.time with f := f, a := a } }).setReg Reg.FREQ_ADJ (ofInt 32 (a / 2 ^ 32))

/-- R248, R249: an offset reaches the servo, by a step in the cases of R249 and by slew otherwise; `first` for the first of its
source since the end of BOOT. True for a step. -/
def Core.steer (c : Core) (theta : Int) (tsync : Nat) (first : Bool) : Core × Bool :=
  let big := 1000000 * 2 ^ 32 < theta.natAbs
  if big && (first || c.node.base == 3) then (c.stepTime (-theta), true) else (c.servo theta tsync, false)

/-- R236: master (priority, address) x is better than y. -/
def betterMaster (px ax py ay : Nat) : Bool := Nat.blt px py || (px == py && Nat.blt ax ay)

/-- R237: masters heard within SYNC_LOSS. -/
def Core.heardNow (c : Core) : List (Nat × Nat × Nat) :=
  c.time.heard.filter (fun h => Nat.ble c.now (h.2.2 + c.syncLoss))

/-- R237: this master is the best the node has heard within SYNC_LOSS. -/
def Core.bestHeard (c : Core) (addr prio : Nat) : Bool :=
  c.heardNow.all (fun h => !betterMaster h.2.1 h.1 prio addr)

/-- R246: hops after which a TIME_SYNC of the member with address a first arrives at the west port, or at the east port, of the
member with address b. On a wrapped segment both copies pass along the chain of members and turn at its ends. -/
def arrivalHops (t : List Member) (west : Bool) (a b : Nat) : Option Nat :=
  let along (n i j : Nat) : Nat :=
    if west then (if i < j then j - i else i + j) else (if j < i then i - j else 2 * (n - 1) - i - j)
  let (ms, hops) := match chainOf t with
    | some ch => (ch, along ch.length)
    | none => (t, ringHops t.length west)
  match memberIx ms a, memberIx ms b with
  | some i, some j => some (hops i j)
  | _, _ => none

/-- R246: the sync port for a master: of the ports in JOINED with DELAY_VALID 1, the one that its TIME_SYNC reaches after fewer
hops; the west port on a tie. -/
def Core.syncPort (c : Core) (master : Nat) : Option Nat :=
  let pair := c.timePair
  let east := 2 * pair
  let ok (p : Nat) : Bool := c.joined p && c.reg (Reg.PD_DELAY_VALID p) == 1
  let t := (c.census pair).table
  let eastFewer : Bool := match arrivalHops t false master (c.addrOn pair), arrivalHops t true master (c.addrOn pair) with
    | some x, some y => Nat.blt x y
    | _, _ => false
  if ok east && ok (east + 1) then some (if eastFewer then east else east + 1)
  else if ok (east + 1) then some (east + 1)
  else if ok east then some east
  else none

/-- R273: SYNC_PORT as read: the sync port for the master followed, 0xFF for none. -/
def Core.syncPortRead (c : Core) : Nat :=
  if c.timeState = 1 ∨ c.reg Reg.MASTER_ADDR = 0xFFFF then 0xFF else (c.syncPort (c.reg Reg.MASTER_ADDR)).getD 0xFF

/-- R242: ingress delay of a port, in units of 2^-32 ns, from LINK_DELAY and LINK_ASYM in ps. -/
def Core.ingress (c : Core) (p : Nat) : Int :=
  ((c.reg (Reg.PD_LINK_DELAY p) : Int) * 2 + c.regI 32 (Reg.PD_LINK_ASYM p)) * 2 ^ 32 / 2000

/-- R241: a timestamp, at a resolution of 2^-7 ns, in units of 2^-32 ns. -/
def stampOf (sys : Nat) : Nat := sys / 2 ^ 25 * 2 ^ 25

/-- R241: the timestamp of what crosses the balls now. -/
def Core.stampNow (c : Core) : Nat := stampOf c.time.sys

/-- R241, R242: the departure timestamp of a timing-path frame that ring port q sends next: it waits for the frame in
transmission to end. -/
def Core.departure (c : Core) (q : Nat) : Nat :=
  let wait := (mapGet {} q c.sw.outs : SwOut).busy - c.now * 10
  stampOf (c.time.sys + wait * 2 ^ 32 / 10)

/-- The time a frame takes on the line of ring port q, in 0.1 ns. -/
def Core.frameSpan (c : Core) (q : Nat) (f : Frame) : Nat := (f.payload.length + 36) * (if c.rateOf q = 0 then 8 else 80)

/-- R164: ring port q is frozen; no frame starts there. -/
def Core.frozenPort (c : Core) (q : Nat) : Bool := c.reg (Reg.FW_HOLD_STATE q) != 0

/-- A timing-path frame leaves ring port q, whose line is busy while it lasts (R14). At a frozen port it does not start, and the
timing path holds no queue in which it could wait (R164; DESIGN CHOICE, log entry 111). -/
def Core.sendTimed (c : Core) (q : Nat) (x : LineSent) : Core :=
  if c.frozenPort q then c
  else
    let o : SwOut := mapGet {} q c.sw.outs
    let o := { o with busy := max o.busy (c.now * 10) + c.frameSpan q x.frame }
    ({ c with sw := { c.sw with outs := mapSet {} q o c.sw.outs } }).sendLine q x

/-- R239: QUALITY of the node's own TIME_SYNC. -/
def Core.quality (c : Core) (viaBridge : Bool) : Nat :=
  let pps := c.cfg Reg.PPS_ENABLE == 1
  let locked := c.reg Reg.PPS_STATE == 2
  b2n (pps && locked) + 2 * b2n ((pps && !locked) || (viaBridge && c.timeState != 3)) + 4 * b2n viaBridge
    + 8 * b2n (c.flag Reg.TIME_VALID)

/-- R239: the TIME_SYNC payload. -/
def Core.syncPayload (c : Core) (addr prio : Nat) (viaBridge : Bool) : Bytes :=
  leBytes 8 c.sysNs ++ leBytes 2 addr ++ [byteOf prio, byteOf (c.quality viaBridge), byteOf c.time.periodCode, 0]
    ++ leBytes 2 (c.reg Reg.SYNC_PERIOD) ++ leBytes 2 (c.reg Reg.STEP_COUNT) ++ zeros 2

/-- R151, R238, R240: TIME_SYNC frames leave on both rings of a pair, each copy with its own departure timestamp less ORIGIN_TIME
in CORRECTION. A node that is no census member discards its frame, and one without an address there makes none (R112). -/
def Core.sendSync (c : Core) (pair prio : Nat) (viaBridge : Bool) : Core :=
  let addr := c.addrOn pair
  if !c.mayOriginate { kind := 6 } then c.inc Reg.CNT_NOT_MEMBER
  else if addr = 0xFFFF then c
  else
  let (q, c) := c.nextSeq addr 0 0
  let f : Frame := { kind := 6, cls := 0, mcast := true, dst := c.segmentOn pair * 1024 + 0x3FF, src := addr, okey := addr,
                     stream := 0, seq := q, tick := c.tickNow, payload := c.syncPayload addr prio viaBridge }
  let f := f.seal
  let origin := c.sysNs * 2 ^ 32
  ((c.ringOuts pair f).foldl (fun (c : Core) q =>
    c.sendTimed q { frame := { f with corr := (c.departure q - origin) / 2 ^ 16 }.rehop }) c).inc Reg.CNT_SYNC_TX

/-- R238, R256: TIME_SYNC_SEND: a node in MASTER originates a TIME_SYNC on the pair from which it takes time, and a bridge with
PRIORITY 0 on the other; in MISMATCH it originates none (R235). -/
def Core.timeSyncSend (c : Core) : Core :=
  let own := c.timeState == 1
  let bridge : Bool := c.time.bridgeInForce != 0
  if !c.up || c.timeState == 5 || !(own || bridge) then c
  else
    let c := c.advanceTo c.time.nextSync
    let c := { c with time := { c.time with nextSync := c.now + 1000000 * c.reg Reg.SYNC_PERIOD } }
    let c := if bridge then c.sendSync (1 - c.timePair) 0 true else c
    if own then c.sendSync c.timePair c.time.prioInForce false else c

/-- Fields of a TIME_SYNC payload (R239). -/
structure SyncMsg where
  origin : Nat
  master : Nat
  prio : Nat
  quality : Nat
  code : Nat
  period : Nat
  deriving DecidableEq, Repr

/-- Reads a TIME_SYNC payload. A SYNC_PERIOD of 0, by which R248 would divide, counts as 1 ms (DESIGN CHOICE, log entry 112). -/
def syncMsg (f : Frame) : SyncMsg :=
  { origin := fieldAt f.payload 0 8, master := fieldAt f.payload 8 2, prio := fieldAt f.payload 10 1,
    quality := fieldAt f.payload 11 1, code := fieldAt f.payload 12 1, period := max 1 (fieldAt f.payload 14 2) }

/-- R247: theta of a TIME_SYNC at port p, in 2^-32 ns. -/
def Core.theta (c : Core) (p : Nat) (f : Frame) : Int :=
  (c.stampNow : Int) - ((syncMsg f).origin * 2 ^ 32 : Nat) - toInt 64 f.corr * 2 ^ 16 - c.ingress p

/-- R234: the run of frames within LOCK_THRESH and outside 10 times it moves ACQUIRING and LOCKED. -/
def Core.lockRuns (c : Core) (theta : Int) (stepped : Bool) : Core :=
  let thr := c.reg Reg.LOCK_THRESH * 2 ^ 32
  let mag := theta.natAbs
  if c.timeState = 2 then
    if stepped || Nat.blt thr mag then { c with time := { c.time with inRun := 0 } }
    else
      let n := c.time.inRun + 1
      let c := { c with time := { c.time with inRun := n } }
      if 8 ≤ n then c.moveTime 3 0 else c
  else if c.timeState = 3 then
    if Nat.blt (10 * thr) mag then
      let n := c.time.outRun + 1
      let c := { c with time := { c.time with outRun := n } }
      if 2 ≤ n then c.moveTime 2 0 else c
    else { c with time := { c.time with outRun := 0 } }
  else c

/-- R254: a node with PPS_ENABLE 1 steers by no TIME_SYNC while PPS_STATE is locked; it takes part in the election all the same
(DEDUCED, log entry 13). -/
def Core.ppsFollows (c : Core) : Bool := c.cfg Reg.PPS_ENABLE == 1 && c.reg Reg.PPS_STATE == 2

/-- R237, R247 to R249: the node takes an accepted TIME_SYNC. -/
def Core.acceptSync (c : Core) (p : Nat) (f : Frame) : Core :=
  let m := syncMsg f
  if m.code ≠ c.time.periodCode then c.moveTime 5 m.code
  else
    let theta := c.theta p f
    let c := (c.inc Reg.CNT_SYNC_RX).setReg Reg.OFFSET (ofInt 64 (theta / 2 ^ 32))
    let c := { c with time := { c.time with everAccepted := true, lastAccept := c.now, masterSync := m.period } }
    let c := if bit m.quality 3 then c.setReg Reg.TIME_VALID 1 else c
    let c := if c.timeState = 2 ∨ c.timeState = 3 then c else c.moveTime 2 0
    let c := c.setMaster m.master m.prio
    let first := !c.time.firstAccepted
    let c := { c with time := { c.time with firstAccepted := true } }
    let (c, stepped) := if c.ppsFollows then (c, false) else c.steer theta (m.period * 1000000) first
    c.lockRuns theta stepped

/-- R112, R237, R256: delivery of a good TIME_SYNC that arrived at port p. -/
def Core.takeSync (c : Core) (p : Nat) (f : Frame) : Core :=
  let m := syncMsg f
  if c.addrOn (pairOf p) = 0xFFFF ∨ pairOf p ≠ c.timePair ∨ c.syncPort m.master ≠ some p then c
  else
    let (fresh, c) := c.dedup f
    if !fresh then c
    else
      let c := { c with time := { c.time with
        heard := (m.master, m.prio, c.now) :: c.heardNow.filter (fun h => h.1 != m.master) } }
      let better := if c.timeState = 1 then betterMaster m.prio m.master c.time.prioInForce (c.addrOn c.timePair) else true
      if !c.bestHeard m.master m.prio || !better then c else c.acceptSync p f

/-- R242: a TIME_SYNC forwarded by port q with its residence time (2^-7 ns) and the ingress delay added to CORRECTION; one that
cut through counts in CNT_CUT (R169). -/
def Core.forwardSync (c : Core) (p q residence : Nat) (f : Frame) (poisoned : Bool) : Core :=
  let corr := ofInt 64 (toInt 64 f.corr + residence * 2 ^ 9 + c.ingress p / 2 ^ 16)
  (c.incIf (c.cutsTo p q && !c.frozenPort q) (Reg.FW_CNT_CUT q)).sendTimed q { frame := { f with corr := corr }.rehop, poisoned := poisoned }

/-- R153, R156: the first block of a TIME_SYNC whose end arrives now has entered the TX encoder of port q: it cuts through, the
line was free and the port not frozen, and it stayed no longer than it takes to arrive. -/
def Core.syncStarted (c : Core) (p q residence : Nat) (f : Frame) : Bool :=
  c.cutsTo p q && !c.frozenPort q && Nat.ble (mapGet {} q c.sw.outs : SwOut).busy (c.now * 10)
    && Nat.ble (residence * 10) (c.frameSpan p f * 128)

/-- R149, R153, R156, R157: what becomes of a TIME_SYNC at the port by which it goes on: a good one is sent; one that ended bad is
sent with a poisoned end where it is in transmission, and never sent where its first block has not left. -/
def Core.passSync (c : Core) (p q residence : Nat) (f : Frame) (bad : Option Nat) : Core :=
  match bad with
  | none => c.forwardSync p q residence f false
  | some cause => if c.syncStarted p q residence f then (c.poisonedEnd q cause f).forwardSync p q residence f true else c

/-- TIME_SYNC_RX: a TIME_SYNC arrives at ring port p and ends; `residence` is the time it would stay before it leaves again, in the
units of R241 (R149, R237, R242, R245). -/
def Core.timeSyncRx (c : Core) (p : Nat) (f : Frame) (e : EndKind) (residence : Nat) : Core :=
  let (ok, c) := c.joinedHeader p f
  if !ok then c
  else
    let pair := pairOf p
    let (inv, c) := c.beginCheck 0x01 p
    let strip : Bool := c.ownFrame pair f && c.leavesAsOwn p f
    let orphan : Bool := c.orphan pair f
    let valid : Bool := c.reg (Reg.PD_DELAY_VALID p) == 1
    let c := if !valid then c.inc Reg.CNT_SYNC_NODELAY
      else if strip then c.inc (if isMcast f.dst then Reg.FW_CNT_STRIPPED p else Reg.FW_CNT_UNDELIVERED p)
      else c.incIf orphan (Reg.FW_CNT_ORPHAN p)
    let (bad, c) := c.rxEnd p inv f e
    if !valid || strip || orphan then c
    else
      let c := (c.onward p).foldl (fun (c : Core) q => c.passSync p q residence f bad) c
      if bad.isSome || f.src == c.addrOn pair then c else c.takeSync p f

/-- SYNC_LOSS_EXPIRY: no TIME_SYNC accepted within SYNC_LOSS (R234). -/
def Core.syncLossExpiry (c : Core) : Core :=
  if !c.up then c
  else
    let st := c.timeState
    let due := (if st = 0 then c.time.enteredState else c.time.lastAccept) + c.syncLoss
    if st = 2 ∨ st = 3 then
      let c := (c.advanceTo due).moveTime 4 0
      if c.time.prioInForce < 255 then c.moveTime 1 0 else c
    else if st = 0 ∧ c.time.prioInForce < 255 then (c.advanceTo due).moveTime 1 0
    else c

/-- R249 case 2: TIME_SET written in CONFIG steps system time to the value. -/
def Core.timeSetEffect (c : Core) (v : Nat) : Core :=
  (c.stepTime (((v * 2 ^ 32 : Nat) : Int) - c.time.sys)).setReg Reg.TIME_VALID 1

/-! Link delay (R243, R244). -/

/-- The link delay record of port p. -/
def Core.peer (c : Core) (p : Nat) : PeerPort := mapGet {} p c.time.peers

/-- Replaces the link delay record of port p. -/
def Core.setPeer (c : Core) (p : Nat) (x : PeerPort) : Core :=
  { c with time := { c.time with peers := mapSet {} p x c.time.peers } }

/-- R243: 8 exchanges at 1 ms spacing begin, as after an entry into JOINED. -/
def Core.peerBurst (c : Core) (p : Nat) : Core :=
  c.setPeer p { c.peer p with results := [], taken := 0, misses := 0, burst := 8, nextAt := some c.now, waiting := [] }

/-- R244: the port leaves JOINED. -/
def Core.peerStop (c : Core) (p : Nat) : Core :=
  (c.setPeer p { c.peer p with results := [], taken := 0, misses := 0, burst := 0, nextAt := none, waiting := [] }).setReg
    (Reg.PD_DELAY_VALID p) 0

/-- A PEER_DELAY frame of this node for port p, the next of its stream (R160), to RP_NEIGHBOUR, which is a multicast address while
the neighbour has none (R99, R144). -/
def Core.peerFrame (c : Core) (p type exchange : Nat) : Frame × Core :=
  let a := c.addrOn (pairOf p)
  let to_ := c.reg (Reg.RP_NEIGHBOUR p)
  let (q, c) := c.nextSeq a 0 0
  let f : Frame := { kind := 7, cls := 0, mcast := isMcast to_, dst := to_, src := a, okey := a, seq := q, tick := c.tickNow,
                     payload := [byteOf type, byteOf p] ++ leBytes 2 exchange ++ zeros 4 }
  (f.seal, c)

/-- PEER_DELAY_SEND: a JOINED port sends a request (R243); t1 is its departure timestamp, and 1 ms runs from its departure (R244).
At a frozen port none starts, and its turn passes (R164; log entry 111). -/
def Core.peerDelaySend (c : Core) (p : Nat) : Core :=
  if !c.up || !c.joined p || c.addrOn (pairOf p) == 0xFFFF then c
  else
    let x := c.peer p
    match x.nextAt with
    | none => c
    | some t =>
      let c := c.advanceTo t
      let gap := if 1 < x.burst then 1000000 else 1000000 * c.reg Reg.PEER_PERIOD
      if c.frozenPort p then c.setPeer p { x with nextAt := some (c.now + gap) }
      else
        let t1 := c.departure p
        let due := max c.now (((mapGet {} p c.sw.outs : SwOut).busy + 9) / 10) + 1000000
        let (f, c) := c.peerFrame p 0 x.nextExchange
        (c.sendTimed p { frame := f }).setPeer p { x with
          waiting := x.waiting ++ [(x.nextExchange, t1, due)], nextExchange := (x.nextExchange + 1) % 65536, burst := x.burst - 1,
          nextAt := some (c.now + gap) }

/-- PEER_DELAY_REQ_RX: a request is answered from the same port with the turnaround, given in the units of R241, in CORRECTION
(R243). -/
def Core.peerDelayReq (c : Core) (p : Nat) (f : Frame) (turnaround : Nat) : Core :=
  let (ok, c) := c.joinedHeader p f
  if !ok then c
  else
    let (inv, c) := c.beginCheck 0x01 p
    let (bad, c) := c.rxEnd p inv f .good
    if bad.isSome || c.addrOn (pairOf p) == 0xFFFF then c
    else
      let (g, c) := c.peerFrame p 1 (fieldAt f.payload 2 2)
      c.sendTimed p { frame := { g with corr := turnaround * 2 ^ 9 % 2 ^ 64 }.rehop }

/-- R244: one result, in ps, updates LINK_DELAY or is discarded as an outlier. The mean of up to 8 is rounded down (DESIGN CHOICE, log
entry 112). -/
def Core.peerResult (c : Core) (p : Nat) (r : Nat) : Core :=
  let x := c.peer p
  let cur := c.reg (Reg.PD_LINK_DELAY p)
  let far := Nat.blt (cur + 1000) r || Nat.blt (r + 1000) cur
  if c.reg (Reg.PD_DELAY_VALID p) = 1 ∧ far then
    (c.setPeer p { x with misses := 0 }).inc (Reg.PD_CNT_PD_OUTLIER p)
  else
    let rs := (r :: x.results).take 8
    let c := c.setPeer p { x with results := rs, taken := min 8 (x.taken + 1), misses := 0 }
    let c := c.setReg (Reg.PD_LINK_DELAY p) (rs.foldl (fun a b => a + b) 0 / rs.length)
    if 8 ≤ x.taken + 1 then c.setReg (Reg.PD_DELAY_VALID p) 1 else c

/-- PEER_DELAY_RSP_RX: a response within 1 ms completes its exchange: ((t4 - t1) - turnaround) / 2 (R243, R244), in whole ps rounded
down, 0 when negative (DESIGN CHOICE, log entry 112). -/
def Core.peerDelayRsp (c : Core) (p : Nat) (f : Frame) : Core :=
  let (ok, c) := c.joinedHeader p f
  if !ok then c
  else
    let (inv, c) := c.beginCheck 0x01 p
    let (bad, c) := c.rxEnd p inv f .good
    let x := c.peer p
    match bad, x.waiting.find? (fun w => w.1 == fieldAt f.payload 2 2 && Nat.ble c.now w.2.2) with
    | none, some w =>
      if c.addrOn (pairOf p) = 0xFFFF then c
      else
        let d : Int := ((c.stampNow : Int) - w.2.1) - toInt 64 f.corr * 2 ^ 16
        (c.setPeer p { x with waiting := x.waiting.erase w }).peerResult p ((d / 2) * 1000 / 2 ^ 32).toNat
    | _, _ => c

/-- PEER_DELAY_TIMEOUT: no response to the oldest waiting request within 1 ms (R244). -/
def Core.peerDelayTimeout (c : Core) (p : Nat) : Core :=
  let x := c.peer p
  match x.waiting with
  | [] => c
  | (_, _, due) :: rest =>
    let c := c.advanceTo due
    let c := (c.setPeer p { x with waiting := rest, misses := x.misses + 1 }).inc (Reg.PD_CNT_PD_TIMEOUT p)
    if 3 ≤ x.misses + 1 then (c.peerBurst p).setReg (Reg.PD_DELAY_VALID p) 0 else c

/-! GNSS 1PPS (R252 to R255). -/

/-- PPS_STATE changes. -/
def Core.ppsMove (c : Core) (st : Nat) : Core :=
  let c := if st = 2 ∧ c.reg Reg.PPS_STATE ≠ 2 then c.event 0xC00 0x06 0 (ofInt 64 (c.regI 32 Reg.PPS_OFFSET)) else c
  let c := if c.reg Reg.PPS_STATE = 3 ∧ st ≠ 3 then c.clear Src.PPS_LOST noInst 0 else c
  c.setReg Reg.PPS_STATE st

/-- R253: the 1PPS input is switched on or off: no second is expected, and the 3 s without an edge run from now. -/
def Core.ppsSwitch (c : Core) : Core :=
  let on : Bool := c.cfg Reg.PPS_ENABLE == 1
  if on == (c.reg Reg.PPS_STATE != 0) then c
  else
    ({ c with time := { c.time with ppsExpected := false, ppsValid := 0, ppsRejected := 0, ppsLast := c.now } }).ppsMove (b2n on)

/-- PPS_EDGE: a rising edge at TB_PPS_IN now (R252 to R254). -/
def Core.ppsEdge (c : Core) : Core :=
  if !c.up || c.cfg Reg.PPS_ENABLE != 1 then c
  else
    let t : Int := (c.stampNow : Int) - c.regI 32 Reg.PPS_DELAY * 2 ^ 32
    let sec : Int := 1000000000 * 2 ^ 32
    let k := (t + sec / 2) / sec
    let theta := t - k * sec
    let c := c.setReg Reg.PPS_OFFSET (ofInt 32 (theta / 2 ^ 32))
    if c.time.ppsExpected && Nat.blt (c.reg Reg.PPS_WINDOW * 2 ^ 32) theta.natAbs then
      let n := c.time.ppsRejected + 1
      let c := ({ c with time := { c.time with ppsRejected := n, ppsValid := 0 } }).inc Reg.CNT_PPS_REJECT
      if 3 ≤ n then ({ c with time := { c.time with ppsExpected := false, ppsRejected := 0 } }).ppsMove 1 else c
    else
      let n := c.time.ppsValid + 1
      let c := ({ c with time := { c.time with ppsExpected := true, ppsValid := n, ppsRejected := 0, ppsLast := c.now } }).inc
        Reg.CNT_PPS_RX
      let c := c.setReg Reg.TIME_VALID 1
      let c := if 4 ≤ n then c.ppsMove 2 else c
      let first := !c.time.ppsFirst
      let c := { c with time := { c.time with ppsFirst := true } }
      if c.timeState ≠ 1 then c
      else (c.setReg Reg.OFFSET (ofInt 64 (theta / 2 ^ 32))).steer theta 1000000000 first |>.1

/-- PPS_LOSS_TIMEOUT: no valid edge for 3 s (R253). -/
def Core.ppsLoss (c : Core) : Core :=
  if !c.up || c.cfg Reg.PPS_ENABLE != 1 || c.reg Reg.PPS_STATE == 3 then c
  else
    let c := c.advanceTo (c.time.ppsLast + 3000000000)
    let c := ({ c with time := { c.time with ppsValid := 0 } }).event 0xC00 0x07 3 0
    (c.ppsMove 3).raise Src.PPS_LOST noInst 0

/-- PPS_OUT_RISE: the next whole second of system time drives TB_PPS_OUT high when PPS_OUT_ENABLE is 1 (R255). -/
def Core.ppsRise (c : Core) : Core :=
  if !c.up then c
  else
    let c := c.advanceSys ((c.sysNs / 1000000000 + 1) * 1000000000)
    { c with time := { c.time with ppsOut := c.flag Reg.PPS_OUT_ENABLE } }

/-- PPS_OUT_FALL: 1 ms after the whole second TB_PPS_OUT goes low (R255). -/
def Core.ppsFall (c : Core) : Core :=
  if !c.up then c
  else
    let c := c.advanceSys (c.sysNs / 1000000000 * 1000000000 + 1000000)
    { c with time := { c.time with ppsOut := false } }

/-! The event stream's close (R262, R264, R265). -/

/-- R262: sets SIMULTANEOUS on the hardware-stamped records of a tick that has two or more (R267). -/
def markSimultaneous (rs : List EvRec) : List EvRec :=
  let hard := rs.filter (fun r => !bit r.flags 1)
  if 2 ≤ hard.length then rs.map (fun r => if bit r.flags 1 then r else { r with flags := setBit r.flags 0 true }) else rs

/-- Records as runs of one tick each. -/
def tickRuns (rs : List EvRec) : List (List EvRec) := rs.splitBy (fun a b => a.tick == b.tick)

/-- R266: placed records are streamed, those of one tick that follow one another in the same frames. -/
def Core.streamRuns (c : Core) (placed : List EvRec) : Core :=
  (tickRuns placed).foldl (fun (c : Core) rs => match rs with
    | [] => c
    | r :: _ => c.streamEvents r.tick rs) c

/-- R262: the records of one tick are sorted, placed and streamed. -/
def Core.placeTickRecords (c : Core) (rs : List EvRec) : Core :=
  let (c, placed) := c.placeAll (sortBy evBefore (markSimultaneous rs))
  c.streamRuns placed

/-- R262: tick n closes: its records are placed, after those of ticks before it that never opened (a step passed them over;
DESIGN CHOICE, log entry 110). -/
def Core.closeEvents (c : Core) (n : Nat) : Core :=
  let (rest, mine) := c.ev.opened.partition (fun r => tickAhead r.tick n)
  let c := { c with ev := { c.ev with opened := rest, closed := some n } }
  (tickRuns (sortBy (fun a b => tickAhead b.tick a.tick) mine)).foldl (fun (c : Core) rs => c.placeTickRecords rs) c

/-- R569, R574: the fault records of one tick are placed and sent. -/
def Core.placeTickFaults (c : Core) (mine : List FaultRec) : Core :=
  let rs := sortBy faultBefore mine
  let rs := if 2 ≤ rs.length then rs.map (fun r => { r with flags := setBit r.flags 0 true }) else rs
  let (c, out) := c.placeFaults rs
  match rs with
  | [] => c
  | r :: _ => c.sendPlaced r.placeTick out

/-- R569, R574: tick n closes at the collector: its fault records are placed, their ONSET events joining the sort of tick n, after
those of ticks before it that never opened (log entry 110). -/
def Core.closeFaults (c : Core) (n : Nat) : Core :=
  let c := c.flushLate 64
  let (rest, mine) := c.fc.arrivals.partition (fun r => tickAhead r.placeTick n)
  let c := { c with fc := { c.fc with arrivals := rest, waiting := c.fc.waiting.filter (fun w => w.1 != n) } }
  let runs := (sortBy (fun a b => tickAhead b.placeTick a.placeTick) mine).splitBy (fun a b => a.placeTick == b.placeTick)
  let c := runs.foldl (fun (c : Core) rs => c.placeTickFaults rs) c
  ({ c with fc := { c.fc with closed := some n } }).flushLate 64

/-- FAULT_CLOSE: EVENT_CLOSE after the strobe of the oldest tick still open at the collector (R569). -/
def Core.faultClose (c : Core) : Core :=
  match c.fc.waiting with
  | [] => c
  | (n, t) :: _ => (c.advanceTo t).closeFaults n

/-- EVENT_CLOSE_EXPIRY: EVENT_CLOSE after the strobe of the oldest open tick; the collector places that tick's records in
the same FCLK cycle, before the sort (R262, R574). -/
def Core.eventClose (c : Core) : Core :=
  match c.ev.waiting with
  | [] => c
  | (n, t) :: rest =>
    let c := c.advanceTo t
    let c := { c with ev := { c.ev with waiting := rest } }
    let c := if c.fc.waiting.any (fun w => w.1 == n) then c.closeFaults n else c
    c.closeEvents n

/-- R265: releases records by a write of EVQ_RD. -/
def Core.releaseEvents (c : Core) (v : Nat) : Core :=
  let n := (v + 1024 - c.reg Reg.EVQ_RD) % 1024
  (c.setReg Reg.EVQ_RD v).setReg Reg.EVQ_COUNT (c.reg Reg.EVQ_COUNT - n)

/-- EVQ_RD and EVQ_COUNT as they will be once the writes held during a move have taken effect. -/
def Core.rdAhead (c : Core) : Nat × Nat :=
  c.ev.heldRd.foldl (fun p v => (v, p.2 - (v + 1024 - p.1) % 1024)) (c.reg Reg.EVQ_RD, c.reg Reg.EVQ_COUNT)

/-- EVQ_RD_WRITE: refused with RANGE (0x0B) when it would pass EVQ_WR; held while a move runs, behind those already held
(R264, R265). -/
def Core.evqRdEffect (c : Core) (v : Nat) : Nat × Core :=
  let (rd, n) := c.rdAhead
  if 1024 ≤ v ∨ n < (v + 1024 - rd) % 1024 then (0x0B, c)
  else if c.ev.moving then (0, { c with ev := { c.ev with heldRd := c.ev.heldRd ++ [v] } })
  else (0, c.releaseEvents v)

/-- EVQ_MOVE_COMPLETE: the move of R264 ends; the held writes of EVQ_RD take effect in order and the waiting records proceed. -/
def Core.evqMoveComplete (c : Core) : Core :=
  if !c.ev.moving then c
  else
    let held := c.ev.held
    let rd := c.ev.heldRd
    let c := ({ c with ev := { c.ev with moving := false, held := [], heldRd := [] } }).setReg Reg.EVQ_MOVING 0
    let c := rd.foldl (fun (c : Core) (v : Nat) => c.releaseEvents v) c
    let (c, placed) := c.placeAll held
    c.streamRuns placed

/-! Scheduled outputs (R268 to R272). -/

/-- VALUE of SCHED_LATE and SCHED_SKIPPED (R261). -/
def schedValue (e : SchedEntry) : Nat := e.target + e.bank * 2 ^ 48

/-- R270: SCHED_PENDING follows the table. -/
def Core.setSched (c : Core) (t : List SchedEntry) : Core :=
  ({ c with sched := { c.sched with table := t } }).setReg Reg.SCHED_PENDING t.length

/-- R270: two entries of one target and bank combine; the later one sets the value where the masks overlap. -/
def combineSched (old new : SchedEntry) : SchedEntry :=
  { old with mask := Nat.lor old.mask new.mask,
             value := Nat.lor (Nat.land old.value (Nat.xor (Nat.land new.mask 255) 255)) (Nat.land new.value new.mask) }

/-- Loads an entry into its bank's output update register for the strobe of its target (R271), as complete at instant t. -/
def Core.loadSched (c : Core) (e : SchedEntry) (t : Nat) : Core :=
  c.update { at_ := t, rank := 0, bank := e.bank, mask := e.mask, value := e.value, target := some e.target }

/-- R268: a late entry: counted, reported, and discarded or applied at the next strobe as SCHED_LATE says. -/
def Core.lateSched (c : Core) (e : SchedEntry) : Core :=
  let c := (c.inc Reg.CNT_SCHED_LATE).event 0xC00 0x08 3 (schedValue e)
  if c.flag Reg.SCHED_LATE then c.update { at_ := c.now, rank := 0, bank := e.bank, mask := e.mask, value := e.value } else c

/-- R250: the number, not reduced, of the next tick that fires: that of the first boundary not before system time, after the last
tick that fired and after the instant of a step. -/
def Core.nextTick (c : Core) : Nat :=
  let p := c.period * 2 ^ 32
  let k := (c.time.sys + p - 1) / p
  let k := if c.time.sys = k * p ∧ c.time.steppedTo * 2 ^ 32 = c.time.sys then k + 1 else k
  match c.time.lastTick with
  | some n => max k (n + 1)
  | none => k

/-- R33: the next strobe is at least 10 ns away. -/
def Core.beforeStrobe (c : Core) : Bool := Nat.ble (c.time.sys + 10 * 2 ^ 32) (c.nextTick * c.period * 2 ^ 32)

/-- R268, R270, R271: an entry enters the schedule table, or is late, out of range or refused by a full table. -/
def Core.enterSched (c : Core) (e : SchedEntry) : Core :=
  let now := c.tickNow
  let d := tickDiff e.target now
  if d = 0 ∨ tickMod / 2 ≤ d then c.lateSched e
  else if 2 ^ 20 < d then c.inc Reg.CNT_SCHED_RANGE
  else if c.time.armed = some e.target then
    if c.beforeStrobe then c.loadSched e c.now
    else c.lateSched e
  else if c.sched.table.any (fun x => x.target == e.target && x.bank == e.bank) then
    c.setSched (c.sched.table.map (fun x => if x.target = e.target ∧ x.bank = e.bank then combineSched x e else x))
  else if 256 ≤ c.sched.table.length then c.inc Reg.CNT_SCHED_FULL
  else c.setSched (c.sched.table ++ [e])

/-- R269: the entry that a SCHED_POST value spells. -/
def schedEntryOf (b : Bytes) : SchedEntry :=
  { target := fieldAt b 0 6, bank := fieldAt b 6 1, mask := fieldAt b 7 1, value := fieldAt b 8 1 }

/-- SCHED_POST: fills the post register; BUSY (0x0C) while it is full (R19), RANGE for a bank above 31 (R269). -/
def Core.schedPostEffect (c : Core) (b : Bytes) : Nat × Core :=
  let e := schedEntryOf b
  if 31 < e.bank then (0x0B, c)
  else match c.sched.post with
    | some _ => (0x0C, c)
    | none => (0, { c with sched := { c.sched with post := some e } })

/-- R19: the time base takes the value waiting in SCHED_POST. -/
def Core.schedPostTake (c : Core) : Core :=
  match c.sched.post with
  | some e => ({ c with sched := { c.sched with post := none } }).enterSched e
  | none => c

/-- R271: the entries whose target is n are loaded; CNT_SCHED_DONE counts each at its strobe. -/
def Core.loadDue (c : Core) (n : Nat) : Core :=
  let (due, rest) := c.sched.table.partition (fun e => e.target == n)
  (due.foldl (fun c e => c.loadSched e c.now) c).setSched rest

/-- TICK_ARM_POINT: 400 ns before the boundary of the next tick the arm records are written, and the entries of that tick
loaded (R30, R271). -/
def Core.armPoint (c : Core) : Core :=
  if !c.up then c
  else
    let n := c.nextTick
    let c := c.advanceSys (n * c.period - 400)
    let c := { c with time := { c.time with armed := some (n % tickMod) } }
    c.loadDue (n % tickMod)

/-- R679: a tick number still to come keeps its instant: the first tick of the new period at or after it. -/
def renumberAhead (full pOld pNew t : Nat) : Nat :=
  let f := full + tickDiff t (full % tickMod)
  ((f * pOld + pNew - 1) / pNew) % tickMod

/-- R679: a tick number already begun becomes the tick of the new period within which its boundary lies. -/
def renumberPast (full pOld pNew t : Nat) : Nat :=
  let f := full - tickDiff (full % tickMod) t
  (f * pOld / pNew) % tickMod

end Sys2Proof.Machine
end

