-- ==== Sys2Proof/Machine/Measure.lean ====
section
/-! DEFINITION. Measurement inputs (chapter 11, R389 to R397). -/

namespace Sys2Proof.Machine

/-- R389: sample period of a rate code, in ns. -/
def samplePeriod (code : Nat) : Nat := 1000000 / 2 ^ code

/-- R389: least group delay of a rate code, in ns. -/
def groupDelay (code : Nat) : Nat := 12 * samplePeriod code + 1560

/-- R401: MEAS_STATE follows the input. -/
def Core.measState (c : Core) (n : Nat) : Core :=
  let x := c.measIn n
  c.setReg (Reg.MEAS_STATE n) (b2n x.running + 2 * b2n x.opened + 4 * b2n x.clipped + 8 * b2n x.settling
    + 16 * b2n x.pairA.active + 32 * b2n x.pairB.active)

/-- R389, R390, R639: the input starts, or stops, under the settings in force. A start carries SETTLING for 12 samples. -/
def Core.measRefresh (c : Core) (n : Nat) : Core :=
  let x := c.measIn n
  let run : Bool := c.fieldRuns && c.cfg (Reg.MEAS_ENABLE n) == 1
  let opened := x.opened && c.cfg (Reg.MEAS_OPEN_EN n) == 1
  if run && !x.running then
    (c.setMeas n { x with running := true, start := c.sysNs, steps := c.reg Reg.STEP_COUNT, settle := 12,
                          opened := opened, codes := [], flags := 0 }).measState n
  else if !run && x.running then
    (c.setMeas n { x with running := false, codes := [], flags := 0, opened := opened }).measState n
  else c

/-- The boundary, in ns of system time, of the tick that records now carry. -/
def Core.strobeNs (c : Core) : Nat :=
  match c.time.lastTick with
  | some t => t * c.period
  | none => c.sysNs / c.period * c.period

/-- R397: VALUE of a threshold or OVER_RANGE record for a sample y of the given instant. -/
def Core.measValue (c : Core) (y instant : Nat) : Nat := y + ((c.strobeNs + 2 ^ 32 - instant % 2 ^ 32) % 2 ^ 32) * 2 ^ 16

/-- R393: a sample joins its set; MEAS_KEY is taken with the first sample of a set. -/
def Core.joinSet (c : Core) (n y instant flags : Nat) : Core :=
  let x := c.measIn n
  let x := if x.codes.isEmpty then { x with key := c.reg (Reg.MEAS_KEY n), t0 := instant, flags := 0 } else x
  if x.key = 0xFFFF then c
  else
    let c := c.setMeas n { x with codes := x.codes ++ [y], flags := Nat.lor x.flags flags }
    if c.cfg (Reg.MEAS_BLOCK n) ≤ x.codes.length + 1 then c.formSet n else c

/-- R396: a pair evaluated on a calibrated sample. -/
def pairStep (p : MeasPair) (hi lo : Int) (count : Nat) (y : Int) : MeasPair :=
  let qualifies : Bool :=
    if lo < hi then (if p.active then decide (y ≤ lo) else decide (hi ≤ y))
    else (if p.active then decide (lo ≤ y) else decide (y ≤ hi))
  if !qualifies then { p with run := 0 }
  else if count ≤ p.run + 1 then { p with active := !p.active, run := 0 }
  else { p with run := p.run + 1 }

/-- R396, R397: pair q (0 A, 1 B) of input n meets a sample: one that is disabled becomes inactive, an enabled one is evaluated
unless the sample carries OPEN. -/
def Core.pairSample (c : Core) (n q : Nat) (y : Int) (instant : Nat) : Core :=
  let x := c.measIn n
  let p := if q = 0 then x.pairA else x.pairB
  let put (c : Core) (p : MeasPair) : Core :=
    c.setMeas n (if q = 0 then { c.measIn n with pairA := p } else { c.measIn n with pairB := p })
  if c.reg (Reg.THR_ENABLE n q) = 0 then put c { recTick := p.recTick }
  else if x.opened then c
  else
    let p := pairStep p (c.regI 16 (Reg.THR_SET n q)) (c.regI 16 (Reg.THR_CLEAR n q)) (c.reg (Reg.THR_COUNT n q)) y
    if p.active = p.recorded ∨ p.recTick = some c.tick then put c p
    else
      let c := put c { p with recorded := p.active, recTick := some c.tick }
      (c.event (0x100 + n) (1 + 2 * q + b2n (!p.active)) 1 (c.measValue (ofInt 16 y) instant)).inc (Reg.MEAS_CNT_THR n)

/-- R390, R391: the instant of the next sample delivered, and whether a step came since the last. -/
def Core.nextSample (c : Core) (n : Nat) : Nat × Bool :=
  let x := c.measIn n
  let code := c.cfg (Reg.MEAS_RATE n)
  let ts := samplePeriod code
  let stepped : Bool := c.reg Reg.STEP_COUNT != x.steps
  let after := max (if stepped then max x.start c.time.steppedTo else x.start) (x.lastAt.getD 0)
  (max ((after / ts + 1) * ts) ((c.sysNs - groupDelay code) / ts * ts), stepped)

/-- R392: the calibrated sample of an unclamped code x, and whether it is over range. -/
def calibrate (offset : Int) (gain : Nat) (x : Int) : Int × Bool :=
  let raw := clampInt (-32768) 32767 x
  let y := ((raw - offset) * gain) / 32768
  let z := clampInt (-32768) 32767 y
  (z, raw != x || z != y)

/-- MEAS_SAMPLE_DELIVER: the sample of the next instant is delivered; x is its voltage in codes of R392, rounded and not
yet clamped. Samples carry OVER while VDDA_MEAS is out of its range (R531). -/
def Core.measSample (c : Core) (n : Nat) (x : Int) : Core :=
  if !(c.measIn n).running then c
  else
    let (instant, stepped) := c.nextSample n
    let c := if stepped then
        c.setMeas n { c.measIn n with steps := c.reg Reg.STEP_COUNT, start := max (c.measIn n).start c.time.steppedTo,
                                      settle := 12 }
      else c
    let c := c.advanceSys (instant + groupDelay (c.cfg (Reg.MEAS_RATE n)))
    let (y, clamped) := calibrate (c.regI 16 (Reg.MEAS_CAL_OFFSET n)) (c.reg (Reg.MEAS_CAL_GAIN n)) x
    let clipped : Bool := clamped || bit (c.reg Reg.SUPPLY_FLAGS) 1
    let s := c.measIn n
    let img := ofInt 16 y
    let settling : Bool := Nat.blt 0 s.settle
    let unlocked : Bool := !(c.reg Reg.TIME_STATE == 1 || c.reg Reg.TIME_STATE == 3)
    let c := (c.setReg (Reg.MEAS_LAST n) img).setReg (Reg.MEAS_LAST_TIME n) instant
    let c := c.incIf clipped (Reg.MEAS_CNT_OVER n)
    let c := if clipped && !s.clipped then c.eventOnce (0x100 + n) 7 2 (c.measValue img instant) else c
    let c := c.setMeas n { s with lastAt := some instant, settle := s.settle - 1, clipped := clipped, settling := settling }
    let c := (c.pairSample n 0 y instant).pairSample n 1 y instant
    (c.joinSet n img instant (b2n clipped + 2 * b2n s.opened + 4 * b2n settling + 8 * b2n unlocked)).measState n

/-- MEAS_OPEN_ENTER: the open comparator has read above its level for 1 ms (R395). -/
def Core.measOpen (c : Core) (n : Nat) : Core :=
  if !c.fieldRuns || c.cfg (Reg.MEAS_OPEN_EN n) != 1 || (c.measIn n).opened then c
  else
    let c := c.setMeas n { c.measIn n with opened := true }
    ((c.eventOnce (0x100 + n) 5 3 0).inc (Reg.MEAS_CNT_OPEN n)).measState n

/-- MEAS_OPEN_LEAVE: the open comparator has read below its level for 1 ms (R395). -/
def Core.measClose (c : Core) (n : Nat) : Core :=
  if !c.fieldRuns || c.cfg (Reg.MEAS_OPEN_EN n) != 1 || !(c.measIn n).opened then c
  else
    let c := c.setMeas n { c.measIn n with opened := false }
    (c.eventOnce (0x100 + n) 6 0 0).measState n

/-- R396: a write that leaves ENABLE at 1 with SET equal to CLEAR is refused with RANGE. -/
def Core.pairWriteOk (c : Core) (n q : Nat) : Bool :=
  !(c.reg (Reg.THR_ENABLE n q) == 1 && c.reg (Reg.THR_SET n q) == c.reg (Reg.THR_CLEAR n q))

end Sys2Proof.Machine
end

