-- ==== Sys2Proof/Machine/Rules.lean ====
section
/-! DEFINITION. Interlock rules (chapter 12, R421 to R425). -/

namespace Sys2Proof.Machine

/-- Rule r. -/
def Core.rule (c : Core) (r : Nat) : Rule := mapGet {} r c.map.rules

/-- Replaces rule r; RULE_STATE follows. -/
def Core.setRule (c : Core) (r : Nat) (x : Rule) : Core :=
  ({ c with map := { c.map with rules := mapSet {} r x c.map.rules } }).setReg (Reg.RULE_STATE r) (x.st + 8 * b2n x.stale)

/-- R424: a record of rule r. -/
def Core.ruleEvent (c : Core) (r kind sev : Nat) : Core :=
  if !bit (c.reg (Reg.RULE_CTRL r)) 4 then c
  else
    let s := c.reg (Reg.RULE_SLOT r)
    c.event (0x800 + r) kind sev (c.reg (Reg.SIG_VALUE s) + s * 2 ^ 32)

/-- R423: the discrete lines that rules hold, the lowest rule number first. -/
def Core.ruleHolds (c : Core) : List (Nat × Nat × Bool) :=
  c.map.rules.filterMap (fun e =>
    if (e.2.st == 2 || e.2.st == 3) && bit (c.reg (Reg.RULE_CTRL e.1)) 3 then
      some (e.1, c.reg (Reg.RULE_LINE e.1) % 256, bit (c.reg (Reg.RULE_LINE e.1)) 8)
    else none)

/-- The holds reach the output update registers. -/
def Core.writeHolds (c : Core) : Core := { c with disc := { c.disc with holds := c.ruleHolds, drops := [] } }

/-- R33, R422: a rule that is disabled releases its line at the next strobe that the release comes 10 ns before. -/
def Core.dropHold (c : Core) (r : Nat) : Core :=
  { c with disc := { c.disc with holds := c.heldLines,
                                 drops := c.disc.drops.filter (fun d => Nat.blt c.now (d.2 + 10)) ++ [(r, c.now)] } }

/-- R422: rule r is stale at tick n. -/
def Core.ruleStale (c : Core) (r n : Nat) : Bool :=
  let s := c.reg (Reg.RULE_SLOT r)
  let lim := c.reg (Reg.RULE_STALE r)
  let d := tickDiff n (c.reg (Reg.SIG_TICK s))
  let age := if tickMod / 2 < d then 0 else d
  Nat.blt 0 lim && (!bit (c.reg (Reg.SIG_FLAGS s)) 0 || Nat.blt lim age)

/-- R422: one enabled rule evaluated in the pass of tick n. -/
def Core.evalRule (c : Core) (r n : Nat) : Core :=
  let x := c.rule r
  let ctrl := c.reg (Reg.RULE_CTRL r)
  let c := if x.reset then (c.setRule r { x with st := 1, run := 0, reset := false }).ruleEvent r 5 0 else c
  let stale := c.ruleStale r n
  let x := c.rule r
  let c := if stale = x.stale then c
    else (c.setRule r { x with stale := stale }).ruleEvent r (if stale then 3 else 4) (if stale then 3 else 0)
  let x := c.rule r
  if stale && !bit ctrl 5 then c.setRule r { x with run := 0 }
  else
    let v := c.regI 32 (Reg.SIG_VALUE (c.reg (Reg.RULE_SLOT r)))
    let trip := c.regI 32 (Reg.RULE_TRIP r)
    let release := c.regI 32 (Reg.RULE_RELEASE r)
    let count := c.reg (Reg.RULE_COUNT r)
    let low := bit ctrl 1
    let beyondTrip : Bool := stale || (if low then decide (v ≤ trip) else decide (trip ≤ v))
    let beyondRelease : Bool := !stale && (if low then decide (release ≤ v) else decide (v ≤ release))
    if x.st = 2 then
      let run := if beyondRelease then x.run + 1 else 0
      if run = count then
        (c.setRule r { x with st := if bit ctrl 2 then 3 else 1, run := 0 }).ruleEvent r 2 0
      else c.setRule r { x with run := run }
    else
      let run := if beyondTrip then x.run + 1 else 0
      if run = count then
        (((c.setRule r { x with st := 2, run := 0 }).inc (Reg.RULE_TRIPS r)).inc Reg.CNT_RULE_TRIPS).ruleEvent r 1
          (c.reg (Reg.RULE_SEV r))
      else c.setRule r { x with run := run }

/-- RULE_PASS: the pass of the last tick that fired, once (R421). -/
def Core.rulePass (c : Core) : Core :=
  match c.time.lastTick with
  | none => c
  | some t =>
    if !c.mapRuns || c.map.lastPass == some t then c
    else
      let c := c.advanceSys (t * c.period + 540)
      let c := { c with map := { c.map with lastPass := some t } }
      ((c.map.rules.map (fun e => e.1)).foldl (fun (c : Core) r =>
        if (c.rule r).st = 0 then c else c.evalRule r c.tick) c).writeHolds

/-- R425: the values that a write of a rule's member would leave stand together; RANGE (0x0B) else. -/
def ruleWriteOk (ctrl : Nat) (trip release : Int) : Bool :=
  !bit ctrl 0 || (if bit ctrl 1 then decide (trip < release) else decide (release < trip))

/-- R422, R425: what a completed write of a member of rule r changes beside the member: ENABLE turns the rule on or off,
members .02 to .07 set its run to 0. -/
def Core.ruleWritten (c : Core) (r member : Nat) : Core :=
  let x := c.rule r
  if member = 1 then
    let en := bit (c.reg (Reg.RULE_CTRL r)) 0
    if en && x.st == 0 then c.setRule r { st := 1 }
    else if !en && x.st != 0 then (c.setRule r {}).dropHold r
    else c
  else if member ≤ 7 then c.setRule r { x with run := 0 }
  else c

/-- RULE_RESET: a write of 1 is accepted in state CLEARED, else REFUSED (0x11); 0 is refused with RANGE (R425, R428). -/
def Core.ruleResetEffect (c : Core) (r v : Nat) : Nat × Core :=
  if v = 0 then (0x0B, c)
  else if (c.rule r).st ≠ 3 then (0x11, c)
  else (0, c.setRule r { c.rule r with reset := true })

end Sys2Proof.Machine
end

