-- ==== Sys2Proof/Machine/Switch.lean ====
section
/-! DEFINITION. The switch core and buffer manager (chapter 05): admission, the scheduler of a cell slot, the output
stages, the fair window. -/

namespace Sys2Proof.Machine

/-- Key of BUF_LIMIT of output p and class k. -/
abbrev limitKey (p k : Nat) : Nat := (0x1310 + p) * 256 + 1 + k

/-- Key of BUF_USED of output p and class k. -/
abbrev usedKey (p k : Nat) : Nat := (0x1320 + p) * 256 + 1 + k

/-- Key of ACTIVE_SRC of input p and class k. -/
abbrev activeKey (p k : Nat) : Nat := (0x1330 + p) * 256 + 1 + k

/-- R184: a frame of n cells fits at an output in its class. -/
def Core.fits (c : Core) (out cls n : Nat) : Bool := Nat.ble (c.reg (usedKey out cls) + n) (c.reg (limitKey out cls))

/-- Sum of BUF_USED of an output over all classes. -/
def Core.usedTotal (c : Core) (out : Nat) : Nat := (List.range 8).foldl (fun a k => a + c.reg (usedKey out k)) 0

/-- R184: reserves a frame's cells at an output; USED_PEAK follows. -/
def Core.charge (c : Core) (out cls n : Nat) : Core :=
  let c := c.setReg (usedKey out cls) (c.reg (usedKey out cls) + n)
  c.setReg (Reg.SWO_USED_PEAK out) (max (c.reg (Reg.SWO_USED_PEAK out)) (c.usedTotal out))

/-- Releases charged cells. -/
def Core.uncharge (c : Core) (out cls n : Nat) : Core := c.setReg (usedKey out cls) (c.reg (usedKey out cls) - n)

/-- R188: SW_DROP for an output, at most once per tick. -/
def Core.swDrop (c : Core) (out : Nat) : Core := c.reportOnce Src.SW_DROP out 0 0 0 false

/-- An entry is blocked by a held frame of its class from its input (R186). -/
def Core.blocked (c : Core) (e : SwEntry) : Bool :=
  c.sw.seeking.any (fun h => h.waitEnd.isSome && h.inp == e.inp && h.frame.cls == e.frame.cls && Nat.blt h.id e.id)

/-- R187: the entry that seeks admission next: not held, not blocked, the earliest, and of one instant the one from the
lower-numbered input. -/
def Core.nextSeeker (c : Core) : Option SwEntry :=
  let free := c.sw.seeking.filter (fun e => e.waitEnd.isNone && !c.blocked e)
  match sortBy (fun a b => if a.since ≠ b.since then Nat.blt a.since b.since else Nat.blt a.inp b.inp) free with
  | [] => none
  | e :: _ => some e

/-- Banks of the pool that take new cells: those of the switch buffer whose handover nobody has asked for (R190). -/
def Core.cellBanks (c : Core) : List Nat :=
  (List.range 64).filter (fun b => c.reg (Reg.BANK_OWNER b) == 0 && !c.drainBanks.contains b)

/-- Cells in bank b. -/
def Core.cellsIn (c : Core) (b : Nat) : Nat :=
  c.sw.entries.foldl (fun a e => a + ((e.banks.drop e.freed).filter (fun x => x == b)).length) 0

/-- R172: banks for n cells, from a list of banks with the room each has: each cell in the first bank with room, which then goes
to the end, so that consecutive cells lie in different banks while two have room. -/
def placeCells : Nat → List (Nat × Nat) → List Nat
  | 0, _ => []
  | n + 1, room =>
    match room.find? (fun x => Nat.blt 0 x.2) with
    | none => []
    | some x => x.1 :: placeCells n (room.filter (fun y => y.1 != x.1) ++ [(x.1, x.2 - 1)])

/-- R172, R183: where the cells of a frame are put; the banks are taken in turn from the one after the last used (DESIGN CHOICE, log
entry 99). -/
def Core.cellPlaces (c : Core) (n : Nat) : List Nat :=
  let bs := c.cellBanks
  let order := bs.filter (fun b => Nat.blt c.sw.lastBank b) ++ bs.filter (fun b => Nat.ble b c.sw.lastBank)
  placeCells n (order.map (fun b => (b, 1024 - c.cellsIn b)))

/-- Admits an entry at the given outputs: cells charged to each, taken once from the pool. -/
def Core.takeIn (c : Core) (e : SwEntry) (outs : List OutCopy) : Core :=
  if outs.isEmpty then c
  else
    let c := outs.foldl (fun c o => c.charge o.out e.frame.cls e.cells) c
    let c := c.setReg Reg.SW_FREE (c.reg Reg.SW_FREE - e.cells)
    let places := c.cellPlaces e.cells
    { c with sw := { c.sw with lastBank := places.getLast?.getD c.sw.lastBank
                               entries := c.sw.entries ++ [{ e with outs := outs, banks := places, waitEnd := none }] } }

/-- Removes an entry from those that seek admission. -/
def Core.unseek (c : Core) (id : Nat) : Core :=
  { c with sw := { c.sw with seeking := c.sw.seeking.filter (fun e => e.id != id) } }

/-- Admits an entry at some of its outputs while the rest of it goes on seeking under its number. -/
def Core.admitPart (c : Core) (e : SwEntry) (outs : List OutCopy) : Core :=
  if outs.isEmpty then c
  else ({ c with sw := { c.sw with nextId := c.sw.nextId + 1 } }).takeIn { e with id := c.sw.nextId } outs

/-- FRAME_ADMISSION: the next frame seeks admission at each of its outputs, is admitted, dropped or held (R184, R186). -/
def Core.frameAdmission (c : Core) : Core :=
  match c.nextSeeker with
  | none => c
  | some e =>
    let n := e.cells
    let (yes, no) := e.outs.partition (fun o => c.fits o.out e.frame.cls n)
    if no.isEmpty || Nat.blt e.inp 4 then
      no.foldl (fun c o => (c.inc (Reg.SWO_CNT_DROP_LIMIT o.out)).swDrop o.out) ((c.unseek e.id).takeIn e yes)
    else
      let h := { e with outs := no, waitEnd := some (c.now + 1000 * c.reg Reg.LOCAL_WAIT) }
      ({ c with sw := { c.sw with seeking := c.sw.seeking.map (fun (x : SwEntry) => if x.id = e.id then h else x) } }).admitPart e yes

/-- Held local frames in the order of R187: the lower-numbered input first, then the earlier frame. -/
def Core.heldInOrder (c : Core) : List SwEntry :=
  sortBy (fun (a b : SwEntry) => Nat.blt a.inp b.inp) (c.sw.seeking.filter (fun e => e.waitEnd.isSome))

/-- A held frame is admitted at the outputs that have room; it goes on waiting for the others (R186). -/
def Core.admitHeld (c : Core) (e : SwEntry) : Core :=
  let (yes, no) := e.outs.partition (fun o => c.fits o.out e.frame.cls e.cells)
  if no.isEmpty then (c.unseek e.id).takeIn e yes
  else
    ({ c with sw := { c.sw with
      seeking := c.sw.seeking.map (fun (x : SwEntry) => if x.id = e.id then { x with outs := no } else x) } }).admitPart e yes

/-- HELD_FRAME_ADMIT: a held local frame for which there is room is admitted at the outputs that have it (R186, R187). -/
def Core.heldAdmit (c : Core) : Core :=
  match c.heldInOrder.find? (fun e => e.outs.any (fun o => c.fits o.out e.frame.cls e.cells)) with
  | none => c
  | some e => c.admitHeld e

/-- LOCAL_WAIT_EXPIRY: the LOCAL_WAIT of a held local frame ends: it is admitted where it has found room, and dropped where it has
not (R186, R188). -/
def Core.localWaitExpiry (c : Core) : Core :=
  match sortBy (fun (a b : SwEntry) => Nat.blt (a.waitEnd.getD 0) (b.waitEnd.getD 0))
      (c.sw.seeking.filter (fun e => e.waitEnd.isSome)) with
  | [] => c
  | e :: _ =>
    let c := c.advanceTo (e.waitEnd.getD 0)
    let (yes, no) := e.outs.partition (fun o => c.fits o.out e.frame.cls e.cells)
    no.foldl (fun c o => (c.inc (Reg.SWO_CNT_DROP_WAIT o.out)).swDrop o.out) ((c.unseek e.id).takeIn e yes)

/-! The output stages. -/

/-- The output record o. -/
def Core.swOut (c : Core) (o : Nat) : SwOut := mapGet {} o c.sw.outs

/-- Replaces the output record o. -/
def Core.setSwOut (c : Core) (o : Nat) (x : SwOut) : Core := { c with sw := { c.sw with outs := mapSet {} o x c.sw.outs } }

/-- The entry with number id. -/
def Core.entry (c : Core) (id : Nat) : Option SwEntry := c.sw.entries.find? (fun e => e.id == id)

/-- Changes the entry with number id. -/
def Core.mapEntry (c : Core) (id : Nat) (f : SwEntry → SwEntry) : Core :=
  { c with sw := { c.sw with entries := c.sw.entries.map (fun e => if e.id = id then f e else e) } }

/-- The copy of an entry for output o. -/
def SwEntry.copy (e : SwEntry) (o : Nat) : OutCopy := (e.outs.find? (fun x => x.out == o)).getD { out := o, done := true }

/-- Changes the copy for output o. -/
def SwEntry.mapCopy (e : SwEntry) (o : Nat) (f : OutCopy → OutCopy) : SwEntry :=
  { e with outs := e.outs.map (fun x => if x.out = o then f x else x) }

/-- R165, R174: frames may start at output o: a ring port is JOINED and not frozen. -/
def Core.drains (c : Core) (o : Nat) : Bool := Nat.ble 4 o || (c.joined o && c.reg (Reg.FW_HOLD_STATE o) == 0)

/-- R164: the frame is in transmission on ring port o, which goes on to its end though the queue is frozen, or the port has gone to
DOWN. -/
def Core.onLine (c : Core) (o id : Nat) : Bool :=
  (c.port o).serdes && match c.entry id with
    | some e => Nat.blt 0 (e.copy o).gone && !(e.copy o).done
    | none => false

/-- Time of one cell on a ring line in 0.1 ns: 51.2 ns at 10 Gbit/s, 512 ns at 1 Gbit/s. -/
def Core.cellTime (c : Core) (o : Nat) : Nat := if c.rateOf o = 0 then 512 else 5120

/-- R182: an entry all of whose copies are finished leaves the buffer; its cells return to the pool. -/
def Core.sweepEntries (c : Core) : Core :=
  let (old, live) := c.sw.entries.partition (fun e => e.ended.isSome && e.outs.all (fun o => o.done))
  let back := old.foldl (fun a e => a + (e.cells - e.freed)) 0
  let c := { c with sw := { c.sw with entries := live } }
  c.setReg Reg.SW_FREE (c.reg Reg.SW_FREE + back)

/-- R182: cells that have left for every output are freed. -/
def Core.freeSent (c : Core) (id : Nat) : Core :=
  match c.entry id with
  | none => c
  | some e =>
    let low := e.outs.foldl (fun a o => min a (if o.done then e.cells else o.come)) e.cells
    if e.freed < low then
      (c.mapEntry id (fun e => { e with freed := low })).setReg Reg.SW_FREE (c.reg Reg.SW_FREE + (low - e.freed))
    else c

/-- R182: at the start of a slot the cells that left in an earlier one are freed. -/
def Core.freeLeft (c : Core) : Core := c.sw.entries.foldl (fun c e => c.freeSent e.id) c

/-- The frame ends at output o: the rest of its charge is released, its cells on the way and in the stage are gone, the lock is
open, and the accept pointer moves one past the output (R178). -/
def Core.endCopy (c : Core) (e : SwEntry) (o : Nat) : Core :=
  let y := e.copy o
  let x := c.swOut o
  let c := (c.uncharge o e.frame.cls (e.cells - y.come)).setSwOut o
    { x with stage := x.stage.filter (fun i => i != e.id), lock := if x.lock = some e.id then none else x.lock }
  let c := { c with sw := { c.sw with
    pipe := c.sw.pipe.filter (fun w => !(w.out == o && w.id == e.id))
    acceptPtr := if y.sent = 0 then c.sw.acceptPtr
      else mapSet 0 (e.inp * 8 + e.frame.cls) ((o + 1) % 16) c.sw.acceptPtr } }
  c.mapEntry e.id (fun e => e.mapCopy o (fun y => { y with done := true }))

/-- R159: ring port o ends the frame at once, poisoned for a cause that this node found. -/
def Core.cutOff (c : Core) (e : SwEntry) (o cause : Nat) : Core :=
  ((((c.endCopy e o).poisoned o cause e.frame).sendLine o
    { frame := e.frame.rehop, poisoned := true, cut := some (64 * (e.copy o).gone) }).incIf e.cut (Reg.FW_CNT_CUT o)).lineFree o

/-- R156, R157: the frame's last cell leaves ring port o: a good end, or a poisoned one. -/
def Core.lineEnd (c : Core) (o : Nat) (e : SwEntry) : Core :=
  let y := e.copy o
  let good : Bool := e.ended != some false && !y.bad
  let c := if e.ended = some false then
      (if e.cause = 0 then c.inc (Reg.FW_CNT_POISON_FWD o) else c.poisoned o e.cause e.frame)
    else if y.bad then c.poisoned o 6 e.frame else c
  let c := c.sendLine o { frame := e.frame.rehop, poisoned := !good }
  ((c.incIf e.cut (Reg.FW_CNT_CUT o)).incIf (y.held && good) (Reg.FW_CNT_HOLD_SENT o)).lineFree o

/-- A consumer at SP_4 to SP_15 has the last cell of a frame. -/
def Core.consume (c : Core) (o : Nat) (e : SwEntry) : Core :=
  if e.ended = some true then { c with sw := { c.sw with delivered := c.sw.delivered ++ [(o, e.frame)] } } else c

/-- One cell leaves the stage of output o for the line or the consumer. -/
def Core.drainCell (c : Core) (o id : Nat) : Core :=
  match c.entry id with
  | none => c
  | some e =>
    let k := (e.copy o).gone + 1
    let fin := e.ended.isSome && Nat.ble e.cells k
    let c := c.mapEntry id (fun e => e.mapCopy o (fun x => { x with gone := k, done := fin }))
    if !fin then c else if o < 4 then c.lineEnd o e else c.consume o e

/-- R174: a ring port sends what its line has taken by now; a consumer at SP_4 to SP_15, whose rate the spec does not give, takes
one cell a slot (DESIGN CHOICE, log entry 99). -/
def Core.drainOut (c : Core) (o : Nat) : Core :=
  let x := c.swOut o
  match x.stage with
  | [] => c
  | id :: rest =>
    if 4 ≤ o then (c.setSwOut o { x with stage := rest }).drainCell o id
    else if x.busy ≤ c.now * 10 ∧ (c.drains o ∨ c.onLine o id) then
      (c.setSwOut o { x with stage := rest, busy := max x.busy (c.now * 10 - c.cellTime o) + c.cellTime o }).drainCell o id
    else c

/-! The scheduler of one slot (R175 to R182). -/

/-- Cells of an entry that have arrived: all once it has ended; while it arrives, one and one more every 51.2 ns, the last
one only at its end (R175). -/
def Core.availCells (c : Core) (e : SwEntry) : Nat :=
  match e.ended with
  | some _ => e.cells
  | none => min (e.cells - 1) (1 + (c.now - e.since) * 10 / 512)

/-- A frame that arrives may start only where it is cut through (R153); every other frame only when it is complete. -/
def SwEntry.mayStart (e : SwEntry) : Bool := e.ended.isSome || e.cut

/-- R173: the entry is at the head of its queue for output o: no unfinished entry of its input, class and part that entered
before it is unicast for o, or multicast, as it is. -/
def Core.atHead (c : Core) (e : SwEntry) (o : Nat) : Bool :=
  let multi := Nat.blt 1 e.outs.length
  !(c.sw.entries.takeWhile (fun x => x.id != e.id)).any (fun x => x.inp == e.inp && x.frame.cls == e.frame.cls
    && x.frame.urgent == e.frame.urgent && (Nat.blt 1 x.outs.length) == multi
    && (if multi then x.outs.any (fun y => !y.done && Nat.blt y.sent x.cells)
        else x.outs.any (fun y => y.out == o && !y.done && Nat.blt y.sent x.cells)))

/-- R117: the batches of one census leave a port in the order in which the node took or made them. -/
def Core.censusTurn (c : Core) (e : SwEntry) (o : Nat) : Bool :=
  e.frame.kind != 8 || !(c.sw.entries ++ c.sw.seeking).any (fun x => x.frame.kind == 8 && Nat.blt x.id e.id
    && x.frame.payload.take 4 == e.frame.payload.take 4
    && x.outs.any (fun y => y.out == o && !y.done && Nat.blt y.sent x.cells))

/-- R174: output o has room for one more cell, those on the way counted. -/
def Core.stageRoom (c : Core) (o : Nat) : Bool :=
  Nat.blt ((c.swOut o).stage.length + (c.sw.pipe.filter (fun w => w.out == o)).length) 4

/-- The entries that request output o in this slot, of inputs not yet matched: only the locked frame's next cell at a
locked output. -/
def Core.requests (c : Core) (o : Nat) (busyIn : List Nat) : List SwEntry :=
  let x := c.swOut o
  if !c.stageRoom o then []
  else c.sw.entries.filter (fun e =>
    let y := e.copy o
    !y.done && Nat.blt y.sent (c.availCells e) && !busyIn.contains e.inp
      && (match x.lock with
          | some id => e.id == id && (c.drains o || c.onLine o id)
          | none => c.drains o && y.sent == 0 && e.mayStart && c.atHead e o && c.censusTurn e o))

/-- The first input at or after `start`, in port order and round again, that a list holds. -/
def rotate (start : Nat) (inputs : List Nat) : Option Nat :=
  ((List.range 16).map (fun i => (start + i) % 16)).find? (fun i => inputs.contains i)

/-- R177: the input that output o grants among its requests at a frame start, and whether the choice was a rotation
(a fresh hold budget) or an insertion. The last sentence of R177 is read of the requests that step 2 leaves: an ordinary ring
request does not bar an URGENT local one (DEDUCED, log entry 99). -/
def Core.grantInput (c : Core) (o : Nat) (rs : List SwEntry) : Option (Nat × Nat × Bool × Bool × Bool) :=
  match rs with
  | [] => none
  | r :: _ =>
    let cls := rs.foldl (fun a e => min a e.frame.cls) r.frame.cls
    let rs := rs.filter (fun e => e.frame.cls == cls)
    let urg := rs.any (fun e => e.frame.urgent)
    let rs := if urg then rs.filter (fun e => e.frame.urgent) else rs
    let ins := rs.map (fun e => e.inp)
    let locals := ins.filter (fun i => Nat.ble 4 i)
    let rings := ins.filter (fun i => Nat.blt i 4)
    let x := c.swOut o
    let t := mapGet 0 (o * 8 + cls) c.sw.insT
    let k := mapGet 1 (o * 8 + cls) c.sw.insK
    if o < 4 ∧ ¬ locals.isEmpty ∧ k ≤ t then (rotate x.localPtr locals).map (fun i => (i, cls, urg, false, true))
    else
      let (h, b) := mapGet (15, 0) cls x.holder
      if ins.contains h && Nat.blt 0 b then some (h, cls, urg, false, false)
      else
        let pool := if o < 4 ∧ ¬ rings.isEmpty then rings else ins
        (rotate (h + 1) pool).map (fun i => (i, cls, urg, true, false))

/-- One grant: output, entry, and how it was chosen. -/
structure Grant where
  out : Nat
  entry : SwEntry
  fresh : Bool
  insertion : Bool
  deriving DecidableEq, Repr

/-- The grant of output o: of the granted input the multicast entry before the unicast one (R178). -/
def Core.grantOf (c : Core) (o : Nat) (busyIn : List Nat) : Option Grant :=
  let rs := c.requests o busyIn
  match (c.swOut o).lock with
  | some _ => rs.head?.map (fun e => { out := o, entry := e, fresh := false, insertion := false })
  | none => match c.grantInput o rs with
    | none => none
    | some (i, cls, urg, fresh, ins) =>
      let mine := rs.filter (fun e => e.inp == i && e.frame.cls == cls && e.frame.urgent == urg)
      let pick := (mine.find? (fun e => Nat.blt 1 e.outs.length)).orElse (fun _ => mine.head?)
      pick.map (fun e => { out := o, entry := e, fresh := fresh, insertion := ins })

/-- The entry locked at some output for this input (R178). -/
def Core.lockedEntry (c : Core) (i : Nat) : Option Nat :=
  (List.range 16).findSome? (fun o => match (c.swOut o).lock with
    | some id => match c.entry id with
      | some e => if e.inp = i then some id else none
      | none => none
    | none => none)

/-- R178: which of two grants an input accepts first. -/
def Core.acceptsBefore (c : Core) (i : Nat) (a b : Grant) : Bool :=
  let ptr (k : Nat) : Nat := mapGet 0 (i * 8 + k) c.sw.acceptPtr
  let ma := Nat.blt 1 a.entry.outs.length
  let mb := Nat.blt 1 b.entry.outs.length
  if a.entry.frame.cls ≠ b.entry.frame.cls then Nat.blt a.entry.frame.cls b.entry.frame.cls
  else if a.entry.frame.urgent ≠ b.entry.frame.urgent then a.entry.frame.urgent
  else if ma ≠ mb then ma
  else Nat.blt ((a.out + 16 - ptr a.entry.frame.cls) % 16) ((b.out + 16 - ptr b.entry.frame.cls) % 16)

/-- R178, R181: the grants that input i accepts: one, or those of one multicast cell: where the outputs that grant it stand at
different cells, the lowest (DESIGN CHOICE, log entry 99). -/
def Core.accepted (c : Core) (i : Nat) (gs : List Grant) : List Grant :=
  let mine := gs.filter (fun g => g.entry.inp == i)
  let mine := match c.lockedEntry i with
    | some id => mine.filter (fun g => g.entry.id == id)
    | none => mine
  match sortBy (c.acceptsBefore i) mine with
  | [] => []
  | g :: rest =>
    let same := (g :: rest).filter (fun x => x.entry.id == g.entry.id)
    let low := same.foldl (fun a x => min a (x.entry.copy x.out).sent) g.entry.cells
    same.filter (fun x => (x.entry.copy x.out).sent == low)

/-- One iteration of request, grant and accept among the inputs and outputs not yet matched. -/
def Core.iterate (c : Core) (acc : List Grant) : List Grant :=
  let outsUsed := acc.map (fun g => g.out)
  let insUsed := acc.map (fun g => g.entry.inp)
  let gs := ((List.range 16).filter (fun o => !outsUsed.contains o)).filterMap (fun o => c.grantOf o insUsed)
  acc ++ (List.range 16).flatMap (fun i => c.accepted i gs)

/-- R163: the frame would start and is over its age: it is removed from this output. CNT_AGED counts at the ring port that it was to
leave by; for a local output at the port where it arrived, and nowhere for a frame of this node (DESIGN CHOICE, log entry
98). -/
def Core.agedOut (c : Core) (g : Grant) : Core :=
  let o := g.out
  let port := if o < 4 then o else g.entry.inp
  (c.incIf (Nat.blt port 4) (Reg.FW_CNT_AGED port)).endCopy g.entry o

/-- R194 to R196: a frame starts at an output: lock, holder, insertion count. -/
def Core.startFrame (c : Core) (g : Grant) : Core :=
  let o := g.out
  let e := g.entry
  let k := e.frame.cls
  let x := { c.swOut o with lock := some e.id }
  let x := if g.fresh then { x with holder := mapSet (15, 0) k (e.inp, c.reg (activeKey e.inp k)) x.holder } else x
  let x := if g.insertion then { x with localPtr := (e.inp + 1) % 16 } else x
  let c := c.setSwOut o x
  let key := o * 8 + k
  let t := mapGet 0 key c.sw.insT
  let c := { c with sw := { c.sw with
    insT := mapSet 0 key (if e.inp < 4 then min 65535 (t + 1) else 0) c.sw.insT
    starts := if c.sw.starts.contains (o, k, e.inp) then c.sw.starts else (o, k, e.inp) :: c.sw.starts } }
  c.incIf (Nat.blt o 4 && Nat.ble 4 e.inp) (Reg.SWO_CNT_INSERT o)

/-- R219: a cell read for output o proves uncorrectable: a frame whose first block has not left is removed there, and one in
transmission will end poisoned, with cause 6 of R157. -/
def Core.spoilCopy (c : Core) (o : Nat) (e : SwEntry) : Core :=
  let c := c.foundBad o 6 e.frame false
  if o < 4 ∧ 0 < (e.copy o).gone then c.mapEntry e.id (fun e => e.mapCopy o (fun y => { y with bad := true })) else c.endCopy e o

/-- One matched cell is on its way: hold budget, frame lock, accept pointer (R175, R178, R195); it will be recorded in the stage two
slots later (R176). The lock ends with the match of the last cell (DEDUCED, log entry 99). -/
def Core.moveCell (c : Core) (g : Grant) : Core :=
  let o := g.out
  let e := g.entry
  let k := e.frame.cls
  let n := (e.copy o).sent
  let lastCell := e.ended.isSome && Nat.ble e.cells (n + 1)
  let c := c.inc (Reg.SWO_CNT_CELLS o)
  let x := c.swOut o
  let (h, b) := mapGet (15, 0) k x.holder
  let x := if h = e.inp then { x with holder := mapSet (15, 0) k (h, b - 1) x.holder } else x
  let x := if lastCell then { x with lock := none } else x
  let c := c.setSwOut o x
  let c := { c with sw := { c.sw with
    pipe := c.sw.pipe ++ [({ out := o, id := e.id, wait := 1 } : Flight)]
    acceptPtr := if lastCell then mapSet 0 (e.inp * 8 + k) ((o + 1) % 16) c.sw.acceptPtr else c.sw.acceptPtr } }
  c.mapEntry e.id (fun e => e.mapCopy o (fun y => { y with sent := n + 1 }))

/-- R176: the cells matched two slots earlier are recorded in their stages, and no longer charged (R184). -/
def Core.land (c : Core) : Core :=
  let (now, later) := c.sw.pipe.partition (fun w => w.wait == 0)
  let c := { c with sw := { c.sw with pipe := later.map (fun (w : Flight) => { w with wait := w.wait - 1 }) } }
  now.foldl (fun (c : Core) w =>
    match c.entry w.id with
    | none => c
    | some e =>
      let x := c.swOut w.out
      ((c.uncharge w.out e.frame.cls 1).setSwOut w.out { x with stage := x.stage ++ [w.id] }).mapEntry w.id
        (fun e => e.mapCopy w.out (fun y => { y with come := y.come + 1 }))) c

/-- The cell of one input that the matches of a slot send: it is read once from its bank, for all its outputs (R181, R218, R219). -/
def Core.runMatches (c : Core) (gs : List Grant) : Core :=
  let live := gs.filter (fun g => !((g.entry.copy g.out).sent == 0 && c.aged g.entry.frame))
  let c := (gs.filter (fun g => (g.entry.copy g.out).sent == 0 && c.aged g.entry.frame)).foldl (fun c g => c.agedOut g) c
  match live with
  | [] => c
  | g :: _ =>
    let (bad, c) := match g.entry.banks[(g.entry.copy g.out).sent]? with
      | some b => c.eccOwner b 8
      | none => (false, c)
    live.foldl (fun (c : Core) (g : Grant) =>
      let c := if (g.entry.copy g.out).sent = 0 then c.startFrame g else c
      let c := c.moveCell g
      match bad, c.entry g.entry.id with
      | true, some e => c.spoilCopy g.out e
      | _, _ => c) c

/-- SWITCH_SLOT_SCHEDULE: one cell slot of 8 ns: the stages drain, cells that have left are freed, three iterations match inputs and
outputs, the cells matched two slots earlier arrive, and the matched ones start (R171, R176, R182). -/
def Core.switchSlot (c : Core) : Core :=
  if !c.up then c
  else
    let c := c.advance 8
    let c := ((List.range 16).foldl (fun c o => c.drainOut o) c).freeLeft.sweepEntries
    let gs := c.iterate (c.iterate (c.iterate []))
    (List.range 16).foldl (fun (c : Core) i => c.runMatches (gs.filter (fun g => g.entry.inp == i))) c.land

/-! Windows and limits. -/

/-- FAIR_WINDOW_END: at the next 1 ms boundary of system time the source counts become A and K is recomputed (R194,
R196). -/
def Core.fairWindowEnd (c : Core) : Core :=
  if !c.up then c
  else
    let c := c.endMs c.sw.fairMs
    let keys := c.sw.srcKeys
    let cells := (List.range 16).flatMap (fun p => (List.range 7).map (fun k => (p, k + 1)))
    let c := cells.foldl (fun c (x : Nat × Nat) =>
      let n := (keys.filter (fun y => y.1 == x.1 && y.2.1 == x.2)).length
      c.setReg (activeKey x.1 x.2) (max 1 (min 1023 n))) c
    let outs := (List.range 4).flatMap (fun o => (List.range 7).map (fun k => (o, k + 1)))
    let kOf (o k : Nat) : Nat :=
      let ins := (c.sw.starts.filter (fun s => s.1 == o && s.2.1 == k && Nat.blt s.2.2 4)).map (fun s => s.2.2)
      max 1 (min 1023 (ins.foldl (fun a i => a + c.reg (activeKey i k)) 0))
    { c with sw := { c.sw with
      insK := outs.foldl (fun m (x : Nat × Nat) => mapSet 1 (x.1 * 8 + x.2) (kOf x.1 x.2) m) []
      fairMs := c.sysNs / 1000000
      srcKeys := []
      starts := [] } }

/-- BUF_ACCOUNT_CHECK: at the next 1 ms boundary the cells free and in use are added up (R192). -/
def Core.accountCheck (c : Core) : Core :=
  if !c.up then c
  else
    let c := c.endMs c.sw.accountMs
    let c := { c with sw := { c.sw with accountMs := c.sysNs / 1000000 } }
    let used : Nat := c.sw.entries.foldl (fun a e => a + (e.cells - e.freed)) 0
    if c.reg Reg.SW_FREE + used = c.reg Reg.SW_POOL then c
    else (c.inc Reg.CNT_ACCOUNT).report Src.SW_BUF_ACCOUNT noInst 0

/-- Sum of the 128 limits with that of output p and class k replaced by v. -/
def Core.limitSum (c : Core) (p k v : Nat) : Nat :=
  (List.range 16).foldl (fun a i => (List.range 8).foldl (fun a j =>
    a + (if i = p ∧ j = k then v else c.reg (limitKey i j))) a) 0

/-- BUF_LIMIT_WRITE: RANGE when the limits would exceed SW_POOL, else at once (R189). -/
def Core.bufLimitEffect (c : Core) (p k v : Nat) : Nat × Core :=
  let s := c.limitSum p k v
  if c.reg Reg.SW_POOL < v ∨ c.reg Reg.SW_POOL < s then (0x0B, c)
  else (0, (c.setReg (limitKey p k) v).setReg Reg.SW_LIMIT_SUM s)

/-- R164, R165 case 2: the entries bound for port o are removed from its queue, unless in transmission; gives how many. -/
def Core.flushPort (c : Core) (o : Nat) (drop : SwEntry → Bool) : Core × Nat :=
  let hit (e : SwEntry) : Bool := e.outs.any (fun x => x.out == o && !x.done && x.gone == 0) && drop e
  let gone := c.sw.entries.filter hit
  let n := gone.length + (c.sw.seeking.filter hit).length
  let c := gone.foldl (fun (c : Core) e => c.endCopy e o) c
  let c := { c with sw := { c.sw with
    seeking := (c.sw.seeking.map (fun e => if hit e then { e with outs := e.outs.filter (fun y => y.out != o) } else e)).filter
      (fun e => !e.outs.isEmpty) } }
  (c.sweepEntries, n)

/-- The frames queued for port o wait in a frozen queue (R164, R165). -/
def Core.markHeld (c : Core) (o : Nat) : Core :=
  let mark (e : SwEntry) : SwEntry := e.mapCopy o (fun y => { y with held := y.gone == 0 })
  { c with sw := { c.sw with entries := c.sw.entries.map mark, seeking := c.sw.seeking.map mark } }

end Sys2Proof.Machine
end

