-- ==== Sys2Proof/Machine/Forward.lean ====
section
/-! DEFINITION. What a node does with a received frame (chapter 04, R149 to R167): strip, delivery, forwarding, poisoned
ends, the tracker's expiry and the hold of a failed port. -/

namespace Sys2Proof.Machine

/-- The PHASE of a CENSUS payload (R114). -/
def censusPhase (f : Frame) : Nat := fieldAt f.payload 4 1

/-- R116: census (g, o) supersedes census (h, p). -/
def supersedes (g o h p : Nat) : Bool :=
  let d := (g + 65536 - h % 65536) % 65536
  (Nat.ble 1 d && Nat.blt d 32768) || (d == 0 && Nat.blt o p)

/-- R116: the census of this frame is superseded by the one the node has handled. -/
def Core.censusStale (c : Core) (pair : Nat) (f : Frame) : Bool :=
  match (c.census pair).handled with
  | some (g, o) => supersedes g o (fieldAt f.payload 0 2) (fieldAt f.payload 2 2)
  | none => false

/-- R112, R149 step 7: the node delivers the frame that arrived on a pair. -/
def Core.delivers (c : Core) (pair : Nat) (f : Frame) : Bool :=
  c.addrOn pair != 0xFFFF && (f.dst == c.addrOn pair || (c.inPair && f.dst == c.cfg Reg.TW_SERVICE_ADDR)
    || (isMcast f.dst && c.coversNode f.dst))

/-- The frame that arrives at port p from now. -/
def Core.setArriving (c : Core) (p : Nat) (a : Arriving) : Core :=
  { c with fwd := { c.fwd with arriving := (p, a) :: c.fwd.arriving.filter (fun x => x.1 != p) } }

/-- A frame that still arrives at port p enters the switch. -/
def Core.submitRx (c : Core) (p : Nat) (outs : List Nat) (a : Arriving) (f : Frame) : Core :=
  let id := c.sw.nextId
  let live := outs.filter (fun q => !c.discarding q)
  let c := (c.setArriving p { a with entry := if live.isEmpty then none else some id }).submit p outs f
  { c with sw := { c.sw with seeking := c.sw.seeking.map (fun (e : SwEntry) =>
    if e.id = id then { e with ended := none, cells := (f.len + 36 + 63) / 64, cut := live.any (c.cutsTo p) } else e) } }

/-- R149 step 3: the frame goes to its consumer and is not forwarded. A batch of the node's own census has returned where it would
leave as an own frame: on a wrapped segment it goes on at its middle pass (R118). -/
def Core.consumed (c : Core) (p : Nat) (f : Frame) : Bool :=
  let x := c.census (pairOf p)
  let room : Bool := censusPhase f == 0 && !f.last && Nat.blt (fieldAt f.payload 6 1) 31
    && !(x.handled == some (fieldAt f.payload 0 2, fieldAt f.payload 2 2) && x.appended)
  f.kind == 7 || f.kind == 6 || (f.kind == 8 && (Nat.ble 2 (censusPhase f) || c.censusStale (pairOf p) f
    || (f.src == c.addrOn (pairOf p) && c.leavesAsOwn p f) || room))

/-- R149 steps 3 to 8 at a port in JOINED, where the check of the frame begins (R223). -/
def Core.handleHeader (c : Core) (p : Nat) (f : Frame) : Core :=
  let pair := pairOf p
  let (inv, c) := c.beginCheck 0x01 p
  let a : Arriving := { frame := f, since := c.now, inverted := inv }
  if c.consumed p f then c.setArriving p a
  else if c.ownFrame pair f && c.leavesAsOwn p f then
    (c.inc (if isMcast f.dst then Reg.FW_CNT_STRIPPED p else Reg.FW_CNT_UNDELIVERED p)).setArriving p a
  else if c.orphan pair f then (c.inc (Reg.FW_CNT_ORPHAN p)).setArriving p a
  else if c.aged f then (c.inc (Reg.FW_CNT_AGED p)).setArriving p a
  else
    let own := c.delivers pair f && f.kind != 8
    let here := if own then [c.consumerPort f] else []
    let a := { a with deliver := own }
    match c.routeOf p f with
    | .ports outs => c.submitRx p (here ++ outs) a f
    | .cross outs => c.submitRx p (here ++ outs) a { f with hop := f.hop + 1 }
    | .hopLimit => (c.inc (Reg.FW_CNT_HOP_LIMIT p)).submitRx p here a f
    | .drop => (c.inc Reg.CNT_LONE_DROP).submitRx p here a f

/-- FRAME_RX_HEADER: a header has arrived at ring port p (R101, R149). -/
def Core.frameRxHeader (c : Core) (p : Nat) (f : Frame) : Core :=
  let st := c.reg (Reg.RP_STATE p)
  if !c.up || Nat.blt st 3 then c
  else
    let (ok, c) := c.headerOk p f
    if !ok then { c with fwd := { c.fwd with arriving := c.fwd.arriving.filter (fun x => x.1 != p) } }
    else if st = 5 then c.handleHeader p f
    else c

/-- R185: the cells that a frame keeps when it ends bad: one that ends early keeps those of the bytes that arrived, the next cell of an
output that has started it, which carries its end, and what has been freed already. -/
def endCells (cause bytes : Nat) (e : SwEntry) : Nat :=
  if cause = 2 ∨ cause = 4 then
    min e.cells (e.outs.foldl (fun a o => max a (o.sent + 1)) (max (max 1 e.freed) ((bytes + 63) / 64)))
  else e.cells

/-- The entry of an arriving frame ends bad after so many bytes: what has not started on a ring port is removed and local copies are
discarded; what has started is sent on with a poisoned end (R156), or ended at once where the receive side failed (R159). A frame
that ends early releases the cells it did not use (R185). -/
def Core.endBad (c : Core) (id cause bytes : Nat) : Core :=
  match c.entry id with
  | none => c.unseek id
  | some e =>
    let n := endCells cause bytes e
    let c := e.outs.foldl (fun (c : Core) (o : OutCopy) =>
      if o.done then c
      else if 4 ≤ o.out ∨ o.gone = 0 then c.endCopy e o.out
      else if cause = 4 then c.cutOff e o.out 4
      else c.uncharge o.out e.frame.cls (e.cells - n)) c
    let c := c.mapEntry id (fun e => { e with cells := n, banks := e.banks.take n, ended := some false, cause := cause })
    (c.setReg Reg.SW_FREE (c.reg Reg.SW_FREE + (e.cells - n))).sweepEntries

/-- The entry of an arriving frame ends good. -/
def Core.endGood (c : Core) (id : Nat) (f : Frame) : Core :=
  let fin (e : SwEntry) : SwEntry := if e.id = id then { e with ended := some true, frame := { f with hop := e.frame.hop } } else e
  { c with sw := { c.sw with entries := c.sw.entries.map fin, seeking := c.sw.seeking.map fin } }

/-- Removes the copy of an entry that is bound for a consumer of this node (a duplicate, R161). -/
def Core.dropLocal (c : Core) (id : Nat) : Core :=
  let c := match c.entry id with
    | some e => (e.outs.filter (fun (o : OutCopy) => Nat.ble 12 o.out && !o.done)).foldl (fun (c : Core) (o : OutCopy) => c.endCopy e o.out) c
    | none => c
  let cut (e : SwEntry) : SwEntry := if e.id = id then { e with outs := e.outs.filter (fun o => Nat.blt o.out 12) } else e
  let c := { c with sw := { c.sw with seeking := (c.sw.seeking.map cut).filter (fun e => !e.outs.isEmpty) } }
  c.sweepEntries

/-- R150, R167: a delivered system-wide multicast crosses a bridge to its other pair, unless the route of its source
segment on the arriving side names the bridge. -/
def Core.bridgeMulticast (c : Core) (p : Nat) (f : Frame) : Core :=
  let pair := pairOf p
  if f.dst ≠ 0xFFFF ∨ c.segRoute pair (segOf f.src) = c.addrOn pair then c
  else match c.crossPorts (1 - pair) f with
    | none => c
    | some outs =>
      if c.reg Reg.HOP_LIMIT ≤ f.hop then c.inc (Reg.FW_CNT_HOP_LIMIT p) else c.submit p outs { f with hop := f.hop + 1 }

/-- A good frame that the node delivers goes through duplicate discard to its consumer, and across a bridge (R150, R161). -/
def Core.deliverRx (c : Core) (p : Nat) (entry : Option Nat) (f : Frame) : Core :=
  let (fresh, c) := c.dedup f
  if fresh then c.bridgeMulticast p f
  else match entry with
    | some id => c.dropLocal id
    | none => c

/-- The frame that arrives at port p ends, as its ring port finds it (R150, R156, R157). -/
def Core.endArriving (c : Core) (p : Nat) (a : Arriving) (f : Frame) (e : EndKind) : Core :=
  let c := { c with fwd := { c.fwd with arriving := c.fwd.arriving.filter (fun x => x.1 != p) } }
  let (bad, c) := c.rxEnd p a.inverted f e
  match bad with
  | some cause =>
    (match a.entry with
      | some id => c.endBad id cause (f.payload.length + 36)
      | none => c)
  | none =>
    let c := match a.entry with
      | some id => c.endGood id f
      | none => c
    if a.deliver then c.deliverRx p a.entry f else c

/-- FRAME_RX_END: the frame at ring port p ends (R150, R156, R157, R161). `body` is the frame as it arrived, whose header is that of
FRAME_RX_HEADER. -/
def Core.frameRxEnd (c : Core) (p : Nat) (body : Frame) (e : EndKind) : Core :=
  match c.fwd.arriving.find? (fun x => x.1 == p) with
  | none => c
  | some (_, a) => c.endArriving p a { a.frame with payload := body.payload, check := body.check } e

/-- R142 cause 4: the receive side of port p fails while a frame arrives: so much of it as the line has brought by now. -/
def Core.cutArriving (c : Core) (p : Nat) : Core :=
  match c.fwd.arriving.find? (fun x => x.1 == p) with
  | none => c
  | some (_, a) =>
    let bytes := (c.now - a.since) * 10 / (if c.rateOf p = 0 then 8 else 80) + 32
    c.endArriving p a { a.frame with payload := zeros (min a.frame.len (bytes - 36)) } .link

/-- CUT_THROUGH_UNDERRUN: output o needs a block that the input has not supplied; the frame ends there at once, poisoned with cause
5 (R157, R159). -/
def Core.underrun (c : Core) (o : Nat) : Core :=
  match c.sw.entries.find? (fun e => e.ended.isNone && e.outs.any (fun x => x.out == o && !x.done && Nat.blt 0 x.gone)) with
  | none => c
  | some e =>
    let c := (c.recordPoison o 5 e.frame).reportOnce Src.RING_POISON o 0 5 (checkDetail 0x01 e.frame) false
    c.cutOff e o 5

/-- FRAME_ORIGINATE: a subsystem at switch port inp hands a frame to the ring (R151, R160), of a kind and class that go together and
through the switch (R14, R15). -/
def Core.frameOriginate (c : Core) (inp : Nat) (f : Frame) : Core :=
  if !c.up then c
  else if !c.ownAddress f.dst && !c.mayOriginate f then c.inc Reg.CNT_NOT_MEMBER
  else
    let (g, c') := c.make f.kind f.cls f.dst f.stream f.tick f.urgent f.segm f.last f.payload
    if g.kind = 6 ∨ g.kind = 7 ∨ g.badHeader = true then c else c'.originate inp g

/-- TRACK_AGE_EXPIRY: the tracker entry longest unused reaches TRACK_AGE and is freed (R162). -/
def Core.trackExpiry (c : Core) : Core :=
  match c.fwd.tracker with
  | [] => c
  | t :: ts =>
    let i := oldestTrack ts 1 0 t.used
    let e := (c.fwd.tracker[i]?).getD t
    let c := c.advanceTo (e.used + 1000000 * c.reg Reg.TRACK_AGE)
    (c.setTracker (c.fwd.tracker.eraseIdx i)).inc Reg.CNT_TRACK_EXPIRE

/-- R164: the output queue of port p freezes for LINK_HOLD. -/
def Core.freeze (c : Core) (p : Nat) : Core :=
  let h : Hold := { since := c.now, ends := c.now + 1000 * c.reg Reg.LINK_HOLD }
  (({ c with fwd := { c.fwd with holds := (p, h) :: c.fwd.holds.filter (fun x => x.1 != p) } }).setReg
    (Reg.FW_HOLD_STATE p) 1).markHeld p

/-- The hold of port p ends. -/
def Core.unfreeze (c : Core) (p : Nat) : Core :=
  ({ c with fwd := { c.fwd with holds := c.fwd.holds.filter (fun x => x.1 != p) } }).setReg (Reg.FW_HOLD_STATE p) 0

/-- LINK_HOLD_EXPIRY: every queued frame is removed and counted (R165 case 2). -/
def Core.holdExpiry (c : Core) (p : Nat) : Core :=
  match c.fwd.holds.find? (fun x => x.1 == p) with
  | none => c
  | some (_, h) =>
    let c := c.advanceTo h.ends
    let (c, n) := c.flushPort p (fun _ => true)
    (c.incBy (Reg.FW_CNT_HOLD_FLUSH p) n).unfreeze p

/-- HOLD_RESUME: port p carries traffic again within LINK_HOLD; aged frames are removed and the queue resumes, each of its frames
counted as it is sent (R165 case 1). -/
def Core.holdResume (c : Core) (p : Nat) : Core :=
  match c.fwd.holds.find? (fun x => x.1 == p) with
  | none => c
  | some (_, h) =>
    if !c.joined p || (c.port p).failing || Nat.blt h.ends c.now then c
    else
      let (c, n) := c.flushPort p (fun e => c.aged e.frame)
      (c.incBy (Reg.FW_CNT_AGED p) n).unfreeze p

end Sys2Proof.Machine
end

