-- ==== Sys2Proof/Machine/Ring.lean ====
section
/-! DEFINITION. Ring ports, wrap and the lone node, and the bramble census (chapter 03, R91 to R122). -/

namespace Sys2Proof.Machine

/-! Member records and census frames (R114, R115). -/

/-- The 32 bytes of a member record. -/
def Member.bytes (m : Member) : Bytes :=
  leBytes 2 m.addr ++ leBytes 2 m.service ++ [byteOf m.twin, byteOf m.flags, byteOf m.ports, byteOf m.addrSrc]
    ++ leBytes 2 m.family ++ leBytes 2 m.other ++ leBytes 2 m.segment ++ zeros 2 ++ padTo 16 m.uid

/-- The member record in 32 bytes. -/
def memberOfBytes (b : Bytes) : Member :=
  { addr := fieldAt b 0 2, service := fieldAt b 2 2, twin := fieldAt b 4 1, flags := fieldAt b 5 1,
    ports := fieldAt b 6 1, addrSrc := fieldAt b 7 1, family := fieldAt b 8 2, other := fieldAt b 10 2,
    segment := fieldAt b 12 2, uid := slice b 16 16 }

/-- The records of a CENSUS payload, n of them from offset 16. -/
def recordsOf (b : Bytes) : List Member :=
  (List.range (fieldAt b 6 1)).map (fun i => memberOfBytes (slice b (16 + 32 * i) 32))

/-- The head of a CENSUS payload. -/
structure CensusHead where
  gen : Nat
  origin : Nat
  phase : Nat
  batch : Nat
  cause : Nat
  apply : Nat
  base : Nat
  deriving DecidableEq, Repr

/-- The payload of a CENSUS frame. -/
def censusPayload (h : CensusHead) (ms : List Member) : Bytes :=
  leBytes 2 h.gen ++ leBytes 2 h.origin ++ [byteOf h.phase, byteOf h.batch, byteOf ms.length, byteOf h.cause]
    ++ leBytes 6 h.apply ++ leBytes 2 h.base ++ ms.flatMap Member.bytes

/-- The head read from a payload. -/
def headOf (b : Bytes) : CensusHead :=
  { gen := fieldAt b 0 2, origin := fieldAt b 2 2, phase := fieldAt b 4 1, batch := fieldAt b 5 1,
    cause := fieldAt b 7 1, apply := fieldAt b 8 6, base := fieldAt b 14 2 }

/-- R115: TWIN_STATE of the node's record. -/
def Core.twinCode (c : Core) : Nat :=
  if !c.inPair then 0
  else if c.node.contested then 3
  else if c.node.base = 5 then 1 else 2

/-- The ADDR_STATE of a pair. -/
def Core.addrState (c : Core) (pair : Nat) : Nat := c.reg (if pair = 0 then Reg.ADDR_STATE else Reg.BRANCH_STATE)

/-- R123: the node is a bridge: its branch pair has joined a segment. -/
def Core.isBridge (c : Core) : Bool := c.joined 2 || c.joined 3

/-- R104, R105: the node is wrapped on the side of port p; a port that is back in JOINED unwraps it. -/
def Core.wrapShown (c : Core) (p : Nat) : Bool := (c.port p).wrapped && !c.joined p

/-- R115: the node's own record on a pair, sent by port p. -/
def Core.ownRecord (c : Core) (pair p : Nat) : Member :=
  let a := c.addrOn pair
  let st := c.addrState pair
  let uid := c.blob Reg.DEVICE_UID
  { addr := a, service := if c.inPair then c.cfg Reg.TW_SERVICE_ADDR else 0xFFFF, twin := c.twinCode
    flags := b2n (a == 0xFFFF && st != 3) + b2n (st == 3) * 2 + b2n c.isBridge * 4 + b2n (c.wrapShown (2 * pair)) * 8
      + b2n (c.wrapShown (2 * pair + 1)) * 16 + b2n c.node.degraded * 32
      + b2n ((c.census pair).table.any (fun m => m.uid == uid && m.addr == a && a != 0xFFFF)) * 64
      + b2n (st == 3 && c.reg Reg.DUP_POLICY == 1) * 128
    ports := b2n (c.joined 0) + b2n (c.joined 1) * 2 + b2n (c.joined 2) * 4 + b2n (c.joined 3) * 8 + p * 16
    addrSrc := st, other := if c.isBridge then c.addrOn (1 - pair) else 0xFFFF, segment := c.segmentOn pair, uid := uid }

/-- A CENSUS frame of an originator. -/
def censusFrame (origin seg seq tick : Nat) (last : Bool) (h : CensusHead) (ms : List Member) : Frame :=
  ({ kind := 8, cls := 4, mcast := true, segm := true, last := last, dst := seg * 1024 + 0x3FF, src := origin,
     okey := origin, seq := seq, tick := tick, payload := censusPayload h ms } : Frame).seal

/-- Sends a CENSUS frame of this node on the primary ring of a pair (R108). -/
def Core.sendCensus (c : Core) (pair : Nat) (last : Bool) (h : CensusHead) (ms : List Member) : Core :=
  let a := c.addrOn pair
  let (q, c) := c.nextSeq a 4 0
  c.submit 14 (c.turn (2 * pair)).toList (censusFrame a (c.segmentOn pair) q c.tick last h ms)

/-- CENSUS_STATE belongs to the home pair. -/
def Core.censusState (c : Core) (pair v : Nat) : Core := if pair = 0 then c.setReg Reg.CENSUS_STATE v else c

/-! The census (R113 to R121). -/

/-- The 16 bytes of a UID as a number, for R118's lowest UID. -/
def uidNum (m : Member) : Nat := leVal m.uid

/-- R118 item 1: whether record x loses its NODE_ADDR to another record. -/
def losesAddr (ms : List Member) (x : Member) : Bool :=
  x.addr != 0xFFFF && !bit x.flags 0 && !bit x.flags 1 &&
    ms.any (fun y => y.addr == x.addr && !bit y.flags 0 && !bit y.flags 1 && y != x &&
      ((bit y.flags 6 && !bit x.flags 6) || (bit y.flags 6 == bit x.flags 6 && Nat.blt (uidNum y) (uidNum x))))

/-- R118 item 1. -/
def markDuplicates (ms : List Member) : List Member :=
  ms.map (fun x => if losesAddr ms x then { x with flags := setBit x.flags 1 true } else x)

/-- R118 item 2: the lowest free node number from base, then from 0. -/
def freeNumber (base : Nat) (held : List Nat) : Option Nat :=
  ((List.range (0x3FF - base)).map (fun i => base + i) ++ List.range (min base 0x3FF)).find? (fun n => !held.contains n)

/-- R118 item 2: assigns one record. -/
def assignOne (seg base : Nat) (ms : List Member) (uid : Bytes) : List Member :=
  let held := (ms.filter (fun m => m.addr != 0xFFFF && !bit m.flags 0)).map (fun m => m.addr % 1024)
  match freeNumber base held with
  | none => ms
  | some n => ms.map (fun m => if m.uid = uid ∧ (bit m.flags 0 ∨ (bit m.flags 1 ∧ bit m.flags 7)) then
      { m with addr := seg * 1024 + n, flags := setBit (setBit m.flags 0 false) 1 false } else m)

/-- R118 items 1, 2 and 4: the table from the records in the order collected. -/
def buildTable (seg base : Nat) (ms : List Member) : List Member :=
  let ms := markDuplicates ms
  let needy := sortBy (fun (a b : Member) => Nat.blt (uidNum a) (uidNum b))
    (ms.filter (fun m => bit m.flags 0 || (bit m.flags 1 && bit m.flags 7)))
  needy.foldl (fun ms m => assignOne seg base ms m.uid) ms

/-- A list cut into parts of 31 records. -/
def batches : Nat → List Member → List (List Member)
  | 0, _ => []
  | n + 1, ms => if ms.isEmpty then [] else ms.take 31 :: batches n (ms.drop 31)

/-- CENSUS_CLOSE_RETURN: the closing batch is back at the originator, which builds the table and sends the FINAL batches
(R118). -/
def Core.closeReturn (c : Core) (pair : Nat) : Core :=
  let x := c.census pair
  match x.own, x.handled with
  | true, some (gen, origin) =>
    let ms := buildTable (c.segmentOn pair) (c.reg Reg.ASSIGN_BASE) x.returned
    let apply := (c.tickNow + c.ticksOfUs x.lead) % tickMod
    let parts := batches 34 ms
    let c := parts.zipIdx.foldl (fun (c : Core) (b : List Member × Nat) =>
      c.sendCensus pair (b.2 + 1 == parts.length)
        { gen := gen, origin := origin, phase := 1, batch := b.2, cause := x.cause, apply := apply,
          base := c.reg Reg.ASSIGN_BASE } b.1) c
    (c.setCensus pair { x with own := false, returned := [], deadline := none, finalEnd := none,
                               pending := some { tick := apply, gen := gen, origin := origin, members := ms } }).censusState pair 3
  | _, _ => c

/-- R113: the node originates a census of a pair with a cause; one that falls due while no port of the pair is in JOINED
and the node is not lone is held. A lone node's census returns at once through its loopback. -/
def Core.originateCensus (c : Core) (pair cause : Nat) : Core :=
  let x := c.census pair
  let a := c.addrOn pair
  if a = 0xFFFF ∨ ¬ c.up then c
  else if (c.turn (2 * pair)).isNone ∧ ¬ (pair = 0 ∧ c.ring.lone) then c.setCensus pair { x with held := some cause }
  else
    let gen := (x.newest + 1) % 65536
    let me := c.ownRecord pair ((c.turn (2 * pair)).getD (2 * pair))
    let h : CensusHead := { gen := gen, origin := a, phase := 0, batch := 0, cause := cause, apply := 0,
                            base := c.reg Reg.ASSIGN_BASE }
    let lone : Bool := pair == 0 && c.ring.lone
    let c := (c.setCensus pair { x with newest := gen, handled := some (gen, a), cause := cause, own := true, appended := true,
                                        lead := c.reg Reg.APPLY_LEAD, returned := if lone then [me] else [], finals := [], gap := false,
                                        deadline := some (c.now + 1000000 * c.reg Reg.CENSUS_TIMEOUT), finalEnd := none,
                                        held := none, pending := none }).censusState pair 1
    if lone then c.closeReturn pair
    else (c.sendCensus pair false h [me]).sendCensus pair true { h with batch := 255 } []

/-- R116: a census newer than the one handled is taken up and the old one abandoned. -/
def Core.takeCensus (c : Core) (pair : Nat) (h : CensusHead) : Core :=
  let x := c.census pair
  let newest := if supersedes h.gen 0 x.newest 0 then h.gen else x.newest
  if x.handled = some (h.gen, h.origin) then c.setCensus pair { x with newest := newest }
  else c.setCensus pair { x with newest := newest, handled := some (h.gen, h.origin), cause := h.cause, own := false,
                                 appended := false, returned := [], finals := [], gap := false, deadline := none,
                                 finalEnd := none, pending := none }

/-- The management subsystem takes a census frame that arrived whole at port p: the checks of R149 and R208, then the
supersession of R116; none when the frame goes no further. -/
def Core.takeCensusFrame (c : Core) (p : Nat) (f : Frame) : Bool × Core :=
  if !c.up || !c.joined p then (false, c)
  else
    let (ok, c) := c.mgmtCheck f
    if !ok then (false, c)
    else if c.censusStale (pairOf p) f then (false, c.inc Reg.CNT_CENSUS_SUPERSEDED)
    else (true, c.takeCensus (pairOf p) (headOf f.payload))

/-- R117: the batch that a node makes from one it received at port p goes on along the primary ring, under the SEQUENCE of the batch
received (DESIGN CHOICE, log entry 108). -/
def Core.passBatch (c : Core) (p : Nat) (f : Frame) (h : CensusHead) (ms : List Member) : Core :=
  c.submit 14 (c.turn (otherPort p)).toList ({ f with payload := censusPayload h ms } : Frame).seal

/-- CENSUS_COLLECT_RX: a COLLECT batch arrives at port p (R116, R117). A batch of the node's own census has returned only where it
would leave as an own frame (R149 step 4). -/
def Core.censusCollect (c : Core) (p : Nat) (f : Frame) : Core :=
  let (go, c) := c.takeCensusFrame p f
  let pair := pairOf p
  let h := headOf f.payload
  let ms := recordsOf f.payload
  let x := c.census pair
  if !go || h.phase != 0 then c
  else if x.own then
    if !c.leavesAsOwn p f then c
    else if f.last then c.closeReturn pair else c.setCensus pair { x with returned := x.returned ++ ms }
  else if x.appended ∨ f.last then c
  else
    let me := c.ownRecord pair ((c.turn (otherPort p)).getD (otherPort p))
    let c := if ms.length < 31 then c.passBatch p f h (ms ++ [me])
      else c.passBatch p f { h with batch := h.batch + 1 } [me]
    (c.setCensus pair { x with appended := true, finalEnd := some (c.now + 2000000 * c.reg Reg.CENSUS_TIMEOUT) }).censusState
      pair 2

/-- CENSUS_CLOSE_RETURN: the closing batch arrives back at port p (R118). -/
def Core.censusClose (c : Core) (p : Nat) (f : Frame) : Core :=
  if f.last ∧ (headOf f.payload).phase = 0 then c.censusCollect p f else c

/-- R162: at the apply tick, tracker entries whose origin lies in the segment and is in no record are freed. -/
def Core.freeTracks (c : Core) (pair : Nat) : Core :=
  let t := (c.census pair).table
  c.setTracker (c.fwd.tracker.filter (fun k => segOf k.okey != c.segmentOn pair
    || t.any (fun m => m.addr == k.okey || m.service == k.okey)))

/-- The node's address and ADDR_STATE on a pair change; R113 then asks for a census with CAUSE 3. -/
def Core.setAddr (c : Core) (pair a st : Nat) : Core :=
  let same : Bool := c.addrOn pair == a && c.addrState pair == st
  let c := if pair = 0 then (c.setReg Reg.NODE_ADDR a).setReg Reg.ADDR_STATE st
    else (c.setReg Reg.BRANCH_ADDR a).setReg Reg.BRANCH_STATE st
  let c := if pair = c.timePair then c.ownMaster else c
  if same then c else c.originateCensus pair 3

/-- R119: the node reads its own record in a FINAL table. -/
def Core.readOwnRecord (c : Core) (pair : Nat) (t : List Member) : Core :=
  match t.find? (fun m => m.uid == c.blob Reg.DEVICE_UID) with
  | none => c
  | some m =>
    if c.addrOn pair = 0xFFFF ∧ m.addr ≠ 0xFFFF then (c.clear Src.DUP_ADDR noInst 0).setAddr pair m.addr 2
    else if bit m.flags 1 then
      if c.addrState pair = 3 then c.incIf (bit m.flags 7) Reg.CNT_ASSIGN_FAIL
      else (((c.inc Reg.CNT_DUP_ADDR).raise Src.DUP_ADDR noInst 0)).setAddr pair 0xFFFF 3
    else c.incIf (m.addr == 0xFFFF) Reg.CNT_ASSIGN_FAIL

/-- R107: a census applied with 2 or more members takes the node out of DEGRADED. -/
def Core.leaveDegraded (c : Core) (pair : Nat) (t : List Member) : Core :=
  if pair = 0 ∧ c.ring.degradedUntilCensus ∧ ¬ c.ring.lone ∧ 2 ≤ t.length then
    ({ c with ring := { c.ring with degradedUntilCensus := false }
              node := { c.node with degraded := false } }).refreshMode 12
  else c

/-- R120: the table is applied. -/
def Core.applyTable (c : Core) (pair : Nat) (t : PendTable) : Core :=
  let c := c.setCensus pair { c.census pair with pending := none, table := t.members }
  let c := (c.inc Reg.CNT_CENSUS).censusState pair 0
  let c := if pair = 0 then
      (((c.setReg Reg.CENSUS_GEN t.gen).setReg Reg.CENSUS_ORIGIN t.origin).setReg Reg.CENSUS_MEMBERS t.members.length).setReg
        Reg.CENSUS_APPLY t.tick
    else c
  ((c.freeTracks pair).leaveDegraded pair t.members).readOwnRecord pair t.members

/-- Time passes until the boundary of tick t, when that is ahead. -/
def Core.advanceTick (c : Core) (t : Nat) : Core :=
  if tickAhead t c.tickNow then c.advanceSys ((c.tickFull + tickDiff t c.tickNow) * c.period) else c

/-- CENSUS_APPLY: the apply tick of a complete table comes (R120). -/
def Core.censusApply (c : Core) (pair : Nat) : Core :=
  match (c.census pair).pending with
  | none => c
  | some t => (c.advanceTick t.tick).applyTable pair t

/-- CENSUS_FINAL_RX: a FINAL batch arrives at port p and is copied; the LAST one completes the table or leaves it for the
restart of R121 (R120). -/
def Core.censusFinal (c : Core) (p : Nat) (f : Frame) : Core :=
  let (go, c) := c.takeCensusFrame p f
  let pair := pairOf p
  let h := headOf f.payload
  let x := c.census pair
  if !go || h.phase != 1 || f.src == c.addrOn pair || x.pending.isSome then c
  else
    let finals := if x.finals.any (fun b => b.1 == h.batch) then x.finals else x.finals ++ [(h.batch, recordsOf f.payload)]
    let c := c.setCensus pair { x with finals := finals }
    if !f.last then c
    else
      let parts := (List.range (h.batch + 1)).filterMap (fun i => finals.find? (fun b => b.1 == i))
      if parts.length ≤ h.batch then c.setCensus pair { x with finals := finals, gap := true }
      else
        let t : PendTable := { tick := h.apply, gen := h.gen, origin := h.origin, members := parts.flatMap (fun b => b.2) }
        let c := c.setCensus pair { x with finals := finals, finalEnd := none, pending := some t }
        if tickAhead t.tick c.tickNow then c.censusState pair 3
        else (c.inc Reg.CNT_CENSUS_LATE).applyTable pair t

/-- R121: a restarted census. An unaddressed node, which originates none (R113), counts none: the spec leaves this open (DEDUCED, log
entry 101). -/
def Core.restartCensus (c : Core) (pair : Nat) : Core :=
  if c.addrOn pair = 0xFFFF then c else (c.inc Reg.CNT_CENSUS_RESTART).originateCensus pair 5

/-- R113: the twin state has changed, or a census is asked for: both segments of a bridge are surveyed. -/
def Core.censusBoth (c : Core) (cause : Nat) : Core := (c.originateCensus 0 cause).originateCensus 1 cause

/-- CENSUS_TIMEOUT: the closing batch has not returned (R121). -/
def Core.censusTimeout (c : Core) (pair : Nat) : Core :=
  match (c.census pair).deadline with
  | none => c
  | some t => ((c.advanceTo t).setCensus pair { c.census pair with own := false, deadline := none }).restartCensus pair

/-- CENSUS_FINAL_TIMEOUT: a node that appended has no complete FINAL within 2 x CENSUS_TIMEOUT (R121). An unaddressed node
originates no census. -/
def Core.censusFinalTimeout (c : Core) (pair : Nat) : Core :=
  match (c.census pair).finalEnd with
  | none => c
  | some t => ((c.advanceTo t).setCensus pair { c.census pair with finalEnd := none }).restartCensus pair

/-! Wrap and lone (R102 to R107). -/

/-- R135: RING_STATE. -/
def Core.ringState (c : Core) : Core :=
  c.setReg Reg.RING_STATE (if c.ring.lone then 3
    else if (c.port 0).wrapped then 1 else if (c.port 1).wrapped then 2
    else if c.joined 0 && c.joined 1 then 0 else 4)

/-- R106: the node becomes lone, with the CAUSE of the census that follows. -/
def Core.becomeLone (c : Core) (cause : Nat) : Core :=
  if c.ring.lone then c
  else
    let quiet (r : RingPort) : RingPort := { r with wrapped := false, wrapDue := false }
    let c := (c.setPort 0 (quiet (c.port 0))).setPort 1 (quiet (c.port 1))
    let c := { c with ring := { c.ring with lone := true, degradedUntilCensus := false }, node := { c.node with degraded := true } }
    let c := (((c.inc Reg.CNT_LONE).raise Src.LONE noInst 0).ringState).refreshMode 12
    (((c.clear Src.RING_WRAP 0 0).clear Src.RING_WRAP 1 0)).originateCensus 0 cause

/-- A port leaves JOINED for a state (R97, R103). -/
def Core.leaveJoined (c : Core) (p st : Nat) : Core :=
  let c := ((c.setReg (Reg.RP_STATE p) st).inc (Reg.RP_CNT_WRAP p)).peerStop p
  let c := c.setPort p { c.port p with failing := false, wrapEnd := none, viaJoined := true, wrapDue := true }
  if p < 2 ∧ ¬ c.joined (otherPort p) then c.becomeLone 2 else c

/-- WRAP_COMPLETE: the wrap on port p's side is complete (R104, R113). -/
def Core.wrapComplete (c : Core) (p : Nat) : Core :=
  let r := c.port p
  if !r.wrapDue || !c.joined (otherPort p) then c
  else
    let c := ((c.setPort p { r with wrapDue := false, wrapped := true }).raise Src.RING_WRAP p 0).ringState
    c.originateCensus (pairOf p) 2

/-- UNWRAP_COMPLETE: port p is back in JOINED and its side no longer wrapped (R105). -/
def Core.unwrapComplete (c : Core) (p : Nat) : Core :=
  if !c.joined p || !(c.port p).wrapped then c
  else ((c.setPort p { c.port p with wrapped := false, wrapDue := false }).clear Src.RING_WRAP p 0).ringState

/-- R496: the service address proves to be the unit address of the neighbour at a home port, which is the peer (R497): the unit is no
member of a pair. -/
def Core.pairAddrClash (c : Core) (p addr : Nat) : Core :=
  if Nat.ble 2 p || c.cfg Reg.TW_ENABLE != 1 || addr != c.cfg Reg.TW_SERVICE_ADDR || c.twin.addrClash then c
  else
    let c := { c with twin := { c.twin with addrClash := true, joinEnd := none, settleEnd := none, holdEnd := none }
                      disc := { c.disc with mute := false, frozen := false }
                      node := { c.node with base := if c.node.base = 6 then 5 else c.node.base, contested := false } }
    ((c.setReg Reg.TW_STATE 0).setReg Reg.TW_TOKEN 0).refreshMode 10

/-- A port enters JOINED (R99, R107, R113). -/
def Core.enterJoined (c : Core) (p addr nport : Nat) : Core :=
  let c := (((c.setReg (Reg.RP_STATE p) 5).setReg (Reg.RP_NEIGHBOUR p) addr).setReg (Reg.RP_NEIGHBOUR_PORT p) nport).setReg
    (Reg.RP_JOIN_TICK p) c.tick
  let c := c.pairAddrClash p addr
  let c := (c.setPort p { c.port p with reqNext := none, reqSent := false, viaJoined := false, failing := false,
                                        sendFault := false, faultDue := false }).peerBurst p
  let q := otherPort p
  let c := if c.joined q then c else c.setPort q { c.port q with wrapped := true, wrapDue := false }
  let c := if p < 2 then
      let was := c.ring.lone
      let c := { c with ring := { c.ring with
        lone := false, linkWaitEnd := none, degradedUntilCensus := c.ring.degradedUntilCensus || was } }
      (c.clear Src.LONE noInst 0).ringState
    else c
  c.originateCensus (pairOf p) 1

/-- LINK_WAIT_EXPIRY (R106). -/
def Core.linkWaitExpiry (c : Core) : Core :=
  match c.ring.linkWaitEnd with
  | none => c
  | some t =>
    let c := c.advanceTo t
    let c := { c with ring := { c.ring with linkWaitEnd := none } }
    if c.joined 0 || c.joined 1 then c else c.becomeLone 6

/-! Ports (R91 to R101). -/

/-- Bit i of RP_SFP_STATUS. -/
def Core.sfpBit (c : Core) (p i : Nat) (b : Bool) : Core :=
  c.setReg (Reg.RP_SFP_STATUS p) (setBit (c.reg (Reg.RP_SFP_STATUS p)) i b)

/-- RP_SFP_STATUS as read: [3:0] are the levels at the balls (R91, R134). -/
def Core.sfpStatus (c : Core) (p : Nat) : Nat :=
  let r := c.port p
  setBit (setBit (setBit (setBit (c.reg (Reg.RP_SFP_STATUS p)) 0 r.present) 1 r.los) 2 r.txFault) 3 r.txDis

/-- The port is enabled: by RP_ENABLE in force, no isolation of it (R582), and for the branch pair no QUIESCENT (R640). -/
def Core.portOn (c : Core) (p : Nat) : Bool :=
  c.up && c.cfg (Reg.RP_ENABLE p) == 1 && !c.isolatedKind .port p
    && (Nat.blt p 2 || !c.node.quiescent)

/-- Timers and marks of a port that falls back to DOWN or below. -/
def RingPort.idle (r : RingPort) : RingPort :=
  { r with qualEnd := none, holdEnd := none, reqNext := none, reqSent := false, good := false, failing := false,
           wrapEnd := none, faultDue := false }

/-- The port goes to DOWN, ABSENT or DISABLED from any state (R97). A port in DOWN sends its fault while it has no lock (R98); one
below has none, and no longer counts as one that was JOINED (R100; DEDUCED, log entry 16). -/
def Core.portFalls (c : Core) (p st : Nat) : Core :=
  let was := c.reg (Reg.RP_STATE p)
  let c := c.clear Src.PORT_MISWIRED p 0
  let c := if was = 5 then c.leaveJoined p st else c.setReg (Reg.RP_STATE p) st
  let r := (c.port p).idle
  let lock := r.lock && st == 2
  let c := c.setPort p { r with serdes := st != 0, txDis := Nat.blt st 2, lock := lock, sendFault := st == 2 && !lock,
                                viaJoined := r.viaJoined && st == 2 }
  c

/-- R96: the module's identification is read, or the transfer is not acknowledged. -/
def Core.readSfpId (c : Core) (p : Nat) (id : Option Bytes) : Core :=
  match id with
  | none => c.sfpBit p 5 true
  | some b => ((c.setBlob (Reg.RP_SFP_ID p) (padTo 96 b)).sfpBit p 5 false).sfpBit p 4 (bit (fieldAt b 92 1) 6)

/-- R97: the port follows its enable and its module. -/
def Core.portRefresh (c : Core) (p : Nat) : Core :=
  let st := c.reg (Reg.RP_STATE p)
  if !c.portOn p then if st = 0 then c else c.portFalls p 0
  else if !(c.port p).present then (if st = 1 then c else c.portFalls p 1)
  else if st < 2 then c.portFalls p 2
  else c

/-- R96: the module of port p has become present, or was when BOOT ended: its identification is read and the polls begin, whatever
the state of the port. -/
def Core.moduleRead (c : Core) (p : Nat) : Core :=
  let r := c.port p
  if !r.present then c
  else (c.setPort p { r with sfpNext := some (c.now + 1000000 * c.reg Reg.SFP_POLL) }).readSfpId p r.module

/-- PORT_MODULE_PRESENT: RP_p_PRES_N goes low (R96, R97). `id` is what address 0xA0 answers, none without acknowledge. -/
def Core.modulePresent (c : Core) (p : Nat) (id : Option Bytes) : Core :=
  let c := c.setPort p { c.port p with present := true, module := id }
  if c.up then (c.moduleRead p).portRefresh p else c

/-- PORT_MODULE_ABSENT: RP_p_PRES_N goes high (R97). -/
def Core.moduleAbsent (c : Core) (p : Nat) : Core :=
  let c := c.setPort p { c.port p with present := false, module := none, sfpNext := none }
  if c.up then ((c.setBlob (Reg.RP_SFP_ID p) []).setBlob (Reg.RP_SFP_DIAG p) []).portRefresh p else c

/-- R95, R97: lock suffices at 10GBASE-R; at 1000BASE-X the link partner must be present too, as the configuration ordered sets
received show. -/
def Core.linkPartner (c : Core) (p : Nat) (sets : List (BitVec 16)) : Bool := c.rateOf p == 0 || partnerPresent sets

/-- The levels that stand when one condition of R97, or none, is still missing. -/
def RingPort.still (r : RingPort) (cause : Option LinkCause) : RingPort :=
  { r with lock := cause != some .lock, los := cause == some .los, txFault := cause == some .txFault }

/-- PORT_LOCK_GAINED: a port in DOWN gains lock or synchronisation, having received `sets`; `still` is a condition of R97 that it
lacks yet. With every condition, and VDDA_SD in its range (R531), it enters QUALIFYING. At a port below DOWN only LOS and TX_FAULT
follow their balls. -/
def Core.lockGained (c : Core) (p : Nat) (sets : List (BitVec 16)) (still : Option LinkCause) : Core :=
  if c.reg (Reg.RP_STATE p) < 2 then
    c.setPort p { c.port p with los := still == some .los, txFault := still == some .txFault }
  else if c.reg (Reg.RP_STATE p) ≠ 2 then c
  else
    let r := (c.port p).still still
    let c := c.setPort p { r with sendFault := !r.lock }
    if still.isSome || !c.linkPartner p sets || bit (c.reg Reg.SUPPLY_FLAGS) 0 then c
    else (c.setReg (Reg.RP_STATE p) 3).setPort p { c.port p with
      good := true, qualEnd := some (c.now + 1000000 * c.reg Reg.LINK_QUAL) }

/-- A condition of R97 is lost: its level or its counter, and the bad blocks received outside frames (R91, R134). -/
def Core.lostCause (c : Core) (p : Nat) (loss : LinkLoss) : Core :=
  let c := c.incBy (Reg.RP_CNT_BAD_BLOCK p) loss.bad
  let r := c.port p
  match loss.cause with
  | .lock => (c.setPort p { r with lock := false }).incIf r.lock (Reg.RP_CNT_LOCK_LOSS p)
  | .hiBer => c.inc (Reg.RP_CNT_HIBER p)
  | .los => c.setPort p { r with los := true }
  | .txFault => c.setPort p { r with txFault := true }
  | .remoteFault => c.inc (Reg.RP_CNT_RF p)

/-- A frame from the switch is in transmission on ring port p. -/
def Core.sending (c : Core) (p : Nat) : Bool :=
  c.sw.entries.any (fun e => e.outs.any (fun x => x.out == p && !x.done && Nat.blt 0 x.gone))

/-- LINK_FAILURE_DETECT: a JOINED port detects a link failure: WRAP_QUAL starts, the fault is sent after the frame in transmission,
the output queue freezes and a frame then arriving ends (R98, R102, R103, R142, R164). -/
def Core.failureDetect (c : Core) (p : Nat) (cause : LinkLoss) : Core :=
  if !c.joined p then c
  else
    let c := (c.lostCause p cause).witnessFails p
    if (c.port p).failing then c
    else
      let c := c.setPort p { c.port p with failing := true, good := false, sendFault := !c.sending p, faultDue := c.sending p,
                                           wrapEnd := some (c.now + 1000 * c.reg Reg.WRAP_QUAL) }
      (c.freeze p).cutArriving p

/-- PORT_LOCK_LOST: a QUALIFYING, UP or MISWIRED port loses a condition of DOWN (R97); in JOINED it is a link failure. A port in
DOWN follows its conditions, and LOS and TX_FAULT follow their balls at any port. -/
def Core.lockLost (c : Core) (p : Nat) (cause : LinkLoss) : Core :=
  let st := c.reg (Reg.RP_STATE p)
  if st = 5 then c.failureDetect p cause
  else if 3 ≤ st then (c.lostCause p cause).portFalls p 2
  else if st = 2 then
    let c := c.lostCause p cause
    c.setPort p { c.port p with sendFault := !(c.port p).lock }
  else if cause.cause = .los ∨ cause.cause = .txFault then c.lostCause p cause
  else c

/-- LINK_FAILURE_RECOVER: every condition is restored before WRAP_QUAL ends (R103); ring traffic goes on at once (R98). -/
def Core.failureRecover (c : Core) (p : Nat) : Core :=
  match (c.port p).wrapEnd with
  | none => c
  | some t =>
    if !c.joined p || Nat.ble t c.now then c
    else (((c.setPort p { (c.port p).still none with
      failing := false, good := true, sendFault := false, faultDue := false, wrapEnd := none }).inc
      (Reg.RP_CNT_GLITCH p)).holdResume p)

/-- WRAP_QUAL_EXPIRY: the failure still stands (R103). -/
def Core.wrapQualExpiry (c : Core) (p : Nat) : Core :=
  match (c.port p).wrapEnd with
  | none => c
  | some t => if !c.joined p then c else (c.advanceTo t).portFalls p 2

/-- LINK_QUAL_EXPIRY: the port enters UP (R97, R100). -/
def Core.linkQualExpiry (c : Core) (p : Nat) : Core :=
  match (c.port p).qualEnd with
  | none => c
  | some t =>
    if c.reg (Reg.RP_STATE p) ≠ 3 then c
    else
      let c := (c.advanceTo t).setReg (Reg.RP_STATE p) 4
      let r := c.port p
      c.setPort p { r with qualEnd := none, everUp := true,
                           holdEnd := if r.viaJoined then some (c.now + 1000000 * c.reg Reg.UNWRAP_HOLD) else none,
                           reqNext := if r.viaJoined then none else some c.now }

/-- A SPLICE frame of this node for port p, the next of its stream: PHASE 2 SPLICE_REQ, 3 SPLICE_ACK (R115, R160). -/
def Core.spliceFrame (c : Core) (p phase : Nat) : Frame × Core :=
  let pair := pairOf p
  let a := c.addrOn pair
  let (q, c) := c.nextSeq a 4 0
  (({ kind := 8, cls := 4, mcast := true, dst := c.segmentOn pair * 1024 + 0x3FF, src := a, okey := a, seq := q, tick := c.tick,
      payload := censusPayload { gen := 0, origin := 0, phase := phase, batch := 0, cause := 0, apply := 0,
                                 base := c.reg Reg.ASSIGN_BASE } [c.ownRecord pair p] } : Frame).seal, c)

/-- A SPLICE frame leaves port p. -/
def Core.sendSplice (c : Core) (p phase : Nat) : Core :=
  let (f, c) := c.spliceFrame p phase
  c.sendOn p f

/-- SPLICE_REQ_SEND: a port in UP sends its next SPLICE_REQ (R99). -/
def Core.spliceReqSend (c : Core) (p : Nat) : Core :=
  match (c.port p).reqNext with
  | none => c
  | some t =>
    if c.reg (Reg.RP_STATE p) ≠ 4 then c
    else
      let c := (c.advanceTo t).sendSplice p 2
      c.setPort p { c.port p with reqNext := some (c.now + 100000), reqSent := true }

/-- UNWRAP_HOLD_EXPIRY: the first SPLICE_REQ after the hold (R100). -/
def Core.unwrapHoldExpiry (c : Core) (p : Nat) : Core :=
  match (c.port p).holdEnd with
  | none => c
  | some t =>
    let c := c.advanceTo t
    (c.setPort p { c.port p with holdEnd := none, reqNext := some c.now }).spliceReqSend p

/-- A SPLICE frame's own checks at port p. -/
def Core.spliceOk (c : Core) (p phase : Nat) (f : Frame) : Bool × Core :=
  let (ok, c) := c.headerOk p f
  if !ok then (false, c)
  else
    let (inv, c) := c.beginCheck 0x01 p
    let (bad, c) := c.rxEnd p inv f .good
    (bad.isNone && f.kind == 8 && (headOf f.payload).phase == phase, c)

/-- SPLICE_REQ_RX: answered with a SPLICE_ACK, not in MISWIRED (R99, R101). -/
def Core.spliceReqRx (c : Core) (p : Nat) (f : Frame) : Core :=
  let st := c.reg (Reg.RP_STATE p)
  if st < 3 then c
  else
    let (ok, c) := c.spliceOk p 2 f
    if ok ∧ (st = 4 ∨ st = 5) then c.sendSplice p 3 else c

/-- R99: the three conditions for accepting the neighbour's record. -/
def Core.spliceAccepts (c : Core) (p : Nat) (m : Member) : Bool :=
  let pair := pairOf p
  m.ports / 16 % 4 % 2 != p % 2 && m.segment == c.segmentOn pair
    && (m.addr == 0xFFFF || c.addrOn pair == 0xFFFF || m.addr != c.addrOn pair)

/-- SPLICE_ACK_RX: the handshake completes, accepted into JOINED or refused into MISWIRED (R99, R101). -/
def Core.spliceAckRx (c : Core) (p : Nat) (f : Frame) : Core :=
  let st := c.reg (Reg.RP_STATE p)
  if st < 3 then c
  else
    let (ok, c) := c.spliceOk p 3 f
    if !ok || st != 4 || !(c.port p).reqSent then c
    else
      let m := memberOfBytes (slice f.payload 16 32)
      if c.spliceAccepts p m then c.enterJoined p m.addr (m.ports / 16 % 4)
      else
        let c := ((c.setReg (Reg.RP_STATE p) 6).inc (Reg.RP_CNT_SPLICE_FAIL p)).raise Src.PORT_MISWIRED p 0
        c.setPort p { c.port p with reqNext := none, reqSent := false }

/-! SFP diagnostics (R96, R602). -/

/-- R92, R602: a value of two bytes of a module, the high byte first as SFF-8472 has it (PRESUMED, log entry 116). -/
def sfpWord (d : Bytes) (o : Nat) : Nat := 256 * fieldAt d o 1 + fieldAt d (o + 1) 1

/-- R602: the limit bits of SL_STATE for a diagnostic block (address 0xA2 bytes 96 to 117). -/
def Core.sfpLimits (c : Core) (p : Nat) (d : Bytes) : Nat :=
  let temp : Int := toInt 16 (sfpWord d 0)
  b2n (decide (c.regI 16 (Reg.SL_TEMP_MAX p) < temp)) + b2n (Nat.blt (sfpWord d 6) (c.reg (Reg.SL_TX_MIN p))) * 2
    + b2n (Nat.blt (sfpWord d 8) (c.reg (Reg.SL_RX_MIN p))) * 4

/-- R602: the limits are checked after a poll. -/
def Core.sfpCheck (c : Core) (p : Nat) : Core :=
  let d := c.blob (Reg.RP_SFP_DIAG p)
  if !bit (fieldAt (c.blob (Reg.RP_SFP_ID p)) 92 1) 5 || d.isEmpty then c.setReg (Reg.SL_STATE p) 8
  else
    let s := c.sfpLimits p d
    let c := c.setReg (Reg.SL_STATE p) s
    let r := c.port p
    if s ≠ 0 then
      let c := c.setPort p { r with sfpBad := r.sfpBad + 1, sfpGood := 0 }
      if 1 ≤ r.sfpBad then c.raise 0x186 p 0 else c
    else
      let c := c.setPort p { r with sfpBad := 0, sfpGood := r.sfpGood + 1 }
      if 1 ≤ r.sfpGood then c.clear 0x186 p 0 else c

/-- SFP_DIAG_POLL: the poll period ends; `id` and `diag` are what the module answers, none without acknowledge (R96). -/
def Core.sfpPoll (c : Core) (p : Nat) (id diag : Option Bytes) : Core :=
  let r := c.port p
  match r.sfpNext with
  | none => c
  | some t =>
    if !r.present || !c.up then c
    else
      let c := c.advanceTo t
      let c := c.setPort p { r with sfpNext := some (c.now + 1000000 * c.reg Reg.SFP_POLL) }
      if !c.firmware then c else
      let c := if (c.blob (Reg.RP_SFP_ID p)).isEmpty then c.readSfpId p id else c
      let c := if bit (fieldAt (c.blob (Reg.RP_SFP_ID p)) 92 1) 6 then
          match diag with
          | some d => (c.setBlob (Reg.RP_SFP_DIAG p) (padTo 22 d)).sfpBit p 5 false
          | none => c.sfpBit p 5 true
        else c.setBlob (Reg.RP_SFP_DIAG p) []
      c.sfpCheck p

end Sys2Proof.Machine
end

