-- ==== Sys2Proof/Machine/Collector.lean ====
section
/-! DEFINITION. The fault collector's inputs, reads, acknowledgement, release, injection and safe-state commands
(chapter 17, R561 to R564 and R570 to R593). -/

namespace Sys2Proof.Machine

/-! Fault inputs (R561 to R564). -/

/-- Severity of a source as the table of R565 gives it; a fault input's stands in FI_CFG in force. -/
def Core.sevOf (c : Core) (source cause : Nat) : Nat :=
  if source < 0x84 then
    (if source < 0x80 ∧ 2 ≤ cause then bits (c.cfg (Reg.FI_CFG source)) 5 4 else bits (c.cfg (Reg.FI_CFG source)) 3 2)
  else srcSev source

/-- The record of fault input n (side-band line k is 0x80 + k). -/
def Core.fi (c : Core) (n : Nat) : FaultInput := mapGet {} n c.fc.inputs

/-- Replaces fault input n and its FI_STATE. -/
def Core.setFi (c : Core) (n : Nat) (x : FaultInput) : Core :=
  let c := { c with fc := { c.fc with inputs := mapSet {} n x c.fc.inputs } }
  c.setReg (Reg.FI_STATE n) (b2n x.asserted + b2n (x.wire != 0) * 2 + x.pair % 4 * 4
    + b2n (c.isolated n noInst) * 16)

/-- DETAIL of a fault input's record (R566): FI_FILTER and the last pair read. -/
def Core.fiDetail (c : Core) (n : Nat) : Nat := c.reg (Reg.FI_FILTER n) + (c.fi n).pair * 2 ^ 16

/-- An assertion is accepted (R562, R586). -/
def Core.fiAssert (c : Core) (n : Nat) (injected : Bool) : Core :=
  let x := c.fi n
  if x.asserted then c
  else
    let cfg := c.cfg (Reg.FI_CFG n)
    let c := (c.setFi n { x with asserted := true }).raiseSev n noInst (bits cfg 3 2) (if n < 0x80 then 1 else 0)
      (if n < 0x80 then c.fiDetail n else 0) injected (injected && c.fc.injNoEsc)
    if bit cfg 6 then c.enterSafe 3 else c

/-- An assertion clears. -/
def Core.fiClear (c : Core) (n : Nat) : Core :=
  let x := c.fi n
  if x.asserted then (c.setFi n { x with asserted := false }).clear n noInst (if n < 0x80 then 1 else 0) else c

/-- R562: acceptance by the runs, while the wire is not broken. -/
def Core.fiDecide (c : Core) (n : Nat) (injected : Bool) : Core :=
  let x := c.fi n
  let need := c.reg (Reg.FI_FILTER n) + 1
  if x.wire ≠ 0 then c
  else if need ≤ x.assertRun then c.fiAssert n injected
  else if need ≤ x.quietRun then c.fiClear n
  else c

/-- R562, R563: an enabled input's pair, [1] P and [0] N, at a strobe. -/
def Core.fiPair (c : Core) (n pair : Nat) (injected : Bool) : Core :=
  let cfg := c.cfg (Reg.FI_CFG n)
  let x : FaultInput := { c.fi n with pair := pair }
  let wireNeed := c.reg Reg.FI_WIRE_FILTER
  if pair = 0 ∨ pair = 3 then
    let x : FaultInput := { x with wireRun := x.wireRun + 1, goodRun := 0, assertRun := 0, quietRun := 0 }
    let cause := if pair = 0 then 2 else 3
    let c := c.setFi n x
    if x.wire = 0 ∧ wireNeed ≤ x.wireRun then
      let c := (c.setFi n { x with wire := cause }).raiseSev n noInst (bits cfg 5 4) cause
        (c.reg (Reg.FI_FILTER n) + pair * 2 ^ 16) injected (injected && c.fc.injNoEsc)
      if bit cfg 7 then c.fiAssert n injected else c
    else c
  else
    let asserts : Bool := (pair == 1) != bit cfg 1
    let x : FaultInput :=
      { x with wireRun := 0, goodRun := x.goodRun + 1, assertRun := if asserts then x.assertRun + 1 else 0,
               quietRun := if asserts then 0 else x.quietRun + 1 }
    let c := if x.wire ≠ 0 ∧ wireNeed ≤ x.goodRun then (c.setFi n { x with wire := 0 }).clear n noInst x.wire
      else c.setFi n x
    c.fiDecide n injected

/-- R562, R591: fault input n at a strobe, its balls at levels p and nn. -/
def Core.fiStrobe (c : Core) (n : Nat) (p nn : Bool) : Core :=
  if !bit (c.cfg (Reg.FI_CFG n)) 0 then c
  else
    let inj : Bool := Nat.blt 0 c.fc.injLeft && c.fc.injInput == n
    c.fiPair n (if inj then c.fc.injPair else b2n p * 2 + b2n nn) inj

/-- R591, R592: one strobe of a kind 2 injection has passed. -/
def Core.injStrobe (c : Core) : Core :=
  if c.fc.injLeft = 0 then c
  else ({ c with fc := { c.fc with injLeft := c.fc.injLeft - 1 } }).setReg Reg.FCINJ_BUSY (b2n (Nat.blt 1 c.fc.injLeft))

/-- R564: side-band line k at a strobe. -/
def Core.sidebandStrobe (c : Core) (k : Nat) : Core :=
  let n := 0x80 + k
  let cfg := c.cfg (Reg.FI_CFG n)
  if !bit cfg 0 then c
  else
    let level := bit c.fc.lines k
    let x := c.fi n
    let asserts : Bool := level != bit cfg 1
    (c.setFi n { x with pair := b2n level * 2,
                        assertRun := if asserts then x.assertRun + 1 else 0,
                        quietRun := if asserts then 0 else x.quietRun + 1 }).fiDecide n false

/-- The fault inputs and side-band lines at a strobe. -/
def Core.faultStrobe (c : Core) (fiP fiN : BitVec 128) : Core :=
  let c := (List.range 128).foldl (fun (c : Core) (n : Nat) => c.fiStrobe n (fiP.getLsbD n) (fiN.getLsbD n)) c
  ((List.range 4).foldl (fun (c : Core) (k : Nat) => c.sidebandStrobe k) c).injStrobe

/-- R562: an input that its FI_CFG in force disables gives up its conditions and its runs. -/
def Core.fiDisable (c : Core) (n : Nat) : Core :=
  let x := c.fi n
  if bit (c.cfg (Reg.FI_CFG n)) 0 ∨ x = {} then c
  else
    let c := c.fiClear n
    let c := if x.wire ≠ 0 then c.clear n noInst x.wire else c
    c.setFi n {}

/-- R562: at the leave of CONFIG. -/
def Core.fiLeave (c : Core) : Core := (List.range 0x84).foldl (fun (c : Core) (n : Nat) => c.fiDisable n) c

/-! Reports of subsystems (R568). -/

/-- FAULT_REPORT (R568): 0 onset, 1 clearing, 2 one-shot. -/
def Core.faultReport (c : Core) (r : ReportKind) (source inst cause detail : Nat) : Core :=
  match r with
  | .onset => c.raiseSev source inst (c.sevOf source cause) cause detail false
  | .clearing => c.clear source inst cause
  | .oneShot => c.reportSev source inst (c.sevOf source cause) cause detail false

/-! Reads, acknowledgement, release (R570 to R583). -/

/-- FF_RECORD: the read returns the first-fault record and empties it (R570). -/
def Core.readFirst (c : Core) : Bytes × Core :=
  match c.fc.first with
  | none => (zeros 32, c)
  | some r => (r.bytes, { c with fc := { c.fc with first := none } })

/-- FQ_PEEK (R573). -/
def Core.peekFault (c : Core) : Bytes := (c.fc.queue.head?.map FaultRec.bytes).getD (zeros 32)

/-- FQ_POP: the oldest record leaves the queue (R573). -/
def Core.popFault (c : Core) : Bytes × Core :=
  match c.fc.queue with
  | [] => (zeros 32, c)
  | r :: rs => (r.bytes, ({ c with fc := { c.fc with queue := rs } }).setReg Reg.FQ_COUNT rs.length)

/-- ESC_SLOTS (R594): 64 slots of 16 bytes. -/
def Core.escSlots (c : Core) : Bytes :=
  padTo 1024 (c.fc.slots.flatMap (fun s =>
    leBytes 2 s.record.seq ++ leBytes 2 s.record.source ++ leBytes 2 s.record.inst
      ++ [byteOf s.record.sev, byteOf s.step, byteOf (1 + b2n s.timer.isSome * 2)] ++ zeros 3
      ++ leBytes 4 (match s.timer with
        | some t => (t - c.now) / 1000
        | none => 0)))

/-- ISO_TABLE (R594): 64 entries of 4 bytes. -/
def Core.isoTable (c : Core) : Bytes :=
  c.fc.isos.flatMap (fun e => leBytes 2 e.2.1 ++ leBytes 2 e.1)
    ++ (List.replicate (64 - c.fc.isos.length) [0, 0, 0xFF, 0xFF]).flatten

/-- FC_ACK: frees every slot whose FAULT_SEQ is at or behind q (R580). -/
def Core.ackFaults (c : Core) (q : Nat) : Core :=
  ({ c with fc := { c.fc with slots := c.fc.slots.filter (fun s => !Nat.blt ((q + 65536 - s.record.seq) % 65536) 32768) } }).slotRegs

/-- FC_UNISOLATE: releases one isolation or all; RANGE (0x0B) for one that is not in force (R583). The resource resumes
at the next strobe. -/
def Core.unisolate (c : Core) (v : Nat) : Nat × Core :=
  let hit (e : Nat × Nat × Nat) : Bool := v == 0xFFFFFFFF || (e.2.1 == v % 65536 && e.1 == v / 65536)
  let (gone, left) := c.fc.isos.partition hit
  if gone.isEmpty ∧ v ≠ 0xFFFFFFFF then (0x0B, c)
  else (0, (({ c with fc := { c.fc with isos := left, leaving := c.fc.leaving ++ gone } }).isoChange gone).setReg Reg.ISO_COUNT
    left.length)

/-- ESCALATION_TIMER_EXPIRY: the slot whose timer ends first takes its next step (R579). -/
def Core.escalationExpiry (c : Core) : Core :=
  let due := sortBy (fun (a b : Nat × EscSlot) => Nat.blt a.1 b.1)
    (c.fc.slots.filterMap (fun s => s.timer.map (fun t => (t, s))))
  match due with
  | [] => c
  | (t, s) :: _ =>
    (c.advanceTo t).slotExpires s

/-- FAULT_FRAME_RX: the records of a delivered FAULT frame go to the event queue as R574 gives it: ONSET from
FC_EV_SEV up, CLEAR of a clear record and of one that carries TRANSIENT (R208, R576). -/
def Core.faultFrame (c : Core) (f : Frame) : Core :=
  if !c.up then c
  else
    let (ok, c) := (c.undeliver 14 f).mgmtCheck f
    if !ok then c
    else
      let rec_ (i : Nat) : Bytes := slice f.payload (32 * i) 32
      let place (c : Core) (b : Bytes) : Core :=
        let sev := fieldAt b 16 1
        let flags := fieldAt b 18 2
        let put (c : Core) (kind tick : Nat) : Core :=
          let e := c.mkEvent (0x600 + fieldAt b 14 2) kind 4
            (sev + fieldAt b 17 1 * 2 ^ 8 + fieldAt b 20 2 * 2 ^ 16 + fieldAt b 22 2 * 2 ^ 32) false
          c.addEvent { e with tick := tick, node := fieldAt b 12 2,
                              flags := setBit (setBit e.flags 3 (bit flags 2)) 2 (bit flags 1) }
        let c := if bit flags 6 || Nat.blt sev (c.reg Reg.FC_EV_SEV) then c else put c 1 (fieldAt b 0 6)
        if bit flags 6 || bit flags 1 then put c 2 (fieldAt b 6 6) else c
      (List.range (f.payload.length / 32)).foldl (fun (c : Core) (i : Nat) => place c (rec_ i)) (c.inc Reg.CNT_FAULT_RX)

/-! Self-check, safe state, injection (R585 to R592). -/

/-- FC_SELF_CHECK: the two copies of the collector's registers differ (R585), by injection or not (R591). -/
def Core.selfCheck (c : Core) (injected : Bool) : Core :=
  let c := c.enterSafe 2
  let c := { c with fc := { c.fc with selfFail := true } }
  (((c.setReg Reg.FC_STATE (setBit (c.reg Reg.FC_STATE) 1 true)).inc Reg.CNT_SELF_CHECK)).raiseSev Src.FC_SELF_CHECK noInst 3 0 0 injected

/-- R590: a condition that forbids the end of safe state. -/
def Core.exitBarred (c : Core) : Bool :=
  c.fc.selfFail || c.fc.slots.any (fun s => Nat.ble 2 s.step)
    || (List.range 0x84).any (fun n => bit (c.cfg (Reg.FI_CFG n)) 0 && bit (c.cfg (Reg.FI_CFG n)) 6
      && ((c.fi n).asserted || (c.fi n).wire != 0))

/-- FC_SAFE_CMD: 1 enters safe state, 2 asks for its end, once until the strobe; REFUSED is 0x11 (R586, R590). `src` is ERR_SOURCE of the
request. -/
def Core.safeCmd (c : Core) (v src : Nat) : Nat × Core :=
  if v = 1 then (0, c.enterSafe 4)
  else if v = 2 then
    if !c.fc.safe || c.exitBarred then (0x11, c)
    else if c.fc.exitPending.isSome then (0, c)
    else (0, { c with fc := { c.fc with exitPending := some c.now, exitSrc := src } })
  else (0x0B, c)

/-- LAST_ERROR records a refusal (R89). -/
def Core.lastError (c : Core) (status cmd obj mem src : Nat) : Core :=
  (((((c.setReg Reg.ERR_STATUS status).setReg Reg.ERR_COMMAND cmd).setReg Reg.ERR_OBJECT obj).setReg Reg.ERR_MEMBER
    mem).setReg Reg.ERR_SOURCE src).setReg Reg.ERR_TICK c.tick

/-- SAFE_EXIT: at the strobe the exit is checked again; safe state ends, or continues with the refusal in LAST_ERROR
(R590). -/
def Core.safeExit (c : Core) : Core :=
  match c.fc.exitPending with
  | none => c
  | some t =>
    if c.now < t + 10 then c
    else
      let c := { c with fc := { c.fc with exitPending := none } }
      if !c.fc.safe then c
      else if c.exitBarred then c.lastError 0x11 0x02 0xA001 1 c.fc.exitSrc
      else
        let c := { c with fc := { c.fc with safe := false, safeCopy := false }, pwr := { c.pwr with followFrom := some c.now } }
        ((c.setReg Reg.FC_STATE (setBit (c.reg Reg.FC_STATE) 0 false)).leaveSafeResources).refreshMode 14

/-- R565: a source number that exists. -/
def knownSource (s : Nat) : Bool :=
  Nat.ble s 0x84 || (Nat.ble 0x100 s && Nat.ble s 0x12E) || (Nat.ble 0x180 s && Nat.ble s 0x18D)

/-- FC_INJECT.INJ_ARM (R591, R592). Statuses: RANGE 0x0B, BUSY 0x0C, MODE 0x08. -/
def Core.fcInject (c : Core) (v : Nat) : Nat × Core :=
  let kind := c.reg Reg.FCINJ_KIND
  let source := c.reg Reg.FCINJ_SOURCE
  if c.modeCode = 2 ∨ c.modeCode = 11 ∨ (kind = 3 ∧ c.modeCode ≠ 3 ∧ c.modeCode ≠ 4) then (0x08, c)
  else if v ≠ 1 ∨ kind < 1 ∨ 3 < kind ∨ (kind = 1 ∧ ¬ knownSource source) ∨ (kind = 2 ∧ 0x7F < source) then (0x0B, c)
  else if 0 < c.fc.injLeft then (0x0C, c)
  else
    let noEsc := c.flag Reg.FCINJ_NOESC
    if kind = 1 then
      (0, c.reportSev source (c.reg Reg.FCINJ_INSTANCE) (c.sevOf source (c.reg Reg.FCINJ_CAUSE)) (c.reg Reg.FCINJ_CAUSE)
        0 true noEsc)
    else if kind = 2 then
      (0, ({ c with fc := { c.fc with injLeft := c.reg Reg.FCINJ_TICKS, injInput := source,
                                      injPair := c.reg Reg.FCINJ_PAIR % 4, injNoEsc := noEsc } }).setReg Reg.FCINJ_BUSY 1)
    else (0, c.selfCheck true)

/-- INJECT.INJ_ARM (R222 to R224): arms or cancels the inversion of check bits. -/
def Core.injArm (c : Core) (v : Nat) : Nat × Core :=
  let limit := [0, 4, 4, 1, 128, 32, 32, 64, 1, 1, 1, 8, 8, 66, 66].getD (c.reg Reg.INJ_TARGET) 0
  if v = 0 then (0, (c.setReg Reg.INJ_LEFT 0).setReg Reg.INJ_ACTIVE 0)
  else if c.modeCode = 2 ∨ c.modeCode = 10 ∨ c.modeCode = 11 then (0x08, c)
  else if limit ≤ c.reg Reg.INJ_INDEX ∨ c.reg Reg.INJ_COUNT = 0 then (0x0B, c)
  else if 0 < c.reg Reg.INJ_LEFT then (0x0C, c)
  else
    let c := { c with integ := { c.integ with armed := (c.reg Reg.INJ_TARGET, c.reg Reg.INJ_INDEX) } }
    (0, (c.setReg Reg.INJ_LEFT (c.reg Reg.INJ_COUNT)).setReg Reg.INJ_ACTIVE 1)

end Sys2Proof.Machine
end

