-- ==== Sys2Proof/Machine/Canfd.lean ====
section
/-! DEFINITION. CAN FD controllers (chapter 09, R319 to R350). -/

namespace Sys2Proof.Machine

/-- R342: the frame counter, one step each 12.5 ns. -/
def Core.frameCounter (c : Core) : Nat := c.now * 2 / 25 % 2 ^ 32

/-- CAN_FC_LATCH (R342). -/
def Core.fcLatchBytes (c : Core) : Bytes := leBytes 4 c.fcLatch.counter ++ leBytes 6 c.fcLatch.tick

/-- The tick and OFFSET of an SOF sample point `ago` KCLK periods back (R329, R343): the tick is that of the last strobe not after it,
and OFFSET counts from the counter latched there. Before the first strobe they are those of system time. -/
def Core.sofStamp (c : Core) (ago : Nat) : Nat × Nat × Nat :=
  let now := c.frameCounter
  let fc := (now + 2 ^ 32 - ago % 2 ^ 32) % 2 ^ 32
  let at_ := c.sysNs - ago * 25 / 2
  let strobes := if c.time.lastTick.isNone then [] else (c.fcLatch.tick, c.fcLatch.counter) :: c.fcLatch.past
  match strobes.find? (fun s => Nat.ble ago ((now + 2 ^ 32 - s.2) % 2 ^ 32)) with
  | some s => (s.1, (fc + 2 ^ 32 - s.2) % 65536, fc)
  | none => (at_ / c.period % tickMod, (at_ % c.period) * 2 / 25 % 65536, fc)

/-! Modes and timing (R321 to R326). -/

/-- KCLK periods of a nominal bit, and from its start to its sample point (R322). -/
def nominalBit (nbt : Nat) : Nat := (bits nbt 7 0 + 1) * (1 + (bits nbt 15 8 + 1) + (bits nbt 22 16 + 1))

/-- KCLK periods of a data bit (R323). -/
def dataBit (dbt : Nat) : Nat := (bits dbt 4 0 + 1) * (1 + (bits dbt 9 5 + 1) + (bits dbt 13 10 + 1))

/-- R342, R343: the latch at the strobe of tick t. The strobes before it are kept for 160 nominal bits of the slowest controller, longer
than any frame lasts. -/
def Core.latchCounter (c : Core) (t : Nat) : Core :=
  let l := c.fcLatch
  let now := c.frameCounter
  let span := (List.range 32).foldl (fun a n =>
    if bits (c.cfg (Reg.CAN_MODE n)) 1 0 = 0 then a else max a (160 * nominalBit (c.cfg (Reg.CAN_NBT n)))) 0
  let past := if c.time.lastTick.isNone then [] else (l.tick, l.counter) :: l.past
  { c with fcLatch := { counter := now, tick := t, past := past.takeWhile (fun s => Nat.ble ((now + 2 ^ 32 - s.2) % 2 ^ 32) span) } }

/-- R325: the controller takes the majority of three samples in the nominal phase. -/
def Core.canTriple (c : Core) (n : Nat) : Bool :=
  let nbt := c.cfg (Reg.CAN_NBT n)
  bit nbt 30 && Nat.ble 640 (nominalBit nbt)

/-- R326: transmitter delay compensation is in use: an FD controller with TDC_EN. -/
def Core.canTdc (c : Core) (n : Nat) : Bool := bits (c.cfg (Reg.CAN_MODE n)) 1 0 == 2 && bit (c.cfg (Reg.CAN_DBT n)) 25

/-- KCLK periods from the start of a data bit to its sample point (R323). -/
def dataSample (dbt : Nat) : Nat := (bits dbt 4 0 + 1) * (1 + (bits dbt 9 5 + 1))

/-- R325, R326: the controller takes the bit as wrong: by majority or at the sample point in the nominal phase; in the data phase at
the sample point, or, as a transmitter with compensation, at the secondary one: the measured delay plus TDC_OFFSET after the start. -/
def Core.bitWrong (c : Core) (n : Nat) (loop : Option Nat) : BitSeen → Bool
  | .nominal p a b => if c.canTriple n then (p && a) || (p && b) || (a && b) else p
  | .data f u =>
    let dbt := c.cfg (Reg.CAN_DBT n)
    let t := match loop with
      | some d => d + bits dbt 24 18
      | none => dataSample dbt
    Nat.ble f t && Nat.blt t u

/-- R324: the timing check fails. -/
def Core.canConflict (c : Core) (n : Nat) : Bool :=
  let nbt := c.cfg (Reg.CAN_NBT n)
  let dbt := c.cfg (Reg.CAN_DBT n)
  let fd : Bool := bits (c.cfg (Reg.CAN_MODE n)) 1 0 == 2
  Nat.blt (nominalBit nbt) 80 || Nat.blt (bits nbt 22 16) (bits nbt 29 23) || Nat.blt (bits dbt 13 10) (bits dbt 17 14)
    || (fd && (Nat.blt (dataBit dbt) 10 || Nat.blt (nominalBit nbt) (dataBit dbt)))

/-- Bus monitoring mode, by CAN_MODE[2] or an isolation (R321, R582). -/
def Core.canMonitor (c : Core) (n : Nat) : Bool := bit (c.cfg (Reg.CAN_MODE n)) 2 || c.isolatedKind .can n

/-- R321, R505, R515: the controller acts as in bus monitoring mode: it sends no ACK, no error flag and no frame. -/
def Core.canMute (c : Core) (n : Nat) : Bool := c.canMonitor n || !c.drivesField 2 n

/-- R350: CAN_ERRCNT and CAN_STATUS follow the counters. -/
def Core.canRegs (c : Core) (n : Nat) : Core :=
  let x := c.can n
  (c.setReg (Reg.CAN_ERRCNT n) (x.tec % 512 + x.rxErr * 2 ^ 16 + x.delay * 2 ^ 24)).setReg (Reg.CAN_STATUS n)
    (setBit (c.reg (Reg.CAN_STATUS n)) 3 (Nat.ble 96 x.tec || Nat.ble 96 x.rxErr))

/-- VALUE of the error state events (R348). -/
def Core.errValue (c : Core) (n : Nat) : Nat := (c.can n).tec + (c.can n).rxErr * 2 ^ 16

/-- The controller runs in error-active, error-passive or recovering (R350). -/
def Core.canOn (c : Core) (n : Nat) : Bool :=
  let s := c.reg (Reg.CAN_STATE n)
  c.fieldRuns && (s == 1 || s == 2)

/-- A frame on the bus completes although the controller has stopped (R587, R642). -/
def Core.canEnds (c : Core) (n : Nat) : Bool :=
  let s := c.reg (Reg.CAN_STATE n)
  c.up && (s == 1 || s == 2)

/-- The state of a mailbox whose attempt failed: READY for the next; ABORTED after a late abort, and at a controller that has
stopped (log entry 68). -/
def Core.retryState (c : Core) (late : Bool) : Nat := if late ∨ c.fieldRuns = false then 4 else 1

/-- R345: entry into bus-off. -/
def Core.enterBusOff (c : Core) (n : Nat) : Core :=
  let x := c.can n
  let c := match x.active with
    | some m => if (x.box m).state = 2 then c.boxState n m 1 else c
    | none => c
  let c := c.setCan n { c.can n with active := none, started := false, lateAbort := false, offSince := c.now }
  let c := (c.setReg (Reg.CAN_STATE n) 3).inc (Reg.CAN_CNT_BUS_OFF n)
  (c.canEvent n 3 3 (c.reg (Reg.CAN_CNT_BUS_OFF n))).raise Src.CAN_BUS_OFF n 0

/-- R344: the error state follows TEC and REC. -/
def Core.errState (c : Core) (n : Nat) : Core :=
  let x := c.can n
  let c := c.canRegs n
  let st := c.reg (Reg.CAN_STATE n)
  if st ≠ 1 ∧ st ≠ 2 then c
  else if 255 < x.tec then c.enterBusOff n
  else
    let passive : Bool := Nat.ble 128 x.tec || Nat.ble 128 x.rxErr
    if passive ∧ st = 1 then (c.setReg (Reg.CAN_STATE n) 2).canEvent n 1 2 (c.errValue n)
    else if ¬ passive ∧ st = 2 then (c.setReg (Reg.CAN_STATE n) 1).canEvent n 2 0 (c.errValue n)
    else c

/-- The controller comes into force as the node leaves CONFIG (R321, R324 to R326). Bus-off outlasts every change of mode (R345). -/
def Core.startCan (c : Core) (n : Nat) : Core :=
  let mode := bits (c.cfg (Reg.CAN_MODE n)) 1 0
  let st := c.reg (Reg.CAN_STATE n)
  let nbt := c.cfg (Reg.CAN_NBT n)
  let ignored : Bool := mode != 0 && bit nbt 30 && Nat.blt (nominalBit nbt) 640
  let status := setBit (setBit (c.reg (Reg.CAN_STATUS n)) 1 ignored) 2 (c.canTdc n && !c.canConflict n)
  let c := if status = c.reg (Reg.CAN_STATUS n) then c else c.setReg (Reg.CAN_STATUS n) status
  if mode = 0 then (if st = 0 ∨ st = 3 ∨ st = 4 then c else c.setReg (Reg.CAN_STATE n) 0)
  else
    let c := if ignored then c.canEvent n 7 0 (nominalBit nbt) else c
    if st = 3 ∨ st = 4 then c
    else if c.canConflict n then c.setReg (Reg.CAN_STATE n) 5
    else (c.setReg (Reg.CAN_STATE n) 1).errState n

/-! Transmission (R330 to R335). -/

/-- R330: data bytes of a frame. -/
def dataLength (ident frame : Nat) : Nat :=
  let dlc := frame % 16
  if bit ident 30 then 0
  else if dlc ≤ 8 then dlc
  else if bit frame 4 then [12, 16, 20, 24, 32, 48, 64].getD (dlc - 9) 64
  else 8

/-- R331: the item is discarded. -/
def Core.canRefuses (c : Core) (n : Nat) (p : Bytes) : Bool :=
  let ident := fieldAt p 0 4
  let frame := fieldAt p 4 1
  let box := fieldAt p 5 1
  let mode := bits (c.cfg (Reg.CAN_MODE n)) 1 0
  let st := c.reg (Reg.CAN_STATE n)
  p.length != 8 + dataLength ident frame || Nat.blt p.length 8 || (bit ident 30 && bit frame 4) || (bit frame 5 && !bit frame 4)
    || (bit frame 4 && mode == 1) || (Nat.ble 64 box && box != 0xFF) || mode == 0 || st == 0 || st == 5 || c.canMonitor n
    || !c.fieldRuns || c.fc.safe

/-- A mailbox is free (R329). -/
def Mailbox.free (b : Mailbox) : Bool := b.state == 0 || Nat.ble 3 b.state

/-- R329, R332, R333: an item that passed its check is copied into its mailbox, without reserved bits; ESI is set as it is sent. -/
def Core.loadBox (c : Core) (n : Nat) (f : Frame) : Core :=
  let x := c.can n
  let p := f.payload
  let want := fieldAt p 5 1
  let m := if want = 0xFF then (List.range 64).find? (fun m => (x.box m).free) else some want
  let b : Mailbox := { ident := fieldAt p 0 4 % 2 ^ 31, frame := fieldAt p 4 1 % 64, state := 1, data := p.drop 8,
                       cls := f.cls, stream := f.stream, seq := f.seq }
  match m with
  | none => c.inc (Reg.CAN_CNT_TX_DROP n)
  | some m =>
    let old := (x.box m).state
    if old = 2 then c.inc (Reg.CAN_CNT_TX_DROP n)
    else (c.setBox n m b).incIf (old == 1) (Reg.CAN_CNT_TX_REPLACED n)

/-- R331, R332: an item that leaves staging is discarded under R331, before the egress checker sees it (DESIGN CHOICE, log entry 114),
or passes the checker and is copied. -/
def Core.drainCan (c : Core) (n : Nat) (f : Frame) : Core :=
  if c.canRefuses n f.payload then c.inc (Reg.CAN_CNT_TX_DROP n)
  else
    let (ok, c) := c.egress 0x05 n Reg.CNT_EGRESS_CAN f
    if ok then c.loadBox n f else c

/-- R332: the items whose bytes have not all left staging. -/
def Core.canStaged (c : Core) (n : Nat) : List (Nat × Nat) := (c.can n).staging.filter (fun e => Nat.blt c.now e.2)

/-- R332: an item enters staging, or does not fit behind those still in it. It leaves at 8 bytes per KCLK once the hold buffer is
free, which holds it for 50 ns and 9 KCLK more; its effect on the mailbox is given at once (DESIGN CHOICE, log entry 114). -/
def Core.stageCan (c : Core) (n : Nat) (f : Frame) : Core :=
  let waiting := c.canStaged n
  let size := f.payload.length + 36
  if 512 < waiting.foldl (fun a e => a + e.1) size then c.inc (Reg.CAN_CNT_TX_DROP n)
  else
    let left := max c.now (c.can n).holdFree + (size * 25 + 15) / 16
    (c.setCan n { c.can n with staging := waiting ++ [(size, left)], holdFree := left + 163 }).drainCan n f

/-- CAN_TX_ITEM_ARRIVE (R331 to R333). -/
def Core.canArrive (c : Core) (n : Nat) (f : Frame) : Core :=
  if !c.up then c else (c.undeliver (4 + n / 4) f).stageCan n f

/-- CAN_TX_POST: fills the post register with an item whose check the management port makes; BUSY (0x0C) while it is
full (R19, R331). -/
def Core.canPost (c : Core) (n : Nat) (p : Bytes) : Nat × Core :=
  match (c.can n).post with
  | some _ => (0x0C, c)
  | none =>
    let a := c.homeAddr
    let f : Frame := ({ kind := 0, cls := 5, dst := a, src := a, okey := c.originKey, tick := c.tick, payload := p } : Frame).seal
    (0, c.setCan n { c.can n with post := some f })

/-- The cluster takes the item waiting in CAN_TX_POST (R19, R331). -/
def Core.canPostTake (c : Core) (n : Nat) : Core :=
  match (c.can n).post with
  | none => c
  | some f => (c.setCan n { c.can n with post := none }).stageCan n f

/-- R334: the arbitration field as a number whose lower value wins. -/
def arbField (ident frame : Nat) : Nat :=
  let rtr := b2n (bit ident 30 && !bit frame 4)
  let id := ident % 2 ^ 29
  if bit ident 29 then id / 2 ^ 18 * 2 ^ 21 + 2 ^ 20 + 2 ^ 19 + id % 2 ^ 18 * 2 + rtr
  else id % 2048 * 2 ^ 21 + rtr * 2 ^ 20

/-- The READY mailbox that wins against the others; the first of equals. -/
def bestBox : List (Nat × Mailbox) → Option (Nat × Mailbox) → Option (Nat × Mailbox)
  | [], best => best
  | b :: bs, none => bestBox bs (if b.2.state = 1 then some b else none)
  | b :: bs, some a =>
    bestBox bs (some (if b.2.state = 1 ∧ arbField b.2.ident b.2.frame < arbField a.2.ident a.2.frame then b else a))

/-- CAN_FRAME_SELECT: the next frame is selected; a LONE controller waits for 10 ms after its previous SOF (R334, R347). A mailbox
of which a word proves uncorrectable is not sent: it becomes ABORTED (R219, log entry 95). -/
def Core.canSelect (c : Core) (n : Nat) : Core :=
  let x := c.can n
  if !c.canOn n || c.canMute n || x.active.isSome || !c.mayStart 2 n then c
  else match bestBox x.boxes none with
    | none => c
    | some (m, _) =>
      let c := if bit (c.reg (Reg.CAN_STATUS n)) 0 then c.advanceTo (x.lastSof + 10000000) else c
      let (bad, c) := c.eccOwner (44 + n / 8) 11
      if bad then c.boxState n m 4
      else
        let c := c.boxState n m 2
        c.setCan n { c.can n with active := some m, started := false, lateAbort := false, flagTx := false }

/-- The bits of the arbitration field from SOF to RTR or RRS. -/
def arbBits (ident frame : Nat) : List Bool :=
  let rtr : Bool := bit ident 30 && !bit frame 4
  let id := ident % 2 ^ 29
  if bit ident 29 then
    false :: ((List.range 11).map (fun i => bit id (28 - i)) ++ [true, true]
      ++ (List.range 18).map (fun i => bit id (17 - i)) ++ [rtr])
  else false :: ((List.range 11).map (fun i => bit id (10 - i)) ++ [rtr])

/-- Stuff bits before the last bit of a sequence: after five equal bits a bit of the other level. -/
def stuffCount : List Bool → Bool → Nat → Nat
  | [], _, _ => 0
  | b :: bs, last, run =>
    if run = 5 then 1 + (if b = !last then stuffCount bs b 2 else stuffCount bs b 1)
    else if b = last then stuffCount bs b (run + 1) else stuffCount bs b 1

/-- Index of the last arbitration bit on the bus, counted from SOF at 0. -/
def lastArbBit (ident frame : Nat) : Nat :=
  (arbBits ident frame).length - 1 + stuffCount (arbBits ident frame) true 0

/-- CAN_SOF: the sample point of the SOF of the ACTIVE mailbox (R335, R336). An FD frame is sent with ESI set by an error-passive
controller (R320, R329). Where the controller may start no frame any more, the mailbox selected is READY again (R505, R514; DEDUCED,
log entry 114). -/
def Core.canSof (c : Core) (n : Nat) : Core :=
  let x := c.can n
  match x.active with
  | none => c
  | some m =>
    if !c.canOn n || x.started then c
    else if c.canMute n || !c.mayStart 2 n then (c.boxState n m 1).setCan n { ((c.boxState n m 1).can n) with active := none }
    else
      let b := x.box m
      let (tick, off, fc) := c.sofStamp 0
      let esi : Bool := bit b.frame 4 && c.reg (Reg.CAN_STATE n) == 2
      let c := c.setBox n m { b with frame := setBit b.frame 6 esi, tick := tick, offset := off, fcSof := fc
                                     attempts := min 65535 (b.attempts + 1) }
      c.setCan n { c.can n with started := true, lastSof := c.now,
                                sAt := 2 * c.now + lastArbBit b.ident b.frame * nominalBit (c.cfg (Reg.CAN_NBT n)) * 25 }

/-- The ACTIVE mailbox ends its attempt in a state; an intermission of three bits follows a frame that began. -/
def Core.endAttempt (c : Core) (n m st : Nat) : Core :=
  let c := c.boxState n m st
  let idle := if (c.can n).started then c.now + (3 * nominalBit (c.cfg (Reg.CAN_NBT n)) * 25 + 1) / 2 else (c.can n).idleAt
  c.setCan n { c.can n with idleAt := idle, active := none, started := false, lateAbort := false }

/-- CAN_TX_SENT: acknowledged and without error; `delay` is the loop delay measured on a frame with BRS (R326, R335, R336,
R344, R347). -/
def Core.canSent (c : Core) (n delay : Nat) : Core :=
  let x := c.can n
  match x.active with
  | none => c
  | some m =>
    if !c.canEnds n || !x.started then c
    else
      let b := x.box m
      let late := x.lateAbort
      let c := ((c.endAttempt n m (if late then 5 else 3)).inc (Reg.CAN_CNT_TX n)).twSent 2 n b.cls b.stream b.seq
      let c := if late then (c.inc (Reg.CAN_CNT_ABORT_LATE n)).canEvent n 9 0 m else c
      let measured : Bool := bit b.frame 5 && c.canTdc n
      let c := c.setCan n { c.can n with tec := x.tec - 1, delay := if measured then min 127 delay else x.delay }
      ((c.setReg (Reg.CAN_ACK_RUN n) 0).loneClear n 0).errState n

/-- CAN_ARB_LOST (R335, R336, R349). -/
def Core.canArbLost (c : Core) (n : Nat) : Core :=
  let x := c.can n
  match x.active with
  | none => c
  | some m =>
    if !c.canEnds n || !x.started then c
    else
      let c := (c.endAttempt n m (c.retryState x.lateAbort)).inc (Reg.CAN_CNT_ARB_LOST n)
      if x.lateAbort then c.loneAborted n else c

/-- R347: one more consecutive ACK error; the 32nd makes the controller LONE. -/
def Core.ackError (c : Core) (n m : Nat) : Core :=
  let run := min 255 (c.reg (Reg.CAN_ACK_RUN n) + 1)
  let c := c.setReg (Reg.CAN_ACK_RUN n) run
  if run = 32 then
    ((c.setReg (Reg.CAN_STATUS n) (setBit (c.reg (Reg.CAN_STATUS n)) 0 true)).inc (Reg.CAN_CNT_LONE n)).canEvent n 5 3 m
  else c

/-- R326: the loop delay by which the transmitter of mailbox b checks its data bits: that measured on this frame, or before. -/
def Core.canLoop (c : Core) (n : Nat) (b : Mailbox) (measured : Option Nat) : Option Nat :=
  if bit b.frame 5 && c.canTdc n then some (measured.getD (c.can n).delay) else none

/-- R344: TEC rises by 8 for an error in or behind the error flag that the controller sent as a transmitter; no further flag is
counted. -/
def Core.canFlagError (c : Core) (n : Nat) : Core :=
  let x := c.can n
  if !c.canEnds n || !x.flagTx then c else (c.setCan n { x with tec := x.tec + 8 }).errState n

/-- A transmit error ends the attempt of mailbox m (R335, R336, R344, R347). TEC is unchanged by an ACK error in error-passive and
by a stuff error in arbitration, the standard's exceptions. The loop delay measured on the frame stays (R326). -/
def Core.canTxFail (c : Core) (n m : Nat) (e : TxFault) : Core :=
  let x := c.can n
  let passive : Bool := c.reg (Reg.CAN_STATE n) == 2
  let keep : Bool := (e.kind == .ack && passive) || e.kind == .stuffInArbitration
  let loop := c.canLoop n (x.box m) e.measured
  let c := (c.endAttempt n m (c.retryState x.lateAbort)).inc (Reg.CAN_CNT_BUS_ERR n)
  let c := c.setCan n { c.can n with tec := if keep then x.tec else x.tec + 8, flagTx := true
                                     delay := if e.measured.isSome then min 127 (loop.getD x.delay) else x.delay }
  let c := if e.kind = .ack then c.ackError n m else c.setReg (Reg.CAN_ACK_RUN n) 0
  (if x.lateAbort then c.loneAborted n else c).errState n

/-- CAN_TX_ERROR: a transmit error of a kind, in a bit that the controller takes as wrong (R325, R326, R335, R344). -/
def Core.canTxError (c : Core) (n : Nat) (e : TxFault) : Core :=
  let x := c.can n
  if e.kind = .afterFlag then (if c.bitWrong n none e.seen then c.canFlagError n else c)
  else match x.active with
  | none => c
  | some m =>
    if !c.canEnds n || !x.started || !c.bitWrong n (c.canLoop n (x.box m) e.measured) e.seen then c else c.canTxFail n m e

/-! Aborts (R336 to R338). -/

/-- R337: whether an abort that completes now is registered before S; within the crossing's spread a free value decides
(log entry 1). -/
def Core.abortInTime (c : Core) (sAt : Nat) : Bool × Core :=
  let t := 2 * c.now
  if t + 80 ≤ sAt then (true, c)
  else if sAt < t + 75 then (false, c)
  else
    let (v, c) := c.draw
    (v % 2 == 1, c)

/-- R336: an abort at mailbox m. -/
def Core.abortBox (c : Core) (n m : Nat) : Core :=
  let x := c.can n
  let b := x.box m
  if b.state = 1 then c.boxState n m 4
  else if b.state = 2 then
    if !x.started then c.endAttempt n m 4
    else
      let (early, c) := c.abortInTime x.sAt
      if early then c.endAttempt n m 4 else c.setCan n { c.can n with lateAbort := true }
  else c

/-- CAN_ABORT: a mask of mailboxes (R336). -/
def Core.canAbort (c : Core) (n mask : Nat) : Core :=
  let before := (c.can n).txq
  let c := ((bitList 64 mask).filter (fun m => bit before m)).foldl (fun (c : Core) (m : Nat) => c.abortBox n m) c
  if before = 0 then c else c.loneAborted n

/-- CAN_CMD: 1 RECOVER, 2 ABORT_ALL; REFUSED 0x11, RANGE 0x0B (R336, R346). -/
def Core.canCmd (c : Core) (n v : Nat) : Nat × Core :=
  if v = 1 then (if c.reg (Reg.CAN_STATE n) = 3 then (0, c.setReg (Reg.CAN_STATE n) 4) else (0x11, c))
  else if v = 2 then (0, c.canAbort n (2 ^ 64 - 1))
  else (0x0B, c)

/-- CAN_RECOVERED: 128 occurrences of 11 recessive bits (R346). A controller whose settings no longer let it run goes off. -/
def Core.canRecovered (c : Core) (n : Nat) : Core :=
  if !c.fieldRuns || c.reg (Reg.CAN_STATE n) != 4 then c
  else
    let x := c.can n
    let st := if bits (c.cfg (Reg.CAN_MODE n)) 1 0 = 0 then 0 else if c.canConflict n then 5 else 1
    let c := ((c.setCan n { x with tec := 0, rxErr := 0 }).setReg (Reg.CAN_STATE n) st).canRegs n
    (c.canEvent n 4 0 ((c.now - x.offSince) / 1000000)).clear Src.CAN_BUS_OFF n 0

/-! Reception (R339 to R341). -/

/-- R328: before a fabric write of n bytes at local offset off, the filter bytes that it overwrites are kept for the frame under
way. -/
def Core.keepFilters (m : Memory) (c : Core) (off n : Nat) : Core :=
  (List.range n).foldl (fun (c : Core) i =>
    let a := c.swapAlias (off + i)
    let o := a % 8192
    if 44 ≤ a / 65536 ∧ a / 65536 < 48 ∧ 0x1600 ≤ o ∧ o < 0x1C00 then
      let k := (a / 65536 - 44) * 8 + a % 65536 / 8192
      c.setCan k { c.can k with filterOld := (c.can k).filterOld ++ [(o, byteOf (c.fetchNum m a 1), c.now)] }
    else c) c

/-- R328: filter bytes at offset o as they stood at an SOF sample point, `sof` in half nanoseconds. -/
def oldFilter (old : List (Nat × Byte × Nat)) (sof o : Nat) (bs : Bytes) : Bytes :=
  bs.zipIdx.map (fun b => ((old.find? (fun x => x.1 == o + b.2 && Nat.ble sof (2 * x.2.2))).map (fun x => x.2.1)).getD b.1)

/-- R339: the first valid filter entry that matches, of the last n: its number, KEY and ACTION. An entry of which a word proves
uncorrectable is not used (R219, log entry 95). -/
def Core.canFilter (m : Memory) (old : List (Nat × Byte × Nat)) (base sof word : Nat) :
    Nat → Core → Option (Nat × Nat × Nat) × Core
  | 0, c => (none, c)
  | n + 1, c =>
    let o := 0x1600 + 12 * (127 - n)
    let (bad, c) := c.eccScan m (base + o) 12
    let b := oldFilter old sof o (c.fetch m (base + o) 12)
    let action := fieldAt b 10 1
    if !bad && bit action 7 && Nat.land word (fieldAt b 4 4) == fieldAt b 0 4 then
      (some (127 - n, fieldAt b 8 2, action % 4), c)
    else Core.canFilter m old base sof word n c

/-- R328: filter bytes overwritten before an SOF sample point, `sof` in half nanoseconds, are kept no longer. -/
def Core.dropFilters (c : Core) (n sof : Nat) : Core :=
  c.setCan n { c.can n with filterOld := (c.can n).filterOld.filter (fun x => Nat.ble sof (2 * x.2.2)) }

/-- R328, R339: the filter entry of controller n that the frame with this word matches, its SOF sample point at `sof`. -/
def Core.filterHit (m : Memory) (c : Core) (n sof word : Nat) : Option (Nat × Nat × Nat) × Core :=
  Core.canFilter m (c.can n).filterOld (c.reg (Reg.MM_BASE n)) sof word 128 (c.dropFilters n sof)

/-- ISO 11898-1: REC after a frame received without error; above 127 it takes a value from 119 to 127 that the standard
leaves open (log entry 1). -/
def Core.recGood (c : Core) (n : Nat) : Core :=
  let x := c.can n
  if 127 < x.rxErr then
    let (v, c) := c.draw
    (c.setCan n { c.can n with rxErr := 119 + v % 9 }).errState n
  else if x.rxErr = 0 then c
  else (c.setCan n { x with rxErr := x.rxErr - 1 }).errState n

/-- R341: a frame goes to the next receive slot. -/
def Core.canSlot (c : Core) (n tick off fc key filter ident frame : Nat) (data : Bytes) : Core :=
  if c.reg (Reg.CAN_RX_COUNT n) = 10 then
    let c := c.inc (Reg.CAN_CNT_RX_OVERRUN n)
    c.canEvent n 8 3 (c.reg (Reg.CAN_CNT_RX_OVERRUN n))
  else
    let x := c.can n
    let wr := c.reg (Reg.CAN_RX_WR n)
    let s := leBytes 6 tick ++ leBytes 2 x.rxSeq ++ leBytes 2 key ++ [byteOf filter, 0] ++ leBytes 4 ident
      ++ [byteOf frame, 0] ++ leBytes 2 off ++ leBytes 4 fc ++ data
    let c := c.setCan n { x with slots := mapSet [] wr (padTo 96 s) x.slots }
    (c.setReg (Reg.CAN_RX_WR n) ((wr + 1) % 10)).setReg (Reg.CAN_RX_COUNT n) (c.reg (Reg.CAN_RX_COUNT n) + 1)

/-- R340: a frame becomes an item for the mapper. -/
def Core.canItem (c : Core) (n tick off fc key filter ident frame : Nat) (data : Bytes) : Core :=
  let p := leBytes 4 ident ++ [byteOf frame, byteOf filter] ++ leBytes 2 off ++ leBytes 4 fc ++ data
  let f : Frame := { kind := 0, cls := 5, dst := c.homeAddr, src := c.homeAddr, okey := c.originKey, stream := key,
                     seq := (c.can n).rxSeq, tick := tick, len := p.length, payload := p }
  c.submit (4 + n / 4) [12] { f with check := f.transitCrc }

/-- CAN_RX_ERROR: a receiver finds an error in a bit that it takes as wrong (R325, R344). It sends an error flag, but for one in or
behind a flag already sent, and in bus monitoring (R321, R505). -/
def Core.canRxError (c : Core) (n : Nat) (e : RxFault) : Core :=
  if !c.canOn n || !c.bitWrong n none e.seen then c
  else
    let x := c.can n
    let c := c.setCan n { x with rxErr := min 255 (x.rxErr + (if e.eight then 8 else 1)), flagTx := false }
    (c.incIf (!c.canMute n && !e.eight) (Reg.CAN_CNT_BUS_ERR n)).errState n

/-- CAN_FRAME_RX_COMPLETE: a frame completes, its SOF sample point `ago` KCLK periods back (R339 to R341). In mode 1 the recessive FDF
bit of an FD frame is a form error (R320). -/
def Core.canRx (m : Memory) (c : Core) (n ident frame : Nat) (data : Bytes) (ago : Nat) : Core :=
  if !c.canOn n then c
  else if bit frame 4 ∧ bits (c.cfg (Reg.CAN_MODE n)) 1 0 = 1 then c.canRxError n { eight := false }
  else
    let c := c.recGood n
    let ident := if bit frame 4 then ident % 2 ^ 30 else ident % 2 ^ 31
    let frame := if bit frame 4 then frame % 128 else frame % 16
    let data := padTo (dataLength ident frame) data
    let id := if bit ident 29 then ident % 2 ^ 29 else ident % 2 ^ 11
    let word := id + b2n (bit ident 29) * 2 ^ 29 + b2n (bit ident 30) * 2 ^ 30 + b2n (bit frame 4) * 2 ^ 31
    match Core.filterHit m c n (2 * c.now - 25 * ago) word with
    | (none, c) => c.inc (Reg.CAN_CNT_RX_NOMATCH n)
    | (some (filter, key, action), c) =>
      if action = 0 then c
      else
        let (tick, off, fc) := c.sofStamp ago
        let c := c.inc (Reg.CAN_CNT_RX n)
        let c := if 2 ≤ action then c.canSlot n tick off fc key filter ident frame data else c
        let c := if action = 1 ∨ action = 3 then c.canItem n tick off fc key filter ident frame data else c
        c.setCan n { c.can n with rxSeq := ((c.can n).rxSeq + 1) % 65536 }

/-- RX_RD_WRITE: releases receive slots; RANGE (0x0B) past RX_WR (R341). -/
def Core.canRxRd (c : Core) (n v : Nat) : Nat × Core :=
  let k := (v + 10 - c.reg (Reg.CAN_RX_RD n)) % 10
  if 9 < v ∨ c.reg (Reg.CAN_RX_COUNT n) < k then (0x0B, c)
  else (0, (c.setReg (Reg.CAN_RX_RD n) v).setReg (Reg.CAN_RX_COUNT n) (c.reg (Reg.CAN_RX_COUNT n) - k))

/-! Message memory (R327 to R329). -/

/-- The 88 bytes of a mailbox. -/
def Mailbox.bytes (b : Mailbox) : Bytes :=
  padTo 88 (leBytes 4 b.ident ++ [byteOf b.frame, 0, byteOf b.state, 0] ++ leBytes 6 b.tick ++ leBytes 2 b.offset
    ++ leBytes 4 b.fcSof ++ leBytes 2 b.attempts ++ [0, 0] ++ b.data)

/-- One byte of controller n's message memory outside the filter entries. -/
def Core.mmByte (c : Core) (n off : Nat) : Byte :=
  let x := c.can n
  if off < 0x1600 then ((x.box (off / 88)).bytes)[off % 88]?.getD 0
  else if 0x1C00 ≤ off ∧ off < 0x1FC0 then (mapGet [] ((off - 0x1C00) / 96) x.slots)[(off - 0x1C00) % 96]?.getD 0
  else 0

end Sys2Proof.Machine
end

