-- ==== Sys2Proof/Machine/Mapper.lean ====
section
/-! DEFINITION. The signal mapper (chapter 12, R402 to R420): routes, programs, release, and the writes of its tables. -/

namespace Sys2Proof.Machine

/-! The tables in memory (R404, R459). -/

/-- Route banks in force. -/
def Core.routeBanks (c : Core) : Nat := c.cfg Reg.MAP_ROUTE_BANKS

/-- Local offset of the route table: it ends below bank 40. -/
def Core.routeBase (c : Core) : Nat := (40 - c.routeBanks) * 65536

/-- Local offset of the mapping entries: banks 40 to 43. -/
def entryBase : Nat := 0x280000

/-- R404, R431: the answer of a fabric write to the mapper's tables: none when local offset a is in neither; else the status
(0 accepted, ADDRESS or ACCESS), and the bytes that an accepted write stores. -/
def Core.mapTableBytes (c : Core) (m : Memory) (a : Nat) (b : Bytes) (stAddress stAccess : Nat) : Option (Nat × Bytes) :=
  let r := c.routeBase
  if r ≤ a ∧ a < r + c.routeBanks * 65536 then
    if b.length ≠ 32 ∨ a % 32 ≠ 0 then some (stAddress, [])
    else if bits (fieldAt b 0 2) 5 4 = 3 then some (stAccess, [])
    else some (0, b.take 22 ++ c.fetch m (a + 22) 6 ++ b.drop 28)
  else if entryBase ≤ a ∧ a < entryBase + 262144 then
    if b.length ≠ 16 ∨ a % 16 ≠ 0 then some (stAddress, []) else some (0, b)
  else none

/-- R404: the status of a write to the mapper's tables, and memory with what it stores. -/
def Core.mapTableWrite (c : Core) (m : Memory) (a : Nat) (b : Bytes) (stAddress stAccess : Nat) : Option (Nat × Memory) :=
  (c.mapTableBytes m a b stAddress stAccess).map (fun x => (x.1, if x.1 = 0 then c.store m a x.2 else m))

/-- R403, R405: the route entry of a key; none when the key is out of the table or the entry not VALID. -/
def Core.route (c : Core) (m : Memory) (key : Nat) : Option MapRoute :=
  if 2048 * c.routeBanks ≤ key then none
  else
    let b := c.fetch m (c.routeBase + key * 32) 32
    if bit (fieldAt b 0 2) 0 then
      some { flags := fieldAt b 0 2, dest := fieldAt b 2 2, outId := fieldAt b 4 4, canFrame := fieldAt b 8 1,
             canMailbox := fieldAt b 9 1, outLen := fieldAt b 10 2, program := fieldAt b 12 2, outKey := fieldAt b 14 2,
             origin := fieldAt b 16 2, next := fieldAt b 18 2, lead := fieldAt b 20 2, tail := fieldAt b 28 4 }
    else none

/-- A mapping entry (R409). -/
structure MapEntry where
  srcPos : Nat
  srcFmt : Nat
  mode : Nat
  gain : Int
  offset : Int
  shift : Nat
  dstFmt : Nat
  dstPos : Nat
  deriving DecidableEq, Repr

/-- Mapping entry i. -/
def mapEntryAt (c : Core) (m : Memory) (i : Nat) : MapEntry :=
  let b := c.fetch m (entryBase + i * 16) 16
  { srcPos := fieldAt b 0 2, srcFmt := fieldAt b 2 1, mode := fieldAt b 3 1, gain := toInt 32 (fieldAt b 4 4),
    offset := toInt 32 (fieldAt b 8 4), shift := fieldAt b 12 1, dstFmt := fieldAt b 13 1, dstPos := fieldAt b 14 2 }

/-! Fields of a payload (R409, R410, R412). -/

/-- R410: bit positions that a BIG field visits, the most significant bit first. -/
def bigWalk : Nat → Nat → List Nat
  | 0, _ => []
  | n + 1, p => p :: bigWalk n (if p % 8 = 0 then p + 15 else p - 1)

/-- R410: bit positions of a field, its least significant bit first. -/
def fieldBits (pos len : Nat) (big : Bool) : List Nat :=
  if big then (bigWalk len pos).reverse else (List.range len).map (fun k => pos + k)

/-- Bit p of a payload. -/
def payBit (b : Bytes) (p : Nat) : Bool := bit (b.getD (p / 8) 0).toNat (p % 8)

/-- The payload with bit p set to v. -/
def setPayBit (b : Bytes) (p : Nat) (v : Bool) : Bytes := b.set (p / 8) (byteOf (setBit (b.getD (p / 8) 0).toNat (p % 8) v))

/-- The number whose bits, least significant first, stand at the given positions. -/
def gather (b : Bytes) : List Nat → Nat
  | [] => 0
  | p :: ps => b2n (payBit b p) + 2 * gather b ps

/-- The payload with the bits of v, least significant first, written at the given positions. -/
def scatter (b : Bytes) (v : Nat) : List Nat → Bytes
  | [] => b
  | p :: ps => scatter (setPayBit b p (bit v 0)) (v / 2) ps

/-- R410: x from the input payload; none where the field leaves it. -/
def unpack (b : Bytes) (pos fmt : Nat) : Option Int :=
  let len := bits fmt 4 0 + 1
  let ps := fieldBits pos len (bit fmt 6)
  if ps.any (fun p => Nat.ble (8 * b.length) p) then none
  else
    let x := gather b ps
    some (if bit fmt 5 then toInt len x else x)

/-- R412: y in the range of DST_FMT. -/
def saturate (fmt : Nat) (y : Int) : Int :=
  let len := bits fmt 4 0 + 1
  if bit fmt 5 then clampInt (-((2 ^ (len - 1) : Nat) : Int)) (((2 ^ (len - 1) : Nat) : Int) - 1) y
  else clampInt 0 (((2 ^ len : Nat) : Int) - 1) y

/-- R412: the output payload with y's field written; none where the field leaves it. -/
def pack (b : Bytes) (pos fmt : Nat) (y : Int) : Option Bytes :=
  let len := bits fmt 4 0 + 1
  let ps := fieldBits pos len (bit fmt 6)
  if ps.any (fun p => Nat.ble (8 * b.length) p) then none else some (scatter b (ofInt len y) ps)

/-! Programs (R408 to R413). -/

/-- R416: a map fault of this cause, at this route and entry, ends the chain. -/
def MapRun.fail (r : MapRun) (cause route entry : Nat) : MapRun := { r with fault := some (cause, route, entry), at_ := none }

/-- R219, R416 cause 6: a fetch of n bytes at local offset a for the run; an uncorrectable word is a map fault. -/
def Core.mapFetch (c : Core) (r : MapRun) (m : Memory) (a n key entry : Nat) : MapRun × Core :=
  let (bad, c) := c.eccScan m a n
  (if bad then r.fail 6 key entry else r, c)

/-- R411: y = (x * GAIN + OFFSET) >> SHIFT, exact, rounding toward minus infinity. -/
def scaled (e : MapEntry) (x : Int) : Int := (x * e.gain + e.offset) / ((2 ^ e.shift : Nat) : Int)

/-- R410: x of an entry; none for a source outside the payload, or a slot outside the memory of R420. -/
def Core.entrySource (c : Core) (e : MapEntry) (inp : Bytes) : Option Int :=
  match bits e.mode 1 0 with
  | 0 => unpack inp e.srcPos e.srcFmt
  | 1 => if e.srcPos < 2048 then some (c.regI 32 (Reg.SIG_VALUE e.srcPos)) else none
  | _ => some 0

/-- One mapping entry i of route key (R409 to R412), with whether its result was saturated. -/
def Core.runEntry (c : Core) (e : MapEntry) (key i : Nat) (r : MapRun) : MapRun × Bool :=
  if bit e.srcFmt 7 ∨ 16 ≤ e.mode ∨ 32 ≤ e.shift ∨ bit e.dstFmt 7 ∨ bits e.mode 1 0 = 3 then (r.fail 5 key i, false)
  else match c.entrySource e r.item.payload with
    | none => (r.fail 1 key i, false)
    | some x =>
      let y := scaled e x
      if bit e.mode 2 then
        let v := clampInt (-2147483648) 2147483647 y
        if 2048 ≤ e.dstPos then (r.fail 2 key i, false)
        else ({ r with stores := r.stores ++ [{ slot := e.dstPos, value := ofInt 32 v, sat := v != y, route := key }] }, v != y)
      else
        let v := saturate e.dstFmt y
        match pack r.out e.dstPos e.dstFmt v with
        | none => (r.fail 2 key i, v != y)
        | some o => ({ r with out := o }, v != y)

/-- R416 cause 5: the route holds a reserved bit, an invalid code or an invalid combination. -/
def Core.badRoute (c : Core) (r : MapRoute) : Bool :=
  let kind := bits r.flags 3 1
  let pre := bits r.flags 8 7
  let idb := bits r.flags 11 9
  bits r.flags 15 13 != 0 || bits r.outId 31 29 != 0 || r.tail != 0 || Nat.blt 4 kind || bits r.flags 5 4 == 3 || pre == 3
    || Nat.blt 4 idb || (bit r.flags 6 && bits r.flags 5 4 != 1)
    || ((kind == 1 || kind == 2 || kind == 3) && Nat.blt (if kind = 1 then 127 else 31) r.dest)
    || (kind == 4 && r.dest == c.homeAddr)
    || (r.program != 0xFFFF && (Nat.blt 1024 r.outLen || (pre == 1 && Nat.blt r.outLen idb) || (pre == 2 && Nat.blt r.outLen 8)))

/-- R413 steps 1 to 3: the payload before the program's entries write. -/
def prefill (r : MapRoute) : Bytes :=
  match bits r.flags 8 7 with
  | 1 =>
    let n := bits r.flags 11 9
    splice (zeros r.outLen) 0 ((leBytes n r.outId).reverse)
  | 2 => splice (zeros r.outLen) 0 (leBytes 4 (bits r.outId 28 0 + b2n (bit r.flags 12) * 2 ^ 29)
      ++ [byteOf r.canFrame, byteOf r.canMailbox, 0, 0])
  | _ => zeros r.outLen

/-- R407: a route has run: its output item, unless DEST_KIND is 0, and the route that NEXT names. -/
def Core.routeEnd (c : Core) (m : Memory) (r : MapRun) (s : MapStep) : MapRun × Core :=
  let kind := bits s.route.flags 3 1
  let o : MapOut := { route := s.key, kind := kind, dest := s.route.dest, cls := bits s.route.flags 5 4,
                      urgent := bit s.route.flags 6, key := s.route.outKey, lead := s.route.lead, payload := r.out }
  let r := { r with outs := if kind = 0 then r.outs else r.outs ++ [o], at_ := none }
  let next := s.route.next
  if next = 0xFFFF then (r, c)
  else if s.left ≤ 1 ∨ 2048 * c.routeBanks ≤ next then (r.fail 4 s.key 0xFFFF, c)
  else
    let (r, c) := c.mapFetch r m (c.routeBase + next * 32) 32 next 0xFFFF
    if r.fault.isSome then (r, c)
    else match c.route m next with
      | none => (r.fail 4 s.key 0xFFFF, c)
      | some x => ({ r with at_ := some { key := next, route := x, left := s.left - 1 } }, c)

/-- R408, R413: a route begins: a copy is made, or the payload that the program's entries write is laid out. -/
def Core.routeBegin (c : Core) (m : Memory) (r : MapRun) (s : MapStep) : MapRun × Core :=
  let r := { r with hits := r.hits ++ [s.key] }
  if c.badRoute s.route then (r.fail 5 s.key 0xFFFF, c)
  else if s.route.program = 0xFFFF then
    let n := (r.item.payload.length + 15) / 16
    if 128 < r.work + n then (r.fail 3 s.key 0xFFFF, c)
    else c.routeEnd m { r with work := r.work + n, due := r.due + 8 * n, out := r.item.payload } s
  else ({ r with out := prefill s.route, at_ := some { s with entry := some s.route.program } }, c)

/-- R408: a program's entry i is fetched and run: in ascending order through the first whose LAST is 1. -/
def Core.entryStep (c : Core) (m : Memory) (r : MapRun) (s : MapStep) (i : Nat) : MapRun × Core :=
  if 128 ≤ r.work then (r.fail 3 s.key i, c)
  else if 16383 < i then (r.fail 3 s.key 0xFFFF, c)
  else
    let (r, c) := c.mapFetch r m (entryBase + i * 16) 16 s.key i
    if r.fault.isSome then (r, c)
    else
      let e := mapEntryAt c m i
      let (r, sat) := c.runEntry e s.key i { r with work := r.work + 1, due := r.due + 8 }
      let c := c.setReg Reg.CNT_OPS (min (c.reg Reg.CNT_OPS + 1) (2 ^ 64 - 1))
      let c := ({ c with map := { c.map with ops := c.map.ops + 1 } }).incIf sat Reg.CNT_SAT
      if r.fault.isSome then (r, c)
      else if bit e.mode 3 then c.routeEnd m r s
      else ({ r with at_ := some { s with entry := some (i + 1) } }, c)

/-- R407, R408, R418, R426: an item's chain runs as far as its units of work, 8 ns each, have come by local time `upto`; each
entry runs as it stands at its own fetch. The first argument bounds the steps: 8 routes and 128 units of work. -/
def Core.runChain (m : Memory) (upto : Nat) : Nat → MapRun → Core → MapRun × Core
  | 0, r, c => (r, c)
  | n + 1, r, c =>
    match r.at_ with
    | none => (r, c)
    | some s =>
      if upto < r.due then (r, c)
      else
        let (r, c) := match s.entry with
          | none => c.routeBegin m r s
          | some i => c.entryStep m r s i
        Core.runChain m upto n r c

/-- More steps than a chain takes. -/
abbrev chainSteps : Nat := 160

/-- Every item in the mapper runs its chain as far as it has come now. -/
def Core.mapCatchUp (c : Core) (m : Memory) : Core :=
  c.map.runs.zipIdx.foldl (fun (c : Core) x =>
    let (r, c) := Core.runChain m c.now chainSteps x.1 c
    { c with map := { c.map with runs := c.map.runs.set x.2 r } }) c

/-- R417: HITS of a route rises by 1. -/
def Core.hitRoute (c : Core) (m : Memory) (key : Nat) : Memory :=
  let a := c.routeBase + key * 32 + 24
  c.store m a (leBytes 4 (satAdd32 (c.fetchNum m a 4) 1))

/-- R417: HITS of the routes that an item has reached rises. -/
def Core.hitRoutes (c : Core) (m : Memory) (keys : List Nat) : Memory := keys.foldl (fun (m : Memory) key => c.hitRoute m key) m

/-- R402: the waiting item that starts next: the lowest class, then the oldest arrival. -/
def nextItem (fs : List Frame) : Option Frame := (sortBy (fun (a b : Frame) => Nat.blt a.cls b.cls) fs).head?

/-- The items that wait at SP_12. -/
def Core.atMapper (c : Core) : List Frame := (c.sw.delivered.filter (fun d => d.1 == 12)).map (fun d => d.2)

/-- R216: the input verdict of an item is fail. -/
def Core.bridgeFail (c : Core) (f : Frame) (injected : Bool) : Core :=
  ((c.inc Reg.CNT_BRIDGE_FAIL).lastFail 0x03 0 f injected).reportOnce Src.BRIDGE_CHECK noInst 0 0 (checkDetail 0x03 f) injected

/-- R208, R417: an item without a route to run is verified as every item at SP_12 is; it counts as a bridged failure, or in the
counter of its outcome. -/
def Core.dropItem (c : Core) (f : Frame) (inverted : Bool) (cnt : Nat) : Core :=
  let v := verdictOf inverted 32 f.check f.transitCrc
  if v.ok then c.inc cnt else c.bridgeFail f v.injected

/-- An item enters the mapper and its chain runs as far as its first instant brings it. -/
def Core.enterMapper (m : Memory) (c : Core) (r : MapRun) : Memory × Core :=
  let (r, c) := Core.runChain m c.now chainSteps r c
  (c.hitRoutes m r.hits, { c with map := { c.map with runs := c.map.runs ++ [{ r with hits := [] }] } })

/-- R403, R407, R416, R417: an input item starts: its check begins, its route is fetched and its chain begins to run. A route fetch
that proves uncorrectable is a map fault (R416 cause 6). -/
def Core.startItem (m : Memory) (c : Core) (f : Frame) : Memory × Core :=
  let (inv, c) := (c.inc Reg.CNT_IN).beginCheck 0x03 0
  if !c.mapRuns || Nat.ble (2048 * c.routeBanks) f.stream then (m, c.dropItem f inv Reg.CNT_NO_ROUTE)
  else
    let (run, c) := c.mapFetch { item := f, inverted := inv, due := c.now } m (c.routeBase + f.stream * 32) 32 f.stream 0xFFFF
    if run.fault.isSome then Core.enterMapper m c run
    else match c.route m f.stream with
      | none => (m, c.dropItem f inv Reg.CNT_NO_ROUTE)
      | some r =>
        if r.origin ≠ 0xFFFF ∧ r.origin ≠ f.okey then (c.hitRoute m f.stream, c.dropItem f inv Reg.CNT_ORIGIN_MISMATCH)
        else Core.enterMapper m c { run with at_ := some { key := f.stream, route := r, left := 8 } }

/-- MAPPER_INPUT_ITEM: an item reaches SP_12, if one is given and does not wait there yet; then the mapper starts the
waiting item that R402 puts first. -/
def Core.mapperInput (m : Memory) (c : Core) (arrived : Option Frame) : Memory × Core :=
  if !c.up then (m, c)
  else
    let c := match arrived with
      | some f => if c.atMapper.contains f then c
        else { c with sw := { c.sw with delivered := c.sw.delivered ++ [(12, f)] } }
      | none => c
    let c := c.mapCatchUp m
    match nextItem c.atMapper with
    | none => (m, c)
    | some f => (c.undeliver 12 f).startItem m f

/-! Release (R214 to R216, R414, R415, R420). -/

/-- R420: a slot store acts. -/
def Core.storeSlot (c : Core) (inTick : Nat) (s : SlotStore) : Core :=
  let known := inTick != tickUnknown && !tickAhead inTick c.tickNow
  (((c.setReg (Reg.SIG_VALUE s.slot) s.value).setReg (Reg.SIG_TICK s.slot) (if known then inTick else c.tickNow)).setReg
    (Reg.SIG_FLAGS s.slot) (1 + 2 * b2n s.sat)).setReg (Reg.SIG_ROUTE s.slot) s.route

/-- R416: a map fault discards the item. -/
def Core.mapFault (c : Core) (f : Frame) (cause route entry : Nat) : Core :=
  let c := c.inc Reg.CNT_MAP_FAULT
  let c := ((((((c.setReg Reg.MF_CAUSE cause).setReg Reg.MF_ROUTE route).setReg Reg.MF_ENTRY entry).setReg Reg.MF_SOURCE
    f.src).setReg Reg.MF_SEQUENCE f.seq).setReg Reg.MF_TICK c.tick)
  c.reportOnce Src.MAP_FAULT noInst 0 cause 0 false

/-- R414: the frame of an output item with sequence number q; its HOP_CHECK is 0. -/
def Core.outFrame (c : Core) (inTick q : Nat) (o : MapOut) : Frame :=
  let dst := if o.kind = 4 then o.dest else c.homeAddr
  ({ kind := [1, 2, 0].getD o.cls 0, cls := [2, 3, 5].getD o.cls 5, mcast := isMcast dst, pair := c.originKey != c.homeAddr,
     urgent := o.urgent, dst := dst, src := c.homeAddr, okey := c.originKey, stream := o.key, seq := q,
     tick := if o.lead = 0 ∨ inTick = tickUnknown then inTick else (inTick + o.lead) % tickMod, payload := o.payload } :
    Frame).transitSeal

/-- R510: the standby's item of route key has found its GRANT: the same number hands it off; another discards it and sets the
route's OUT_SEQ. -/
def Core.pairMatch (m : Memory) (c : Core) (key : Nat) (f : Frame) (g : TwGrant) : Memory × Core :=
  if f.seq = g.seq then (m, (c.inc Reg.CNT_PAIR_MATCH).originate 12 f)
  else (c.store m (c.routeBase + key * 32 + 22) (leBytes 2 ((g.seq + 1) % 65536)), c.inc Reg.CNT_PAIR_MISMATCH)

/-- The GRANT names this frame (R510). -/
def TwGrant.names (g : TwGrant) (f : Frame) (occ : Nat) : Bool :=
  g.cls == f.cls && g.stream == f.stream && g.tick == f.tick && g.occ == occ

/-- R510: an item of the standby enters the pairing hold, or finds its GRANT there already; a full hold loses its oldest. -/
def Core.holdOut (m : Memory) (c : Core) (key : Nat) (f : Frame) : Memory × Core :=
  let (occ, c) := c.occurrence f.cls f.stream f.tick
  match c.twin.grants.find? (fun g => g.1.names f occ) with
  | some g =>
    Core.pairMatch m { c with twin := { c.twin with grants := c.twin.grants.filter (fun x => !x.1.names f occ) } } key f g.1
  | none =>
    let full : Bool := Nat.ble 512 c.twin.hold.length
    let rest := if full then c.twin.hold.drop 1 else c.twin.hold
    let h : HeldOut := { route := key, occ := occ, frame := f, left := 1000 * c.reg Reg.PAIR_WAIT, since := c.now }
    (m, ({ c with twin := { c.twin with hold := rest ++ [h] } }).incIf full Reg.CNT_HOLD_DROP)

/-- R414: an output item takes its OUT_SEQ and is handed to the switch: to the port of its instance's cluster, or to the
ring, in a pair as R509 and R510 say. -/
def Core.releaseOut (m : Memory) (c : Core) (inTick : Nat) (o : MapOut) : Memory × Core :=
  let a := c.routeBase + o.route * 32 + 22
  let q := c.fetchNum m a 2
  let f := c.outFrame inTick q o
  let c := c.inc Reg.CNT_OUT
  let m := c.store m a (leBytes 2 ((q + 1) % 65536))
  match o.kind with
  | 1 => (m, c.submit 12 [4 + o.dest / 16] f)
  | 2 => (m, c.submit 12 [4 + o.dest / 4] f)
  | 3 => (m, c.submit 12 [4 + o.dest / 4] f)
  | _ => if c.standby then Core.holdOut m c o.route f else (m, (c.grantFrame f.cls f.stream q f.tick o.route).originate 12 f)

/-- MAPPER_RELEASE: the oldest item in the mapper has run its chain and has its verdict; its outputs and stores are released together, or none. -/
def Core.mapperRelease (m : Memory) (c : Core) : Memory × Core :=
  let c := c.mapCatchUp m
  match c.map.runs with
  | [] => (m, c)
  | r :: rest =>
    let (r, c) := Core.runChain m (c.now + 8 * chainSteps) chainSteps r { c with map := { c.map with runs := rest } }
    let m := c.hitRoutes m r.hits
    let v := verdictOf r.inverted 32 r.item.check r.item.transitCrc
    if !v.ok then (m, c.bridgeFail r.item v.injected)
    else match r.fault with
      | some (cause, route, entry) => (m, c.mapFault r.item cause route entry)
      | none =>
        let c := r.stores.foldl (fun (c : Core) s => c.storeSlot r.item.tick s) c
        r.outs.foldl (fun (x : Memory × Core) o => Core.releaseOut x.1 x.2 r.item.tick o) (m, c)

/-- MAP_LOAD_WINDOW_END: a 1 ms window of system time ends (R419). -/
def Core.mapWindow (m : Memory) (c : Core) : Core :=
  if !c.up then c
  else
    let c := (c.endMs c.map.window).mapCatchUp m
    let n := c.map.ops
    let c := (c.setReg Reg.MAP_LOAD n).setReg Reg.MAP_LOAD_PEAK (max n (c.reg Reg.MAP_LOAD_PEAK))
    { c with map := { c.map with ops := 0, window := c.sysNs / 1000000 } }

end Sys2Proof.Machine
end

