-- ==== Sys2Proof/Machine/Standards.lean ====
section
/-! DEFINITION. Functions of outside standards that the spec names: the inflate of RFC 1951 with the block types of R128, and the
SHA-512 of FIPS 180-4 (R612). PRESUMED: the standards stand outside the spec (log entry 58). -/

namespace Sys2Proof.Machine

/-! Inflate (R128): bits are read from the least significant of each byte. -/

/-- The bits of a byte string. -/
def bitStream (bs : Bytes) : List Bool := bs.flatMap (fun b => (List.range 8).map (fun i => bit b.toNat i))

/-- A number of n bits, its least significant first. -/
def takeBits : Nat → List Bool → Option (Nat × List Bool)
  | 0, s => some (0, s)
  | _ + 1, [] => none
  | n + 1, b :: s => (takeBits n s).map (fun x => (b2n b + 2 * x.1, x.2))

/-- A code word of n bits, its most significant first; v holds the bits before it. -/
def takeCode : Nat → Nat → List Bool → Option (Nat × List Bool)
  | 0, v, s => some (v, s)
  | _ + 1, _, [] => none
  | n + 1, v, b :: s => takeCode n (2 * v + b2n b) s

/-- The next symbol of the fixed literal and length code. -/
def fixedSymbol (s : List Bool) : Option (Nat × List Bool) :=
  match takeCode 7 0 s with
  | none => none
  | some (v, s) =>
    if v < 24 then some (256 + v, s)
    else match takeCode 1 v s with
      | none => none
      | some (v, s) =>
        if v < 192 then some (v - 48, s)
        else if v < 200 then some (v + 88, s)
        else (takeCode 1 v s).map (fun x => (x.1 - 256, x.2))

/-- Length code: bits that follow and the length that they are added to. -/
def lengthOf (sym : Nat) : Nat × Nat :=
  if sym < 265 then (0, sym - 254)
  else if sym = 285 then (0, 258)
  else ((sym - 261) / 4, 3 + (4 + (sym - 265) % 4) * 2 ^ ((sym - 261) / 4))

/-- Distance code: bits that follow and the distance that they are added to. -/
def distanceOf (d : Nat) : Nat × Nat := if d < 4 then (0, d + 1) else (d / 2 - 1, 1 + (2 + d % 2) * 2 ^ (d / 2 - 1))

/-- n bytes are repeated from a distance back; the output stands newest first. -/
def repeatBack (dist : Nat) : Nat → Bytes → Bytes
  | 0, out => out
  | n + 1, out => repeatBack dist n (out.getD (dist - 1) 0 :: out)

/-- The copy that a length symbol asks for. -/
def copyBack (sym : Nat) (s : List Bool) (out : Bytes) : Option (List Bool × Bytes) :=
  if 285 < sym then none
  else
    let (n, base) := lengthOf sym
    match takeBits n s with
    | none => none
    | some (more, s) => match takeCode 5 0 s with
      | none => none
      | some (d, s) =>
        if 29 < d then none
        else match takeBits (distanceOf d).1 s with
          | none => none
          | some (far, s) =>
            let dist := (distanceOf d).2 + far
            if out.length < dist then none else some (s, repeatBack dist (base + more) out)

/-- The bytes of a stored block, which begins at a byte boundary. -/
def storedBlock (s : List Bool) (out : Bytes) : Option (List Bool × Bytes) :=
  match takeBits 16 (s.drop (s.length % 8)) with
  | none => none
  | some (len, s) => match takeBits 16 s with
    | none => none
    | some (inv, s) =>
      if len + inv ≠ 65535 ∨ s.length < 8 * len then none
      else
        let bytes := (List.range len).map (fun i => byteOf (((takeBits 8 (s.drop (8 * i))).map (fun x => x.1)).getD 0))
        some (s.drop (8 * len), bytes.reverse ++ out)

/-- One block after the other: the option is none between blocks, else whether the one that runs is the last; `fixed` allows no
stored block; `fuel` bounds the headers and symbols read. The stream ends within its last byte. -/
def inflateRun (fixed : Bool) : Nat → Option Bool → List Bool → Bytes → Option Bytes
  | 0, _, _, _ => none
  | fuel + 1, none, s, out =>
    match takeBits 3 s with
    | none => none
    | some (h, s) =>
      let last := bit h 0
      if h / 2 = 1 then inflateRun fixed fuel (some last) s out
      else if h / 2 = 0 ∧ fixed = false then
        match storedBlock s out with
        | none => none
        | some (s, out) => if last then (if s.length < 8 then some out.reverse else none) else inflateRun fixed fuel none s out
      else none
  | fuel + 1, some last, s, out =>
    match fixedSymbol s with
    | none => none
    | some (sym, s) =>
      if sym < 256 then inflateRun fixed fuel (some last) s (byteOf sym :: out)
      else if sym = 256 then
        if last then (if s.length < 8 then some out.reverse else none) else inflateRun fixed fuel none s out
      else match copyBack sym s out with
        | none => none
        | some (s, out) => inflateRun fixed fuel (some last) s out

/-- The inflated data; none when they are no stream of stored and fixed-Huffman blocks, or of the
latter alone where `fixed` is true (R128). -/
def inflate (bs : Bytes) (fixed : Bool := false) : Option Bytes := inflateRun fixed (8 * bs.length + 1) none (bitStream bs) []

/-! SHA-512 (R612). -/

/-- The round constants. -/
def shaK0 : List Nat := [
  0x428A2F98D728AE22, 0x7137449123EF65CD, 0xB5C0FBCFEC4D3B2F, 0xE9B5DBA58189DBBC, 0x3956C25BF348B538,
  0x59F111F1B605D019, 0x923F82A4AF194F9B, 0xAB1C5ED5DA6D8118, 0xD807AA98A3030242, 0x12835B0145706FBE,
  0x243185BE4EE4B28C, 0x550C7DC3D5FFB4E2, 0x72BE5D74F27B896F, 0x80DEB1FE3B1696B1, 0x9BDC06A725C71235,
  0xC19BF174CF692694, 0xE49B69C19EF14AD2, 0xEFBE4786384F25E3, 0x0FC19DC68B8CD5B5, 0x240CA1CC77AC9C65,
  0x2DE92C6F592B0275, 0x4A7484AA6EA6E483, 0x5CB0A9DCBD41FBD4, 0x76F988DA831153B5, 0x983E5152EE66DFAB,
  0xA831C66D2DB43210, 0xB00327C898FB213F, 0xBF597FC7BEEF0EE4, 0xC6E00BF33DA88FC2, 0xD5A79147930AA725,
  0x06CA6351E003826F, 0x142929670A0E6E70, 0x27B70A8546D22FFC, 0x2E1B21385C26C926, 0x4D2C6DFC5AC42AED,
  0x53380D139D95B3DF, 0x650A73548BAF63DE, 0x766A0ABB3C77B2A8, 0x81C2C92E47EDAEE6, 0x92722C851482353B]

/-- The round constants, the second half. -/
def shaK1 : List Nat := [
  0xA2BFE8A14CF10364, 0xA81A664BBC423001, 0xC24B8B70D0F89791, 0xC76C51A30654BE30, 0xD192E819D6EF5218,
  0xD69906245565A910, 0xF40E35855771202A, 0x106AA07032BBD1B8, 0x19A4C116B8D2D0C8, 0x1E376C085141AB53,
  0x2748774CDF8EEB99, 0x34B0BCB5E19B48A8, 0x391C0CB3C5C95A63, 0x4ED8AA4AE3418ACB, 0x5B9CCA4F7763E373,
  0x682E6FF3D6B2B8A3, 0x748F82EE5DEFB2FC, 0x78A5636F43172F60, 0x84C87814A1F0AB72, 0x8CC702081A6439EC,
  0x90BEFFFA23631E28, 0xA4506CEBDE82BDE9, 0xBEF9A3F7B2C67915, 0xC67178F2E372532B, 0xCA273ECEEA26619C,
  0xD186B8C721C0C207, 0xEADA7DD6CDE0EB1E, 0xF57D4F7FEE6ED178, 0x06F067AA72176FBA, 0x0A637DC5A2C898A6,
  0x113F9804BEF90DAE, 0x1B710B35131C471B, 0x28DB77F523047D84, 0x32CAAB7B40C72493, 0x3C9EBE0A15C9BEBC,
  0x431D67C49C100D4C, 0x4CC5D4BECB3E42B6, 0x597F299CFC657E2A, 0x5FCB6FAB3AD6FAEC, 0x6C44198C4A475817]

/-- The initial hash value. -/
def shaInit : List Nat := [
  0x6A09E667F3BCC908, 0xBB67AE8584CAA73B, 0x3C6EF372FE94F82B, 0xA54FF53A5F1D36F1, 0x510E527FADE682D1,
  0x9B05688C2B3E6C1F, 0x1F83D9ABFB41BD6B, 0x5BE0CD19137E2179]

/-- Rotation of a 64-bit word to the right. -/
def ror64 (n x : Nat) : Nat := x / 2 ^ n + x % 2 ^ n * 2 ^ (64 - n)

/-- The xor of two rotations and of a rotation or shift. -/
def shaMix (a b c x : Nat) (shift : Bool) : Nat :=
  Nat.xor (Nat.xor (ror64 a x) (ror64 b x)) (if shift then x / 2 ^ c else ror64 c x)

/-- The message schedule, newest first, n words longer. -/
def shaSchedule : Nat → List Nat → List Nat
  | 0, w => w
  | n + 1, w =>
    shaSchedule n ((shaMix 19 61 6 (w.getD 1 0) true + w.getD 6 0 + shaMix 1 8 7 (w.getD 14 0) true + w.getD 15 0) % 2 ^ 64 :: w)

/-- One round: the eight working words with the round's constant and schedule word. -/
def shaRound (h : List Nat) (kw : Nat × Nat) : List Nat :=
  match h with
  | [a, b, c, d, e, f, g, x] =>
    let t1 := x + shaMix 14 18 41 e false + Nat.xor (Nat.land e f) (Nat.land (2 ^ 64 - 1 - e) g) + kw.1 + kw.2
    let t2 := shaMix 28 34 39 a false + Nat.xor (Nat.xor (Nat.land a b) (Nat.land a c)) (Nat.land b c)
    [(t1 + t2) % 2 ^ 64, a, b, c, (d + t1) % 2 ^ 64, e, f, g]
  | _ => h

/-- The number that bytes spell, the most significant first. -/
def beVal (bs : Bytes) : Nat := bs.foldl (fun a b => 256 * a + b.toNat) 0

/-- One block of 128 bytes. -/
def shaBlock (h : List Nat) (block : Bytes) : List Nat :=
  let w := (List.range 16).map (fun i => beVal (slice block (8 * i) 8))
  let all := (shaSchedule 64 w.reverse).reverse
  List.zipWith (fun x y => (x + y) % 2 ^ 64) h (((shaK0 ++ shaK1).zip all).foldl shaRound h)

/-- The message with its padding: 0x80, zeros and the length in bits. -/
def shaPad (m : Bytes) : Bytes :=
  m ++ 0x80#8 :: zeros ((239 - m.length % 128) % 128) ++ (leBytes 16 (8 * m.length)).reverse

/-- SHA-512 of a byte string, 64 bytes. -/
def sha512 (m : Bytes) : Bytes :=
  let p := shaPad m
  ((List.range (p.length / 128)).foldl (fun h i => shaBlock h (slice p (128 * i) 128)) shaInit).flatMap
    (fun x => (leBytes 8 x).reverse)

end Sys2Proof.Machine
end

