-- ==== Sys2Proof/Machine/Trunk.lean ====
section
/-! DEFINITION. Serial trunks (chapter 03, R125 to R133): the queue, the planes and their blocks, resets, and the rebuilt
frames. -/

namespace Sys2Proof.Machine

/-- Trunk t. -/
def Core.trunk (c : Core) (t : Nat) : Trunk := mapGet {} t c.ring.trunks

/-- Replaces trunk t. -/
def Core.setTrunk (c : Core) (t : Nat) (x : Trunk) : Core :=
  { c with ring := { c.ring with trunks := mapSet {} t x c.ring.trunks } }

/-- A plane: 0 control, 1 management. -/
def Trunk.plane (x : Trunk) (k : Nat) : TrunkPlane := if k = 0 then x.control else x.manage

/-- Replaces a plane. -/
def Trunk.setPlane (x : Trunk) (k : Nat) (q : TrunkPlane) : Trunk :=
  if k = 0 then { x with control := q } else { x with manage := q }

/-- R127: the plane of a class. -/
def planeOf (cls : Nat) : Nat := if cls = 3 then 0 else 1

/-- R131: bytes that a frame takes in the trunk queue. -/
def Frame.queueBytes (f : Frame) : Nat := f.payload.length + 36

/-- The frames that take room in a trunk's queue: those that wait and those begun, which go back there at a link reset (DESIGN
CHOICE, log entry 102). -/
def Trunk.held (x : Trunk) : List Frame :=
  (x.control.frames ++ x.manage.frames).map (fun f => f.frame) ++ x.queue.map (fun q => q.frame)

/-- Bytes of a list of frames in the queue. -/
def queueSum (fs : List Frame) : Nat := fs.foldl (fun a f => a + f.queueBytes) 0

/-- Bytes of a class queued on all trunks. -/
def Core.classQueued (c : Core) (cls : Nat) : Nat :=
  c.ring.trunks.foldl (fun a t => a + queueSum (t.2.held.filter (fun f => f.cls == cls))) 0

/-- TRUNK_QUEUED and the class figures follow the queues. -/
def Core.trunkQueued (c : Core) (t : Nat) : Core :=
  let n := queueSum (c.trunk t).held
  (((c.setReg (Reg.TRUNK_QUEUED t) n).setReg Reg.TRUNK_QUEUED_C3 (c.classQueued 3)).setReg Reg.TRUNK_QUEUED_C4
    (c.classQueued 4)).setReg Reg.TRUNK_QUEUED_C6 (c.classQueued 6)

/-- R131: the part of the queue that a class has. -/
def trunkPart (cls : Nat) : Nat := if cls = 6 then 131072 else 65536

/-- TRUNK_FRAME_ENQUEUE: a frame reaches trunk t (R126, R127, R131, R147, R211). -/
def Core.trunkEnqueue (c : Core) (t : Nat) (f : Frame) : Core :=
  if !c.up || !c.trunkActive t then c
  else
    let c := c.undeliver (c.trunkPort t) f
    if f.cls ≠ 3 ∧ f.cls ≠ 4 ∧ f.cls ≠ 6 then c.inc (Reg.TRUNK_CNT_DROP_CLASS t)
    else
      let (v, c) := c.checkFrame 0x0B t f
      if !v.ok then c.localFail 0x0B t Reg.CNT_TRUNK_FAIL f v.injected
      else if trunkPart f.cls < c.classQueued f.cls + f.queueBytes then c.inc (Reg.TRUNK_CNT_DROP_FULL t)
      else
        let x := c.trunk t
        (c.setTrunk t { x with queue := x.queue ++ [{ frame := f, entered := c.sysNs }] }).trunkQueued t

/-! Blocks on the line. -/

/-- One bit step of the FCS of RFC 1662. -/
def fcsBit (c : Nat) : Nat := if c % 2 = 1 then Nat.xor (c / 2) 0x8408 else c / 2

/-- The 16-bit FCS of RFC 1662 over a block's contents. -/
def fcs16 (bs : Bytes) : Nat :=
  Nat.xor 0xFFFF (bs.foldl (fun c b =>
    fcsBit (fcsBit (fcsBit (fcsBit (fcsBit (fcsBit (fcsBit (fcsBit (Nat.xor c b.toNat))))))))) 0xFFFF)

/-- The contents of a block (R127). -/
def TrunkBlock.contents (b : TrunkBlock) : Bytes :=
  [byteOf b.linkSeq, byteOf b.ack, byteOf b.kind, byteOf b.format] ++ b.body

/-- The contents with the FCS. -/
def TrunkBlock.octets (b : TrunkBlock) : Bytes := b.contents ++ leBytes 2 (fcs16 b.contents)

/-- R127: an octet on the line: one that equals the flag or the escape is sent as the escape and the octet xor 0x20. Other
octets are sent as they are (DEDUCED, log entry 102). -/
def escape (o : Byte) : Bytes := if o = 0x7E ∨ o = 0x7D then [0x7D, o ^^^ 0x20] else [o]

/-- The octets that the characters between two flags stand for; none when they end within an escape. -/
def unescape : Bytes → Option Bytes
  | [] => some []
  | [b] => if b = 0x7D then none else some [b]
  | b :: x :: r => if b = 0x7D then (unescape r).map (fun r => (x ^^^ 0x20) :: r) else (unescape (x :: r)).map (fun r => b :: r)

/-- A block on the line, between its two flags (R127). -/
def TrunkBlock.line (b : TrunkBlock) : Bytes := 0x7E :: b.octets.flatMap escape ++ [0x7E]

/-- Flags that fill a slot of 280 characters (R132). -/
def flags (n : Nat) : Bytes := List.replicate n 0x7E

/-- R127: the compacted body of a frame: header bytes 0-1 and 4-21, the payload, the transit check. -/
def Frame.compact (f : Frame) (payload : Bytes) : Bytes :=
  slice f.head30 0 2 ++ slice f.head30 4 18 ++ payload ++ leBytes 4 f.check

/-- FORMAT of a piece: header compacted, deflated, first, last, plane. -/
def formatOf (deflated first last : Bool) (plane : Nat) : Nat :=
  1 + b2n deflated * 2 + b2n first * 4 + b2n last * 8 + plane * 16

/-- R132: the longest piece, of at most 256 bytes, whose block fits a slot of 280 characters. -/
def pieceLength (rest : Bytes) (make : Nat → TrunkBlock) : Nat :=
  ((List.range (min 256 rest.length)).reverse.find? (fun i => Nat.ble (make (i + 1)).line.length 280)).getD 0 + 1

/-- Puts a block into the slot, and flags after it (R132). -/
def Core.sendBlock (c : Core) (t k : Nat) (b : TrunkBlock) : Core :=
  let x := c.trunk t
  c.setTrunk t ({ x with line := b.line ++ flags (280 - b.line.length) }.setPlane k
    { x.plane k with lastSent := c.now, ackDue := false })

/-- TRUNK_AGE of a class, in nanoseconds. -/
def Core.trunkAge (c : Core) (cls : Nat) : Nat :=
  1000000000 * c.reg (if cls = 3 then Reg.TRUNK_AGE_C3 else if cls = 4 then Reg.TRUNK_AGE_C4 else Reg.TRUNK_AGE_C6)

/-- R131: a frame of a class at the head of its queue is over its trunk age and is discarded; the next reaches the head. -/
def Core.ageHead (c : Core) (t cls : Nat) : Nat → Core
  | 0 => c
  | n + 1 =>
    let x := c.trunk t
    match x.queue.find? (fun q => q.frame.cls == cls) with
    | none => c
    | some q =>
      if c.trunkAge cls < c.sysNs - q.entered then
        (((c.setTrunk t { x with queue := removeFirst q x.queue }).inc (Reg.TRUNK_CNT_DROP_AGE t)).trunkQueued t).ageHead t cls n
      else c

/-- R131: the head of each class in a trunk's queue. -/
def Core.ageHeads (c : Core) (t : Nat) : Core :=
  ([3, 4, 6] : List Nat).foldl (fun (c : Core) cls => c.ageHead t cls (c.trunk t).queue.length) c

/-- R131, R132: the frame whose first piece a plane sends next, C4 before C6, when none is over its age. -/
def Core.nextFrame (c : Core) (t k : Nat) : Option Queued × Core :=
  let head (c : Core) (cls : Nat) : Option Queued := (c.trunk t).queue.find? (fun q => q.frame.cls == cls)
  let aged (c : Core) (cls : Nat) : Core := c.ageHead t cls (c.trunk t).queue.length
  let c := aged c (if k = 0 then 3 else 4)
  match head c (if k = 0 then 3 else 4) with
  | some q => (some q, c)
  | none => if k = 0 then (none, c) else
      let c := aged c 6
      (head c 6, c)

/-- R128: the payload as it is sent, deflated or stored. -/
def Core.packed (c : Core) (t : Nat) (payload : Bytes) : Bool × Bytes :=
  let small := Config.deflate payload
  if c.flag (Reg.TRUNK_DEFLATE t) && Nat.blt small.length payload.length && inflate small true == some payload then (true, small)
  else (false, payload)

/-- R127, R128, R132: the next frame of a plane is begun, if none is under way. Its retries were fixed when it was first sent (R139). -/
def Core.beginFrame (c : Core) (t k : Nat) : Core :=
  if !((c.trunk t).plane k).rest.isEmpty then c
  else
    match c.nextFrame t k with
    | (none, c) => c
    | (some q, c) =>
      let x := c.trunk t
      let pl := x.plane k
      let (deflated, pay) := c.packed t q.frame.payload
      let begun : TrunkFrame := { fid := pl.nextFid, frame := q.frame, entered := q.entered,
                                  retries := q.retries.getD (c.reg (Reg.TRUNK_RETRIES t)) }
      let pl := { pl with nextFid := pl.nextFid + 1, first := true, deflated := deflated, rest := q.frame.compact pay,
                          frames := pl.frames ++ [begun] }
      ((c.setTrunk t ({ x with queue := removeFirst q x.queue }.setPlane k pl)).ageHead t q.frame.cls x.queue.length)

/-- LINK_SEQ after n: 1 to 255. -/
def nextLinkSeq (n : Nat) : Nat := if n = 255 then 1 else n + 1

/-- Sends the next new piece of a plane. -/
def Core.sendPiece (c : Core) (t k : Nat) : Core :=
  let x := c.trunk t
  let q := x.plane k
  let make (n : Nat) : TrunkBlock :=
    { linkSeq := q.txSeq, ack := q.rxSeq, kind := 1, format := formatOf q.deflated q.first (n == q.rest.length) k,
      body := q.rest.take n }
  let n := pieceLength q.rest make
  let b := make n
  let sent : TrunkSent := { block := b, fid := q.nextFid - 1, deadline := c.now + 1000000 * c.reg (Reg.TRUNK_RTO t) }
  (c.setTrunk t (x.setPlane k { q with txSeq := nextLinkSeq q.txSeq, unacked := q.unacked ++ [sent],
                                       rest := q.rest.drop n, first := false })).sendBlock t k b

/-- Resends the first block of those still to be resent (R129), with the present acknowledgement where the block then still fits the
slot, else as it was (DESIGN CHOICE, log entry 102). -/
def Core.resendBlock (c : Core) (t k : Nat) : Core :=
  let x := c.trunk t
  let q := x.plane k
  let i := q.unacked.length - q.again
  match q.unacked[i]? with
  | none => c.setTrunk t (x.setPlane k { q with again := 0 })
  | some s =>
    let new := { s.block with ack := q.rxSeq }
    let b := if new.line.length ≤ 280 then new else s.block
    let s : TrunkSent := { s with block := b, times := s.times + 1, deadline := c.now + 1000000 * c.reg (Reg.TRUNK_RTO t) }
    ((c.setTrunk t (x.setPlane k { q with again := q.again - 1, unacked := q.unacked.set i s })).inc
      (Reg.TRUNK_CNT_RETX t)).sendBlock t k b

/-- TRUNK_SLOT: the next slot of trunk t begins, and at most one block of its plane is sent (R130 to R132). -/
def Core.trunkSlot (c : Core) (t : Nat) : Core :=
  if !c.up || !c.trunkActive t then c
  else
    let x := c.trunk t
    let slot := (x.slot + 1) % 4
    let k := slot % 2
    let c := c.setTrunk t { x with slot := slot, line := flags 280 }
    if slot = 0 ∧ x.resetDue then
      let c := c.setTrunk t { c.trunk t with resetDue := false, lastReset := c.now }
      c.sendBlock t 0 { kind := 3, format := 1, body := leBytes 2 c.homeAddr }
    else
      let q := (c.trunk t).plane k
      if c.reg (Reg.TRUNK_STATE t) = 2 ∧ ¬ x.resetWait ∧ ¬ x.resetDue ∧ 0 < q.again then c.resendBlock t k
      else
        let open_ : Bool := c.reg (Reg.TRUNK_STATE t) == 2 && !x.resetWait && !x.resetDue && Nat.blt q.unacked.length 8
        let c := if open_ then c.beginFrame t k else c
        let q := (c.trunk t).plane k
        if open_ && !q.rest.isEmpty then c.sendPiece t k
        else if q.ackDue then c.sendBlock t k { ack := q.rxSeq, format := 1 + k * 16 }
        else c

/-! Reset, retry, keepalive and dead time (R129, R130). -/

/-- A plane after a link reset: its numbers start again at 1, the frames not acknowledged go back to the queue. -/
def TrunkPlane.restart (q : TrunkPlane) : TrunkPlane :=
  { nextFid := q.nextFid, lastSent := q.lastSent }

/-- Both planes restart: LINK_SEQ at 1 (R130). -/
def Core.restartTrunk (c : Core) (t : Nat) : Core :=
  let x := c.trunk t
  let back (f : TrunkFrame) : Queued := { frame := f.frame, entered := f.entered, retries := some f.retries }
  ((c.setTrunk t { x with queue := (x.control.frames ++ x.manage.frames).map back ++ x.queue
                          control := x.control.restart, manage := x.manage.restart }).ageHeads t).trunkQueued t

/-- The trunk starts a link reset and waits for the far end's. -/
def Core.resetTrunk (c : Core) (t : Nat) : Core :=
  let c := c.restartTrunk t
  c.setTrunk t { c.trunk t with resetDue := true, resetWait := true }

/-- R125: the trunk's channel comes into force. -/
def Core.startTrunk (c : Core) (t : Nat) : Core :=
  if c.trunkActive t then
    let c := (c.setTrunk t { lastGood := c.now, lastReset := c.now }).setReg (Reg.TRUNK_STATE t) 1
    (c.resetTrunk t).trunkQueued t
  else ((c.setTrunk t {}).setReg (Reg.TRUNK_STATE t) 0).trunkQueued t

/-- TRUNK_RTO_EXPIRY: the oldest unacknowledged block of a plane reaches TRUNK_RTO (R129). -/
def Core.trunkRto (c : Core) (t k : Nat) : Core :=
  match ((c.trunk t).plane k).unacked with
  | [] => c
  | s :: rest =>
    let c := c.advanceTo s.deadline
    let x := c.trunk t
    let q := x.plane k
    let limit := ((q.frames.find? (fun f => f.fid == s.fid)).map (fun f => f.retries)).getD 0
    if limit < s.times then
      let q := { q with frames := q.frames.filter (fun f => f.fid != s.fid) }
      ((c.setTrunk t (x.setPlane k q)).inc (Reg.TRUNK_CNT_DROP_RETRY t)).resetTrunk t
    else c.setTrunk t (x.setPlane k { q with again := (s :: rest).length })

/-- TRUNK_KEEPALIVE: a plane has sent nothing for TRUNK_KEEPALIVE; a trunk that waits for a reset sends one (R130). -/
def Core.trunkKeepalive (c : Core) (t k : Nat) : Core :=
  if !c.up || !c.trunkActive t then c
  else
    let x := c.trunk t
    let period := 1000000000 * c.reg Reg.TRUNK_KEEPALIVE
    if c.reg (Reg.TRUNK_STATE t) = 1 ∨ x.resetWait then
      (c.advanceTo (x.lastReset + period)).setTrunk t { x with resetDue := true }
    else (c.advanceTo ((x.plane k).lastSent + period)).setTrunk t (x.setPlane k { x.plane k with ackDue := true })

/-- TRUNK_DEAD_EXPIRY: no good block within TRUNK_DEAD (R130). -/
def Core.trunkDead (c : Core) (t : Nat) : Core :=
  if !c.up || !c.trunkActive t then c
  else
    let x := c.trunk t
    let c := c.advanceTo (x.lastGood + 1000000000 * c.reg Reg.TRUNK_DEAD)
    ((c.setTrunk t { x with resetDue := true, resetWait := true, lastReset := c.now }).setReg (Reg.TRUNK_STATE t) 1).raise
      Src.TRUNK_DOWN t 0

/-! Reception (R127 to R130, R133). -/

/-- R129: an acknowledgement takes the blocks up to it out of the window; CNT_TX counts the frames complete. -/
def Core.takeAck (c : Core) (t k ack : Nat) : Core :=
  let x := c.trunk t
  let q := x.plane k
  match q.unacked.findIdx? (fun s => s.block.linkSeq == ack) with
  | none => c
  | some i =>
    let gone := q.unacked.take (i + 1)
    let left := q.unacked.drop (i + 1)
    let done := (gone.filter (fun s => bit s.block.format 3)).map (fun s => s.fid)
    let q := { q with unacked := left, again := min q.again left.length,
                      frames := q.frames.filter (fun f => !done.contains f.fid) }
    ((c.setTrunk t (x.setPlane k q)).incBy (Reg.TRUNK_CNT_TX t) done.length).trunkQueued t

/-- R133: the frame rebuilt from a joined body; none when the deflate data is bad or the body is too short. -/
def rebuild (body : Bytes) (deflated : Bool) : Option Frame :=
  if body.length < 24 then none
  else
    let raw := slice body 20 (body.length - 24)
    match (if deflated then inflate raw else some raw) with
    | none => none
    | some pay =>
      let b1 := fieldAt body 1 1
      let f : Frame :=
        { version := fieldAt body 0 1 / 16, kind := fieldAt body 0 1 % 16, cls := b1 / 32, mcast := bit b1 4,
          segm := bit b1 3, last := bit b1 2, pair := bit b1 1, urgent := bit b1 0, hop := 1, res := 0,
          dst := fieldAt body 2 2, src := fieldAt body 4 2, okey := fieldAt body 6 2, stream := fieldAt body 8 2,
          seq := fieldAt body 10 2, len := fieldAt body 12 2, tick := fieldAt body 14 6, corr := 0x7FFFFFFFFFFFFFFF,
          payload := pay, check := fieldAt body (body.length - 4) 4 }
      some f.rehop

/-- A whole body has been joined: the rebuilt frame is checked and goes into the segment (R133, R208). One whose payload has not the
length that its header tells fails as its transit check would (DESIGN CHOICE, log entry 102). -/
def Core.trunkFrame (c : Core) (t : Nat) (body : Bytes) (deflated : Bool) : Core :=
  match rebuild body deflated with
  | none => c.inc (Reg.TRUNK_CNT_BAD_BLOCK t)
  | some f =>
    let c := c.inc (Reg.TRUNK_CNT_RX t)
    let (v, c) := c.checkFrame 0x0C t f
    if !v.ok || f.payload.length != f.len then c.localFail 0x0C t Reg.CNT_TRUNK_FAIL f v.injected
    else c.fromTrunk (c.trunkPort t) f

/-- A piece in order joins its plane's body. -/
def Core.joinPiece (c : Core) (t k : Nat) (b : TrunkBlock) : Core :=
  let x := c.trunk t
  let q := x.plane k
  let first := bit b.format 2
  let body := if first then b.body else q.joining ++ b.body
  let deflated := if first then bit b.format 1 else q.joinDeflated
  let isOpen := first || q.joinOpen
  let last := bit b.format 3
  let q := { q with rxSeq := b.linkSeq, ackDue := true, joining := if last then [] else body,
                    joinDeflated := deflated, joinOpen := isOpen && !last }
  let c := c.setTrunk t (x.setPlane k q)
  if last && isOpen then c.trunkFrame t body deflated else c

/-- A good block marks the trunk UP (R130). -/
def Core.trunkGood (c : Core) (t : Nat) : Core :=
  ((c.setTrunk t { c.trunk t with lastGood := c.now }).setReg (Reg.TRUNK_STATE t) 2).clear Src.TRUNK_DOWN t 0

/-- R130: a link reset arrives. Both planes restart, and an end that has not sent one answers with one. -/
def Core.linkReset (c : Core) (t : Nat) : Core :=
  let waited := (c.trunk t).resetWait
  let c := c.restartTrunk t
  c.setTrunk t { c.trunk t with resetWait := false, resetDue := (c.trunk t).resetDue || !waited }

/-- A block that is no link reset: the acknowledgement, and the piece in order. An end that waits for a reset takes neither, since
they count in numbers now void (DEDUCED, log entry 102). -/
def Core.takeBlock (c : Core) (t : Nat) (b : TrunkBlock) : Core :=
  let k := b2n (bit b.format 4)
  if (c.trunk t).resetWait then c
  else
    let c := c.takeAck t k b.ack
    if b.kind ≠ 1 then c
    else
      let q := (c.trunk t).plane k
      if b.linkSeq = nextLinkSeq q.rxSeq ∧ b.linkSeq ≠ 0 then c.joinPiece t k b
      else c.setTrunk t ((c.trunk t).setPlane k { q with ackDue := true })

/-- The octets of a block arrive, escapes undone (R127 to R130). -/
def Core.trunkOctets (c : Core) (t : Nat) (octets : Bytes) : Core :=
  let n := octets.length - 2
  let b : TrunkBlock := { linkSeq := fieldAt octets 0 1, ack := fieldAt octets 1 1, kind := fieldAt octets 2 1,
                          format := fieldAt octets 3 1, body := slice octets 4 (n - 4) }
  if octets.length < 6 ∨ fieldAt octets n 2 ≠ fcs16 (octets.take n)
      ∨ (b.kind = 3 ∧ fieldAt b.body 0 2 ≠ c.cfg (Reg.TRUNK_PEER t)) then c.inc (Reg.TRUNK_CNT_BAD_BLOCK t)
  else
    let c := c.trunkGood t
    if b.kind = 3 then c.linkReset t else c.takeBlock t b

/-- A character arrives on trunk t's line: a flag ends the block, if there is one, and another joins it (R127, R132). -/
def Core.trunkChar (c : Core) (t : Nat) (b : Byte) : Core :=
  let x := c.trunk t
  if b = 0x7E then
    let c := c.setTrunk t { x with rx := [] }
    if x.rx.isEmpty then c
    else match unescape x.rx with
      | some octets => c.trunkOctets t octets
      | none => c.inc (Reg.TRUNK_CNT_BAD_BLOCK t)
  else c.setTrunk t { x with rx := x.rx ++ [b] }

/-- TRUNK_BLOCK_RX: characters arrive on trunk t's line. -/
def Core.trunkRx (c : Core) (t : Nat) (chars : Bytes) : Core :=
  if !c.up || !c.trunkActive t then c else chars.foldl (fun (c : Core) b => c.trunkChar t b) c

end Sys2Proof.Machine
end

