-- ==== Sys2Proof/Machine/Serial.lean ====
section
/-! DEFINITION. Universal serial channels (chapter 08, R275 to R318). -/

namespace Sys2Proof.Machine

/-- The channel comes into force as the node leaves CONFIG (R276, R278). -/
def Core.startChan (c : Core) (n : Nat) : Core :=
  let c := c.setChan n { c.chan n with silentFrom := c.now }
  let baud := c.cfg (Reg.CH_BAUD n)
  let c := if baud = regDefault (Reg.CH_BAUD n) then c.setReg (Reg.CH_BAUD_DIV n) (regDefault (Reg.CH_BAUD_DIV n))
    else c.setReg (Reg.CH_BAUD_DIV n) ((3200000000 + baud / 2) / baud)
  if c.cfg (Reg.CH_ROLE n) = 0 ∧ (c.trunkOf n).isNone ∧ c.reg (Reg.CH_STATE n) = 0 then
    (if c.chan n = { silentFrom := c.now } then c.setChan n {} else c)
  else c.chanState n

/-- The channel runs: field I/O runs and it has a role. -/
def Core.chanRuns (c : Core) (n : Nat) : Bool := c.fieldRuns && c.chRole n != 0

/-- The channel runs and no pin of it is taken over. -/
def Core.chanOn (c : Core) (n : Nat) : Bool := c.chanRuns n && (c.chan n).taken == 0

/-- R277: the receiver sees input pin j (0 A, 1 B, 2 C), which a pin engine has not taken over. -/
def Core.sees (c : Core) (n j : Nat) : Bool := c.chanRuns n && !bit (c.chan n).taken j

/-! Character times (R278, R279, R295). -/

/-- Nanoseconds of k sixteenths of a bit (R282). -/
def Core.bitTime (c : Core) (n k : Nat) : Nat := k * c.reg (Reg.CH_BAUD_DIV n) * 5 / 256

/-- The chip-select gap in half-periods (R286). -/
def Core.csGap (c : Core) (n : Nat) : Nat := bits (c.cfg (Reg.CH_SPI n)) 31 24

/-- t3.5 in ns. -/
def Core.silence35 (c : Core) (n : Nat) : Nat := if c.cfg (Reg.CH_BAUD n) ≤ 19200 then c.charTime n 35 else 1750000

/-- t1.5 in ns. -/
def Core.silence15 (c : Core) (n : Nat) : Nat := if c.cfg (Reg.CH_BAUD n) ≤ 19200 then c.charTime n 15 else 750000

/-! Receive banks (R297 to R302). -/

/-- Bytes that a record of n payload bytes takes in a receive bank. -/
def rxSize (n : Nat) : Nat := (17 + n) / 2 * 2

/-- The bytes of a record in its bank (R297). -/
def RxRec.bytes (r : RxRec) : Bytes :=
  padTo (rxSize r.payload.length)
    (leBytes 2 (r.payload.length + r.flags) ++ leBytes 2 r.key ++ leBytes 2 r.seq ++ leBytes 6 r.tick ++ r.payload
      ++ leBytes 4 r.check)

/-- Bytes that records take. -/
def bankUsed (rs : List RxRec) : Nat := rs.foldl (fun a r => a + rxSize r.payload.length) 0

/-- Bytes still unread in the drain bank. -/
def Chan.drainLeft (x : Chan) : Nat := bankUsed x.rxDrain - x.rxRead

/-- Sizes of records taken off the front until `read` bytes are gone. -/
def recordsLeft : Nat → List RxRec → Nat
  | _, [] => 0
  | read, r :: rs =>
    if rxSize r.payload.length ≤ read then recordsLeft (read - rxSize r.payload.length) rs else 1 + rs.length

/-- Framing in force: STREAM for a trunk; packets of their own in roles 3 to 7 (R294, R307). -/
def Core.framing (c : Core) (n : Nat) : Nat :=
  if (c.trunkOf n).isSome then 0 else if 3 ≤ c.cfg (Reg.CH_ROLE n) then 3 else c.cfg (Reg.CH_FRAMING n)

/-- Room left in the fill bank. -/
def Chan.room (x : Chan) : Nat := 512 - bankUsed x.rxFill

/-- R302: an overrun episode. -/
def Core.rxOverrun (c : Core) (n : Nat) : Core :=
  let c := c.inc (Reg.CH_CNT_RX_OVERRUN n)
  (c.setChan n { c.chan n with lostBefore := true }).eventOnce (0x300 + n) 2 3 (c.reg (Reg.CH_CNT_RX_OVERRUN n))

/-- R305: the key of a packet. -/
def packetKey (sel : Nat) (table : Bytes) (dflt : Nat) (p : Bytes) : Nat :=
  let off := bits sel 3 0
  let len := bits sel 6 4
  if len = 0 ∨ p.length < off + len then dflt
  else
    let id := leVal (slice p off len).reverse
    match (List.range 32).find? (fun i => bit (fieldAt table (12 * i + 10) 2) 0
        && Nat.land id (fieldAt table (12 * i + 4) 4) == fieldAt table (12 * i) 4) with
    | some i => fieldAt table (12 * i + 8) 2
    | none => dflt

/-- The item that a receive record makes, and whose check the record carries (R300, R307). -/
def Core.rxItem (c : Core) (r : RxRec) : Frame :=
  { kind := 0, cls := 5, dst := c.homeAddr, src := c.homeAddr, okey := c.originKey, stream := r.key, seq := r.seq,
    len := r.payload.length, tick := r.tick, payload := r.payload, check := r.check }

/-- R316: a record closed without error flags. -/
def Core.goodRecord (c : Core) (n : Nat) : Core :=
  let x := c.chan n
  let c := c.setChan n { x with silentFrom := c.now, silent := false }
  if x.silent then c.eventOnce (0x300 + n) 7 0 ((c.now - x.silentFrom) / 1000000) else c

/-- A packet's record closes in the fill bank (R295 items 3 to 5, R297 to R300). -/
def Core.fileRecord (c : Core) (n : Nat) (p : Packet) (extra : Nat) : Core :=
  let modbus : Bool := c.framing n == 2
  let len := p.bytes.length
  let crcBad : Bool := modbus && Nat.ble 2 len && crcModbus (p.bytes.take (len - 2)) != fieldAt p.bytes (len - 2) 2
  let crcErr : Bool := crcBad || (modbus && Nat.blt len 2) || bit extra 9
  let x := c.chan n
  let flags := Nat.lor (Nat.lor p.flags extra) (b2n crcErr * 2 ^ 9 + b2n (modbus && Nat.blt len 4) * 2 ^ 12
    + b2n x.lostBefore * 2 ^ 15)
  let pay := if modbus && bit p.mb 0 then p.bytes.take (len - 2) else p.bytes
  let r : RxRec := { flags := flags, key := packetKey p.sel p.table p.dflt p.bytes, seq := x.rxSeq, tick := p.tick, payload := pay }
  let r := { r with check := if (c.trunkOf n).isSome then 0 else (c.rxItem r).transitCrc }
  let c := c.setChan n { x with rxFill := x.rxFill ++ [r], rxSeq := (x.rxSeq + 1) % 65536, lostBefore := false, packet := none,
                                fillSince := if x.rxFill.isEmpty then p.since else x.fillSince }
  let c := (c.inc (Reg.CH_CNT_RX_PKT n)).incIf crcErr (Reg.CH_CNT_RX_CRC n)
  let c := c.incIf (bits flags 14 10 != 0) (Reg.CH_CNT_LINE_ERR n)
  if bits flags 14 9 = 0 then c.goodRecord n else c

/-- R301: since when the fill bank holds its oldest byte; in STREAM the bytes of the open record count. -/
def Core.fillAge (c : Core) (n : Nat) : Option Nat :=
  let x := c.chan n
  if !x.rxFill.isEmpty then some x.fillSince
  else if c.framing n = 0 then x.packet.bind (fun p => if p.bytes.isEmpty then none else some p.since)
  else none

/-- R301: the oldest byte in the fill bank is older than CH_FLUSH_AGE. -/
def Core.fillAged (c : Core) (n : Nat) : Bool :=
  let age := c.reg (Reg.CH_FLUSH_AGE n)
  age != 0 && (c.fillAge n).any (fun t => Nat.blt (t + 1000 * age) c.now)

/-- R294, R301: the open record of a STREAM closes before a swap by age. -/
def Core.closeStream (c : Core) (n : Nat) : Core :=
  match c.framing n, (c.chan n).packet with
  | 0, some p => if p.bytes.isEmpty then c else c.fileRecord n p 0
  | _, _ => c

/-- R301: the receive banks swap when the drain bank is empty and a condition holds. -/
def Core.rxSwap (c : Core) (n : Nat) : Core :=
  if !(c.chan n).rxDrain.isEmpty then c
  else
    let aged := c.fillAged n
    let c := if aged then c.closeStream n else c
    let x := c.chan n
    let full : Bool := Nat.blt x.room (if c.framing n = 0 then 17 else rxSize (c.reg (Reg.CH_RX_MAX n)))
    if !x.rxFill.isEmpty && (full || c.flag (Reg.CH_SWAP_ON_END n) || aged) then
      c.setChan n { x with rxDrain := x.rxFill, rxFill := [], rxRead := 0 }
    else c

/-- A packet's record closes, and the banks swap where a condition now holds. -/
def Core.closeRecord (c : Core) (n : Nat) (p : Packet) (extra : Nat) : Core := (c.fileRecord n p extra).rxSwap n

/-- The packet in reception ends (R294, R302). -/
def Core.endPacket (c : Core) (n extra : Nat) : Core :=
  match (c.chan n).packet with
  | none => c
  | some p => if p.skip then c.setChan n { c.chan n with packet := none } else c.closeRecord n p extra

/-- R297: system time when the first start bit of a character that ends now was taken: at its centre (R280); of a transaction, its
first SCLK edge or START. -/
def Core.rxStart (c : Core) (n : Nat) : Nat :=
  if c.chRole n ≤ 2 then c.sysNs - (2 * c.charBits n - 1) * c.reg (Reg.CH_BAUD_DIV n) * 5 / 32 else (c.chan n).startSys

/-- A packet opens, whose first start bit, SCLK edge or START was at system time `start` and whose first byte comes at `at_`: the
settings that apply to it are those of now (R299, R302, R306, R318). -/
def Core.openPacket (c : Core) (n start at_ : Nat) : Packet × Core :=
  let c := c.rxSwap n
  let max := c.reg (Reg.CH_RX_MAX n)
  let room := (c.chan n).room
  let fits : Bool := Nat.ble (rxSize max) room
  ({ tick := start / c.period % tickMod, since := at_, sel := c.reg (Reg.CH_ID_SEL n), table := c.blob (Reg.CH_ID_TABLE n),
     mb := c.reg (Reg.CH_MB n), dflt := c.reg (Reg.CH_DEFAULT_KEY n), gap := c.reg (Reg.CH_GAP n),
     cap := if fits then max else room - 16, short := !fits }, c)

/-- One byte of a framed packet (R299, R302). -/
def Core.framedByte (c : Core) (n : Nat) (b : Byte) (flags start at_ : Nat) : Core :=
  let (p, c) := match (c.chan n).packet with
    | some p => (p, c)
    | none => c.openPacket n start at_
  if p.skip then c.setChan n { c.chan n with packet := some p }
  else if p.bytes.length < p.cap then
    c.setChan n { c.chan n with packet := some { p with bytes := p.bytes ++ [b], flags := Nat.lor p.flags flags } }
  else if p.short then (c.setChan n { c.chan n with packet := some { p with skip := true, bytes := [] } }).rxOverrun n
  else
    let c := c.closeRecord n p (2 ^ 13)
    c.setChan n { c.chan n with packet := some { p with skip := true, bytes := [] } }

/-- One byte in STREAM framing (R299, R302). -/
def Core.streamByte (c : Core) (n : Nat) (b : Byte) (flags start at_ : Nat) : Core :=
  let (p, c) := match (c.chan n).packet with
    | some p => (p, c)
    | none => c.openPacket n start at_
  let x := c.chan n
  if x.room < 17 + p.bytes.length then
    let c := c.setChan n { x with lostNow := true, packet := none }
    if x.lostNow then c else c.rxOverrun n
  else
    let p := { p with bytes := p.bytes ++ [b], flags := Nat.lor p.flags flags }
    let c := c.setChan n { x with packet := some p, lostNow := false }
    if x.room < 33 + p.bytes.length then c.closeRecord n p 0 else c

/-- A byte enters the receiver; `start` is the system time of its start bit (R297), `at_` the local instant at which it is complete. -/
def Core.rxByte (c : Core) (n : Nat) (b : Byte) (flags start at_ : Nat) : Core :=
  if c.framing n = 0 then c.streamByte n b flags start at_ else c.framedByte n b flags start at_

/-- DE is high (R282). -/
def Core.deHigh (c : Core) (n : Nat) : Bool := (c.chan n).de || Nat.blt c.now (c.chan n).deUntil

/-- R277, R282, R283: the receiver of a UART or RS-485 channel listens to ball B. -/
def Core.hears (c : Core) (n : Nat) : Bool :=
  let pins := c.cfg (Reg.CH_PINS n)
  c.sees n 1 && ((c.chRole n == 1 && !bit pins 3) || (c.chRole n == 2 && (!c.deHigh n || bit pins 4)))

/-- R279: the bits of a byte that a character carries. -/
def Core.charByte (c : Core) (n : Nat) (b : Byte) : Byte :=
  if bit (c.cfg (Reg.CH_FORMAT n)) 0 then byteOf (b.toNat % 128) else b

/-- CHAR_RX: a character completes with its parity and stop bits right or wrong, after `silence` ns of idle line (R280,
R295). -/
def Core.charRx (c : Core) (n : Nat) (b : Byte) (ok : Bool) (silence : Nat) : Core :=
  if !c.hears n then c
  else
    let b := c.charByte n b
    let gap : Bool := c.framing n == 2 && (match (c.chan n).packet with
        | some p => bit p.mb 2
        | none => false)
      && Nat.blt (c.silence15 n) silence && Nat.blt silence (c.silence35 n)
    let c := c.rxByte n b (b2n (!ok) * 2 ^ 10 + b2n gap * 2 ^ 11) (c.rxStart n) c.now
    c.setChan n { c.chan n with lastEnd := c.now }

/-- BREAK: the line has been low for more than a character (R281). -/
def Core.chanBreak (c : Core) (n : Nat) : Core :=
  if !c.hears n then c
  else (c.endPacket n (2 ^ 14)).eventOnce (0x300 + n) 3 2 0

/-- IDLE_GAP_EXPIRY: CH_GAP tenths of a character of idle line (R294). -/
def Core.idleGap (c : Core) (n : Nat) : Core :=
  match (c.chan n).packet with
  | none => c
  | some p =>
    if !c.chanRuns n || c.framing n != 1 then c
    else (c.advanceTo ((c.chan n).lastEnd + c.charTime n p.gap)).endPacket n 0

/-- MODBUS_SILENCE_EXPIRY: t3.5 of silence (R295). -/
def Core.modbusSilence (c : Core) (n : Nat) : Core :=
  if !c.chanRuns n || c.framing n != 2 || (c.chan n).packet.isNone then c
  else (c.advanceTo ((c.chan n).lastEnd + c.silence35 n)).endPacket n 0

/-- FLUSH_AGE_EXPIRY: the oldest byte of the fill bank passes CH_FLUSH_AGE (R301). -/
def Core.flushAge (c : Core) (n : Nat) : Core :=
  let age := c.reg (Reg.CH_FLUSH_AGE n)
  if !c.chanRuns n || age == 0 then c
  else match c.fillAge n with
    | none => c
    | some t => ((c.advanceTo (t + 1000 * age + 1)).closeStream n).rxSwap n

/-! Clears (R303, R304, R587). -/

/-- The receive side drops its records; a packet under way is discarded until it ends, in STREAM with the bytes it has. -/
def Core.clearRx (c : Core) (n : Nat) : Core :=
  let x := c.chan n
  let lost := x.rxFill.length + recordsLeft x.rxRead x.rxDrain
  let rest (p : Packet) : Option Packet := if c.framing n = 0 then none else some { p with skip := true, bytes := [] }
  (c.incBy (Reg.CH_CNT_RX_OVERRUN n) lost).setChan n
    { x with rxFill := [], rxDrain := [], rxRead := 0, packet := x.packet.bind rest }

/-- CH_PTR_MISMATCH: the pointer copies of a direction differ (R303). -/
def Core.ptrMismatch (c : Core) (n : Nat) (tx : Bool) : Core :=
  if !c.fieldRuns || c.chRole n == 0 then c
  else
    let c := if tx then c.clearLine n else c.clearRx n
    ((c.inc (Reg.CH_CNT_QUEUE_RESET n)).eventOnce (0x300 + n) 1 3 (b2n tx)).report Src.CH_PTR_MISMATCH n 0

/-- CH_RESET (R304). Its QUEUE_RESET event is one, with VALUE 0 (DEDUCED, log entry 104). -/
def Core.chanReset (c : Core) (n : Nat) : Core :=
  (((c.clearRx n).clearLine n).eventOnce (0x300 + n) 1 3 0)

/-- R301: the transmit banks swap. -/
def Core.txSwap (c : Core) (n : Nat) : Core :=
  let x := c.chan n
  if x.txDrain.isEmpty && !x.txFill.isEmpty then c.setChan n { x with txDrain := x.txFill, txFill := [] } else c

/-- R277: a pin engine takes over pins (bits A, B, C) of a channel: a record in transmission is cut, a packet in reception
closes with FRAME_ERR. -/
def Core.chanTaken (c : Core) (n pins : Nat) : Core :=
  let x := c.chan n
  if x.taken = pins then c
  else
    let c := if (List.range 3).any (fun j => bit pins j && !bit x.taken j) then
        let c := if x.busy then
            (c.inc (Reg.CH_CNT_TX_DROP n)).setChan n
              { x with busy := false, txDrain := x.txDrain.drop 1, de := false, cs := false, arbEnd := none, retries := 0
                       sentEnd := c.now }
          else c
        (c.endPacket n (2 ^ 10)).txSwap n
      else c
    (c.setChan n { c.chan n with taken := pins }).chanState n

/-! The scanner and the transmit path (R308 to R312). -/

/-- The bytes that an item sends: its payload, or the data of a C7 item that wrote TX_WRITE (R313). -/
def Frame.txData (f : Frame) : Bytes := if f.cls = 7 then f.payload.drop 16 else f.payload

/-- Bytes that an item takes in staging: header, payload and check. -/
def Frame.itemBytes (f : Frame) : Nat := f.txData.length + 36

/-- Bytes waiting in transmit staging. -/
def Chan.staged (x : Chan) : Nat := x.staging.foldl (fun a f => a + f.itemBytes) 0

/-- Bytes that transmit records take in their bank. -/
def txUsed (rs : List TxRec) : Nat := rs.foldl (fun a r => a + (3 + r.data.length) / 2 * 2) 0

/-- The count word (R308): 0, its default of R318, while the channel is OFF (DESIGN CHOICE, log entry 113). -/
def Core.chCounts (c : Core) (n : Nat) : Nat :=
  let x := c.chan n
  if c.chRole n = 0 then 0
  else recordsLeft x.rxRead x.rxDrain + x.drainLeft * 2 ^ 16 + (512 - txUsed x.txFill) * 2 ^ 32 + x.staged * 2 ^ 48

/-- SCANNER_RX_VISIT: MAPPER sink hands every record of the drain bank to the item former, a trunk to its unit (R307,
R309). -/
def Core.scannerRx (c : Core) (n : Nat) : Core :=
  if !c.fieldRuns || c.chRole n == 0 then c
  else
    let trunk := c.trunkOf n
    if trunk.isNone && c.cfg (Reg.CH_RX_SINK n) == 1 then c
    else
      let rs := (c.chan n).rxDrain
      let c := c.setChan n { c.chan n with rxDrain := [], rxRead := 0 }
      let hand (c : Core) (r : RxRec) : Core :=
        if let some t := trunk then c.trunkRx t r.payload
        else if bits r.flags 14 9 != 0 then c
        else if r.key = 0xFFFF then c.inc (Reg.CH_CNT_NOKEY n)
        else c.submit (4 + n / 16) [12] (c.rxItem r)
      (rs.foldl hand c).rxSwap n

/-- R310, R311: staged items move into the fill bank through the egress checker, while the next one fits; the banks swap as the
length word of a record is written (R301). -/
def Core.fillTx (c : Core) (n : Nat) : Nat → Core
  | 0 => c
  | k + 1 =>
    let x := c.chan n
    match x.staging with
    | [] => c
    | f :: rest =>
      if 512 - txUsed x.txFill < (3 + f.txData.length) / 2 * 2 then c
      else
        let c := c.setChan n { x with staging := rest }
        let (ok, c) := c.egress 0x04 n Reg.CNT_EGRESS_SERIAL f
        let c := if ok then c.setChan n { c.chan n with txFill := (c.chan n).txFill ++ [{ data := f.txData, cls := f.cls, stream := f.stream, seq := f.seq }] } else c
        (c.txSwap n).fillTx n k

/-- SCANNER_TX_VISIT (R309, R311). -/
def Core.scannerTx (c : Core) (n : Nat) : Core :=
  if !c.fieldRuns || c.chRole n == 0 then c else c.fillTx n 64

/-- R310: channel n takes an item. -/
def Core.txTakes (c : Core) (n : Nat) (f : Frame) : Bool :=
  c.fieldRuns && c.chRole n != 0 && !c.fc.safe && Nat.ble f.txData.length 510
    && Nat.ble ((c.chan n).staged + f.itemBytes) 1024

/-- R310: an item for channel n enters staging or is dropped; one for a trunk channel goes to its trunk. -/
def Core.stageTx (c : Core) (n : Nat) (f : Frame) : Core :=
  let x := c.chan n
  match c.trunkOf n with
  | some t => if c.chanRuns n then c.trunkEnqueue t f else c.inc (Reg.CH_CNT_TX_DROP n)
  | none => if c.txTakes n f then c.setChan n { x with staging := x.staging ++ [f] } else c.inc (Reg.CH_CNT_TX_DROP n)

/-- CH_TX_ITEM_ARRIVE (R310). -/
def Core.txArrive (c : Core) (n : Nat) (f : Frame) : Core :=
  if !c.up then c else (c.undeliver (4 + n / 16) f).stageTx n f

/-- The record at the head of the drain bank has left it. -/
def Core.popTx (c : Core) (n : Nat) : Core :=
  let x := c.chan n
  let c := match x.txDrain with
    | t :: _ => c.twSent 1 n t.cls t.stream t.seq
    | [] => c
  (c.setChan n { x with txDrain := x.txDrain.drop 1, busy := false, de := false, cs := false, arbEnd := none, retries := 0 }).txSwap n

/-- R289: the PEC of a write: over the address and the bytes written. -/
def writePec (r : Bytes) : Nat := crc8 ([byteOf (2 * (fieldAt r 0 1 % 128))] ++ slice r 3 (fieldAt r 1 1))

/-- R290: what an I²C controller sends for a record: address with write and the bytes, the PEC of a write, and the address with
read. -/
def i2cBytes (r : Bytes) (pec : Bool) : Bytes :=
  let a := 2 * (fieldAt r 0 1 % 128)
  let rlen := fieldAt r 2 1
  byteOf a :: slice r 3 (fieldAt r 1 1)
    ++ (if rlen = 0 then (if pec then [byteOf (writePec r)] else []) else [byteOf (a + 1)])

/-- The bytes that the head record puts on the line (R279, R286, R290, R296). -/
def Core.lineBytes (c : Core) (n : Nat) (r : Bytes) : Bytes :=
  let role := c.chRole n
  if role = 4 ∨ role = 6 then i2cBytes r (bit (c.cfg (Reg.CH_I2C n)) 9)
  else if role = 3 then r
  else (if c.framing n = 2 ∧ bit (c.reg (Reg.CH_MB n)) 1 then r ++ leBytes 2 (crcModbus r) else r).map (c.charByte n)

/-- How long before its first bit a record begins: DE rises, or chip select is asserted (R282, R286). -/
def Core.leadTime (c : Core) (n : Nat) : Nat :=
  if c.chRole n = 2 then c.bitTime n (c.reg (Reg.CH_DE_LEAD n))
  else if c.chRole n = 3 then c.sclkTime n (c.csGap n) else 0

/-- The first instant at which a record may begin: after t3.5 of silence, with the DE lead in it, since the last stop bit sent or
received (R296); after the chip-select gap since the last transaction (R286); after the last character (R303). -/
def Core.lineReady (c : Core) (n : Nat) : Nat :=
  let x := c.chan n
  if c.framing n = 2 then max x.sentEnd x.lastEnd + (c.silence35 n - c.leadTime n)
  else if c.chRole n = 3 then x.sentEnd + c.sclkTime n (c.csGap n)
  else x.sentEnd

/-- R283: CTS_N at ball C, which stands at `level`, allows a character. -/
def Core.ctsAllows (c : Core) (n : Nat) (level : Bool) : Bool :=
  let pins := c.cfg (Reg.CH_PINS n)
  c.chRole n != 1 || !bit pins 5 || (c.sees n 2 && level == bit pins 2)

/-- CH_TX_RECORD_START: the head record starts when its conditions hold; `ballC` is the level at CH_n_C (R275, R282, R283, R286, R290,
R296, R312). -/
def Core.txStart (c : Core) (n : Nat) (ballC : Bool) : Core :=
  let role := c.chRole n
  if !c.chanOn n || (c.chan n).busy || role == 5 || role == 7 || !c.mayStart 1 n then c
  else match (c.chan n).txDrain with
  | [] => c
  | t :: _ =>
    let r := t.data
    if !c.ctsAllows n ballC then c
    else if (role = 4 ∨ role = 6) ∧ r.length < 3 + fieldAt r 1 1 then (c.inc (Reg.CH_CNT_LINE_ERR n)).popTx n
    else
      let c := c.advanceTo (c.lineReady n)
      let lead := c.leadTime n
      c.setChan n { c.chan n with busy := true, line := c.lineBytes n r, de := role == 2, cs := role == 3, startAt := c.now + lead
                                  lag := c.bitTime n (c.reg (Reg.CH_DE_LAG n))
                                  startSys := c.sysNs + lead }

/-- R283, R297: the characters that went out of a UART enter its own receiver, each with the instants it had on the line. -/
def Core.loopBack (c : Core) (n : Nat) (x : Chan) : Core :=
  let t := c.charTime n 10
  let centre := c.reg (Reg.CH_BAUD_DIV n) * 5 / 32
  (x.line.foldl (fun (p : Nat × Core) (b : Byte) =>
    (p.1 + 1, p.2.rxByte n (c.charByte n b) 0 (x.startSys + p.1 * t + centre) (x.startAt + (p.1 + 1) * t))) (0, c)).2

/-- CH_TX_RECORD_END: a UART or RS-485 record has been sent whole, at the earliest as long after its start as its characters take,
and the `held` ns for which CTS_N kept a next character back (R282, R283, R312). -/
def Core.txEnd (c : Core) (n held : Nat) : Core :=
  let x := c.chan n
  if !c.chanOn n || !x.busy || Nat.blt 2 (c.chRole n) then c
  else
    let cts : Bool := c.chRole n == 1 && bit (c.cfg (Reg.CH_PINS n)) 5
    let c := c.advanceTo (x.startAt + c.charTime n (10 * x.line.length) + (if cts then held else 0))
    let c := (c.popTx n).inc (Reg.CH_CNT_TX_PKT n)
    let c := c.setChan n { c.chan n with sentEnd := c.now, deUntil := if c.chRole n = 2 then c.now + x.lag else 0 }
    if c.chRole n = 1 ∧ bit (c.cfg (Reg.CH_PINS n)) 3 then
      (c.loopBack n x).setChan n { (c.loopBack n x).chan n with lastEnd := c.now }
    else c

/-! SPI, I²C and SMBus (R284 to R293). -/

/-- A transaction's bytes form one receive record, with the flags that its end sets; where the record was cut or dropped before, the
error is counted all the same (R291). -/
def Core.transaction (c : Core) (n : Nat) (bs : Bytes) (flags : Nat) : Core :=
  let start := c.rxStart n
  let c := bs.foldl (fun (c : Core) (b : Byte) => c.framedByte n b 0 start c.now) c
  let (p, c) := match (c.chan n).packet with
    | some p => (p, c)
    | none => c.openPacket n start c.now
  let c := if p.skip then (c.incIf (bit flags 10) (Reg.CH_CNT_LINE_ERR n)).incIf (bit flags 9) (Reg.CH_CNT_RX_CRC n) else c
  (c.setChan n { c.chan n with packet := some p }).endPacket n flags

/-- SPI_TRANSACTION_DONE: the bytes shifted in form a record of equal length; chip select is released the gap after the last edge
(R286). -/
def Core.spiDone (c : Core) (n : Nat) (miso : Bytes) : Core :=
  let x := c.chan n
  if !c.chanOn n || c.chRole n != 3 || !x.busy then c
  else
    let c := c.advanceTo (x.startAt + c.sclkTime n (16 * x.line.length + c.csGap n))
    let c := (c.popTx n).inc (Reg.CH_CNT_TX_PKT n)
    (c.setChan n { c.chan n with sentEnd := c.now }).transaction n (padTo x.line.length miso) 0

/-- R289: the PEC that belongs to a transaction with a read. -/
def smbusPec (r data : Bytes) : Nat :=
  let addr := fieldAt r 0 1 % 128
  crc8 ([byteOf (2 * addr)] ++ slice r 3 (fieldAt r 1 1) ++ [byteOf (2 * addr + 1)] ++ data)

/-- R291, R298: a controller transaction ends with a status and its receive record. Status 1 to 4 is a transaction error and sets
FRAME_ERR, which CNT_LINE_ERR counts as the record closes; a PEC mismatch sets CRC_ERR, counted in CNT_RX_CRC (DEDUCED, log entry
104). -/
def Core.i2cEnd (c : Core) (n status : Nat) (r data : Bytes) : Core :=
  let c := (c.popTx n).incIf (status == 0 || status == 5) (Reg.CH_CNT_TX_PKT n)
  c.transaction n ([byteOf (fieldAt r 0 1 % 128), byteOf status] ++ data)
    (if status = 5 then 2 ^ 9 else if status = 0 then 0 else 2 ^ 10)

/-- I2C_TRANSACTION_DONE: the controller's transaction ends on the bus with a status from 0 to 4, the bytes read and the
PEC byte that followed them (R290, R291). With the clock-low timeout 0 there is no status 4 (R289). -/
def Core.i2cDone (c : Core) (n status : Nat) (data : Bytes) (pec : Byte) : Core :=
  let x := c.chan n
  let role := c.chRole n
  if !c.chanOn n || (role != 4 && role != 6) || !x.busy || x.arbEnd.isSome
      || (status == 4 && bits (c.cfg (Reg.CH_I2C n)) 23 16 == 0) then c
  else
    let r := (x.txDrain.map (fun t => t.data)).headD []
    let rlen := fieldAt r 2 1
    let data := if rlen = 255 then data.take (1 + fieldAt data 0 1) else data.take rlen
    if status = 3 ∧ x.retries < 3 then c.setChan n { x with arbEnd := some (c.now + 50000) }
    else
      let bad : Bool := status == 0 && bit (c.cfg (Reg.CH_I2C n)) 9 && rlen != 0 && smbusPec r data != pec.toNat
      c.i2cEnd n (if bad then 5 else status) r data

/-- I2C_ARB_RETRY: the bus has been idle for 50 µs (R291). -/
def Core.arbRetry (c : Core) (n : Nat) : Core :=
  match (c.chan n).arbEnd with
  | none => c
  | some t =>
    let c := c.advanceTo t
    c.setChan n { c.chan n with arbEnd := none, retries := (c.chan n).retries + 1 }

/-- R289: the address byte by which a controller calls the target of channel n. -/
def Core.ownCall (c : Core) (n : Nat) (read : Bool) : Byte := byteOf (2 * bits (c.cfg (Reg.CH_I2C n)) 8 2 + b2n read)

/-- I2C_TARGET_WRITE: a controller has written bytes to the own address (R292, R297). With PEC the last byte of a write that STOP ends
is checked and does not enter the record; a write that a repeated START ends has none, since the PEC follows what is read then (R289;
DEDUCED, log entry 113). -/
def Core.targetWrite (c : Core) (n : Nat) (w : TargetData) : Core :=
  let role := c.chRole n
  if !(c.sees n 0 && c.sees n 1) || (role != 5 && role != 7) then c
  else
    let pec : Bool := bit (c.cfg (Reg.CH_I2C n)) 9
    let run := c.ownCall n false :: w.bytes
    let c := c.setChan n { c.chan n with startSys := c.sysNs - w.ago, pecRun := if w.restart then run else [] }
    if pec && !w.restart && !w.bytes.isEmpty then
      c.transaction n w.bytes.dropLast (if crc8 run.dropLast = (w.bytes.getLastD 0).toNat then 0 else 2 ^ 9)
    else c.transaction n w.bytes 0

/-- I2C_TARGET_READ: a controller reads `count` bytes; the head record serves them, then with PEC the PEC byte, and it is released at
STOP (R289, R292). -/
def Core.targetRead (c : Core) (n count : Nat) : Core :=
  let role := c.chRole n
  if !c.chanOn n || (role != 5 && role != 7) || !c.mayStart 1 n then c
  else match (c.chan n).txDrain with
    | [] => (c.setChan n { c.chan n with line := List.replicate count 0xFF }).inc (Reg.CH_CNT_LINE_ERR n)
    | t :: _ =>
      let run := (c.chan n).pecRun ++ [c.ownCall n true] ++ t.data
      let r := t.data ++ (if bit (c.cfg (Reg.CH_I2C n)) 9 then [byteOf (crc8 run)] else [])
      let c := (c.popTx n).incIf (Nat.ble t.data.length count) (Reg.CH_CNT_TX_PKT n)
      let c := c.incIf (Nat.blt r.length count) (Reg.CH_CNT_LINE_ERR n)
      c.setChan n { c.chan n with line := r.take count ++ List.replicate (count - r.length) 0xFF, pecRun := [] }

/-- R293: how long SDA may be low at idle, in ns. -/
def Core.stuckLimit (c : Core) (n : Nat) : Nat :=
  let t := bits (c.cfg (Reg.CH_I2C n)) 23 16
  1000000 * (if t = 0 then 35 else t)

/-- BUS_STUCK: SDA has been low at idle for `ns`; past the limit come nine clocks and STOP, after which `low` tells whether it is still
low (R293). -/
def Core.busStuck (c : Core) (n ns : Nat) (low : Bool) : Core :=
  let role := c.chRole n
  if !c.chanOn n || (role != 4 && role != 6) || Nat.ble ns (c.stuckLimit n) || !low then c
  else ((c.setChan n { c.chan n with stuckNext := some (c.now + 100000000) }).chanState n).eventOnce (0x300 + n) 5 3 0

/-- BUS_STUCK_RETRY: 100 ms later (R293). -/
def Core.busRetry (c : Core) (n : Nat) (low : Bool) : Core :=
  match (c.chan n).stuckNext with
  | none => c
  | some t =>
    if !c.chanOn n then c
    else
      let c := c.advanceTo t
      (c.setChan n { c.chan n with stuckNext := if low then some (c.now + 100000000) else none }).chanState n

/-- SMBALERT: a falling edge of SMBALERT_N in role 6 (R293). -/
def Core.smbAlert (c : Core) (n : Nat) : Core :=
  if !c.sees n 2 || c.chRole n != 6 then c else c.eventOnce (0x300 + n) 4 2 0

/-- RX_SILENT: no good record for CH_SILENCE ms (R316). -/
def Core.rxSilent (c : Core) (n : Nat) : Core :=
  let limit := c.reg (Reg.CH_SILENCE n)
  let x := c.chan n
  if !c.fieldRuns || c.chRole n == 0 || limit == 0 || x.silent then c
  else
    let c := c.advanceTo (x.silentFrom + 1000000 * limit)
    (c.setChan n { x with silent := true }).eventOnce (0x300 + n) 6 3 limit

/-! The channel data port (R313, R314). -/

/-- R314: the receive port may be read: sink PORT and no trunk. -/
def Core.portOpen (c : Core) (n : Nat) : Bool := c.cfg (Reg.CH_RX_SINK n) == 1 && (c.trunkOf n).isNone

/-- A read of RX_POP: the next bytes of the drain bank; none is an error response. -/
def Core.rxPop (c : Core) (n size : Nat) : Option Bytes × Core :=
  let x := c.chan n
  if !c.portOpen n || x.drainLeft < size || !(size == 1 || size == 2 || size == 4 || size == 8) then (none, c)
  else
    let bs := slice (x.rxDrain.flatMap RxRec.bytes) x.rxRead size
    let x := if x.drainLeft = size then { x with rxDrain := [], rxRead := 0 } else { x with rxRead := x.rxRead + size }
    (some bs, (c.setChan n x).rxSwap n)

/-- A write of RX_RELEASE: releases whole records from the head (R314). -/
def Core.rxRelease (c : Core) (n count : Nat) : Option Bytes × Core :=
  let x := c.chan n
  let ends := x.rxDrain.foldl (fun (a : List Nat) (r : RxRec) => a ++ [a.getLastD 0 + rxSize r.payload.length]) []
  if !c.portOpen n || !(ends.contains (x.rxRead + count)) || count == 0 then (none, c)
  else
    let x := if x.drainLeft = count then { x with rxDrain := [], rxRead := 0 } else { x with rxRead := x.rxRead + count }
    (some [], (c.setChan n x).rxSwap n)

/-- An item writes TX_WRITE: it is verified in the port's write buffer (R211, R313) and staged (R310). Gives its status of R431:
CHECK (3) when it fails, FULL (6) when the channel drops it. -/
def Core.txItem (c : Core) (n : Nat) (f : Frame) : Nat × Core :=
  let (ok, c) := c.egress 0x04 n Reg.CNT_EGRESS_SERIAL f
  if ok then (if c.txTakes n f then 0 else 6, c.stageTx n f) else (3, c)

/-- A write burst to TX_WRITE: one transmit item whose payload is the written bytes (R310, R313). -/
def Core.txWrite (c : Core) (n : Nat) (bs : Bytes) : Option Bytes × Core :=
  if bs.isEmpty || Nat.blt 510 bs.length then (none, c)
  else
    let a := c.homeAddr
    let f : Frame := ({ kind := 0, cls := 5, dst := a, src := a, okey := c.originKey, tick := c.tick, payload := bs } : Frame).seal
    let (st, c) := c.txItem n f
    (if st = 3 then none else some [], c)

/-- The channel's data port answers a command. -/
def Core.portAnswer (n : Nat) (r : Option Bytes × Core) : Core := r.2.setChan n { r.2.chan n with port := r.1 }

/-- CH_RX_POP. -/
def Core.chRxPop (c : Core) (n size : Nat) : Core := Core.portAnswer n (c.rxPop n size)

/-- RX_RELEASE. -/
def Core.chRxRelease (c : Core) (n count : Nat) : Core := Core.portAnswer n (c.rxRelease n count)

/-- TX_WRITE. -/
def Core.chTxWrite (c : Core) (n : Nat) (bs : Bytes) : Core := Core.portAnswer n (c.txWrite n bs)

/-- A read of RX_BANK: an image of the drain bank; what no record covers is a free value (log entry 1). -/
def Core.rxBank (c : Core) (n off size : Nat) : Option Bytes × Core :=
  if !c.portOpen n || size == 0 || Nat.blt 16 size || Nat.blt 512 (off + size) then (none, c)
  else
    let image := (c.chan n).rxDrain.flatMap RxRec.bytes
    let (v, c) := if image.length < off + size then c.draw else (0, c)
    (some (padTo size (slice image off size ++ leBytes (off + size - max off image.length) v)), c)

end Sys2Proof.Machine
end

