-- ==== Sys2Proof/Machine/PinEngine.lean ====
section
/-! DEFINITION. Pin engines (chapter 10, R351 to R375). -/

namespace Sys2Proof.Machine

/-! Takeover (R354, R355). -/

/-- The channels of engine n's group act under R277. -/
def Core.takeover (c : Core) (n : Nat) : Core :=
  let chans := ((c.engPins n).map (fun i => 16 * (n / 8) + i / 3)).eraseDups
  chans.foldl (fun (c : Core) (ch : Nat) => c.chanTaken ch (c.takenPins ch)) c

/-- R354: START is refused. -/
def Core.startBarred (c : Core) (n : Nat) : Bool :=
  let pins := c.engPins n
  let count := pins.length
  let cfg := c.reg (Reg.ENG_CFG n)
  let dirs := c.reg (Reg.ENG_DIR_INIT n) / 256
  let out := bits cfg 2 0
  let inp := bits cfg 5 3
  let clk := bits cfg 8 6
  let k := n / 8
  (List.range 8).any (fun e => 8 * k + e != n && c.engState (8 * k + e) != 0 && (c.engPins (8 * k + e)).any (fun i => pins.contains i))
    || pins.any (fun i =>
      let ch := 16 * k + i / 3
      let m := if ch % 2 = 0 then ch + 1 else ch - 1
      (match c.trunkOf ch with
        | some t => c.trunkActive t
        | none => false)
        || (i % 3 == 2 && c.cfg (Reg.CH_ROLE m) == 3 && bits (c.cfg (Reg.CH_SPI_CS m)) 8 0 == 0x100))
    || (bit cfg 9 && (Nat.ble count out || !bit dirs out)) || (bit cfg 10 && (Nat.ble count inp || bit dirs inp))
    || (bit cfg 11 && (Nat.ble count clk || !bit dirs clk))

/-- Pending changes come into force (R370). -/
def Core.install (c : Core) (n : Nat) : Core :=
  let x := c.eng n
  let c := match x.pendProg with
    | some b => c.setBlob (Reg.ENG_PROG n) b
    | none => c
  let c := match x.pendWrap with
    | some v => c.setReg (Reg.ENG_WRAP n) v
    | none => c
  let c := match x.pendDiv with
    | some v => c.setReg (Reg.ENG_DIV n) v
    | none => c
  c.setEng n { x with pendProg := none, pendWrap := none, pendDiv := none }

/-- START (R354 to R358, R369). Statuses: REFUSED 0x11, MODE 0x08. -/
def Core.engStart (c : Core) (n : Nat) : Nat × Core :=
  let st := c.engState n
  if c.fc.safe then (0x08, c)
  else if (st ≠ 0 ∧ st ≠ 4 ∧ st ≠ 5) ∨ c.startBarred n ∨ c.isolatedKind .engine n then (0x11, c)
  else
    let c := c.install n
    let d := c.reg (Reg.ENG_DIR_INIT n)
    let x := c.eng n
    let c := c.setEng n { tx := x.tx, rx := x.rx, pc := bits (c.reg (Reg.ENG_WRAP n)) 4 0, levels := d % 256, dirs := d / 256,
                          port := x.port, since := c.now }
    (0, (c.setEngState n 1).takeover n)

/-- ENG_CTRL (R369). -/
def Core.engCtrl (c : Core) (n v : Nat) : Nat × Core :=
  let st := c.engState n
  if v = 1 then c.engStart n
  else if v = 2 then (if st = 0 then (0x11, c) else (0, c.engStop n))
  else if v = 3 then
    if st = 1 ∨ st = 2 ∨ st = 3 then (0, c.setEng n { c.eng n with stopAtWrap := true }) else (0x11, c)
  else if v = 4 then (if st = 0 then (0, c.setEng n { c.eng n with tx := [], rx := [] }) else (0x11, c))
  else (0x0B, c)

/-! Instructions (R359 to R364). -/

/-- R359: instruction word i is one that the table allows. -/
def instrOk (w : Nat) : Bool :=
  match w / 2 ^ 13 with
  | 0 => bits w 7 1 == 0
  | 1 => bits w 7 2 == 0
  | 2 => bits w 12 10 == 0
  | 3 => bits w 8 7 != 3 && bits w 6 4 == 0
  | 4 => bits w 10 8 == 0
  | 5 => bits w 9 0 == 0 && (!bit w 10 || bits w 12 11 == 1)
  | 6 => bits w 10 0 == 0
  | _ => bits w 8 4 == 0

/-- R359: a program of 64 bytes that is accepted. -/
def progOk (b : Bytes) : Bool := b.length == 64 && (List.range 32).all (fun i => instrOk (fieldAt b (2 * i) 2))

/-- A pass of engine n's program is under way: it runs, and has left the first instruction of a pass as it stood. -/
def Core.passRuns (c : Core) (n : Nat) : Bool :=
  let st := c.engState n
  (st == 1 || st == 2) && !((c.eng n).pc == bits (c.reg (Reg.ENG_WRAP n)) 4 0 && (c.eng n).bitsDone == 0)

/-- R514: from strobe T of a switchover until its release the holder starts no new pass of engine n's program. -/
def Core.passBarred (c : Core) (n : Nat) : Bool :=
  c.twin.quiet && (!c.standby || c.twin.held.contains (3, n)) && !c.passRuns n

/-- Engine n is executing an instruction of the given opcode: its word. -/
def Core.engAt (c : Core) (n op : Nat) : Option Nat :=
  let st := c.engState n
  let w := fieldAt (c.blob (Reg.ENG_PROG n)) (2 * (c.eng n).pc) 2
  if c.fieldRuns ∧ (st = 1 ∨ st = 2) ∧ w / 2 ^ 13 = op ∧ ¬ c.passBarred n then some w else none

/-- k engine cycles pass, and time with them: CNT rises, and a carry of the accumulator makes a cycle one CCLK period longer
(R356, R357). -/
def Core.cycles (c : Core) (n k : Nat) : Core :=
  let x := c.eng n
  let div := c.reg (Reg.ENG_DIV n)
  let acc := x.acc + k * bits div 23 16
  let until_ := x.since + 5 * (k * bits div 15 0 + acc / 256)
  (c.advanceTo until_).setEng n { x with cnt := (x.cnt + k) % 2 ^ 32, acc := acc % 256, since := until_ }

/-- R373: the tick in which the engine cycle of engine n that begins next, or began last, begins. -/
def Core.engTickOf (c : Core) (n : Nat) : Nat := (c.sysNs - (c.now - (c.eng n).since)) / c.period % tickMod

/-- An event of engine n, of the tick in which its cause's cycle began (R373). -/
def Core.engEvent (c : Core) (n kind sev value : Nat) : Core :=
  c.addEvent { c.mkEvent (0x400 + n) kind sev value false with tick := c.engTickOf n }

/-- R373: UNDERRUN, OVERRUN and FORCE_ABORT are written at most once per engine per tick each. -/
def Core.engEventOnce (c : Core) (n kind sev value : Nat) : Core :=
  if c.ev.limited.contains (0x400 + n, kind) then c
  else ({ c with ev := { c.ev with limited := (0x400 + n, kind) :: c.ev.limited } }).engEvent n kind sev value

/-- The step to the next instruction, wrap included (R358, R370). -/
def Core.engNext (c : Core) (n : Nat) : Core :=
  let x := c.eng n
  let wrap := c.reg (Reg.ENG_WRAP n)
  if x.pc = bits wrap 9 5 then
    let passes := bits wrap 25 16
    let c := c.setEng n { x with wraps := x.wraps + 1, bitsDone := 0 }
    if x.stopAtWrap then c.engHalt n
    else if passes ≠ 0 ∧ passes ≤ x.wraps + 1 then c.setEngState n 4
    else
      let c := c.install n
      (c.setEng n { c.eng n with pc := bits (c.reg (Reg.ENG_WRAP n)) 4 0 }).setEngState n 1
  else (c.setEng n { x with pc := (x.pc + 1) % 32, bitsDone := 0 }).setEngState n 1

/-- R364: the engine stalls with CLK_PIN at CLK_IDLE: the sticky flag, the count and the event. -/
def Core.engStall (c : Core) (n : Nat) (overrun : Bool) : Core :=
  let x := c.eng n
  let flags := c.reg (Reg.ENG_FLAGS n)
  let cfg := c.reg (Reg.ENG_CFG n)
  let levels := if bit cfg 11 then setLevel x.levels (bits cfg 8 6) (bit cfg 12) else x.levels
  let c := (c.setEng n { x with overrun := overrun, levels := levels }).setEngState n 3
  let c := c.setReg (Reg.ENG_FLAGS n) (setBit flags (b2n overrun) true)
  (c.inc (if overrun then Reg.ENG_CNT_OVERRUN n else Reg.ENG_CNT_UNDERRUN n)).engEventOnce n (if overrun then 2 else 1) 2 x.pc

/-- A shift ends or stalls; CLK_PIN rests at CLK_IDLE. -/
def Core.shiftDone (c : Core) (n w : Nat) (before : Nat) (r : ShiftEnd × Engine) (isIn : Bool) : Core :=
  let cfg := c.reg (Reg.ENG_CFG n)
  let x := r.2
  let x := if bit w 0 ∧ bit cfg 11 then { x with levels := setLevel x.levels (bits cfg 8 6) (bit cfg 12) } else x
  let c := (c.setEng n x).cycles n (2 * (x.bitsDone - before))
  match r.1 with
  | .done => (c.setEng n { c.eng n with overrun := false }).engNext n
  | .stalled => c.engStall n isIn

/-- SHIFT_OUT (R361). -/
def Core.runShiftOut (c : Core) (n : Nat) : Core :=
  match c.engAt n 0 with
  | none => c
  | some w =>
    let x := c.eng n
    c.shiftDone n w x.bitsDone (shiftOut (c.reg (Reg.ENG_CFG n)) (bits w 12 8 + 1) x 40) false

/-- SHIFT_IN (R361). -/
def Core.runShiftIn (c : Core) (n : Nat) (ins : BitVec 32) : Core :=
  match c.engAt n 1 with
  | none => c
  | some w =>
    let x := c.eng n
    c.shiftDone n w x.bitsDone (shiftIn (c.reg (Reg.ENG_CFG n)) (bits w 12 8 + 1) ins 0 x 40) true

/-- DELAY (R361). -/
def Core.runDelay (c : Core) (n : Nat) : Core :=
  match c.engAt n 2 with
  | none => c
  | some w => (c.cycles n (bits w 9 0 + 1)).engNext n

/-- R359: CNT is at or past CMPR. -/
def atOrPast (cnt cmpr : Nat) : Bool := Nat.blt ((cnt + 2 ^ 32 - cmpr) % 2 ^ 32) (2 ^ 31)

/-- R362: the strobe that ends a WAIT with this TICK_EXP has been noted: of a tick that is a multiple of 2^TICK_EXP, visible not before the
first cycle of the WAIT. Gives the instant at which it is visible. -/
def Engine.waitStrobe (x : Engine) (e : Nat) : Option Nat :=
  match x.tickSeen with
  | some (t, v) => if t % 2 ^ e = 0 ∧ x.since ≤ v then some v else none
  | none => none

/-- WAIT: `k` further cycles pass, at the end of the last of which the group's pins read `levels` (R361); with KIND 2 the WAIT
ends where a strobe of R362 is visible, the cycles begun till then counted. -/
def Core.runWait (c : Core) (n : Nat) (k : Nat) (levels : BitVec 8) : Core :=
  match c.engAt n 3 with
  | none => c
  | some w =>
    let x := c.eng n
    let k := max 1 k
    let stay := (c.cycles n k).setEngState n 2
    match bits w 8 7 with
    | 0 => if levels.getLsbD (bits w 12 10) = bit w 9 then (c.cycles n k).engNext n else stay
    | 1 =>
      let cmpr := c.reg (Reg.ENG_CMPR n)
      let need := if atOrPast ((x.cnt + 1) % 2 ^ 32) cmpr then 1 else (cmpr + 2 ^ 32 - x.cnt) % 2 ^ 32
      if need ≤ k then (c.cycles n need).engNext n else stay
    | _ =>
      match x.waitStrobe (bits w 3 0) with
      | none => stay
      | some t =>
        let begun := max 1 (c.engBegun n t)
        ((c.advanceTo t).setEng n { x with cnt := (x.cnt + begun) % 2 ^ 32, acc := 0, since := t, tickSeen := none }).engNext n

/-- R362: a tick strobe of number t reaches an engine that runs; it is visible in CCLK 10 ns later. The strobe by which a WAIT under way
ends stays noted until the WAIT has ended. -/
def Core.engTick (c : Core) (n t : Nat) : Core :=
  let x := c.eng n
  let st := c.engState n
  let kept : Bool := match c.engAt n 3 with
    | some w => bits w 8 7 == 2 && (x.waitStrobe (bits w 3 0)).isSome
    | none => false
  if (st = 1 ∨ st = 2) ∧ kept = false then c.setEng n { x with tickSeen := some (t, c.now + 10) } else c

/-- SET (R361, R363). -/
def Core.runSet (c : Core) (n : Nat) : Core :=
  match c.engAt n 4 with
  | none => c
  | some w =>
    let x := setPins (c.reg (Reg.ENG_CFG n)) (c.engPins n).length w (c.eng n)
    ((c.setEng n x).cycles n 1).engNext n

/-- R359: the justified SR. -/
def justified (cfg sr fill : Nat) : Nat := if bit cfg 13 then sr / 2 ^ (32 - fill) else sr % 2 ^ fill

/-- MOVE (R361, R364). -/
def Core.runMove (c : Core) (n : Nat) : Core :=
  match c.engAt n 5 with
  | none => c
  | some w =>
    let x := c.eng n
    let cfg := c.reg (Reg.ENG_CFG n)
    match bits w 12 11 with
    | 0 =>
      if x.tx.isEmpty then c.engStall n false
      else ((c.setEng n { x with sr := x.tx.headD 0, tx := x.tx.drop 1, fill := 32 }).cycles n 1).engNext n
    | 1 =>
      if 4 ≤ x.rx.length then c.engStall n true
      else
        let v := if bit w 10 then justified cfg x.sr x.fill else x.sr
        ((c.setEng n { x with rx := x.rx ++ [v], fill := 0 }).cycles n 1).engNext n
    | 2 => ((c.setEng n { x with sr := c.reg (Reg.ENG_CMPR n), fill := 32 }).cycles n 1).engNext n
    | _ => ((c.setReg (Reg.ENG_CMPR n) x.sr).cycles n 1).engNext n

/-- CMP; `levels` are those of P0 to P7 (R361). -/
def Core.runCmp (c : Core) (n : Nat) (levels : BitVec 8) : Core :=
  match c.engAt n 6 with
  | none => c
  | some w =>
    let x := c.eng n
    let cmpr := c.reg (Reg.ENG_CMPR n)
    let eq : Bool := match bits w 12 11 with
      | 0 => x.sr == cmpr
      | 1 => justified (c.reg (Reg.ENG_CFG n)) x.sr x.fill == cmpr
      | 2 => levels.toNat == cmpr % 256
      | _ => atOrPast x.cnt cmpr
    ((c.setEng n { x with eq := eq }).cycles n 1).engNext n

/-- R373: a program record, at most one per engine per tick. -/
def Core.programRecord (c : Core) (n w : Nat) : Core :=
  let x := c.eng n
  if c.ev.limited.contains (0x400 + n, 0x10) then
    (c.setReg (Reg.ENG_FLAGS n) (setBit (c.reg (Reg.ENG_FLAGS n)) 3 true)).inc (Reg.ENG_CNT_EV_DROP n)
  else
    ({ c with ev := { c.ev with limited := (0x400 + n, 0x10) :: c.ev.limited } }).engEvent n (0x10 + w % 16)
      (bits w 10 9) (x.sr + x.fill * 2 ^ 32 + x.pc * 2 ^ 38)

/-- ENG_EVENT: the EVENT instruction (R361, R373). -/
def Core.runEvent (c : Core) (n : Nat) : Core :=
  match c.engAt n 7 with
  | none => c
  | some w =>
    let c := if bit w 11 then c else c.programRecord n w
    let c := (c.cycles n 1).engNext n
    if bit w 12 ∧ (c.eng n).eq ∧ c.engState n = 1 then c.engNext n else c

/-- ENG_STALL_END: after `k` stalled cycles the word or the room is there and the instruction goes on (R364). -/
def Core.stallEnd (c : Core) (n k : Nat) (ins : BitVec 32) : Core :=
  let x := c.eng n
  if c.engState n ≠ 3 ∨ ¬ c.fieldRuns then c
  else
    let c := c.cycles n k
    if (if x.overrun then Nat.ble 4 x.rx.length else x.tx.isEmpty) then c
    else
      let c := c.setEngState n 1
      match fieldAt (c.blob (Reg.ENG_PROG n)) (2 * x.pc) 2 / 2 ^ 13 with
      | 0 => c.runShiftOut n
      | 1 => c.runShiftIn n ins
      | _ => (c.setEng n { c.eng n with overrun := false }).runMove n

/-! Data registers (R365 to R368). -/

/-- Item f writes the words bs to TX_DATA: it is verified, then its words enter together (R366). Gives its status of R431: CHECK
(3) when it fails, FULL (6) when the queue has no room. -/
def Core.engItem (c : Core) (n : Nat) (f : Frame) (bs : Bytes) : Nat × Core :=
  let (ok, c) := c.egress 0x07 n Reg.CNT_EGRESS_ENGINE f
  let x := c.eng n
  let words := (List.range (bs.length / 4)).map (fun i => fieldAt bs (4 * i) 4)
  if !ok then (3, c)
  else if 4 < x.tx.length + words.length then
    (6, (c.setReg (Reg.ENG_FLAGS n) (setBit (c.reg (Reg.ENG_FLAGS n)) 4 true)).inc (Reg.ENG_CNT_TX_REFUSED n))
  else (0, c.setEng n { x with tx := x.tx ++ words })

/-- A TX_DATA write burst, made into an item (R366). -/
def Core.engTx (c : Core) (n : Nat) (bs : Bytes) : Option Bytes × Core :=
  if bs.length % 4 ≠ 0 ∨ bs.length = 0 ∨ 16 < bs.length then (none, c)
  else
    let a := c.homeAddr
    let f : Frame := ({ kind := 0, cls := 7, dst := a, src := a, okey := c.originKey, tick := c.tick, payload := bs } : Frame).seal
    let (st, c) := c.engItem n f bs
    (if st = 0 then some [] else none, c)

/-- A read of RX_POP or RX_PEEK (R365, R367). -/
def Core.engRx (c : Core) (n : Nat) (pop : Bool) : Option Bytes × Core :=
  let x := c.eng n
  match x.rx with
  | [] => (none, c.inc (Reg.ENG_CNT_RX_EMPTY n))
  | v :: rest => (some (leBytes 4 v), if pop then c.setEng n { x with rx := rest } else c)

/-- A change waits for a wrap. -/
def Engine.pending (x : Engine) : Bool := x.pendProg.isSome || x.pendWrap.isSome || x.pendDiv.isSome

/-- The STATUS word (R368). -/
def Core.engStatus (c : Core) (n : Nat) : Nat :=
  let x := c.eng n
  x.tx.length + x.rx.length * 2 ^ 4 + c.engState n * 2 ^ 8 + x.pc * 2 ^ 16 + x.fill * 2 ^ 24 + b2n x.eq * 2 ^ 30
    + b2n x.pending * 2 ^ 31 + c.reg (Reg.ENG_FLAGS n) * 2 ^ 32

/-- An answer of the engine's data registers. -/
def Core.engAnswer (n : Nat) (r : Option Bytes × Core) : Core := r.2.setEng n { r.2.eng n with port := r.1 }

/-- TX_DATA. -/
def Core.engTxData (c : Core) (n : Nat) (bs : Bytes) : Core := Core.engAnswer n (c.engTx n bs)

/-- ENG_RX_POP. -/
def Core.engRxPop (c : Core) (n : Nat) : Core := Core.engAnswer n (c.engRx n true)

/-- RX_PEEK. -/
def Core.engRxPeek (c : Core) (n : Nat) : Core := Core.engAnswer n (c.engRx n false)

/-! Changing a program (R358, R359, R370, R371). -/

/-- The engine is STOPPED or DONE, so a change is in force for the next START. -/
def Core.engIdle (c : Core) (n : Nat) : Bool := c.engState n == 0 || c.engState n == 4 || c.engState n == 5

/-- ENG_PROG. -/
def Core.engProg (c : Core) (n : Nat) (b : Bytes) : Nat × Core :=
  if !progOk b then (0x0B, c)
  else if c.engIdle n then (0, (c.setBlob (Reg.ENG_PROG n) b).setEng n { c.eng n with pendProg := none })
  else (0, c.setEng n { c.eng n with pendProg := some b })

/-- ENG_WRAP: RANGE for WRAP_BOTTOM above WRAP_TOP or PASSES above 1,023 (R358). Reserved bits read as 0. -/
def Core.engWrap (c : Core) (n v : Nat) : Nat × Core :=
  let w := Nat.land v 0x3FF03FF
  if bits v 9 5 < bits v 4 0 ∨ 1023 < bits v 31 16 then (0x0B, c)
  else if c.engIdle n then (0, (c.setReg (Reg.ENG_WRAP n) w).setEng n { c.eng n with pendWrap := none })
  else (0, c.setEng n { c.eng n with pendWrap := some w })

/-- ENG_DIV: RANGE for INT 0 (R356). -/
def Core.engDiv (c : Core) (n v : Nat) : Nat × Core :=
  let w := v % 2 ^ 24
  if bits v 15 0 = 0 then (0x0B, c)
  else if c.engIdle n then (0, (c.setReg (Reg.ENG_DIV n) w).setEng n { c.eng n with pendDiv := none })
  else (0, c.setEng n { c.eng n with pendDiv := some w })

/-- ENG_PROG_FORCE (R371). -/
def Core.engForce (c : Core) (n : Nat) (b : Bytes) : Nat × Core :=
  if !progOk b then (0x0B, c)
  else
    let st := c.engState n
    let from_ := c.engCycleStart n
    let (made, c) := c.engPartial n
    let x := c.eng n
    let op := fieldAt (c.blob (Reg.ENG_PROG n)) (2 * x.pc) 2 / 2 ^ 13
    let running : Bool := st == 1 || st == 2 || st == 3
    let cfg := c.reg (Reg.ENG_CFG n)
    let shifting : Bool := running && Nat.blt op 2
    let c := if shifting then
        ((c.setReg (Reg.ENG_FLAGS n) (setBit (c.reg (Reg.ENG_FLAGS n)) 2 true)).setEng n { x with since := from_ }).engEventOnce n 3 0 made
      else c
    let x := if shifting then { x with sr := 0, fill := 0,
                                       levels := if bit cfg 11 then setLevel x.levels (bits cfg 8 6) (bit cfg 12) else x.levels }
      else x
    let c := (c.setEng n { x with pendProg := some b, bitsDone := 0, overrun := false, tickSeen := none }).install n
    let c := c.inc (Reg.ENG_CNT_FORCE n)
    if running then
      (0, (c.setEng n { c.eng n with acc := 0, since := c.now, pc := bits (c.reg (Reg.ENG_WRAP n)) 4 0 }).setEngState n 1)
    else (0, c)

/-- R353: ENG_PINS, ENG_CFG and ENG_DIR_INIT are written only while STOPPED. -/
def Core.engSetting (c : Core) (n key v : Nat) : Nat × Core :=
  if key = Reg.ENG_PINS n ∧ 47 < bits v 5 0 + bits v 8 6 then (0x0B, c)
  else if c.engState n ≠ 0 then (0x11, c)
  else (0, c.setReg key v)

/-! Safe state (R372). -/

/-- At the next strobe at least 10 ns later each group pin takes its ENG_SAFE setting (R33). -/
def Core.engSafeStrobe (c : Core) (n : Nat) : Core :=
  let x := c.eng n
  if x.safeDue && !(c.fc.safe && Nat.blt c.now (c.fc.safeAt + 10)) then
    let v := c.safeValue (Reg.ENG_SAFE n)
    c.setEng n { x with safeDue := c.safeLate (Reg.ENG_SAFE n), levels := v % 256, dirs := 255 - v / 256 % 256 }
  else c

end Sys2Proof.Machine
end

