-- ==== Sys2Proof/Machine/Banks.lean ====
section
/-! DEFINITION. The local map as the fabric reaches it (chapter 13, R430 to R434, R455, R456, R461): memory banks, channel data
ports and engine data registers, and the target's side of a fabric request. -/

namespace Sys2Proof.Machine

/-- Status codes of R431. -/
abbrev Fab.OK : Nat := 0
abbrev Fab.ADDRESS : Nat := 1
abbrev Fab.ACCESS : Nat := 2
abbrev Fab.CHECK : Nat := 3
abbrev Fab.ECC : Nat := 4
abbrev Fab.EMPTY : Nat := 5
abbrev Fab.FULL : Nat := 6
abbrev Fab.FORMAT : Nat := 7
abbrev Fab.TIMEOUT : Nat := 8
abbrev Fab.REFUSED : Nat := 9

/-- Operations of R430. -/
abbrev Op.READ : Nat := 1
abbrev Op.READ_DATA : Nat := 2
abbrev Op.WRITE_POSTED : Nat := 3
abbrev Op.WRITE : Nat := 4
abbrev Op.WRITE_DONE : Nat := 5
abbrev Op.ERROR : Nat := 6

/-- Start of object space (R21). -/
abbrev objectSpace : Nat := 0x100000000

/-- A local offset lies in object space. -/
def inObjectSpace (off : Nat) : Bool := Nat.ble objectSpace off && Nat.blt off (objectSpace + 0x10000000)

/-- R436: n bytes at a local offset touch a read-effect region. -/
def readEffect (off n : Nat) : Bool :=
  let hit (lo hi : Nat) : Bool := Nat.blt lo (off + n) && Nat.blt off hi
  let block (lo size count a b : Nat) : Bool :=
    (List.range count).any (fun i => hit (lo + i * size + a) (lo + i * size + b))
  hit objectSpace (objectSpace + 0x10000000)
    || (hit 0x200000000 0x200080000 && block 0x200000000 0x1000 128 0x100 0x140)
    || (hit 0x300000000 0x300004000 && block 0x300000000 0x100 64 0x40 0x80)

/-! Banks (R455, R456, R460, R462). -/

/-- R456, R460: the status that bank b gives an access at bank offset o. -/
def Core.bankStatus (c : Core) (b o : Nat) (write : Bool) : Nat :=
  if bit (c.cfg Reg.STAGE_SET) b then Fab.ACCESS
  else match c.reg (Reg.BANK_OWNER b) with
    | 1 => if write then Fab.ACCESS else Fab.OK
    | 2 => Fab.OK
    | 3 => Fab.OK
    | 5 => Fab.OK
    | 6 => if write && !(Nat.ble 0x1600 (o % 8192) && Nat.blt (o % 8192) 0x1C00) then Fab.ACCESS else Fab.OK
    | _ => Fab.ACCESS

/-- R22, R431, R432, R465: the status of one byte of the local map. `own` is the owner code for which the master acts: a swap bank
is open to the owner of the bank that it stands in for. -/
def Core.byteStatus (c : Core) (own : Nat) (write : Bool) (off : Nat) : Nat :=
  if off < 0x400000 then c.bankStatus (off / 65536) (off % 65536) write
  else if off < 0x420000 then
    let a := c.swapAlias off
    if a < 0x400000 ∧ c.reg (Reg.BANK_OWNER (a / 65536)) = own then Fab.OK else Fab.ACCESS
  else Fab.ADDRESS

/-- R432: the first status other than OK that n bytes from off meet. -/
def Core.rangeStatus (c : Core) (own : Nat) (write : Bool) (off n : Nat) : Nat :=
  ((List.range n).findSome? (fun i =>
    let s := c.byteStatus own write (off + i)
    if s = Fab.OK then none else some s)).getD Fab.OK

/-- A byte of a management bank: the event queue, a census table, the RAM log (log entry 11). -/
def Core.mgmtByte (c : Core) (m : Memory) (a : Nat) : Byte :=
  let evq := c.reg Reg.EVQ_BASE
  let home := c.reg Reg.CENSUS_TABLE
  let branch := c.reg Reg.CENSUS_TABLE_BR
  let log := c.reg Reg.LOG_RAM_BASE
  if evq ≤ a ∧ a < evq + 24576 then ((mapGet {} ((a - evq) / 24) c.ev.slots : EvRec).bytes).getD ((a - evq) % 24) 0
  else if home ≤ a ∧ a < home + 32 * c.ring.home.table.length then
    (c.ring.home.table.flatMap Member.bytes).getD (a - home) 0
  else if branch ≤ a ∧ a < branch + 32 * c.ring.branch.table.length then
    (c.ring.branch.table.flatMap Member.bytes).getD (a - branch) 0
  else if log ≤ a ∧ a < log + 131072 then (mapGet [] ((a - log) / 32) c.log.ram).getD ((a - log) % 32) 0
  else leVal (c.fetch m a 1) |> byteOf

/-- A byte of a bank whose contents other parts of the state hold in whole or in part: CAN message memory and management. -/
def Core.heldByte (c : Core) (m : Memory) (a : Nat) : Byte :=
  let b := a / 65536
  let o := a % 8192
  if 48 ≤ b then c.mgmtByte m a
  else if 0x1600 ≤ o ∧ o < 0x1C00 then leVal (c.fetch m a 1) |> byteOf
  else c.mmByte ((b - 44) * 8 + a % 65536 / 8192) o

/-- n bytes of bank storage from a local offset as their reader gets them. -/
def Core.bankRead (c : Core) (m : Memory) (off n : Nat) : Bytes :=
  (cutBank off n).flatMap (fun p =>
    let a := c.swapAlias p.1
    if 44 ≤ a / 65536 ∧ a / 65536 < 54 then (List.range p.2).map (fun i => c.heldByte m (a + i)) else c.fetch m p.1 p.2)

/-! Channel data ports (R313, R314) and engine data registers (R365 to R367). -/

/-- A read in a channel's block. -/
def Core.chanBlockRead (c : Core) (n o size : Nat) : Nat × Bytes × Core :=
  let answer (r : Option Bytes × Core) (st : Nat) : Nat × Bytes × Core :=
    match r with
    | (some b, c) => (Fab.OK, b, c)
    | (none, c) => (st, [], c)
  if o = 0 ∧ size = 8 then (Fab.OK, leBytes 8 (c.chCounts n), c)
  else if o = 0x100 ∧ (size = 1 ∨ size = 2 ∨ size = 4 ∨ size = 8) then
    answer (c.rxPop n size) (if c.portOpen n then Fab.EMPTY else Fab.ADDRESS)
  else if 0x400 ≤ o ∧ o < 0x600 then answer (c.rxBank n (o - 0x400) size) Fab.ADDRESS
  else (Fab.ADDRESS, [], c)

/-- A write in a channel's block by item f, whose data are bs; a failing item is answered CHECK, one that R310 discards FULL. -/
def Core.chanBlockWrite (c : Core) (n o : Nat) (f : Frame) (bs : Bytes) : Nat × Core :=
  if o = 0x600 ∧ bs.length = 2 then
    match c.rxRelease n (fieldAt bs 0 2) with
    | (some _, c) => (Fab.OK, c)
    | (none, c) => (Fab.ADDRESS, c)
  else if o = 0x800 ∧ 1 ≤ bs.length ∧ bs.length ≤ 510 then
    c.txItem n f
  else (Fab.ADDRESS, c)

/-- A read in an engine's block. -/
def Core.engBlockRead (c : Core) (n o size : Nat) : Nat × Bytes × Core :=
  if (o = 0x40 ∨ o = 0x80) ∧ size = 4 then
    match c.engRx n (o == 0x40) with
    | (some b, c) => (Fab.OK, b, c)
    | (none, c) => (Fab.EMPTY, [], c)
  else if o = 0xC0 ∧ size = 8 then (Fab.OK, leBytes 8 (c.engStatus n), c)
  else (Fab.ADDRESS, [], c)

/-- A write in an engine's block by item f, whose data are bs. -/
def Core.engBlockWrite (c : Core) (n o : Nat) (f : Frame) (bs : Bytes) : Nat × Core :=
  if o = 0 ∧ (bs.length = 4 ∨ bs.length = 8 ∨ bs.length = 12 ∨ bs.length = 16) then
    c.engItem n f bs
  else (Fab.ADDRESS, c)

/-! Whole accesses (R432). -/

/-- A read of n bytes at a local offset by a master acting for owner `own`: status, bytes, and what it does. The words below the
first byte that the access may not reach are read, so that the lowest refused byte gives the status (R432). -/
def Core.localRead (m : Memory) (c : Core) (own off n : Nat) : Nat × Bytes × Core :=
  if 0x200000000 ≤ off ∧ off < 0x200080000 then
    c.chanBlockRead ((off - 0x200000000) / 4096) (off % 4096) n
  else if 0x300000000 ≤ off ∧ off < 0x300004000 then
    c.engBlockRead ((off - 0x300000000) / 256) (off % 256) n
  else
    let open_ := ((List.range n).takeWhile (fun i => c.byteStatus own false (off + i) == Fab.OK)).length
    let st := c.rangeStatus own false off n
    let (bad, c) := c.eccScan m off open_
    if bad then (Fab.ECC, [], c) else if st ≠ Fab.OK then (st, [], c) else (Fab.OK, c.bankRead m off n, c)

/-- R461: the parts of a write that stay when port 1's write of the 8-byte word at local offset 8 * w is dropped. -/
def aroundWord (off : Nat) (bs : Bytes) (w : Nat) : List (Nat × Bytes) :=
  [(off, bs.take (8 * w - off)), (max off (8 * w + 8), bs.drop (8 * w + 8 - off))].filter (fun p => !p.2.isEmpty)

/-- R461: port 0 writes the word at local offset 8 * w in the same cycle: port 1's write of it is counted and reported as
dropped. -/
def Core.clash (c : Core) (w : Nat) : Core :=
  let b := w * 8 / 65536
  let c := (((c.inc (Reg.CNT_WRITE_CLASH b)).setReg Reg.LC_BANK b).setReg Reg.LC_WORD (w % 8192)).setReg Reg.LC_TICK c.tick
  c.reportOnce Src.WRITE_CLASH b 0 0 0 false

/-- R4, R339: the reserved bits of a receive filter entry read 0: ACTION [6:2] and byte 11. -/
def Core.filterBytes (c : Core) (off : Nat) (bs : Bytes) : Bytes :=
  bs.zipIdx.map (fun x =>
    let a := c.swapAlias (off + x.2)
    let o := a % 8192
    if 44 ≤ a / 65536 ∧ a / 65536 < 48 ∧ 0x1600 ≤ o ∧ o < 0x1C00 then
      (if (o - 0x1600) % 12 = 10 then byteOf (Nat.land x.1.toNat 0x83) else if (o - 0x1600) % 12 = 11 then 0 else x.1)
    else x.1)

/-- Bytes stored into bank storage through port 1, of which `clash` names the word of R461. -/
def Core.storeClash (m : Memory) (c : Core) (off : Nat) (bs : Bytes) (clash : Option Nat) : Memory × Core :=
  let bs := c.filterBytes off bs
  let c := c.mapCatchUp m
  match clash with
  | some w =>
    if off / 8 ≤ w ∧ 8 * w < off + bs.length then
      ((aroundWord off bs w).foldl (fun (m : Memory) p => c.store m p.1 p.2) m, c.clash w)
    else (c.store m off bs, c)
  | none => (c.store m off bs, c)

/-- The status that a write of these bytes meets before its own check: that of the lowest byte that is refused (R404, R432, R456).
A byte of a bank of the mapper has the status of the write as a write of its tables. -/
def Core.writeStatus (m : Memory) (c : Core) (own off : Nat) (bs : Bytes) : Nat :=
  let table := match c.mapTableBytes m off bs Fab.ADDRESS Fab.ACCESS with
    | some (s, _) => s
    | none => Fab.ADDRESS
  ((List.range bs.length).findSome? (fun i =>
    let st := c.byteStatus own true (off + i)
    let st := if st = Fab.OK ∧ c.reg (Reg.BANK_OWNER (c.swapAlias (off + i) / 65536)) = 3 then table else st
    if st = Fab.OK then none else some st)).getD Fab.OK

/-- R208, R220: the fabric unit's checker for a write. -/
def fabCheck (f : Frame) (c : Core) : Bool × Core :=
  let (v, c) := c.checkFrame 0x09 0 f
  if v.ok then (true, c) else (false, c.localFail 0x09 0 Reg.CNT_MEM_WRITE_FAIL f v.injected)

/-- The fabric head. -/
def fabHead (op status tag off count : Nat) : Bytes :=
  [byteOf op, byteOf status] ++ leBytes 2 tag ++ leBytes 6 off ++ leBytes 2 count ++ zeros 4

/-- The item of a write that is served on the chip (R23, R434). -/
def Core.localItem (c : Core) (stream off : Nat) (bs : Bytes) : Frame :=
  ({ kind := 0, cls := 7, dst := c.homeAddr, src := c.homeAddr, okey := c.originKey, stream := stream, tick := c.tick,
     payload := fabHead Op.WRITE 0 0 off bs.length ++ bs } : Frame).seal

/-- A write of bytes at a local offset by item f. `moved` marks a move of a mover, which is no item in a bank (R207); `clash` is
the word of R461. -/
def Core.localWrite (m : Memory) (c : Core) (own off : Nat) (bs : Bytes) (f : Frame) (moved : Bool)
    (clash : Option Nat) : Nat × Memory × Core :=
  if 0x200000000 ≤ off ∧ off < 0x200080000 then
    let (st, c) := c.chanBlockWrite ((off - 0x200000000) / 4096) (off % 4096) f bs
    (st, m, c)
  else if 0x300000000 ≤ off ∧ off < 0x300004000 then
    let (st, c) := c.engBlockWrite ((off - 0x300000000) / 256) (off % 256) f bs
    (st, m, c)
  else
    let st := Core.writeStatus m c own off bs
    if st ≠ Fab.OK then (st, m, c)
    else
      let (good, c) := if moved then (true, c) else fabCheck f c
      if !good then (Fab.CHECK, m, c)
      else match c.mapTableBytes m off bs Fab.ADDRESS Fab.ACCESS with
        | some (_, entry) => (Fab.OK, Core.storeClash m c off entry clash)
        | none => (Fab.OK, Core.storeClash m (Core.keepFilters m c off bs.length) off bs clash)

/-- R461: the command during which port 0 of a bank writes this word in the FCLK cycle of the command's own writes through port 1. The
commands without such an operand meet no write of port 0 (log entry 107). -/
def Core.duringClash (w : Option Nat) (f : Memory → Core → Memory × Core) (m : Memory) (c : Core) : Memory × Core :=
  let (m, c) := f m { c with fab := { c.fab with clash := w } }
  (m, { c with fab := { c.fab with clash := none } })

/-- The owner code for which another node acts: none. -/
abbrev remoteOwn : Nat := 255

/-! The target's side of a request (R430, R432). -/

/-- Operation of a C7 payload. -/
def fabOp (f : Frame) : Nat := fieldAt f.payload 0 1

/-- R432: an answer to a request. -/
def Core.fabAnswer (c : Core) (f : Frame) (op status : Nat) (data : Bytes) : Core :=
  let p := f.payload
  let (g, c) := c.make 0 7 f.src f.stream c.tick false false false
    (fabHead op status (fieldAt p 2 2) (fieldAt p 4 6) (fieldAt p 10 2) ++ data)
  c.originate 13 g

/-- R430: the head of a request keeps its form. -/
def fabFormOk (f : Frame) : Bool :=
  let p := f.payload
  let op := fabOp f
  let count := fieldAt p 10 2
  (op == Op.READ || op == Op.WRITE || op == Op.WRITE_POSTED) && fieldAt p 1 1 == 0 && fieldAt p 12 4 == 0
    && Nat.ble 1 count && Nat.ble count 1008 && p.length == (if op = Op.READ then 16 else 16 + count)
    && (op != Op.WRITE_POSTED || fieldAt p 2 2 == 0)

/-- R208: the write of this request is verified where it ends: in a bank, or at the egress of a channel or an engine. -/
def checkedAtEnd (f : Frame) : Bool :=
  let off := fieldAt f.payload 4 6
  (fabOp f == Op.WRITE || fabOp f == Op.WRITE_POSTED)
    && (Nat.blt off 0x420000 || (Nat.ble 0x200000000 off && Nat.blt off 0x200080000 && off % 4096 == 0x800)
      || (Nat.ble 0x300000000 off && Nat.blt off 0x300004000 && off % 256 == 0))

/-- R432: a request at the target, checked whole, done or refused, and answered unless it is posted. Apart from a write whose
check has its place in R208, an item that fails its check is discarded (R150, R209). -/
def Core.fabServe (m : Memory) (c : Core) (f : Frame) (clash : Option Nat) : Memory × Core :=
  let op := fabOp f
  let off := fieldAt f.payload 4 6
  let answer (c : Core) (st : Nat) (okOp : Nat) (data : Bytes) : Core :=
    if op = Op.WRITE_POSTED then c
    else if st = Fab.OK then c.fabAnswer f okOp Fab.OK data
    else c.fabAnswer f Op.ERROR st []
  if (!fabFormOk f || !checkedAtEnd f) && f.check != f.transitCrc then (m, c)
  else if !fabFormOk f then (m, answer c Fab.FORMAT Op.ERROR [])
  else if op = Op.READ then
    let (st, data, c) := Core.localRead m c remoteOwn off (fieldAt f.payload 10 2)
    (m, answer c st Op.READ_DATA data)
  else
    let (st, m, c) := Core.localWrite m c remoteOwn off (f.payload.drop 16) f false clash
    (m, answer c st Op.WRITE_DONE [])

/-- R484: n bytes at a fabric address touch a region whose semaphore is held, in the given lock domain or in any. -/
def Core.semHeld (c : Core) (dom : Option Nat) (addr n : Nat) : Bool :=
  (bitList 32 (c.reg Reg.LHP_SEM_HELD)).any (fun k =>
    let v := c.reg (Reg.LHP_SEM k)
    let base := v / 4096 * 4096
    (dom == none || dom == some (v % 16)) && Nat.blt base (addr + n) && Nat.blt addr (base + 4096))

/-- R484: an access is held back until its region is released. -/
def Core.holdBack (c : Core) (r : Retried) : Core :=
  ({ c with fab := { c.fab with retried := c.fab.retried ++ [r] } }).inc Reg.CNT_LOCK_RETRY

/-- A C7 DATA item reaches SP_13 and is served when `mine` holds of its operation, or held back under R484. -/
def Core.fabArrive (m : Memory) (c : Core) (f : Frame) (mine : Nat → Bool) (clash : Option Nat) : Memory × Core :=
  if !c.up || Nat.blt f.payload.length 16 || !mine (fabOp f) then (m, c)
  else
    let c := c.undeliver 13 f
    if fabFormOk f && c.semHeld none (c.homeAddr * 2 ^ 48 + fieldAt f.payload 4 6) (fieldAt f.payload 10 2) then
      (m, c.holdBack (.request f clash))
    else Core.fabServe m c f clash

/-- FABRIC_READ: a READ, or a request whose operation R430 does not name. -/
def Core.fabRead (m : Memory) (c : Core) (f : Frame) : Memory × Core :=
  Core.fabArrive m c f (fun op => op == 1 || op == 0 || Nat.blt 6 op) none

/-- FABRIC_WRITE. -/
def Core.fabWrite (m : Memory) (c : Core) (f : Frame) (clash : Option Nat) : Memory × Core :=
  Core.fabArrive m c f (fun op => op == Op.WRITE) clash

/-- WRITE_POSTED. -/
def Core.fabPosted (m : Memory) (c : Core) (f : Frame) (clash : Option Nat) : Memory × Core :=
  Core.fabArrive m c f (fun op => op == Op.WRITE_POSTED) clash

/-- C7_RUNT_DISCARD: a C7 DATA item shorter than the fabric head (R432). -/
def Core.fabRunt (c : Core) (f : Frame) : Core :=
  if !c.up || Nat.ble 16 f.payload.length then c else (c.undeliver 13 f).inc Reg.CNT_FAB_FORMAT

end Sys2Proof.Machine
end

