-- ==== Sys2Proof/Machine/Fabric.lean ====
section
/-! DEFINITION. The requester's side of the fabric unit (chapter 13, R433 to R445): tags, requests into object space, windows,
prefetch and the session opener. -/

namespace Sys2Proof.Machine

/-! Object-space slots (R81 to R85, R435). -/

/-- Object number of a slot. -/
def slotObj (off : Nat) : Nat := (off - objectSpace) / 4096

/-- Member number of a slot. -/
def slotMem (off : Nat) : Nat := off / 16 % 256

/-- R82: the size and alignment of an access to object space. -/
def slotOk (off n : Nat) : Bool := (n == 1 || n == 2 || n == 4 || n == 8 || n == 16) && off % n == 0

/-- The place of a slot access (R82) in its request: 0x10 / n + byte / n, which names each of the 31 places once. It travels in
OPTIONS[5:1], which R59 leaves reserved (log entry 93). -/
def slotCode (off n : Nat) : Nat := 16 / n + off % 16 / n

/-- R435: the fabric status of a dictionary status. -/
def dictToFab (st : Nat) : Nat :=
  if st = 0 then Fab.OK else if st = 4 ∨ st = 5 then Fab.ADDRESS else if st = 2 ∨ st = 6 then Fab.ACCESS else Fab.REFUSED

/-! Tags and requests (R433). -/

/-- The lowest free tag. -/
def Core.freeTag (c : Core) : Option Nat :=
  let used := c.fab.accesses.filterMap (fun a => a.tag)
  (List.range (c.reg Reg.FAB_TAGS)).find? (fun t => !used.contains t)

/-- FAB_TAGS_USED follows the accesses. -/
def Core.setAccesses (c : Core) (as : List FabAccess) : Core :=
  ({ c with fab := { c.fab with accesses := as } }).setReg Reg.FAB_TAGS_USED (as.filterMap (fun (a : FabAccess) => a.tag)).length

/-- R160: the STREAM of a master. -/
def FabOwner.stream : FabOwner → Nat
  | .window w _ => w
  | .mover m => 0x100 + m
  | .opener => 0

/-- R57, R445: the session binding of a master. -/
def Core.binding (c : Core) : FabOwner → Nat
  | .window w _ => bits (c.reg (Reg.WIN_CTRL w)) 17 12
  | .mover m => c.reg (Reg.MV_SESSION m)
  | .opener => 0

/-- R59: a DICT_REQ payload. -/
def dictReqBytes (txn cmd sess obj mem opts : Nat) (data : Bytes) : Bytes :=
  leBytes 2 txn ++ [byteOf cmd, byteOf sess] ++ leBytes 2 obj ++ [byteOf mem, byteOf opts] ++ zeros 8 ++ data

/-- R435: the READ or WRITE of a slot: n bytes at a local offset in object space. -/
def slotReqBytes (txn sess off n : Nat) (write posted : Bool) (data : Bytes) : Bytes :=
  dictReqBytes txn (if write then 2 else 1) sess (slotObj off) (slotMem off) (b2n posted + 2 * slotCode off n) data

/-- A DICT_REQ frame of a master of the fabric. -/
def Core.sendDict (c : Core) (owner : FabOwner) (node : Nat) (payload : Bytes) : Core :=
  let (f, c) := c.make 4 4 node 0 c.tick false false false payload
  c.originate owner.port f

/-- The TRANSACTION of a DICT_REQ of the fabric unit: the requests are counted, so that none repeats one of the last 4 of its session
(R59, R67; log entry 33). -/
def Core.fabTxn (c : Core) : Nat × Core :=
  (c.fab.nextTxn, { c with fab := { c.fab with nextTxn := (c.fab.nextTxn + 1) % 65536 } })

/-- An access leaves its master's port under a tag. -/
def Core.fabTransmit (c : Core) (a : FabAccess) (tag : Nat) : Core :=
  match a.owner with
  | .opener => c.sendDict a.owner a.node (dictReqBytes a.txn 4 0 0 a.count 0 a.data)
  | o =>
    if a.dict then c.sendDict o a.node (slotReqBytes a.txn a.sess a.off a.count a.write false a.data)
    else
      let (f, c) := c.make 0 7 a.node o.stream c.tick false false false
        (fabHead (if a.write then Op.WRITE else Op.READ) 0 tag a.off a.count ++ a.data)
      c.originate o.port f

/-- R433: an access takes a tag and leaves, or waits for one. Gives its number. It keeps the session binding that it was translated
under (R439). -/
def Core.fabSend (c : Core) (a : FabAccess) : Nat × Core :=
  let id := c.fab.nextId
  let c := { c with fab := { c.fab with nextId := id + 1 } }
  let (txn, c) := if a.asDict then c.fabTxn else (0, c)
  let a := { a with id := id, txn := txn, sess := c.binding a.owner }
  match c.freeTag with
  | some t =>
    let a := { a with tag := some t, deadline := c.now + 1000 * c.reg Reg.FAB_TIMEOUT }
    (id, (c.setAccesses (c.fab.accesses ++ [a])).fabTransmit a t)
  | none => (id, c.setAccesses (c.fab.accesses ++ [a]))

/-- An access ends: its tag is freed, and the first access that waits for one leaves. -/
def Core.fabEnd (c : Core) (id : Nat) : Core :=
  let c := c.setAccesses (c.fab.accesses.filter (fun a => a.id != id))
  match c.fab.accesses.find? (fun a => a.tag.isNone), c.freeTag with
  | some a, some t =>
    let a' := { a with tag := some t, deadline := c.now + 1000 * c.reg Reg.FAB_TIMEOUT }
    (c.setAccesses (c.fab.accesses.map (fun x => if x.id = a.id then a' else x))).fabTransmit a' t
  | _, _ => c

/-- R441, R449: a posted write leaves its master's port. -/
def Core.fabPost (c : Core) (owner : FabOwner) (node off : Nat) (bs : Bytes) : Core :=
  if inObjectSpace off then
    let (txn, c) := c.fabTxn
    c.sendDict owner node (slotReqBytes txn (c.binding owner) off bs.length true true bs)
  else
    let (f, c) := c.make 0 7 node owner.stream c.tick false false false (fabHead Op.WRITE_POSTED 0 0 off bs.length ++ bs)
    c.originate owner.port f

/-- LAST_FAB_FAULT. -/
def Core.ffRecord (c : Core) (master cause addr st : Nat) : Core :=
  ((((c.setReg Reg.FF_MASTER master).setReg Reg.FF_CAUSE cause).setReg Reg.FF_ADDRESS addr).setReg Reg.FF_STATUS st).setReg
    Reg.FF_TICK c.tick

/-! Windows (R437 to R444). -/

/-- What a window access comes to: an answer, or the number of the access it waits for. -/
inductive WinResult where
  | done (st : Nat) (data : Bytes)
  | pend (id : Nat)
  deriving DecidableEq, Repr

/-- Window w is PRESENT and not isolated (R582). -/
def Core.winPresent (c : Core) (w : Nat) : Bool := bit (c.reg (Reg.WIN_CTRL w)) 0 && !c.isolatedKind .window w

/-- Size of window w in bytes. -/
def Core.winSize (c : Core) (w : Nat) : Nat := 2 ^ bits (c.reg (Reg.WIN_CTRL w)) 5 1

/-- The windows that match a window address, lowest first. -/
def Core.winMatches (c : Core) (a : Nat) : List Nat :=
  (List.range 256).filter (fun w =>
    c.winPresent w && Nat.ble (c.reg (Reg.WIN_BASE w)) a && Nat.blt a (c.reg (Reg.WIN_BASE w) + c.winSize w))

/-- R440: a window fault, or an access through window w that ended in an error. -/
def Core.winFault (c : Core) (w cause addr st : Nat) : Core :=
  ((c.inc (Reg.WIN_CNT_WIN_FAULT w)).ffRecord w cause addr st).reportOnce Src.WIN_FAULT w 0 cause 0 false

/-- R440: an access that no window matches. -/
def Core.winMiss (c : Core) (a : Nat) : Core :=
  ((c.inc Reg.CNT_WIN_MISS).ffRecord 0xFFFF 7 a Fab.REFUSED).reportOnce Src.WIN_FAULT noInst 0 7 0 false

/-- Drops the line buffer of window w. -/
def Core.dropLine (c : Core) (w : Nat) : Core := { c with fab := { c.fab with lines := c.fab.lines.filter (fun l => l.1 != w) } }

/-- R442: the line buffer of window w that serves n bytes at a fabric address. -/
def Core.lineServes (c : Core) (w addr n : Nat) : Option Bytes :=
  match c.fab.lines.find? (fun l => l.1 == w) with
  | some (_, l) =>
    if l.base ≤ addr ∧ addr + n ≤ l.base + l.data.length ∧ c.now < l.ends then some (slice l.data (addr - l.base) n) else none
  | none => none

/-- R442: the line is filled. -/
def Core.fillLine (c : Core) (w base : Nat) (data : Bytes) : Core :=
  let c := c.dropLine w
  { c with fab := { c.fab with lines := (w, { base := base, data := data, ends := c.now + 1000 * c.reg Reg.PF_LIFE })
                                          :: c.fab.lines } }

/-- R442: the part of the aligned 64-byte line around a fabric address that lies inside window w: its first byte and
length. -/
def Core.lineSpan (c : Core) (w addr : Nat) : Nat × Nat :=
  let t := c.reg (Reg.WIN_TARGET w)
  let lo := max t (addr / 64 * 64)
  let hi := min (t + c.winSize w) (addr / 64 * 64 + 64)
  (lo, hi - lo)

/-- R434, R435, R441: a read through window w at a fabric address; `want` is the part of the bytes read that the master asked
for. -/
def Core.winRead (m : Memory) (c : Core) (w : Nat) (host : Bool) (addr n : Nat) (want : Option (Nat × Nat)) :
    WinResult × Memory × Core :=
  let node := addr / 2 ^ 48
  let off := addr % 2 ^ 48
  if inObjectSpace off then
    if !slotOk off n then (.done Fab.ADDRESS [], m, c.winFault w 1 addr Fab.ADDRESS)
    else
      let (id, c) := c.fabSend { id := 0, owner := .window w host, dict := true, node := node, off := off, count := n }
      (.pend id, m, c)
  else if node = c.homeAddr then
    let (st, data, c) := Core.localRead m c (if host then 5 else 1) off n
    if st ≠ Fab.OK then (.done st [], m, c.winFault w 1 addr st)
    else match want with
      | none => (.done Fab.OK data, m, c)
      | some (o, k) => (.done Fab.OK (slice data o k), m, c.fillLine w addr data)
  else
    let (id, c) := c.fabSend { id := 0, owner := .window w host, node := node, off := off, count := n, want := want }
    (.pend id, m, c)

/-- R434, R435, R441: a write through window w at a fabric address, posted or not. -/
def Core.winWrite (m : Memory) (c : Core) (w : Nat) (host posted : Bool) (addr : Nat) (bs : Bytes) :
    WinResult × Memory × Core :=
  let node := addr / 2 ^ 48
  let off := addr % 2 ^ 48
  if inObjectSpace off ∧ slotOk off bs.length = false then (.done Fab.ADDRESS [], m, c.winFault w 1 addr Fab.ADDRESS)
  else if node = c.homeAddr ∧ inObjectSpace off = false then
    let (st, m, c) := Core.localWrite m c (if host then 5 else 1) off bs (c.localItem w off bs) false c.fab.clash
    if posted ∨ st = Fab.OK then (.done Fab.OK [], m, c) else (.done st [], m, c.winFault w 1 addr st)
  else if posted then (.done Fab.OK [], m, c.fabPost (.window w host) node off bs)
  else
    let dict := inObjectSpace off
    let (id, c) := c.fabSend { id := 0, owner := .window w host, write := true, dict := dict, node := node, off := off,
                               count := bs.length, data := bs }
    (.pend id, m, c)

/-- R437 to R443: an access at a window address; `bs` is written, or n bytes are read. `post` is HR_POSTED, which takes the
place of the window's POSTED for the host port (R478). -/
def Core.windowAccess (m : Memory) (c : Core) (host : Bool) (a : Nat) (write : Bool) (n : Nat) (bs : Bytes)
    (post : Option Bool) (locked : Bool) : WinResult × Memory × Core :=
  let n := if write then bs.length else n
  match c.winMatches a with
  | [] => (.done Fab.REFUSED [], m, c.winMiss a)
  | w :: others =>
    let c := others.foldl (fun (c : Core) v => c.setReg (Reg.WIN_FLAGS v) (setBit (c.reg (Reg.WIN_FLAGS v)) 1 true)) c
    let ctrl := c.reg (Reg.WIN_CTRL w)
    let addr := c.reg (Reg.WIN_TARGET w) + (a - c.reg (Reg.WIN_BASE w))
    let past := Nat.blt (c.reg (Reg.WIN_BASE w) + c.winSize w) (a + n)
    let posted := post.getD (bit ctrl 6)
    let many := isMcast (addr / 2 ^ 48) && !(write && posted)
    let noLock := locked && bits ctrl 11 8 == 0
    if past || many || noLock || n == 0 then (.done Fab.REFUSED [], m, c.winFault w 7 addr Fab.REFUSED)
    else
      let c := c.inc (Reg.WIN_CNT_WIN_ACC w)
      let hit := if write then none else if bit ctrl 7 then c.lineServes w addr n else none
      match hit with
      | some data => (.done Fab.OK data, m, c)
      | none =>
        let c := c.dropLine w
        if write then Core.winWrite m c w host posted addr bs
        else if readEffect (addr % 2 ^ 48) n then
          Core.winRead m (c.inc (Reg.WIN_CNT_PF_SUPPRESSED w)) w host addr n none
        else
          let span := c.lineSpan w addr
          if bit ctrl 7 ∧ addr + n ≤ span.1 + span.2 then
            Core.winRead m c w host span.1 span.2 (some (addr - span.1, n))
          else Core.winRead m c w host addr n none

/-- The fabric address and the lock domain of a window address. -/
def Core.winAddr (c : Core) (a : Nat) : Option (Nat × Nat) :=
  ((c.winMatches a).head?).map (fun w =>
    (c.reg (Reg.WIN_TARGET w) + (a - c.reg (Reg.WIN_BASE w)), bits (c.reg (Reg.WIN_CTRL w)) 11 8))

/-- R484: an access of Heather is held back by a semaphore of its window's domain. -/
def Core.heatherBarred (c : Core) (a n : Nat) : Bool :=
  match c.winAddr a with
  | some (addr, dom) => c.semHeld (some dom) addr n
  | none => false

/-- WINDOW_ACCESS: an access of Heather at a window address; its answer is kept, or awaited. -/
def Core.heatherAccess (m : Memory) (c : Core) (a : Nat) (write : Bool) (n : Nat) (bs : Bytes) : Memory × Core :=
  if !c.firmware then (m, c)
  else if c.heatherBarred a (if write then bs.length else n) then
    (m, ({ c with fab := { c.fab with heather := none } }).holdBack (.heather a write n bs))
  else match Core.windowAccess m c false a write n bs none false with
    | (.done st data, m, c) => (m, { c with fab := { c.fab with heather := some (st, data) } })
    | (.pend _, m, c) => (m, { c with fab := { c.fab with heather := none } })

/-- An access through window w ends: its answer goes to the master (R440, R442). `bad` says that the item f which brought the
answer fails its check, for the egress checker of the host port. -/
def Core.winDone (c : Core) (a : FabAccess) (w : Nat) (host : Bool) (cause st : Nat) (data : Bytes) (bad : Bool)
    (f : Frame) : Core :=
  let addr := a.node * 2 ^ 48 + a.off
  let c := if st = Fab.OK then c else c.winFault w cause addr st
  let (data, c) := match a.want with
    | some (o, k) => (slice data o k, if st = Fab.OK ∧ bad = false then c.fillLine w addr data else c)
    | none => (data, c)
  if host then { c with fab := { c.fab with hostDone := c.fab.hostDone ++ [{ id := a.id, st := st, data := data, bad := bad, item := f }] } }
  else { c with fab := { c.fab with heather := some (st, data) } }

/-- R439: the settings of window w that a write would leave stand together; RANGE (0x0B) else. -/
def winSettingsOk (base target ctrl : Nat) : Bool :=
  let e := bits ctrl 5 1
  !bit ctrl 0 || (Nat.ble 12 e && Nat.ble e 31 && Nat.ble (bits ctrl 17 12) 32 && base % 2 ^ e == 0 && target % 2 ^ e == 0)

/-- R443: PF_CONFLICT follows a write of the window's settings; a write of WIN_CTRL that makes the window prefetch into a
read-effect region reports it. R466: a write that clears PREFETCH discards the buffer. -/
def Core.winWritten (c : Core) (w : Nat) (ctrlWritten : Bool) : Core :=
  let ctrl := c.reg (Reg.WIN_CTRL w)
  let conflict : Bool := bit ctrl 0 && bit ctrl 7 && readEffect (c.reg (Reg.WIN_TARGET w) % 2 ^ 48) (c.winSize w)
  let c := if bit ctrl 7 then c else c.dropLine w
  if conflict && ctrlWritten then
    (c.setReg (Reg.WIN_FLAGS w) (setBit (c.reg (Reg.WIN_FLAGS w)) 0 true)).report Src.WIN_PREFETCH_CONFIG w 0
  else if conflict then c
  else c.setReg (Reg.WIN_FLAGS w) (setBit (c.reg (Reg.WIN_FLAGS w)) 0 false)

/-! The session opener (R445). -/

/-- FO_TOKEN_WRITE: Heather sends an OPEN. -/
def Core.foOpen (c : Core) (token : Bytes) : Core :=
  let c := c.setReg Reg.FO_STATUS 0xFF
  (c.fabSend { id := 0, owner := .opener, node := c.reg Reg.FO_NODE, count := c.reg Reg.FO_LEVEL, data := token }).2

/-- The answer of an OPEN: status and session. -/
def Core.foDone (c : Core) (st session : Nat) : Core :=
  let c := c.setReg Reg.FO_STATUS st
  if st = 0 then c.setReg Reg.FO_SESSION session else c

end Sys2Proof.Machine
end

