-- ==== Sys2Proof/Machine/Mover.lean ====
section
/-! DEFINITION. DMA movers (chapter 13, R446 to R454) and the answers that end fabric accesses (R433). -/

namespace Sys2Proof.Machine

/-- Mover k. -/
def Core.mover (c : Core) (k : Nat) : Mover := mapGet {} k c.fab.movers

/-- Replaces mover k. -/
def Core.setMover (c : Core) (k : Nat) (x : Mover) : Core :=
  { c with fab := { c.fab with movers := mapSet {} k x c.fab.movers } }

/-- R446: descriptors in queue q of mover k. -/
def Core.queued (c : Core) (k q : Nat) : Nat :=
  let n := c.reg (Reg.Q_SIZE k q)
  (c.reg (Reg.Q_TAIL k q) + n - c.reg (Reg.Q_HEAD k q)) % n

/-- R446: a ring of n descriptors at a fabric address is aligned, in a bank of DMA of this node, and fits in it. -/
def Core.ringOk (c : Core) (base n : Nat) : Bool :=
  let off := base % 2 ^ 48
  base / 2 ^ 48 == c.homeAddr && base % 64 == 0 && Nat.blt off 0x400000 && c.reg (Reg.BANK_OWNER (off / 65536)) == 2
    && Nat.ble (off % 65536 + 64 * n) 65536

/-- Local offset of the descriptor at the head of queue q. -/
def Core.headDesc (c : Core) (k q : Nat) : Nat := c.reg (Reg.Q_BASE k q) % 2 ^ 48 + 64 * c.reg (Reg.Q_HEAD k q)

/-- Element size of a descriptor in bytes. -/
def Mover.elem (x : Mover) : Nat := 2 ^ bits x.ctrl 5 4

/-- The source lies in a read-effect region. -/
def Mover.popSource (x : Mover) : Bool := readEffect (x.src % 2 ^ 48) (if bit x.ctrl 2 then x.elem else x.len)

/-- R448: the descriptor at local offset d is valid. -/
def Core.descValid (m : Memory) (c : Core) (d : Nat) (x : Mover) : Bool :=
  let fixedS := bit x.ctrl 2
  let fixedD := bit x.ctrl 3
  Nat.ble 1 x.len && Nat.ble x.len 16777216 && (x.burst == 0 || (Nat.ble 8 x.burst && Nat.ble x.burst 1008 && x.burst % 8 == 0))
    && !bit x.ctrl 0 && bits x.ctrl 15 6 == 0 && c.fetchNum m (d + 24) 8 == 0 && c.fetchNum m (d + 50) 14 == 0
    && (!fixedS || x.src % x.elem == 0) && (!fixedD || x.dst % x.elem == 0) && x.len % x.elem == 0
    && (fixedS || !inObjectSpace (x.src % 2 ^ 48)) && (fixedD || !inObjectSpace (x.dst % 2 ^ 48))

/-- The descriptor at local offset d. -/
def Core.readDesc (m : Memory) (c : Core) (d q : Nat) : Mover :=
  { cls := q, desc := d, src := c.fetchNum m d 8, dst := c.fetchNum m (d + 8) 8, len := c.fetchNum m (d + 16) 4
    ctrl := c.fetchNum m (d + 20) 2, burst := c.fetchNum m (d + 22) 2 }

/-- R447: the context words of a descriptor. -/
def Core.writeContext (m : Memory) (c : Core) (d done lost status cause rsp side tick : Nat) : Memory :=
  c.store m (d + 32) (leBytes 4 done ++ leBytes 4 lost ++ [byteOf status, byteOf cause, byteOf rsp, byteOf side]
    ++ leBytes 6 tick)

/-- MV_MODE with MV_CLASS and MV_DESC (R468). -/
def Core.setMode (c : Core) (k mode : Nat) : Core :=
  let x := c.mover k
  let at_ : Bool := mode == 2 || mode == 3
  ((c.setReg (Reg.MV_MODE k) mode).setReg (Reg.MV_CLASS k) (if at_ then x.cls else 0xFF)).setReg (Reg.MV_DESC k)
    (if at_ then c.homeAddr * 2 ^ 48 + x.desc else 0)

/-- R449 step 1: the end of the burst that starts at position p. -/
def Mover.burstEnd (x : Mover) (p : Nat) : Nat :=
  let to4k (fixed : Bool) (a : Nat) : Nat := if fixed then x.len else p + (4096 - (a + p) % 4096)
  let lim := min (min (p + (if x.burst = 0 then 256 else x.burst)) x.len)
    (min (to4k (bit x.ctrl 2) x.src) (to4k (bit x.ctrl 3) x.dst))
  if lim = x.len then lim else if p < lim / 64 * 64 then lim / 64 * 64 else lim

/-- R451, R452: an access of the descriptor has failed: nothing further is issued and data not yet written is discarded. -/
def Core.mvFail (c : Core) (k cause st side addr : Nat) (taken : Bool) : Core :=
  let x := c.mover k
  if x.fail.isSome then c
  else
    let lost := if x.popSource && taken then x.elem else 0
    (c.setMover k { x with fail := some (cause, if cause = 1 then st else 0, side, lost), pieces := [], tail := []
                           reads := x.reads.filter (fun r => r.data.isNone) }).ffRecord (0x100 + k) cause addr st

/-- R454: the descriptor under way ends with a status; Q_HEAD advances. -/
def Core.mvEnd (m : Memory) (c : Core) (k status cause lost rsp side mode : Nat) : Memory × Core :=
  let x := c.mover k
  let m := Core.writeContext m c x.desc x.done lost status cause rsp side c.tick
  let c := c.setReg (Reg.Q_HEAD k x.cls) ((c.reg (Reg.Q_HEAD k x.cls) + 1) % c.reg (Reg.Q_SIZE k x.cls))
  let c := (c.inc (Reg.MV_CNT_MV_DESC k)).setReg (Reg.MV_CNT_MV_BYTES k)
    (min (c.reg (Reg.MV_CNT_MV_BYTES k) + x.done) (2 ^ 64 - 1))
  (m, (c.setMover k {}).setMode k mode)

/-- The mode in which a mover ends what it stops: DISABLED where a DISABLE waits, else IDLE (R453). -/
def Mover.endMode (x : Mover) : Nat := if x.stop = 2 ∨ x.stop = 4 then 0 else 1

/-- The mover stops when nothing of it is outstanding: R450 preemption, R451 suspension, R453. A stop that a fault meets takes effect
after RESUME or SKIP (R466). -/
def Core.mvSettle (m : Memory) (c : Core) (k : Nat) : Memory × Core :=
  let x := c.mover k
  if c.reg (Reg.MV_MODE k) ≠ 2 ∨ x.writing.isSome ∨ x.reads.any (fun r => r.data.isNone) ∨ x.pieces ≠ [] then (m, c)
  else match x.fail with
    | some (cause, rsp, side, lost) =>
      let status := if x.popSource then 5 else 3
      let m := Core.writeContext m c x.desc x.done lost status cause rsp side c.tick
      let c := (c.inc (Reg.MV_CNT_MV_SUSPEND k)).incIf x.popSource (Reg.MV_CNT_MV_PARTIAL k)
      let c := c.setReg (Reg.MV_CAUSE k) cause
      let c := c.setMover k { x with fail := none, reads := [], pieces := [], tail := [], next := x.done }
      (m, (c.setMode k 3).reportOnce Src.MV_FAULT k 0 cause 0 false)
    | none =>
      if x.stop = 0 then (m, c)
      else if x.done = x.len then c.mvEnd m k 4 0 0 0 0 x.endMode
      else if 3 ≤ x.stop then c.mvEnd m k 6 0 0 0 0 x.endMode
      else
        let m := Core.writeContext m c x.desc x.done 0 2 0 0 0 c.tick
        let c := (c.inc (Reg.MV_CNT_MV_PREEMPT k)).setMover k {}
        (m, c.setMode k x.endMode)

/-! R207: the check bits that a move between two banks carries. Where a word's check bits are those of its data they are made
again; the mover keeps only the others. -/

/-- The whole aligned words of a read of n bytes of bank storage whose check bits are not those of their data: the place of each in
the transfer, whose byte `pos` is the first one read, and its check bits. -/
def Core.oddChecks (m : Memory) (c : Core) (off n pos : Nat) : List (Nat × Nat) :=
  let a := (off + 7) / 8 * 8
  (List.range ((off + n - a) / 8)).filterMap (fun j =>
    let w := c.place (a + 8 * j) / 8
    if m.checkOf w = secdedOf (m.eccWord w).2 then none else some (pos + (a + 8 * j - off), m.checkOf w))

/-- A word moved whole to an aligned local offset keeps the check bits that it came with. -/
def Core.keepCheck (c : Core) (m : Memory) (a data chk : Nat) : Memory :=
  let a := c.swapAlias a
  let x := c.bankPlace (a / 65536)
  (x.1 :: x.2.toList).foldl (fun (m : Memory) b =>
    let w := (b * 65536 + a % 65536) / 8
    if m.word w = data then m.write (checkBase + w) (byteOf chk) else m) m

/-- The check bits carried by the words of a piece, the p-th byte of the transfer and those after it, written at a local offset. -/
def Core.keepChecks (c : Core) (m : Memory) (x : Mover) (p off : Nat) (bs : Bytes) : Memory :=
  (x.checks.filter (fun e => Nat.ble p e.1 && Nat.ble (e.1 + 8) (p + bs.length) && (off + (e.1 - p)) % 8 == 0)).foldl
    (fun (m : Memory) e => c.keepCheck m (off + (e.1 - p)) (fieldAt bs (e.1 - p) 8) e.2) m

/-- R449: one write of a piece at position p. -/
def Core.mvWrite (m : Memory) (c : Core) (k p : Nat) (bs : Bytes) : Memory × Core :=
  let x := c.mover k
  let addr := if bit x.ctrl 3 then x.dst else x.dst + p
  let node := addr / 2 ^ 48
  let off := addr % 2 ^ 48
  let posted := bit x.ctrl 1
  let dict := inObjectSpace off
  let done (c : Core) : Core := c.setMover k { c.mover k with done := (c.mover k).done + bs.length }
  if isMcast node && !posted then (m, c.mvFail k 5 0 1 addr true)
  else if dict && !slotOk off bs.length then (m, c.mvFail k 1 Fab.ADDRESS 1 addr true)
  else if node == c.homeAddr && !dict then
    let (st, m, c) := Core.localWrite m c 2 off bs (c.localItem (0x100 + k) off bs) true c.fab.clash
    if st = Fab.OK then (c.keepChecks m x p off bs, done c) else (m, c.mvFail k (if st = Fab.ECC then 3 else 1) st 1 addr true)
  else if posted then (m, done (c.fabPost (.mover k) node off bs))
  else
    let (id, c) := c.fabSend { id := 0, owner := .mover k, write := true, dict := dict, node := node, off := off,
                               count := bs.length, data := bs }
    (m, c.setMover k { c.mover k with writing := some (id, p, bs.length) })

/-- R449: one read is issued at the mover's next position. -/
def Core.mvIssue (m : Memory) (c : Core) (k : Nat) : Core :=
  let x := c.mover k
  let fixed := bit x.ctrl 2
  let n := if fixed then x.elem else x.burstEnd x.next - x.next
  let addr := if fixed then x.src else x.src + x.next
  let node := addr / 2 ^ 48
  let off := addr % 2 ^ 48
  let dict := inObjectSpace off
  let put (c : Core) (r : MvRead) : Core :=
    c.setMover k { c.mover k with reads := (c.mover k).reads ++ [r], next := x.next + n }
  if isMcast node then c.mvFail k 5 0 0 addr false
  else if dict && !slotOk off n then c.mvFail k 1 Fab.ADDRESS 0 addr false
  else if node == c.homeAddr && !dict then
    let odd := if off < objectSpace then Core.oddChecks m c off n x.next else []
    let (st, data, c) := Core.localRead m c 2 off n
    if st = Fab.OK then
      put (c.setMover k { c.mover k with checks := odd }) { id := 0, pos := x.next, len := n, data := some data }
    else c.mvFail k (if st = Fab.ECC then 3 else 1) st 0 addr false
  else
    let (id, c) := c.fabSend { id := 0, owner := .mover k, dict := dict, node := node, off := off, count := n }
    put c { id := id, pos := x.next, len := n }

/-- R449: the pieces in which data read at position p is written: to a fixed destination whole elements, the first of which begins
with what the read before left of one; what is left now waits for the next read. -/
def Mover.cut (x : Mover) (p : Nat) (data : Bytes) : Mover :=
  if bit x.ctrl 3 then
    let d := x.tail ++ data
    let n := d.length / x.elem
    { x with tail := d.drop (n * x.elem)
             pieces := (List.range n).map (fun i => (p - x.tail.length + i * x.elem, slice d (i * x.elem) x.elem)) }
  else { x with pieces := [(p, data)] }

/-- R458: a DMA bank of this node that an access of a mover reaches is being handed over. -/
def Core.mvHanding (c : Core) (addr : Nat) : Bool :=
  addr / 2 ^ 48 == c.homeAddr && Nat.blt (addr % 2 ^ 48) 0x400000
    && c.fab.handovers.any (fun h => h.bank == addr % 2 ^ 48 / 65536 && c.reg (Reg.BANK_OWNER h.bank) == 2)

/-- Fabric address and length of the mover's next read. -/
def Mover.nextRead (x : Mover) : Nat × Nat :=
  if bit x.ctrl 2 then (x.src, x.elem) else (x.src + x.next, x.burstEnd x.next - x.next)

/-- Fabric address and length of the mover's next write; length 0 where it has none. -/
def Mover.nextWrite (x : Mover) : Nat × Nat :=
  match x.pieces with
  | (p, bs) :: _ => (if bit x.ctrl 3 then x.dst else x.dst + p, bs.length)
  | [] => (0, 0)

/-- R458, R484: an access of a mover waits, for a region that a locked sequence holds or for a handover. -/
def Core.mvWaits (c : Core) (a : Nat × Nat) : Bool := a.2 != 0 && (c.semHeld none a.1 a.2 || c.mvHanding a.1)

/-- R449: rule 2 lets the mover read on. -/
def Mover.canRead (x : Mover) : Bool :=
  x.stop == 0 && Nat.blt x.next x.len
    && (if x.popSource then x.reads.isEmpty && x.pieces.isEmpty && x.writing.isNone else Nat.blt x.reads.length 4)

/-- R449 rules 2 and 3: one thing that the mover does next; none when it waits. -/
def Core.mvStep (m : Memory) (c : Core) (k : Nat) : Option (Memory × Core) :=
  let x := c.mover k
  if c.reg (Reg.MV_MODE k) ≠ 2 ∨ x.fail.isSome then none
  else
    let issue : Option (Memory × Core) := if x.canRead && !c.mvWaits x.nextRead then some (m, c.mvIssue m k) else none
    if 3 ≤ x.stop then
      (if x.pieces.isEmpty && x.reads.all (fun r => r.data.isNone) then none
       else some (m, c.setMover k { x with pieces := [], tail := [], reads := x.reads.filter (fun r => r.data.isNone) }))
    else if x.writing.isSome || c.mvWaits x.nextWrite then issue
    else match x.pieces, x.reads with
      | (p, bs) :: rest, _ => some (Core.mvWrite m (c.setMover k { x with pieces := rest }) k p bs)
      | [], r :: rest =>
        (match r.data with
        | some d => some (m, c.setMover k { x.cut r.pos d with reads := rest })
        | none => issue)
      | [], [] => issue

/-- The mover does what it can; the first argument bounds the steps. -/
def Core.mvRun (k : Nat) : Nat → Memory → Core → Memory × Core
  | 0, m, c => (m, c)
  | n + 1, m, c =>
    match Core.mvStep m c k with
    | none => (m, c)
    | some (m, c) => Core.mvRun k n m c

/-- R484: the next accesses of a mover that a held semaphore makes wait. -/
def Core.barredOf (c : Core) (k : Nat) (y : Mover) : List (Bool × Nat × Nat) :=
  if c.reg (Reg.MV_MODE k) ≠ 2 ∨ y.fail.isSome then []
  else
    ((if y.canRead then [(false, y.nextRead)] else []) ++ (if y.writing.isNone then [(true, y.nextWrite)] else [])).filter
      (fun a => a.2.2 != 0 && c.semHeld none a.2.1 a.2.2)

/-- The mover does what it can, and stops if it is to stop. Each access that a semaphore makes wait counts once (R484). -/
def Core.mvPump (m : Memory) (c : Core) (k : Nat) : Memory × Core :=
  let x := c.mover k
  let (m, c) := Core.mvRun k (4 * (x.len - x.done) + 64) m c
  let y := c.mover k
  let barred := c.barredOf k y
  let c := (c.setMover k { y with barred := barred }).incBy Reg.CNT_LOCK_RETRY
    (barred.filter (fun a => !y.barred.contains a)).length
  Core.mvSettle m c k

/-- MV_DESC_START: an IDLE mover takes the descriptor at the head of its highest queue that holds one, or resumes it
(R448 to R450). One of which a word proves uncorrectable is not used: it ends ABORTED with CAUSE 3 (R219, log entry 95). -/
def Core.mvStart (m : Memory) (c : Core) (k : Nat) : Memory × Core :=
  if !c.up || c.reg (Reg.MV_MODE k) != 1 || c.isolatedKind .mover k then (m, c)
  else match (List.range 4).find? (fun q =>
      c.queued k q != 0 && c.ringOk (c.reg (Reg.Q_BASE k q)) (c.reg (Reg.Q_SIZE k q))) with
    | none => (m, c)
    | some q =>
      let d := c.headDesc k q
      let (bad, c) := c.eccScan m d 64
      let x := c.readDesc m d q
      if bad || !Core.descValid m c d x then
        let cause := if bad then 3 else 4
        Core.mvEnd m ((c.setMover k x).setReg (Reg.MV_CAUSE k) cause) k 6 cause 0 0 0 1
      else
        let done := if c.fetchNum m (d + 40) 1 = 2 then c.fetchNum m (d + 32) 4 else 0
        let c := (c.setMover k { x with next := done, done := done }).setMode k 2
        Core.mvPump (c.store m (d + 40) [1]) c k

/-- MV_PREEMPT: a queue of a higher class holds a descriptor (R450). -/
def Core.mvPreempt (m : Memory) (c : Core) (k : Nat) : Memory × Core :=
  let x := c.mover k
  if c.reg (Reg.MV_MODE k) ≠ 2 ∨ x.stop ≠ 0 ∨ (List.range x.cls).all (fun q => c.queued k q == 0) then (m, c)
  else Core.mvPump m (c.setMover k { x with stop := 1 }) k

/-- MV_DESC_END: the descriptor whose DONE equals LENGTH ends (R454). -/
def Core.mvDescEnd (m : Memory) (c : Core) (k : Nat) : Memory × Core :=
  let x := c.mover k
  if c.reg (Reg.MV_MODE k) = 2 ∧ x.done = x.len then Core.mvEnd m c k 4 0 0 0 0 1 else (m, c)

/-- R453: a command of MV_CMD: REFUSED (0x11) in another state, RANGE (0x0B) for another value. -/
def Core.mvCommand (m : Memory) (c : Core) (k v : Nat) : Nat × Memory × Core :=
  let mode := c.reg (Reg.MV_MODE k)
  let x := c.mover k
  let ok (r : Memory × Core) : Nat × Memory × Core := (0, r.1, r.2)
  match v with
  | 1 => if mode = 0 ∧ c.isolatedKind .mover k = false then (0, m, c.setMode k 1) else (0x11, m, c)
  | 2 =>
    if mode = 1 then (0, m, c.setMode k 0)
    else if mode = 2 then ok (Core.mvPump m (c.setMover k { x with stop := if 3 ≤ x.stop then 4 else 2 }) k)
    else (0x11, m, c)
  | 3 =>
    if mode = 3 ∧ c.fetchNum m (x.desc + 40) 1 = 3 then
      ok (Core.mvPump (c.store m (x.desc + 40) [1]) ((c.setMover k { x with next := x.done }).setMode k 2) k)
    else (0x11, m, c)
  | 4 =>
    if mode = 3 then
      let st := if c.fetchNum m (x.desc + 40) 1 = 5 then 5 else 6
      ok (Core.mvEnd m c k st (c.fetchNum m (x.desc + 41) 1) (c.fetchNum m (x.desc + 36) 4) (c.fetchNum m (x.desc + 42) 1)
        (c.fetchNum m (x.desc + 43) 1) x.endMode)
    else (0x11, m, c)
  | 5 => if mode = 2 then ok (Core.mvPump m (c.setMover k { x with stop := if x.stop = 2 ∨ x.stop = 4 then 4 else 3 }) k) else (0x11, m, c)
  | _ => (0x0B, m, c)

/-! Answers (R433). -/

/-- An access of mover k has ended, well (status OK) or by a cause of R447. -/
def Core.mvAnswer (m : Memory) (c : Core) (k : Nat) (a : FabAccess) (cause st : Nat) (data : Bytes) : Memory × Core :=
  let x := c.mover k
  let addr := a.node * 2 ^ 48 + a.off
  if a.write then
    match x.writing with
    | some (id, _, n) =>
      if id ≠ a.id then (m, c)
      else
        let c := c.setMover k { x with writing := none, done := if st = Fab.OK then x.done + n else x.done }
        Core.mvPump m (if st = Fab.OK then c else c.mvFail k cause st 1 addr true) k
    | none => (m, c)
  else if st = Fab.OK then
    let reads := if x.fail.isSome then x.reads.filter (fun r => r.id != a.id)
      else x.reads.map (fun r => if r.id = a.id ∧ r.data.isNone then { r with data := some data } else r)
    Core.mvPump m (c.setMover k { x with reads := reads }) k
  else
    let c := c.setMover k { x with reads := x.reads.filter (fun r => !(r.id == a.id && r.data.isNone)) }
    Core.mvPump m (c.mvFail k cause st 0 addr (cause == 2 || cause == 6)) k

/-- An outstanding access ends: the tag is freed and the master has its answer. An OPEN ends so only in TIMEOUT, which FO_STATUS gives
as the code of that name in R61 (log entry 33). -/
def Core.fabComplete (m : Memory) (c : Core) (a : FabAccess) (cause st : Nat) (data : Bytes) (bad : Bool := false)
    (f : Frame := {}) : Memory × Core :=
  let c := c.fabEnd a.id
  match a.owner with
  | .window w host => (m, c.winDone a w host cause st data bad f)
  | .mover k => Core.mvAnswer m c k a cause st data
  | .opener => (m, c.foDone 0x0E 0)

/-- The outstanding access of a tag in C7. -/
def Core.accessOf (c : Core) (tag : Nat) : Option FabAccess := c.fab.accesses.find? (fun a => a.tag == some tag)

/-- R433, R466: an answer that comes when the time of its access is over is late, and the access ends in TIMEOUT. -/
def Core.answeredLate (m : Memory) (c : Core) (a : FabAccess) : Memory × Core :=
  Core.fabComplete m ((c.inc Reg.CNT_LATE_RSP).inc Reg.CNT_FAB_TIMEOUT) a 2 Fab.TIMEOUT []

/-- The access is the host port's: the port's own egress checker verifies its read data (R211). -/
def FabAccess.ofHost (a : FabAccess) : Bool :=
  match a.owner with
  | .window _ host => host
  | _ => false

/-- An answer in C7 at SP_13. -/
def Core.fabReply (m : Memory) (c : Core) (f : Frame) (op : Nat) : Memory × Core :=
  if !c.up || Nat.blt f.payload.length 16 || fabOp f != op then (m, c)
  else
    let c := c.undeliver 13 f
    match c.accessOf (fieldAt f.payload 2 2) with
    | none => (m, c.inc Reg.CNT_LATE_RSP)
    | some a =>
      if a.dict || a.owner == .opener || (op == Op.READ_DATA && a.write) || (op == Op.WRITE_DONE && !a.write) then
        (m, c.inc Reg.CNT_LATE_RSP)
      else if a.deadline ≤ c.now then Core.answeredLate m c a
      else if f.check != f.transitCrc && !(op == Op.READ_DATA && a.ofHost) then
        Core.fabComplete m c a 6 Fab.CHECK []
      else if op = Op.ERROR then Core.fabComplete m c a 1 (fieldAt f.payload 1 1) []
      else Core.fabComplete m c a 0 Fab.OK (padTo (if a.write then 0 else a.count) (f.payload.drop 16))
        (f.check != f.transitCrc) f

/-- FAB_TIMEOUT_EXPIRY: the outstanding access whose FAB_TIMEOUT ends first ends with TIMEOUT. -/
def Core.fabTimeout (m : Memory) (c : Core) : Memory × Core :=
  let out := c.fab.accesses.filter (fun a => a.tag.isSome)
  match sortBy (fun (a b : FabAccess) => Nat.blt a.deadline b.deadline) out with
  | [] => (m, c)
  | a :: _ => Core.fabComplete m ((c.advanceTo a.deadline).inc Reg.CNT_FAB_TIMEOUT) a 2 Fab.TIMEOUT []

/-- The status and the bytes that a DICT_RSP gives an access into object space (R435). -/
def slotAnswer (a : FabAccess) (p : Bytes) : Nat × Bytes :=
  (dictToFab (fieldAt p 7 1), if a.write then [] else padTo a.count (p.drop 16))

/-- R150, R208: the check of a DICT_RSP at the port of the master that issued the request. -/
def Core.rspCheck (c : Core) (port : Nat) (f : Frame) : Bool × Core :=
  if port = 14 then c.mgmtCheck f else (f.check == f.transitCrc, c)

/-- A DICT_RSP reaches the port of the master that issued the request (R145): it ends the access, or the OPEN of R445, whose
TRANSACTION it carries. One that fails its check at SP_14 is discarded; at a mover and at the host port it ends the access as a failing answer in
C7 does. -/
def Core.dictRsp (m : Memory) (c : Core) (f : Frame) (opener : Bool) : Memory × Core :=
  if !c.up || f.kind != 5 || Nat.blt f.payload.length 16 then (m, c)
  else
    let p := f.payload
    let a? := c.accessOfTxn (fieldAt p 0 2)
    let isOpen : Bool := match a? with
      | some a => a.owner == .opener
      | none => false
    if isOpen != opener then (m, c)
    else
      let port := match a? with
        | some a => a.owner.port
        | none => 14
      let (ok, c) := (c.undeliver port f).rspCheck port f
      if !ok && port == 14 then (m, c)
      else match a? with
        | none => (m, c.inc Reg.CNT_LATE_RSP)
        | some a =>
          if a.deadline ≤ c.now then Core.answeredLate m c a
          else if opener then (m, (c.fabEnd a.id).foDone (fieldAt p 7 1) (fieldAt p 3 1))
          else if !ok && (a.write || !a.ofHost) then Core.fabComplete m c a 6 Fab.CHECK []
          else
            let (st, data) := slotAnswer a p
            Core.fabComplete m c a (if st = Fab.OK then 0 else 1) st (if st = Fab.OK then data else []) (!ok) f

/-! Settings of the movers (R446). -/

/-- Q_BASE and Q_SIZE: written only while DISABLED, REFUSED (0x11) else; RANGE (0x0B) when a base written does not stand, or the ring
does not fit in its bank (log entry 35). -/
def Core.queueSetting (c : Core) (k base size : Nat) (isBase : Bool) : Nat :=
  if (isBase && !c.ringOk base size) || Nat.blt 65536 (base % 65536 + 64 * size) then 0x0B
  else if c.reg (Reg.MV_MODE k) ≠ 0 then 0x11 else 0

end Sys2Proof.Machine
end

