-- ==== Sys2Proof/Machine/HostPort.lean ====
section
/-! DEFINITION. The local host port (chapter 14): host cycles and their ranges, host errors, retried accesses, locked sequences,
host transfer descriptors, and the interrupt and side-band wires. -/

namespace Sys2Proof.Machine

/-- R472, R582: the port is enabled, in force and not isolated. -/
def Core.hostOn (c : Core) : Bool :=
  c.up && c.cfg Reg.LHP_ENABLE == 1 && !(c.fc.isos ++ c.fc.leaving).any (fun e => isoKind e.1 e.2.2 == .host)

/-- R472, R495: LHP_STATE follows. -/
def Core.hostState (c : Core) : Core :=
  c.setReg Reg.LHP_STATE (if !c.hostOn then 0 else if !c.lhp.clock then 1 else if c.lhp.cycle.isSome then 3 else if c.lhp.master then 4 else 2)

/-- R487, R488: LHP_BREQ_N is low. -/
def Core.breq (c : Core) : Bool :=
  c.hostOn && c.lhp.clock && c.lhp.lock.isNone && !c.lhp.raised && c.reg Reg.XQ_HEAD != c.reg Reg.XQ_TAIL

/-- LHP_BREQ_N and LHP_STATE follow what has changed. -/
def Core.hostRefresh (c : Core) : Core :=
  ({ c with lhp := { c.lhp with
    breqSince := if c.breq then some (c.lhp.breqSince.getD c.now) else none, master := c.lhp.master && c.breq } }).hostState

/-- Frees every semaphore; what they held back is reissued by `Core.reissueHeld`. -/
def Core.freeSems (c : Core) : Core :=
  (List.range 32).foldl (fun (c : Core) k => c.setReg (Reg.LHP_SEM k) 0) (c.setReg Reg.LHP_SEM_HELD 0)

/-- The host port's part of a setting's or a mode's change: a port that goes out of service drops its cycle, its lock and
what it keeps (R472). -/
def Core.lhpRefresh (c : Core) : Core :=
  if c.hostOn then c.hostRefresh
  else
    ({ c with lhp := { c.lhp with
      cycle := none, kept := [], orphans := [], lock := none, xfer := none } }).freeSems.hostRefresh

/-! The host window banks (R477). -/

/-- The banks owned by the host window, rising. -/
def Core.hostBanks (c : Core) : List Nat := (List.range 64).filter (fun b => c.reg (Reg.BANK_OWNER b) == 5)

/-- The local offset of an offset in the host window banks. -/
def Core.hostOff (c : Core) (o : Nat) : Option Nat := (c.hostBanks[o / 65536]?).map (fun b => b * 65536 + o % 65536)

/-- R482: the bank at a local offset is being handed over. -/
def Core.handing (c : Core) (off : Nat) : Bool := c.fab.handovers.any (fun h => h.bank == off / 65536)

/-! Cycles. -/

/-- Replaces the host cycle under way. -/
def Core.setCycle (c : Core) (x : Option HostCycle) : Core := { c with lhp := { c.lhp with cycle := x } }

/-- R473: what a read drives on LHP_AD: a byte access leaves LHP_AD_8 to 15 at 0. -/
def HostCycle.onBus (x : HostCycle) (data : Bytes) : Bytes :=
  if !x.write && x.addr % 2 == 1 && data.length == 1 then data ++ [0] else data

/-- The cycle ends: the bus has carried these bytes. -/
def Core.cycleEnd (c : Core) (x : HostCycle) (data : Bytes) (retry : Bool) : Core :=
  ({ c with lhp := { c.lhp with
    cycle := none, last := some { addr := x.addr, write := x.write, data := x.onBus data, retry := retry } } }).hostState

/-- The cycle completes (R475, R495). -/
def Core.cycleDone (c : Core) (x : HostCycle) : Core :=
  (c.inc (if x.write then Reg.CNT_HOST_WR else Reg.CNT_HOST_RD)).cycleEnd x x.data x.beyond

/-- R481: a host error; read phases return 0xFFFF from there on. -/
def Core.hostError (c : Core) (x : HostCycle) (st : Nat) : Core :=
  let c := ((c.setReg Reg.LHP_ERR_PENDING 1).setReg Reg.HE_ADDR x.addr).setReg Reg.HE_DIR (b2n x.write)
  let c := ((c.setReg Reg.HE_STATUS st).setReg Reg.HE_TICK c.tick).inc Reg.CNT_HOST_ERR
  let c := c.reportOnce Src.LHP_ERROR noInst 0 0 0 false
  let n := if x.addr % 2 = 1 then 2 else x.count
  c.cycleDone (if x.write then x else { x with data := x.data ++ List.replicate (n - x.data.length) 0xFF })

/-- R211, R213: the egress checker of the host port verifies read data; true when it may be driven. -/
def Core.hostEgress (c : Core) (bad : Bool) (f : Frame) : Bool × Core :=
  let (v, c) := c.checkBits 0x08 0 32 (b2n bad) 0
  if v.ok then (true, c) else (false, c.egressFail 0x08 0 Reg.CNT_EGRESS_HOST f v.injected)

/-- R479: the address and size of the fetch in which the next byte of a read falls. -/
def HostCycle.fetchAt (x : HostCycle) : Nat × Nat :=
  let a := x.addr + x.data.length
  (a / x.fetch * x.fetch, x.fetch)

/-- R479: the bytes of a fetch that the cycle reaches are served from it. -/
def HostCycle.take (x : HostCycle) (data : Bytes) : HostCycle :=
  let a := x.addr + x.data.length
  let skip := a - x.fetchAt.1
  { x with data := x.data ++ (data.drop skip).take (x.count - x.data.length), wait := .ready, effect := x.effect || x.asks,
           asks := false }

/-- An access of the host port whose answer comes over the ring (R490). -/
def Core.ringAccess (c : Core) (id : Nat) : Bool :=
  c.fab.accesses.any (fun a => a.id == id && a.node != c.homeAddr)

/-- A read of the host port has its data, or fails. -/
def Core.hostData (c : Core) (x : HostCycle) (st : Nat) (data : Bytes) (bad : Bool) (f : Frame) : Core :=
  if st ≠ Fab.OK then c.hostError x st
  else
    let (good, c) := c.hostEgress bad f
    if !good then c.cycleEnd x x.data true
    else
      let x := x.take data
      if x.count ≤ x.data.length then c.cycleDone x else c.setCycle (some x)

/-- R477, R478, R482: a cycle reaches the host window banks through port 0. -/
def Core.hostBank (m : Memory) (c : Core) (x : HostCycle) : Memory × Core :=
  match x.wait, c.hostOff (x.addr - x.base) with
  | .ready, some off =>
    if c.handing off then (m, (c.setCycle (some { x with wait := .bank (off / 65536), since := c.now })).hostState)
    else if x.write then
      let f : Frame := ({ kind := 0, cls := 7, dst := c.homeAddr, src := c.homeAddr, okey := c.originKey, tick := c.tick,
                          payload := x.data } : Frame).seal
      let (good, c) := fabCheck f c
      if good then (c.store m off x.data, c.cycleDone x) else (m, c.hostError x Fab.CHECK)
    else
      let (bad, c) := c.eccScan m off x.count
      if bad then (m, c.hostError x Fab.ECC)
      else (m, c.hostData { x with fetch := 1 } Fab.OK (c.fetch m off x.count) false { src := c.homeAddr })
  | .ready, none => (m, c.hostError x Fab.ADDRESS)
  | .bank b, _ =>
    if c.handing (b * 65536) then (m, c)
    else if c.reg (Reg.BANK_OWNER b) ≠ 5 then (m, c.hostError x Fab.ACCESS)
    else (m, c.setCycle (some { x with wait := .ready }))
  | .access _ _, _ | .room, _ => (m, c)

/-- R476: the bursts of posted writes of the host port that have not yet left the write buffer for the switch. -/
def Core.burstsWaiting (c : Core) : Nat :=
  (c.sw.seeking.filter (fun e => e.inp == 15
    && (fabOp e.frame == Op.WRITE_POSTED && e.frame.kind == 0 || e.frame.kind == 4 && bit (fieldAt e.frame.payload 7 1) 0))).length

/-- R476: a posted write finds room in the write buffer, which holds two bursts. -/
def Core.burstRoom (c : Core) (x : HostCycle) : Bool := x.kind == 2 || !x.write || !x.posted || Nat.blt c.burstsWaiting 2

/-- One thing that the cycle under way does next. -/
def Core.cycleStep (m : Memory) (c : Core) (x : HostCycle) : Memory × Core :=
  if x.kind = 2 then Core.hostBank m c x
  else if !c.burstRoom x then (m, (c.setCycle (some { x with wait := .room, since := c.now })).hostState)
  else if x.write then
    match Core.windowAccess m c true x.addr true 0 x.data (some x.posted) x.locked with
    | (.done st _, m, c) => (m, if st = Fab.OK then c.cycleDone x else c.hostError x st)
    | (.pend id, m, c) =>
      (m, (c.setCycle (some { x with wait := .access id (c.ringAccess id), since := c.now })).hostState)
  else
    let (a, n) := x.fetchAt
    let eff : Bool := match c.winAddr a with
      | some (addr, _) => readEffect (addr % 2 ^ 48) n
      | none => false
    let x := { x with asks := eff }
    match Core.windowAccess m c true a false n [] none x.locked with
    | (.done st data, m, c) => (m, c.hostData x st data false { src := c.homeAddr })
    | (.pend id, m, c) =>
      (m, (c.setCycle (some { x with wait := .access id (c.ringAccess id), since := c.now })).hostState)

/-- The cycle under way does what it can; the first argument bounds the steps. -/
def Core.cycleRun : Nat → Memory → Core → Memory × Core
  | 0, m, c => (m, c)
  | n + 1, m, c =>
    match c.lhp.cycle with
    | none => (m, c)
    | some x =>
      match x.wait with
      | .ready =>
        let (m, c) := Core.cycleStep m c x
        Core.cycleRun n m c
      | .bank b =>
        if c.handing (b * 65536) then (m, c)
        else
          let (m, c) := Core.hostBank m c x
          Core.cycleRun n m c
      | .room =>
        if !c.burstRoom x then (m, c)
        else
          let (m, c) := Core.cycleStep m c { x with wait := .ready }
          Core.cycleRun n m c
      | .access _ _ => (m, c)

/-- R491: an answer reaches an access that the port keeps. -/
def Core.keptAnswer (c : Core) (k : Kept) (d : HostDone) : Core :=
  let put (c : Core) (x : Option HostCycle) : Core :=
    { c with lhp := { c.lhp with kept := c.lhp.kept.filterMap (fun (j : Kept) =>
      if j = k then x.map (fun y => { j with cycle := y }) else some j) } }
  let x := k.cycle
  if d.st ≠ Fab.OK then put c (some { x with wait := .ready, failed := some d.st })
  else if x.write then put c (some { x with wait := .ready, done := true })
  else
    let (good, c) := c.hostEgress d.bad d.item
    put c (if good then some (x.take d.data) else none)

/-- The cycle or the access waits for this answer. -/
def HostCycle.waitsFor (x : HostCycle) (id : Nat) : Bool :=
  match x.wait with
  | .access i _ => i == id
  | _ => false

/-- An answer that no cycle under way waits for. -/
def Core.hostStray (c : Core) (d : HostDone) : Core :=
  match c.lhp.kept.find? (fun (k : Kept) => k.cycle.waitsFor d.id) with
  | some k => c.keptAnswer k d
  | none =>
    if c.lhp.orphans.contains d.id then
      ({ c with lhp := { c.lhp with orphans := c.lhp.orphans.filter (fun i => i != d.id) } }).inc Reg.CNT_REISSUE_LOST
    else c

/-- One answer for the host port. -/
def Core.hostAnswer (m : Memory) (c : Core) (d : HostDone) : Memory × Core :=
  match c.lhp.cycle with
  | some x =>
    if x.waitsFor d.id then
      let c := if x.write then
          (if d.st = Fab.OK then c.cycleDone x else c.hostError x d.st)
        else c.hostData x d.st d.data d.bad d.item
      Core.cycleRun 300 m c
    else (m, c.hostStray d)
  | none => (m, c.hostStray d)

/-- The port takes the answers that have come, and goes on with its cycle. -/
def Core.hostPump (m : Memory) (c : Core) : Memory × Core :=
  let ds := c.fab.hostDone
  let c := { c with fab := { c.fab with hostDone := [] } }
  let (m, c) := ds.foldl (fun (s : Memory × Core) (d : HostDone) => Core.hostAnswer s.1 s.2 d) (m, c)
  let (m, c) := Core.cycleRun 300 m c
  (m, c.hostRefresh)

/-- READ_DATA, WRITE_DONE, FABRIC_ERROR_RX: an answer in C7; the host port goes on with what it brings. -/
def Core.fabAnswerRx (m : Memory) (c : Core) (f : Frame) (op : Nat) : Memory × Core :=
  let (m, c) := Core.fabReply m c f op
  Core.hostPump m c

/-- FAB_TIMEOUT_EXPIRY. -/
def Core.fabExpiry (m : Memory) (c : Core) : Memory × Core :=
  let (m, c) := Core.fabTimeout m c
  Core.hostPump m c

/-- DICT_RSP_RX. -/
def Core.dictAnswerRx (m : Memory) (c : Core) (f : Frame) : Memory × Core :=
  let (m, c) := Core.dictRsp m c f false
  Core.hostPump m c

/-! Locked sequences (R483 to R485). -/

/-- R484: the accesses held back proceed in their order, and the movers go on. -/
def Core.reissueHeld (m : Memory) (c : Core) : Memory × Core :=
  let rs := c.fab.retried
  let c := { c with fab := { c.fab with retried := [] } }
  let (m, c) := rs.foldl (fun (s : Memory × Core) (r : Retried) => match r with
    | .heather a write n bs => Core.heatherAccess s.1 s.2 a write n bs
    | .request f clash => Core.fabServe s.1 s.2 f clash) (m, c)
  (List.range 16).foldl (fun (s : Memory × Core) k =>
    if (s.2.mover k).barred.isEmpty then s else Core.mvPump s.1 s.2 k) (m, c)

/-- R484: what waits for a semaphore goes on where none is held any more. -/
def Core.reissueFree (m : Memory) (c : Core) : Memory × Core :=
  if c.reg Reg.LHP_SEM_HELD = 0 then Core.reissueHeld m c else (m, c)

/-- R485: the sequence is broken: its semaphores are free at once, and its cycle under way ends as a host error. -/
def Core.breakLock (m : Memory) (c : Core) : Memory × Core :=
  match c.lhp.lock with
  | none => (m, c)
  | some l =>
    if l.broken then (m, c)
    else
      let c := ({ c with lhp := { c.lhp with lock := some { l with broken := true } } }).freeSems
      let c := (c.inc Reg.CNT_LOCK_BROKEN).report Src.LHP_LOCK_BROKEN noInst 0
      let c := match c.lhp.cycle with
        | some x => if x.locked then c.hostError x Fab.REFUSED else c
        | none => c
      Core.reissueHeld m c

/-- R483: the region of a cycle takes a semaphore; none when a 33rd would be needed. -/
def Core.takeSem (c : Core) (addr dom : Nat) : Option Core :=
  let v := addr / 4096 * 4096 + dom
  let held := c.reg Reg.LHP_SEM_HELD
  if (bitList 32 held).any (fun k => c.reg (Reg.LHP_SEM k) == v) then some c
  else ((List.range 32).find? (fun k => !bit held k)).map (fun k =>
    (c.setReg (Reg.LHP_SEM k) v).setReg Reg.LHP_SEM_HELD (setBit held k true))

/-- The fabric address and lock domain of a locked cycle; none where the access will be refused. -/
def Core.lockRegion (c : Core) (x : HostCycle) : Option (Nat × Nat) :=
  if x.kind = 2 then (c.hostOff (x.addr - x.base)).map (fun off => (c.homeAddr * 2 ^ 48 + off, 0))
  else match c.winAddr x.addr with
    | some (addr, dom) => if dom = 0 then none else some (addr, dom)
    | none => none

/-! The commands. -/

/-- R477: the range that serves an address. -/
def Core.hostRange (c : Core) (a : Nat) : Option Nat :=
  (List.range 16).find? (fun r =>
    bits (c.reg (Reg.HR_CTRL r)) 1 0 != 0 && Nat.ble (c.reg (Reg.HR_BASE r)) a
      && Nat.blt a (c.reg (Reg.HR_BASE r) + 2 ^ c.reg (Reg.HR_SIZE_EXP r)))

/-- R475: the bytes of a cycle of n asked at address a, and whether LHP_RETRY_N ends it. -/
def cycleSpan (a n : Nat) : Nat × Bool :=
  if a % 2 = 1 then (min n 1, Nat.blt 1 n)
  else
    let lim := min 256 (256 - a % 256)
    (min n lim, Nat.blt lim n)

/-- The cycle that the ranges make of one that begins. -/
def Core.ranged (c : Core) (x : HostCycle) : Option HostCycle :=
  (c.hostRange x.addr).map (fun r =>
    let ctrl := c.reg (Reg.HR_CTRL r)
    { x with kind := bits ctrl 1 0, base := c.reg (Reg.HR_BASE r), posted := bit ctrl 2 && !x.locked
             fetch := 2 ^ (bits ctrl 5 3 + 1) })

/-- R491: the kept access as the cycle x that joins it goes on with it. -/
def Kept.joinedBy (k : Kept) (x : HostCycle) : HostCycle :=
  { k.cycle with data := if x.write then x.data else k.cycle.data, beyond := x.beyond, locked := x.locked, since := x.since }

/-- R491: the kept access that a cycle joins; a locked one that R440 will refuse joins none. -/
def Core.keptFor (c : Core) (x : HostCycle) : Option Kept :=
  (c.lhp.kept.find? (fun (k : Kept) => k.cycle.addr == x.addr && k.cycle.write == x.write && k.cycle.count == x.count)).filter
    (fun k => !x.locked || (c.lockRegion (k.joinedBy x)).isSome)

/-- R491: a cycle that joins an access the port keeps. -/
def Core.joinKept (m : Memory) (c : Core) (k : Kept) (y : HostCycle) : Memory × Core :=
  let c := ({ c with lhp := { c.lhp with kept := removeFirst k c.lhp.kept } }).inc Reg.CNT_REISSUE_JOIN
  match y.failed with
  | some st => (m, c.hostError y st)
  | none =>
    if y.done || (!y.write && Nat.ble y.count y.data.length) then (m, c.cycleDone y)
    else Core.cycleRun 300 m ((c.setCycle (some y)).hostState)

/-- A cycle goes on: with a kept access that it joins, or by itself. -/
def Core.cycleGo (m : Memory) (c : Core) (k : Option Kept) (y : HostCycle) : Memory × Core :=
  match k with
  | some k => Core.joinKept m c k y
  | none => Core.cycleRun 300 m (c.setCycle (some y))

/-- An edge of LHP_BCLK on which the bus goes on: LHP_BREQ_N, raised for a withdrawn grant, is low again while R487 asks it. -/
def Core.busEdge (c : Core) : Core := ({ c with lhp := { c.lhp with raised := false } }).hostRefresh

/-- A host cycle begins: the range serves it, or it joins a kept access, or it ends as a host error. A locked one first takes its
semaphore (R483). -/
def Core.hostCycle (m : Memory) (c : Core) (a n : Nat) (write : Bool) (data : Bytes) : Memory × Core :=
  if !c.hostOn || !c.lhp.clock || c.lhp.cycle.isSome || n == 0 then (m, c)
  else
    let (n, beyond) := cycleSpan a n
    let c := { c with lhp := { c.lhp with master := false, raised := false } }
    let x : HostCycle := { addr := a, write := write, count := n, beyond := beyond, locked := c.lhp.lock.isSome,
                           data := data.take n, since := c.now }
    if (c.lhp.lock.map (fun l => l.broken)).getD false then (m, c.hostError x Fab.REFUSED)
    else
      let k := c.keptFor x
      match (k.map (fun k => k.joinedBy x)).orElse (fun _ => c.ranged x) with
      | none => (m, (c.inc Reg.CNT_HOST_MISS).hostError x Fab.ADDRESS)
      | some y =>
        if y.locked then
          match c.lockRegion y with
          | none => Core.cycleGo m c k y
          | some (addr, dom) =>
            match c.takeSem addr dom with
            | some c => Core.cycleGo m c k y
            | none => Core.breakLock m (c.setCycle (some y))
        else Core.cycleGo m c k y

/-- HOST_READ_CYCLE: n bytes are read from address a; an odd address is a byte access (R473). -/
def Core.hostRead (m : Memory) (c : Core) (a n : Nat) : Memory × Core :=
  let (m, c) := Core.hostCycle m c a n false []
  (m, c.hostRefresh)

/-- HOST_WRITE_CYCLE: the bytes are written at address a; an odd address is a byte access (R473). -/
def Core.hostWrite (m : Memory) (c : Core) (a : Nat) (bs : Bytes) : Memory × Core :=
  let (m, c) := Core.hostCycle m c a bs.length true bs
  (m, c.hostRefresh)

/-- LHP_NO_CLOCK: no LHP_BCLK edge for 1 µs (R472). -/
def Core.noClock (c : Core) : Core := ({ c with lhp := { c.lhp with clock := false } }).hostRefresh

/-- LHP_BCLK_RETURN: an edge of LHP_BCLK, which runs at so many kHz. -/
def Core.clockBack (c : Core) (khz : Nat) : Core :=
  (({ c with lhp := { c.lhp with clock := true } }).setReg Reg.LHP_BCLK_KHZ khz).hostRefresh

/-- HOST_RETRY_DEADLOCK: a cycle that waits for an answer over the ring and LHP_BREQ_N have held together for 2 µs (R490,
R491). -/
def Core.hostRetry (c : Core) : Core :=
  match c.lhp.cycle, c.lhp.breqSince with
  | some x, some t =>
    match x.wait with
    | .access id true =>
      let c := (c.advanceTo (max t x.since + 2000)).inc Reg.CNT_RETRY
      let k : Kept := { cycle := x, ends := c.now + 1000 * c.reg Reg.LHP_REISSUE }
      let c := if c.lhp.kept.length < 4 then { c with lhp := { c.lhp with kept := c.lhp.kept ++ [k] } }
        else { c with lhp := { c.lhp with orphans := id :: c.lhp.orphans } }
      (c.cycleEnd x (if x.write then [] else x.data ++ [0xFF, 0xFF]) true).hostRefresh
    | _ => c
  | _, _ => c

/-- REISSUE_EXPIRY: the kept access whose LHP_REISSUE ends first is discarded (R491). -/
def Core.reissueExpiry (c : Core) : Core :=
  match sortBy (fun (a b : Kept) => Nat.blt a.ends b.ends) c.lhp.kept with
  | [] => c
  | k :: _ =>
    let c := c.advanceTo k.ends
    let c := ({ c with lhp := { c.lhp with kept := removeFirst k c.lhp.kept } }).inc Reg.CNT_REISSUE_LOST
    if k.cycle.effect && !k.cycle.write then c.report Src.LHP_DATA_LOST noInst 0 else c

/-- LOCK_SEQUENCE_BEGIN: an address edge samples LHP_LOCK_N low (R483). -/
def Core.lockBegin (c : Core) : Core :=
  if !c.hostOn || !c.lhp.clock || c.lhp.lock.isSome || c.lhp.cycle.isSome then c
  else
    (({ c with lhp := { c.lhp with lock := some { ends := c.now + 1000 * c.reg Reg.LHP_LOCK_MAX } } }).inc
      Reg.CNT_LOCK).hostRefresh

/-- LOCK_SEQUENCE_END: an edge samples LHP_LOCK_N high (R483, R484). -/
def Core.lockEnd (m : Memory) (c : Core) : Memory × Core :=
  if c.lhp.lock.isNone || c.lhp.cycle.isSome then (m, c)
  else
    let (m, c) := Core.reissueHeld m (({ c with lhp := { c.lhp with lock := none } }).freeSems)
    (m, c.hostRefresh)

/-- LOCK_BROKEN: the sequence reaches LHP_LOCK_MAX from its start (R485). -/
def Core.lockExpiry (m : Memory) (c : Core) : Memory × Core :=
  match c.lhp.lock with
  | some l =>
    if l.broken then (m, c)
    else
      let (m, c) := Core.breakLock m (c.advanceTo l.ends)
      (m, c.hostRefresh)
  | none => (m, c)

/-! The device as bus master (R486 to R489). -/

/-- R486: the ring of host transfer descriptors stands in a bank owned by the host window. -/
def Core.xqOk (c : Core) (base size : Nat) : Bool :=
  base % 16 == 0 && Nat.blt base 0x400000 && Nat.ble (base % 65536 + 16 * size) 65536 && Nat.ble 1 size
    && c.reg (Reg.BANK_OWNER (base / 65536)) == 5

/-- R489: the descriptor at the head ends with a STATUS. -/
def Core.xqEnd (m : Memory) (c : Core) (d ctrl status : Nat) : Memory × Core :=
  let c := { c with lhp := { c.lhp with xfer := none } }
  let c := c.setReg Reg.XQ_HEAD ((c.reg Reg.XQ_HEAD + 1) % c.cfg Reg.XQ_SIZE)
  let c := (c.inc Reg.CNT_XFER).incIf (status == 3) Reg.CNT_XFER_ERR
  let c := if bit ctrl 1 then c.setReg Reg.XQ_NOTIFY 1 else c
  let c := if status = 3 ∨ status = 4 then c.setReg Reg.XQ_ERR 1 else c
  (c.store m (d + 11) [byteOf status], c.hostRefresh)

/-- R486: the fields of a descriptor stand. -/
def Core.xqValid (m : Memory) (c : Core) (d : Nat) : Bool :=
  let len := c.fetchNum m (d + 8) 2
  let loc := c.fetchNum m (d + 4) 4
  c.fetchNum m d 4 % 2 == 0 && loc % 2 == 0 && len % 2 == 0 && Nat.ble 2 len && Nat.ble len 4096
    && Nat.blt (c.fetchNum m (d + 10) 1) 4 && c.fetchNum m (d + 12) 4 == 0 && Nat.ble (loc + len) (c.hostBanks.length * 65536)

/-- The port takes descriptors until one stands; an invalid one ends INVALID at once (R486), one of which a word proves
uncorrectable ERROR (R219, log entry 95). -/
def Core.xqTake : Nat → Memory → Core → Memory × Core
  | 0, m, c => (m, c)
  | n + 1, m, c =>
    if !c.hostOn || c.lhp.xfer.isSome || c.reg Reg.XQ_HEAD == c.reg Reg.XQ_TAIL
        || !c.xqOk (c.cfg Reg.XQ_BASE) (c.cfg Reg.XQ_SIZE) then (m, c)
    else
      let d := c.cfg Reg.XQ_BASE + 16 * c.reg Reg.XQ_HEAD
      let (bad, c) := c.eccScan m d 16
      let ctrl := c.fetchNum m (d + 10) 1
      if bad then
        let (m, c) := Core.xqEnd m c d 0 3
        Core.xqTake n m c
      else if c.xqValid m d then
        let x : Xfer := { desc := d, host := c.fetchNum m d 4, loc := c.fetchNum m (d + 4) 4, len := c.fetchNum m (d + 8) 2
                          ctrl := ctrl }
        (c.store m (d + 11) [1], { c with lhp := { c.lhp with xfer := some x } })
      else
        let (m, c) := Core.xqEnd m c d ctrl 4
        Core.xqTake n m c

/-- R211: the data of a device cycle to the host: read, and verified before it is driven; none when a word proves uncorrectable or
the check fails. -/
def Core.xqData (m : Memory) (c : Core) (off n : Nat) : Option Bytes × Core :=
  let (bad, c) := c.eccScan m off n
  if bad then (none, c)
  else
    let (good, c) := c.hostEgress false { src := c.homeAddr }
    (if good then some (c.fetch m off n) else none, c)

/-- One device cycle of the descriptor under way: up to 128 phases within a 256-byte block; `done` phases complete before
LHP_RETRY_N, none when it does not come; `bus` is what the host's memory drives (R487 to R489). Data for the host that cannot be
driven end the descriptor ERROR (log entry 95). -/
def Core.xqCycle (m : Memory) (c : Core) (done : Option Nat) (bus : Bytes) : Memory × Core :=
  match c.lhp.xfer with
  | none => (m, c)
  | some x =>
    match c.hostOff (x.loc + x.pos) with
    | none => Core.xqEnd m c x.desc x.ctrl 3
    | some off =>
      if c.handing off then (m, c)
      else
        let a := x.host + x.pos
        let full := min (min (x.len - x.pos) 256) (min (256 - a % 256) (65536 - off % 65536))
        let done := done.bind (fun k => if full ≤ 2 * k then none else some k)
        let n := match done with
          | some k => 2 * k
          | none => full
        let toHost := !bit x.ctrl 0
        let (data, c) := if toHost then Core.xqData m c off full else (some [], c)
        match data with
        | none => Core.xqEnd m c x.desc x.ctrl 3
        | some data =>
          let c := { c with lhp := { c.lhp with driven := if toHost then some (a, data.take n) else c.lhp.driven } }
          let m := if toHost then m else c.store m off (padTo n bus)
          let x := { x with pos := x.pos + n }
          if x.len ≤ x.pos then Core.xqEnd m c x.desc x.ctrl 2
          else match done with
            | none => (m, { c with lhp := { c.lhp with xfer := some { x with tries := 0, again := none } } })
            | some _ =>
              if x.tries = 8 then Core.xqEnd m c x.desc x.ctrl 3
              else (m, { c with lhp := { c.lhp with xfer := some { x with again := some (c.now + 1000) } } })

/-- The port drives a cycle, and takes the next descriptor where one ends. It keeps the bus for its next cycle unless it waits to
reissue this one; with LHP_BGNT_N sampled high it raises LHP_BREQ_N with the last phase and leaves the bus (R488). -/
def Core.deviceDrive (m : Memory) (c : Core) (done : Option Nat) (bus : BusCycle) : Memory × Core :=
  let (m, c) := Core.xqCycle m c done bus.bytes
  let (m, c) := Core.xqTake 4096 m c
  let waits := ((c.lhp.xfer.map (fun (x : Xfer) => x.again)).getD none).isSome
  (m, ({ c with lhp := { c.lhp with master := !bus.withdrawn && !waits, raised := bus.withdrawn } }).hostRefresh)

/-- DEVICE_MASTER_CYCLE: the bus is granted and idle, and the port drives a cycle (R487, R488). -/
def Core.deviceCycle (m : Memory) (c : Core) (done : Option Nat) (bus : BusCycle) : Memory × Core :=
  let c := c.busEdge
  if !c.breq || c.lhp.cycle.isSome then (m, c)
  else
    let (m, c) := Core.xqTake 4096 m c
    if ((c.lhp.xfer.map (fun (x : Xfer) => x.again)).getD none).isSome then (m, c)
    else Core.deviceDrive m c done bus

/-- DEVICE_RETRY_REISSUE: 1 µs after LHP_RETRY_N the cycle is driven again from its first uncompleted phase (R489). -/
def Core.deviceReissue (m : Memory) (c : Core) (done : Option Nat) (bus : BusCycle) : Memory × Core :=
  let c := c.busEdge
  if !c.breq || c.lhp.cycle.isSome then (m, c)
  else match c.lhp.xfer with
    | none => (m, c)
    | some x =>
      match x.again with
      | none => (m, c)
      | some t =>
        let c := c.advanceTo t
        let c := { c with lhp := { c.lhp with xfer := some { x with tries := x.tries + 1, again := none } } }
        Core.deviceDrive m c done bus

/-- XQ_TAIL_WRITE: descriptors have been added (R486, R487); RANGE (0x0B) for a value beyond the ring. -/
def Core.xqTailEffect (m : Memory) (c : Core) (v : Nat) : Nat × Memory × Core :=
  if c.cfg Reg.XQ_SIZE ≤ v then (0x0B, m, c) else (0, Core.xqTake 4096 m (c.setReg Reg.XQ_TAIL v).hostRefresh)

/-! Interrupt and side-band wires (R492, R493). -/

/-- SIDEBAND_EDGE: a side-band ball changes. -/
def Core.sidebandEdge (c : Core) (k : Nat) (level : Bool) : Core :=
  let v := setBit c.fc.lines k level
  ({ c with fc := { c.fc with lines := v } }).setReg Reg.LHP_SB_STATE (v % 16)

/-- R492: the levels of the event lines. -/
def Core.eventLines (c : Core) : Nat :=
  c.fc.lines % 16 + b2n (c.reg Reg.EVQ_COUNT != 0) * 2 ^ 4 + b2n (!c.fc.queue.isEmpty) * 2 ^ 5 + b2n c.fc.safe * 2 ^ 6
    + b2n (c.flag Reg.LHP_ERR_PENDING) * 2 ^ 7 + b2n (c.flag Reg.XQ_NOTIFY) * 2 ^ 8 + b2n (c.flag Reg.XQ_ERR) * 2 ^ 9
    + b2n (c.reg Reg.TW_TOKEN == 1) * 2 ^ 10 + b2n (c.timeState == 1 || c.timeState == 3) * 2 ^ 11
    + b2n ((List.range 16).any (fun k => c.reg (Reg.MV_MODE k) == 3)) * 2 ^ 12
    + b2n (c.fc.active.any (fun a => a.source == Src.POWER_DEGRADED)) * 2 ^ 13

/-- LHP_IRQ_STATE (R495): the interrupt wires active. -/
def Core.irqState (c : Core) : Nat :=
  (List.range 8).foldl (fun a i => a + b2n (Nat.land c.eventLines (c.reg (Reg.LHP_IRQ_SEL i)) != 0) * 2 ^ i) 0

/-- R493: the level of interrupt pin i. -/
def Core.irqPin (c : Core) (i : Nat) : Bool := bit c.irqState i != !bit (c.reg Reg.LHP_IRQ_POL) i

/-- R480: the settings of range r that a write would leave stand together; RANGE (0x0B) else. -/
def Core.rangeOk (c : Core) (base size ctrl : Nat) : Bool :=
  let kind := bits ctrl 1 0
  Nat.ble (bits ctrl 5 3) 5 && kind != 3
    && (kind == 0 || (Nat.ble 8 size && Nat.ble size 31 && base % 2 ^ size == 0
      && (kind != 2 || Nat.ble (2 ^ size) (c.hostBanks.length * 65536))))

end Sys2Proof.Machine
end

