-- ==== Sys2Proof/Machine/Handover.lean ====
section
/-! DEFINITION. Handovers of banks between owners and the phases of the swap banks (chapter 13, R457 to R465). -/

namespace Sys2Proof.Machine

/-- R470: BANK_STATE follows the handovers, the borrows and STAGE_SET. -/
def Core.bankState (c : Core) (b : Nat) : Core :=
  let s := (List.range 2).find? (fun s => c.swapFor s == some b)
  let phase := match s with
    | some s => c.reg (Reg.SWAP_PHASE s)
    | none => 0
  c.setReg (Reg.BANK_STATE b)
    (b2n (c.fab.handovers.any (fun h => h.bank == b)) + 2 * b2n s.isSome + 4 * (s.getD 0)
      + 8 * b2n (bit (c.cfg Reg.STAGE_SET) b) + 16 * (phase - 1))

/-- R190: n switch-buffer banks may leave the pool, beside those that drain for a handover or for a destructive run (R628). -/
def Core.poolSpares (c : Core) (n : Nat) : Bool :=
  Nat.ble (c.reg Reg.SW_LIMIT_SUM + 1024 * (n + (c.drainBanks.filter (fun b => c.reg (Reg.BANK_OWNER b) == 0)).length)) (c.reg Reg.SW_POOL)

/-- R190, R458: bank b holds no cell. What the other owners have in flight ends within a command here (log entry 103). -/
def Core.cellFree (c : Core) (b : Nat) : Bool := c.reg (Reg.BANK_OWNER b) != 0 || c.cellsIn b == 0

/-- R458: a Q_BASE of a mover lies in bank b. -/
def Core.queueIn (c : Core) (b : Nat) : Bool :=
  (List.range 16).any (fun k => (List.range 4).any (fun q =>
    let base := c.reg (Reg.Q_BASE k q)
    base % 2 ^ 48 / 65536 == b && base / 2 ^ 48 == c.homeAddr))

/-- R457: a write of v to BANK_OWNER of bank b: RANGE (0x0B) or REFUSED (0x11), or none, when the handover has begun and the
request waits for its end. Banks 32 to 47 are fixed (R459). -/
def Core.handoverAsk (c : Core) (b v : Nat) (req : Option Req) : Option Nat × Core :=
  let old := c.reg (Reg.BANK_OWNER b)
  let plain (o : Nat) : Bool := o == 0 || o == 2 || o == 5
  if !plain v then (some 0x0B, c)
  else if !plain old || (Nat.ble 32 b && Nat.blt b 48) || bit (c.cfg Reg.STAGE_SET) b || (List.range 2).any (fun s => c.swapFor s == some b)
      || c.drainBanks.contains b || (old == 0 && !c.poolSpares 1) || (old == 2 && c.queueIn b) then
    (some 0x11, c)
  else
    let h : Handover := { bank := b, owner := v, deadline := c.now + 2000, req := req }
    (none, ({ c with fab := { c.fab with handovers := c.fab.handovers ++ [h] } }).bankState b)

/-- Bank b changes its owner: the pool of the switch buffer follows (R190). -/
def Core.giveBank (c : Core) (b v : Nat) : Core :=
  let old := c.reg (Reg.BANK_OWNER b)
  let c := if old = 0 then
      (c.setReg Reg.SW_POOL (c.reg Reg.SW_POOL - 1024)).setReg Reg.SW_FREE (c.reg Reg.SW_FREE - 1024) else c
  let c := if v = 0 then
      (c.setReg Reg.SW_POOL (c.reg Reg.SW_POOL + 1024)).setReg Reg.SW_FREE (c.reg Reg.SW_FREE + 1024) else c
  c.setReg (Reg.BANK_OWNER b) v

/-- After a handover of bank b has ended, what waited for it goes on (R458, R482). -/
def Core.handoverOver (m : Memory) (c : Core) (b : Nat) : Memory × Core :=
  let c := c.bankState b
  let (m, c) := (List.range 16).foldl (fun (s : Memory × Core) k =>
    if s.2.reg (Reg.MV_MODE k) = 2 then Core.mvPump s.1 s.2 k else s) (m, c)
  let (m, c) := Core.xqTake 4096 m c
  Core.hostPump m c

/-- HANDOVER_COMPLETE: the drain condition holds for the oldest handover within its 2 µs, and the new owner has the bank
(R190, R457, R458). Gives the request to answer. -/
def Core.handoverDone (m : Memory) (c : Core) : Option Req × Memory × Core :=
  match c.fab.handovers with
  | [] => (none, m, c)
  | h :: rest =>
    if h.deadline < c.now ∨ c.cellFree h.bank = false then (none, m, c)
    else
      let c := { c with fab := { c.fab with handovers := rest } }
      (h.req, Core.handoverOver m ((c.giveBank h.bank h.owner).inc Reg.CNT_HANDOVER) h.bank)

/-- HANDOVER_REFUSED: the drain of the oldest handover has not ended within 2 µs, and the old owner keeps the bank (R190, R457). -/
def Core.handoverFail (m : Memory) (c : Core) : Option Req × Memory × Core :=
  match c.fab.handovers with
  | [] => (none, m, c)
  | h :: rest =>
    if c.reg (Reg.BANK_OWNER h.bank) = 0 ∧ c.cellFree h.bank = true ∧ c.now ≤ h.deadline then (none, m, c) else
    let c := { c.advanceTo h.deadline with fab := { c.fab with handovers := rest } }
    (h.req, Core.handoverOver m (c.inc Reg.CNT_HANDOVER_REFUSED) h.bank)

/-! Leaving CONFIG (R459, R460). -/

/-- R459: a write of r to MAP_ROUTE_BANKS; REFUSED (0x11) when a bank gained is not the switch buffer's, or the pool would not
do. -/
def Core.routeBanksOk (c : Core) (r : Nat) : Bool :=
  let gained := (List.range (40 - c.routeBanks)).filter (fun b => Nat.ble (40 - r) b)
  gained.all (fun b => c.reg (Reg.BANK_OWNER b) == 0) && c.poolSpares gained.length

/-- R460: a write of STAGE_SET: RANGE (0x0B) for more than 4 banks, REFUSED (0x11) for a joining bank that management does
not own. -/
def Core.stageSetStatus (c : Core) (v : Nat) : Nat :=
  if 4 < popCount 64 v then 0x0B
  else if (bitList 64 v).any (fun b => !bit (c.cfg Reg.STAGE_SET) b && c.reg (Reg.BANK_OWNER b) != 1) then 0x11 else 0

/-- R459: at the leave of CONFIG the route table moves to banks 40 - R to 39, cleared; the settings in force are still the
old ones. A bank gained that still holds cells is first drained (R190). -/
def Core.moveRoutes (m : Memory) (c : Core) (r : Nat) : Memory × Core :=
  let old := c.routeBanks
  if r = old then (m, c)
  else
    let c := (List.range 40).foldl (fun (c : Core) b =>
      if 40 - r ≤ b ∧ b < 40 - old then
        (if c.cellFree b then c.giveBank b 3 else { c with node := { c.node with routeDrain := c.node.routeDrain ++ [b] } })
      else if 40 - old ≤ b ∧ b < 40 - r then c.giveBank b 0
      else c) c
    ((List.range (max r old)).foldl (fun (m : Memory) i => m.wipe (39 - i)) m, c)

/-- R190, R459: the banks for the route table that have come to hold no cell are handed over. -/
def Core.routesDrained (c : Core) : Core :=
  let (free, left) := c.node.routeDrain.partition c.cellFree
  free.foldl (fun (c : Core) b => c.giveBank b 3) { c with node := { c.node with routeDrain := left } }

/-! Swap banks (R462 to R465). A copy moves what the memory holds of a bank; the contents that other parts of the state hold are the
same through either storage. -/

/-- The borrow of bank b through swap bank s begins (R462, R463). -/
def Core.borrow (c : Core) (s b : Nat) : Core :=
  let c := (c.setReg (Reg.SWAP_FOR s) b).setReg (Reg.SWAP_PHASE s) 1
  ({ c with fab := { c.fab with borrows := mapSet 0 s c.now c.fab.borrows } }).bankState b

/-- R463: bank b may be borrowed through swap bank s. -/
def Core.canBorrow (c : Core) (s b : Nat) : Bool :=
  (c.swapFor s).isNone && Nat.blt b 64 && !c.fab.handovers.any (fun h => h.bank == b)
    && !(List.range 2).any (fun t => c.swapFor t == some b)

/-- The borrow of swap bank s ends. -/
def Core.unborrow (c : Core) (s : Nat) : Core :=
  let b := c.reg (Reg.SWAP_FOR s)
  let c := (c.setReg (Reg.SWAP_FOR s) 0xFF).setReg (Reg.SWAP_PHASE s) 0
  ({ c with fab := { c.fab with borrows := mapSet 0 s 0 c.fab.borrows } }).bankState b

/-- R464: the copy of physical bank b to physical bank d reads every word and counts what it finds. -/
def Core.copyBank (m : Memory) (c : Core) (b d : Nat) : Memory × Core :=
  let ws := m.wordsIn b
  let c := (c.eccWords m ws).2
  (m.copyBank b d, (c.eccRead b (8192 - ws.length)).2)

/-- COPY_IN_DONE: the last word is copied and the bank's accesses go to the swap bank (R462). -/
def Core.copyInDone (m : Memory) (c : Core) (s : Nat) : Memory × Core :=
  if c.reg (Reg.SWAP_PHASE s) ≠ 1 then (m, c)
  else
    let b := c.reg (Reg.SWAP_FOR s)
    let (m, c) := Core.copyBank m c b (64 + s)
    (m, (c.setReg (Reg.SWAP_PHASE s) 2).bankState b)

end Sys2Proof.Machine
end

