-- ==== Sys2Proof/Machine/Discrete.lean ====
section
/-! DEFINITION. Discrete lines (chapter 11, R376 to R388, R399). -/

namespace Sys2Proof.Machine

/-- Bank b. -/
def Core.bank (c : Core) (b : Nat) : DiscBank := mapGet {} b c.disc.banks

/-- Replaces bank b. -/
def Core.setBank (c : Core) (b : Nat) (x : DiscBank) : Core :=
  { c with disc := { c.disc with banks := mapSet {} b x c.disc.banks } }

/-- R376: DISC_VIO of a supply of mv millivolts. -/
def vioCode (mv : Nat) : Nat :=
  if mv < 1200 then 0 else if 1620 ≤ mv ∧ mv ≤ 1980 then 1 else if 2970 ≤ mv ∧ mv ≤ 3630 then 2 else 3

/-- The bank's supply is one of its two levels. -/
def Core.supplied (c : Core) (b : Nat) : Bool := c.reg (Reg.DISC_VIO b) == 1 || c.reg (Reg.DISC_VIO b) == 2

/-- DISC_VIO_SENSE: one sense of the bank's supply (R376, R388). A return writes SUPPLY when the supply had left. -/
def Core.vioSense (c : Core) (b mv : Nat) : Core :=
  if !(c.node.phase == .run || c.node.phase == .boot) then c
  else
    let code := vioCode mv
    let x := c.bank b
    let again : Bool := x.sensed == some code
    let c := c.setBank b { x with sensed := some code }
    if !again || code == c.reg (Reg.DISC_VIO b) then c
    else
      let was := c.supplied b
      let c := c.setReg (Reg.DISC_VIO b) code
      if was && !c.supplied b then
        ((c.setBank b { c.bank b with gone := true }).event (8 * b) 4 3 code).raise Src.DISC_SUPPLY b 0
      else if !was && c.supplied b then
        let left := (c.bank b).gone
        let c := c.setBank b { c.bank b with gone := false, runs := [] }
        if left then (c.event (8 * b) 4 0 code).clear Src.DISC_SUPPLY b 0 else c
      else c

/-! Output commands (R384). -/

/-- R268: an output item's entry for the schedule table. -/
def outEntry (b : Nat) (f : Frame) : SchedEntry :=
  { target := f.tick, bank := b, mask := fieldAt f.payload 0 1, value := fieldAt f.payload 1 1 }

/-- DISC_OUTPUT_ITEM: an item for bank b passes egress and loads its MASK bits (R384). -/
def Core.discItem (c : Core) (b : Nat) (f : Frame) : Core :=
  let c := c.undeliver (4 + b / 4) f
  if !c.up then c
  else
    let (ok, c) := c.egress 0x06 b Reg.CNT_EGRESS_DISC f
    if !ok then c
    else if f.payload.length ≠ 4 ∨ c.supplied b = false then c.inc (Reg.DISC_CNT_OUT_DROP b)
    else
      let c := (c.inc (Reg.DISC_CNT_OUT_ITEMS b)).twJournal b f
      let e := outEntry b f
      if bit (c.cfg Reg.SCHED_BANKS) b then c.enterSched e
      else c.update { at_ := c.now, rank := 1, bank := b, mask := e.mask, value := e.value }

/-- SCHED_ITEM_RX: an output item arrives for a bank; one of SCHED_BANKS takes it as scheduled, any other applies it at the next
strobe (R268). -/
def Core.schedItem (c : Core) (b : Nat) (f : Frame) : Core := c.discItem b f

/-! What a line is held by (R385). -/

/-- R288: the channel, in role 3, whose chip select is line i. -/
def Core.csChannel (c : Core) (i : Nat) : Option Nat :=
  (List.range 16).findSome? (fun j =>
    let n := i / 32 * 16 + j
    if c.chRole n == 3 && c.cfg (Reg.CH_SPI_CS n) % 512 == i % 32 then some n else none)

/-- The level of a chip select (R286, R287). -/
def Core.csLevel (c : Core) (n : Nat) : Bool := (c.chan n).cs == bit (c.cfg (Reg.CH_SPI_CS n)) 9

/-- R33, R582: at a strobe an isolation holds bank b at its DISC_SAFE values: a BANK isolation, or an INPUT isolation that names it. -/
def Core.bankIsolated (c : Core) (b : Nat) : Bool :=
  (c.fc.isos.filter c.isoRipe ++ c.fc.leaving).any (fun e => (isoKind e.1 e.2.2 == .bank && e.2.1 == b)
    || (Nat.blt e.1 0x84 && bit e.2.2 5 && bits e.2.2 4 0 == b))

/-- R385 row 3 at this strobe for bank b: safe state, an isolation of the bank, or the hold of outputs in CONFIG. -/
def Core.bankHeld (c : Core) (b : Nat) : Bool :=
  c.node.ioHold || (c.fc.safe && Nat.ble (c.fc.safeAt + 10) c.now) || c.bankIsolated b

/-- R377: the outputs of the bank act: CONFIG has been left since reset and the supply stands. -/
def Core.bankActs (c : Core) (b : Nat) : Bool := c.up && c.disc.left && c.supplied b

/-- R377: the lines of bank b that are outputs. -/
def Core.bankDir (c : Core) (b : Nat) : Nat := if c.disc.left then c.cfg (Reg.DISC_DIR b) else 0

/-- R385: the level of line l of bank b and whether rows 2 to 4 decide it; none for a high-impedance line. -/
def Core.lineLevel (c : Core) (b l : Nat) : Option (Bool × Bool) :=
  let i := 8 * b + l
  if !c.bankActs b || c.disc.mute then none
  else match c.csChannel i with
    | some n => some (c.csLevel n, true)
    | none =>
      if !bit (c.bankDir b) l then none
      else if c.bankHeld b then some (bit (c.safeValue (Reg.DISC_SAFE b)) l, true)
      else match c.heldLines.find? (fun h => h.2.1 == i) with
        | some h => some (h.2.2, true)
        | none => some (bit (c.reg (Reg.DISC_OUT b)) l, false)

/-- R554: the level that rows 3 to 5 of R385 give line i, which a rail may follow. -/
def Core.followLevel (c : Core) (i : Nat) : Bool :=
  if c.bankHeld (i / 8) then bit (c.safeValue (Reg.DISC_SAFE (i / 8))) (i % 8)
  else match c.heldLines.find? (fun h => h.2.1 == i) with
    | some h => h.2.2
    | none => bit (c.reg (Reg.DISC_OUT (i / 8))) (i % 8)

/-- A byte with bit l set where f holds. -/
def byteFrom (f : Nat → Bool) : Nat := (List.range 8).foldl (fun a l => if f l then a + 2 ^ l else a) 0

/-! The strobe. -/

/-- R399: the order of values for one strobe: by arrival in CCLK cycles of 5 ns, then scheduled entry, item, write. -/
def updBefore (a b : OutUpd) : Bool :=
  Nat.blt (a.at_ / 5) (b.at_ / 5) || (a.at_ / 5 == b.at_ / 5 && Nat.blt a.rank b.rank)

/-- R384: MASK bits of DISC_OUT take VALUE. -/
def Core.setOut (c : Core) (b mask value : Nat) : Core :=
  let old := c.reg (Reg.DISC_OUT b)
  c.setReg (Reg.DISC_OUT b) (byteFrom (fun l => if bit mask l then bit value l else bit old l))

/-- R33, R272: one value takes effect at the strobe of tick n. A scheduled entry is discarded where row 3 of R385 applies, and one
whose target never fired writes its event; the standby hears of one that the holder completes (R527). -/
def Core.applyUpdate (n : Nat) (c : Core) (u : OutUpd) : Core :=
  match u.target with
  | some t =>
    if c.bankHeld u.bank then
      (c.inc Reg.CNT_SCHED_SKIPPED).event 0xC00 0x09 3 (t + u.bank * 2 ^ 48)
    else
      let c := if t = n then c else c.event 0xC00 0x09 3 (t + u.bank * 2 ^ 48)
      ((c.setOut u.bank u.mask u.value).inc Reg.CNT_SCHED_DONE).twSent 4 u.bank 1 (t % 65536) 0
  | none => c.setOut u.bank u.mask u.value

/-- The number of the tick that fired last. -/
def Core.firedTick (c : Core) : Nat := c.time.lastTick.getD 0 % tickMod

/-- R33: the values complete at least 10 ns before this strobe take effect, writes of DISC_OUT (R43) among them, and the scheduled
entries of this tick and of those that it skipped (R271, R272). -/
def Core.applyUpdates (c : Core) (writes : List OutUpd) : Core :=
  let n := c.firedTick
  let (due, rest) := (c.sched.updates ++ writes).partition (fun u => match u.target with
    | some t => !tickAhead t n
    | none => Nat.ble (u.at_ + 10) c.now)
  let c := { c with sched := { c.sched with updates := rest } }
  (sortBy updBefore due).foldl (Core.applyUpdate n) c

/-- R378, R379: bank b captures the ball levels `balls` and its input lines are debounced. Gives the lines that changed. -/
def Core.bankCapture (c : Core) (b balls : Nat) : Nat × Core :=
  let raw := Nat.xor (balls % 256) (c.cfg (Reg.DISC_INVERT b))
  let c := c.setReg (Reg.DISC_RAW b) raw
  if !c.supplied b then (0, c)
  else
    let old := c.reg (Reg.DISC_IN b)
    let x := c.bank b
    let sampled (l : Nat) : Bool := !bit (c.bankDir b) l && (c.csChannel (8 * b + l)).isNone
    let run (l : Nat) : Nat := if sampled l && bit raw l != bit old l then mapGet 0 l x.runs + 1 else 0
    let done (l : Nat) : Bool := Nat.blt (c.reg (Reg.DISC_DEB b l)) (run l)
    let changed := byteFrom done
    let runs := (List.range 8).foldl (fun (m : List (Nat × Nat)) l => mapSet 0 l (if done l then 0 else run l) m) x.runs
    (changed, (c.setBank b { x with runs := runs }).setReg (Reg.DISC_IN b) (Nat.xor old changed))

/-- R380 to R383: the change record of line l of bank b. -/
def Core.changeRecord (c : Core) (b l changed : Nat) : Core :=
  let level := bit (c.reg (Reg.DISC_IN b)) l
  let k := b / 4
  let c := c.inc (Reg.DISC_CNT_CHANGES b)
  let lost := mapGet false k c.disc.lost
  let r := c.mkEvent (8 * b + l) (if level then 1 else 2) (c.reg (Reg.DISC_SEV b))
    (c.reg (Reg.DISC_IN b) + changed * 2 ^ 8 + c.reg (Reg.DISC_DEB b l) * 2 ^ 16) false
  let r := { r with flags := setBit r.flags 4 lost }
  let c := { c with disc := { c.disc with lost := mapSet false k false c.disc.lost } }
  let c := if bit (c.reg (Reg.DISC_EV_MASK b)) l then c.addEvent r else c
  let key := c.reg (Reg.DISC_KEY_BASE b)
  if key = 0xFFFF then c
  else
    let q := c.reg (Reg.DISC_SEQ b)
    let c := c.setReg (Reg.DISC_SEQ b) ((q + 1) % 65536)
    let waiting := (mapGet [] k c.disc.records).filter (fun i => c.sw.seeking.any (fun e => e.id == i))
    if 64 ≤ waiting.length then
      ({ c with disc := { c.disc with records := mapSet [] k waiting c.disc.records
                                      lost := mapSet false k true c.disc.lost } }).inc (Reg.DISC_CNT_REC_LOST b)
    else
      let f : Frame := { kind := 2, cls := 3, dst := c.homeAddr, src := c.homeAddr, okey := c.originKey, stream := key + l,
                         seq := q, tick := r.tick, len := 24, payload := r.bytes }
      ({ c with disc := { c.disc with records := mapSet [] k (waiting ++ [c.sw.nextId]) c.disc.records } }).submit (4 + k)
        [12] { f with check := f.transitCrc }

/-- R387: the readback of bank b. A difference counts when it has stood at 2 consecutive strobes; a match ends it. -/
def Core.bankReadback (c : Core) (b : Nat) : Core :=
  let x := c.bank b
  let raw := c.reg (Reg.DISC_RAW b)
  let pin := c.reg (Reg.DISC_PIN b)
  let mask := c.reg (Reg.DISC_READBACK b)
  let watch (l : Nat) : Bool :=
    bit mask l && bit (c.bankDir b) l && bit x.driven l && (c.csChannel (8 * b + l)).isNone && Nat.ble 1 (mapGet 0 l x.age)
  let run (l : Nat) : Nat := if watch l && bit raw l != bit pin l then min 2 (mapGet 0 l x.diffs + 1) else 0
  let found := byteFrom (fun l => run l == 2 && mapGet 0 l x.diffs == 1)
  let diffs := (List.range 8).foldl (fun (m : List (Nat × Nat)) l => mapSet 0 l (run l) m) x.diffs
  let age := (List.range 8).foldl (fun (m : List (Nat × Nat)) l =>
    mapSet 0 l (if bit x.driven l then min 2 (mapGet 0 l x.age + 1) else 0) m) x.age
  let c := c.setBank b { x with diffs := diffs, age := age }
  if found = 0 then c
  else ((c.inc (Reg.DISC_CNT_READBACK b)).event (8 * b) 3 3 (byteFrom (fun l => run l == 2))).report Src.DISC_READBACK b 0

/-- R385: bank b drives its lines at this strobe; a line whose level or drive changes starts its readback afresh. -/
def Core.bankDrive (c : Core) (b : Nat) : Core :=
  if c.disc.frozen then c
  else
    let at_ (l : Nat) : Option (Bool × Bool) := c.lineLevel b l
    let pin := byteFrom (fun l => (at_ l).elim false (fun p => p.1))
    let hold := byteFrom (fun l => (at_ l).elim false (fun p => p.2))
    let driven := byteFrom (fun l => (at_ l).isSome)
    let x := c.bank b
    let moved (l : Nat) : Bool := bit pin l != bit (c.reg (Reg.DISC_PIN b)) l || bit driven l != bit x.driven l
    let age := (List.range 8).foldl (fun (m : List (Nat × Nat)) l => if moved l then mapSet 0 l 0 m else m) x.age
    let diffs := (List.range 8).foldl (fun (m : List (Nat × Nat)) l => if moved l then mapSet 0 l 0 m else m) x.diffs
    ((c.setBank b { x with age := age, diffs := diffs, driven := driven }).setReg (Reg.DISC_PIN b) pin).setReg
      (Reg.DISC_HOLD b) hold

/-- R378 to R383, R387: a strobe at the inputs of every bank; `dio` holds the levels at the balls DIO_0 to DIO_255. -/
def Core.discCapture (c : Core) (dio : Nat) : Core :=
  (List.range 32).foldl (fun (c : Core) b =>
    let (changed, c) := c.bankCapture b (dio / 2 ^ (8 * b))
    let c := (bitList 8 changed).foldl (fun (c : Core) l => c.changeRecord b l changed) c
    if c.bankActs b then c.bankReadback b else c) c

/-- R384, R385: a strobe at the outputs of every bank. -/
def Core.discOutputs (c : Core) (writes : List OutUpd) : Core :=
  (List.range 32).foldl (fun (c : Core) b => c.bankDrive b) (c.applyUpdates writes)

/-- DISC_PIN as read: a chip select shows its level at once (R288, R385). -/
def Core.discPin (c : Core) (b : Nat) : Nat :=
  byteFrom (fun l => match c.csChannel (8 * b + l) with
    | some n => c.bankActs b && !c.disc.mute && c.csLevel n
    | none => bit (c.reg (Reg.DISC_PIN b)) l)

/-- R377: what line l of bank b drives on its ball, none where it leaves the ball alone: the logical level, inverted by
DISC_INVERT; an open-drain line drives a logical 0 low and releases a logical 1. -/
def Core.discBall (c : Core) (b l : Nat) : Option Bool :=
  let chip := (c.csChannel (8 * b + l)).isSome
  if !c.bankActs b || c.disc.mute || !(chip || bit (c.bank b).driven l) then none
  else
    let v := bit (c.discPin b) l
    if !chip && bit (c.cfg (Reg.DISC_OD b)) l then (if v then none else some false)
    else some (v != bit (c.cfg (Reg.DISC_INVERT b)) l)

/-- R384: DISC_OUT is loaded with DISC_SAFE as the node leaves CONFIG. -/
def Core.discLeave (c : Core) : Core :=
  (List.range 32).foldl (fun (c : Core) b => c.setReg (Reg.DISC_OUT b) (c.reg (Reg.DISC_SAFE b))) c

/-- DISC_KEY_BASE: 0x0000 to 0xFFF7, or 0xFFFF; RANGE (0x0B) else (R382). -/
def keyBaseOk (v : Nat) : Bool := Nat.ble v 0xFFF7 || v == 0xFFFF

end Sys2Proof.Machine
end

