-- ==== Sys2Proof/Machine/Power.lean ====
section
/-! DEFINITION. Power supervision, the backup domain, feeds and field-rail breakers (chapter 16, R531 to R560). -/

namespace Sys2Proof.Machine

/-- The main supply is on and the supervisor runs: BOOT and every later mode (R639). -/
def Core.supervised (c : Core) : Bool := c.node.phase == .boot || c.node.phase == .run

/-! The backup domain and its power-loss log (R538 to R541). -/

/-- The real-time counter in ns: TAI seconds and whole LCLK periods of the second (R539). -/
def Core.rtcNs (c : Core) : Nat :=
  let t := c.pwr.rtc + (c.now - c.pwr.rtcAt)
  t / 1000000000 * 1000000000 + t % 1000000000 * 32768 / 1000000000 * 1000000000 / 32768

/-- R541: an entry of the power-loss log, copied into the logs (R605 kind 3). -/
def Core.plWrite (c : Core) (kind low dur : Nat) (rtc : Bool) : Core :=
  let i := c.reg Reg.PL_NEXT
  let t := if rtc then c.rtcNs else c.sysNs
  let flags := b2n rtc + 2 * b2n (!c.flag Reg.TIME_VALID)
  let feeds := b2n (c.reg (Reg.FEED_STATE 0) == 2) + 2 * b2n (c.reg (Reg.FEED_STATE 1) == 2)
  let no := c.pwr.entryNo
  let e := leBytes 8 t ++ [byteOf kind, byteOf flags] ++ leBytes 2 low ++ leBytes 4 dur ++ leBytes 2 c.pwr.vbat
    ++ [byteOf feeds, 0] ++ leBytes 4 no ++ zeros 8
  let c := (c.setBlob Reg.PL_LOG (splice (c.blob Reg.PL_LOG) (32 * i) e)).setReg Reg.PL_NEXT ((i + 1) % 64)
  let c := { c with pwr := { c.pwr with entryNo := (no + 1) % 2 ^ 32 } }
  c.logAdd { tick := t / c.period % tickMod, flags := 2 * b2n c.unlocked + 8 * b2n rtc, kind := 3, node := c.originKey, source := 0xC02,
                  body := [byteOf kind, byteOf flags] ++ leBytes 2 low ++ leBytes 4 dur ++ leBytes 2 c.pwr.vbat
                    ++ [byteOf feeds, 0] ++ leBytes 4 no }

/-- A supervisor's event (R557). -/
def Core.pwrEvent (c : Core) (kind sev value : Nat) : Core := c.eventOnce 0xC02 kind sev value

/-- Bit i of SUPPLY_FLAGS. -/
def Core.supplyBit (c : Core) (i : Nat) (b : Bool) : Core :=
  c.setReg Reg.SUPPLY_FLAGS (setBit (c.reg Reg.SUPPLY_FLAGS) i b)

/-- RTC_LOAD: at the next whole minute of system time the counter is loaded from it (R539). -/
def Core.rtcLoad (c : Core) : Core :=
  if !c.supervised || !c.flag Reg.TIME_VALID then c
  else
    let c := c.advanceSys ((c.sysNs / 60000000000 + 1) * 60000000000)
    { c with pwr := { c.pwr with rtc := c.sysNs, rtcAt := c.now } }.setReg Reg.BK_VALID 1

/-- The VBAT_LOW event and fault (R540). -/
def Core.vbatReport (c : Core) : Core := (c.pwrEvent 8 3 c.pwr.vbat).raise Src.VBAT_LOW noInst 0

/-- VBAT_SENSE: once per second of LCLK VBAT is compared with 2.2 V (R531, R540). -/
def Core.vbatSense (c : Core) (mv : Nat) : Core :=
  if c.node.phase = .off then c
  else
    let was := bit (c.reg Reg.SUPPLY_FLAGS) 3
    let c := { c with pwr := { c.pwr with vbat := mv } }
    let c := if c.supervised then c.setReg Reg.BK_VBAT_MV mv else c
    if mv < 2200 ∧ ¬ was then
      let c := (c.supplyBit 3 true).plWrite 6 0 0 (!c.supervised)
      if c.supervised then c.vbatReport else c
    else if 2200 ≤ mv ∧ was then
      let c := c.supplyBit 3 false
      if c.supervised then (c.pwrEvent 9 0 (c.reg Reg.SUPPLY_FLAGS)).clear Src.VBAT_LOW noInst 0 else c
    else c

/-- R538: the brown-out detector clears what the backup domain holds. -/
def Core.backupClear (c : Core) : Core :=
  let c := ((((c.setBlob Reg.PL_LOG (zeros 2048)).setReg Reg.PL_NEXT 0).setReg Reg.BK_CNT_POWER_FAIL 0).setReg
    Reg.BK_VALID 0).supplyBit 3 false
  { c with pwr := { c.pwr with entryNo := 0, rtc := 0, rtcAt := c.now, vbat := 0 } }

/-- BACKUP_BROWN_OUT (R538, R641). -/
def Core.brownOut (c : Core) : Core :=
  let c := c.backupClear
  if c.node.phase = .backup then { c with node := { c.node with phase := .off } } else c

/-- VBAT_RISE: VBAT above 1.5 V with no main supply (R641). -/
def Core.vbatRise (c : Core) : Core :=
  if c.node.phase = .off then { c with node := { c.node with phase := .backup } } else c

/-- PL_CLEAR: 1 zeroes the log and PL_NEXT; RANGE (0x0B) for 0 (R559). -/
def Core.plClear (c : Core) (v : Nat) : Nat × Core :=
  if v = 1 then (0, (c.setBlob Reg.PL_LOG (zeros 2048)).setReg Reg.PL_NEXT 0) else (0x0B, c)

/-! Dips and supplies (R531 to R537). -/

/-- R532: VIN_MV: the latest sample, which the last command that brings one holds for its microsecond (log entry 115). -/
def Core.vinMv (c : Core) : Nat :=
  if c.supervised ∧ c.pwr.vinAt + 1000 ≤ c.now then Config.vinSample (c.now / 1000) % 65536 else c.reg Reg.VIN_MV

/-- A sample of VDD_3V3 that a command brings. -/
def Core.setVin (c : Core) (mv : Nat) : Core := { c.setReg Reg.VIN_MV mv with pwr := { c.pwr with vinAt := c.now } }

/-- DIP_START (R534). -/
def Core.dipStart (c : Core) (mv : Nat) : Core :=
  if !c.supervised || c.pwr.dip.isSome then c
  else
    let d : Dip := { start := c.now, tick := c.tick, low := mv }
    let c := { c with pwr := { c.pwr with dip := some d } }
    let c := (c.setVin mv).setReg Reg.PWR_STATE (setBit (c.reg Reg.PWR_STATE) 0 true)
    (c.pwrEvent 1 3 mv).raise Src.POWER_DIP noInst 0

/-- R535: duration in µs and minimum of an episode that ends now, its last 100 µs left out. -/
def Core.dipSpan (c : Core) (d : Dip) : Nat := (c.now - 100000 - d.start) / 1000

/-- DIP_END: VDD_3V3 has been at or above 3.10 V for 100 µs; `low` is the lowest sample since the start (R535). -/
def Core.dipEnd (c : Core) (mv low : Nat) : Core :=
  match c.pwr.dip with
  | none => c
  | some d =>
    let c := c.advanceTo (d.start + 100000)
    let dur := c.dipSpan d
    let low := min low d.low
    let c := { c with pwr := { c.pwr with dip := none, goodSince := c.now - 100000 } }
    let c := (c.setVin mv).setReg Reg.PWR_STATE (setBit (c.reg Reg.PWR_STATE) 0 false)
    let c := (((c.setReg Reg.LD_MIN_MV low).setReg Reg.LD_DURATION dur).setReg Reg.LD_TICK d.tick).inc Reg.CNT_DIP
    ((c.plWrite 1 low dur false).pwrEvent 2 0 (low % 2 ^ 16 + dur % 2 ^ 32 * 2 ^ 16)).clear Src.POWER_DIP noInst 0

/-- R536: POWER_DEGRADED is declared when the episode has lasted 20 ms; true when it was. The samples since the start of the episode
are no operand of the command: its lowest one so far is a free value not above those known (log entry 115). -/
def Core.declareDegraded (c : Core) : Bool × Core :=
  match c.pwr.dip with
  | none => (false, c)
  | some d =>
    let c := c.advanceTo (d.start + 20000000)
    if c.pwr.degSince.isSome then (false, c)
    else
      let c := { c with pwr := { c.pwr with degSince := some c.now } }
      let c := (c.setReg Reg.PWR_STATE (setBit (c.reg Reg.PWR_STATE) 1 true)).inc Reg.CNT_DEGRADED
      let (v, c) := c.draw
      let low := min (min d.low c.vinMv) (v % 65536)
      let c := { c with pwr := { c.pwr with dip := some { d with low := low } } }
      let c := (c.plWrite 2 low ((c.now - d.start) / 1000) false).pwrEvent 3 3 c.vinMv
      (true, c.raise Src.POWER_DEGRADED noInst 0)

/-- DEGRADED_CLEAR: VIN_MV has stayed at or above 3,100 mV for DEGRADED_CLEAR (R536). -/
def Core.degradedClear (c : Core) (mv : Nat) : Core :=
  match c.pwr.degSince with
  | none => c
  | some s =>
    if c.pwr.dip.isSome ∨ mv < 3100 then c
    else
      let c := c.advanceTo (c.pwr.goodSince + 1000000 * c.reg Reg.DEGRADED_CLEAR)
      let c := { c with pwr := { c.pwr with degSince := none } }
      let c := (c.setVin mv).setReg Reg.PWR_STATE (setBit (c.reg Reg.PWR_STATE) 1 false)
      ((c.plWrite 3 0 0 false).pwrEvent 4 0 ((c.now - s) / 1000000)).clear Src.POWER_DEGRADED noInst 0

/-- VDDA_SD (or VDDA_MEAS) leaves or returns to its range (R531). -/
def Core.supplyRange (c : Core) (meas out : Bool) : Core :=
  let i := b2n meas
  if !c.supervised || bit (c.reg Reg.SUPPLY_FLAGS) i == out then c
  else
    let c := c.supplyBit i out
    let c := (c.pwrEvent 9 (if out then 3 else 0) (c.reg Reg.SUPPLY_FLAGS)).condition out
      (if meas then Src.SUPPLY_MEAS else Src.SUPPLY_SD) noInst 0
    if out && !meas then
      (List.range 4).foldl (fun (c : Core) p => if 3 ≤ c.reg (Reg.RP_STATE p) then c.portFalls p 2 else c) c
    else c

/-! Feeds (R542 to R544). -/

/-- R543 step 4: a feed follows its enable. -/
def Core.feedRefresh (c : Core) (x : Nat) : Core :=
  if c.reg (Reg.FEED_ENABLE x) = 0 then c.setReg (Reg.FEED_STATE x) 0
  else if c.reg (Reg.FEED_STATE x) = 0 then c.setReg (Reg.FEED_STATE x) 2 else c

/-- R542: the feed voltage in mV that a 12-bit code of its VIN side stands for; FEED_SCALE is what reads 1.2 V (log entry 43). -/
def Core.feedMv (c : Core) (x code : Nat) : Nat := code * c.cfg (Reg.FEED_SCALE x) / 4096

/-- R542: a code of feed x that a command brings. -/
def Core.setFeed (c : Core) (x code : Nat) : Core :=
  { c.setReg (Reg.FEED_MV x) (c.feedMv x code) with pwr := { c.pwr with feedAt := mapSet 0 x c.now c.pwr.feedAt } }

/-- R542: FEED_MV: from the latest sample, which the last command that brings one holds for its 100 µs (log entry 115). -/
def Core.feedNow (c : Core) (x : Nat) : Nat :=
  if c.supervised ∧ mapGet 0 x c.pwr.feedAt + 100000 ≤ c.now then c.feedMv x (Config.feedSample x (c.now / 100000) % 4096)
  else c.reg (Reg.FEED_MV x)

/-- FEED_REVERSE: FEED_x_VOUT exceeds FEED_x_VIN by 3 mV; the gate goes low (R543, R544). -/
def Core.feedReverse (c : Core) (x code : Nat) : Core :=
  if !c.supervised || c.reg (Reg.FEED_STATE x) != 2 then c
  else
    let c := ((c.setFeed x code).setReg (Reg.FEED_STATE x) 3).inc (Reg.CNT_FEED_REVERSE x)
    ((c.pwrEvent 5 3 x).plWrite 8 0 0 false).reportOnce Src.FEED_REVERSE x 0 0 0 false

/-- FEED_UNBLOCK: FEED_x_VIN has exceeded FEED_x_VOUT by 10 mV for 10 µs (R543). -/
def Core.feedUnblock (c : Core) (x code : Nat) : Core :=
  if !c.supervised || c.reg (Reg.FEED_STATE x) != 3 then c
  else (c.setFeed x code).setReg (Reg.FEED_STATE x) 2

/-- FEED_LOST: FEED_MV has stayed below FEED_MIN_MV for 1 ms (R543). -/
def Core.feedLost (c : Core) (x code : Nat) : Core :=
  let st := c.reg (Reg.FEED_STATE x)
  if !c.supervised || (st != 2 && st != 3) || Nat.ble (c.reg (Reg.FEED_MIN_MV x)) (c.feedMv x code) then c
  else
    let c := ((c.setFeed x code).setReg (Reg.FEED_STATE x) 1).inc (Reg.CNT_FEED_LOST x)
    ((c.pwrEvent 6 3 x).plWrite 7 0 0 false).raise Src.FEED_LOST x 0

/-- FEED_RESTORED: FEED_MV has been at or above FEED_MIN_MV for 1 ms, and the feed returns under step 2 of R543. -/
def Core.feedRestored (c : Core) (x code : Nat) : Core :=
  if !c.supervised || c.reg (Reg.FEED_STATE x) != 1 || Nat.blt (c.feedMv x code) (c.reg (Reg.FEED_MIN_MV x)) then c
  else (((c.setFeed x code).setReg (Reg.FEED_STATE x) 2).pwrEvent 7 0 x).clear Src.FEED_LOST x 0

/-! Field rails (R545 to R556). -/

/-- Breakpoint k of RAIL_CURVE: (I_k, T_k). -/
def Core.curveAt (c : Core) (n k : Nat) : Nat × Nat :=
  let b := c.blob (Reg.RAIL_CURVE n)
  (fieldAt b (6 * k) 2, fieldAt b (6 * k + 2) 4)

/-- I_0 of rail n. -/
def Core.railI0 (c : Core) (n : Nat) : Nat := (c.curveAt n 0).1

/-- R548: the heat after a sample outside INRUSH. -/
def Core.heatStep (c : Core) (n h i : Nat) : Nat :=
  match ((List.range 8).filter (fun k => Nat.ble (c.curveAt n k).1 i)).getLast? with
  | some k => h + 2 ^ 40 / (c.curveAt n k).2
  | none => h - 2 ^ 40 / (c.reg (Reg.RAIL_COOL n) * 1000)

/-- Sets RAIL_STATE; a rail that leaves LOCKOUT ends its fault (R551). -/
def Core.railTo (c : Core) (n st : Nat) : Core :=
  let c := if c.reg (Reg.RAIL_STATE n) = 6 ∧ st ≠ 6 then c.clear Src.RAIL_LOCKOUT n 0 else c
  c.setReg (Reg.RAIL_STATE n) st

/-- Bit i of RAIL_FLAGS is set. -/
def Core.railFlag (c : Core) (n i : Nat) : Core := c.setReg (Reg.RAIL_FLAGS n) (setBit (c.reg (Reg.RAIL_FLAGS n)) i true)

/-- R547: the gate goes high and the rail enters INRUSH; a retry is counted (R551). W is a fiftieth of the RETRY_INTERVAL that the
last turn-off took (R560), or of the present one before any. -/
def Core.railOn (c : Core) (n : Nat) (retry : Bool) : Core :=
  let x := c.rail n
  let c := (c.railTo n 2).setRail n { x with gate := true, onAt := c.now, wrote := false, settle := none, good := none, warned := false, reached := false,
                                             inrush := 1000000 * c.reg (Reg.INRUSH_TIME n),
                                             window := (if x.interval = 0 then 1000000 * c.reg (Reg.RETRY_INTERVAL n)
                                                       else x.interval) / 50 }
  if retry then
    let k := min 255 (c.reg (Reg.RAIL_RETRIES n) + 1)
    ((c.setReg (Reg.RAIL_RETRIES n) k).inc (Reg.RAIL_CNT_RETRY n)).railEvent n 3 0 k
  else c.setReg (Reg.RAIL_RETRIES n) 0

/-- R550: what every trip does. -/
def Core.tripped (c : Core) (n cause : Nat) : Core :=
  let i := c.reg (Reg.RAIL_I_MA n)
  let c := ((((c.railOff n).setReg (Reg.LT_CAUSE n) cause).setReg (Reg.LT_MA n) i).setReg (Reg.LT_TICK n) c.tick)
  let c := ((c.inc (Reg.RAIL_CNT_TRIP n)).incIf (cause == 2) (Reg.RAIL_CNT_INSTANT n)).railFlag n 1
  (c.railEvent n 2 3 (cause + i * 2 ^ 16)).report Src.RAIL_TRIP n 0

/-- R550, R551: a trip leads to WAIT, or to LOCKOUT when the retries are used up. -/
def Core.railTrip (c : Core) (n cause : Nat) : Core :=
  let c := c.tripped n cause
  let r := c.reg (Reg.RETRY_COUNT n)
  if r = 255 ∨ c.reg (Reg.RAIL_RETRIES n) < r then c.setReg (Reg.RAIL_STATE n) 5 else (c.railLock n).flushLate 64

/-- R549, R552: the fault timer after a sample. Power-good that it has warned of ends when it stops with H back at 0 (log entry 44). -/
def Core.faultTimer (c : Core) (n : Nat) : Core :=
  let x := c.rail n
  let runs : Bool := Nat.blt 0 x.heat && Nat.ble (c.railI0 n) (c.reg (Reg.RAIL_I_MA n))
  let starts : Bool := runs && !x.timer
  let on : Bool := c.reg (Reg.RAIL_STATE n) == 4
  let c := c.setRail n { x with timer := runs, fresh := x.fresh || starts, warned := on && (x.warned || starts) }
  if starts && on then (c.railFlag n 0).railEvent n 5 3 (c.reg (Reg.RAIL_I_MA n))
  else if on && x.warned && !runs && x.heat == 0 then
    (c.setRail n { c.rail n with warned := false, settle := none, good := none }).setReg (Reg.RAIL_STATE n) 3
  else c

/-- R552: the settle condition, with `pg` the level of FLD_n_PG. -/
def Core.settleStep (c : Core) (n : Nat) (pg : Bool) : Core :=
  let x := c.rail n
  let holds : Bool := (pg || !bit (c.cfg (Reg.RAIL_CFG n)) 2) && Nat.blt (c.reg (Reg.RAIL_I_MA n)) (c.railI0 n)
  c.setRail n { x with settle := if holds then some (x.settle.getD c.now) else none }

/-- RAIL_SAMPLE: the 1 µs sample of rail n, its 12-bit code and the level of FLD_n_PG (R546 to R552). -/
def Core.railSample (c : Core) (n code : Nat) (pg : Bool) : Core :=
  if !c.up then c
  else
    let c := c.advanceTo ((c.rail n).sampled + 1000)
    let c := c.setRail n { c.rail n with sampled := c.now }
    let i := code * c.cfg (Reg.RAIL_FS_MA n) / 4096
    let c := c.setReg (Reg.RAIL_I_MA n) i
    let st := c.reg (Reg.RAIL_STATE n)
    if st = 2 then (if c.reg (Reg.INRUSH_TRIP n) ≤ i then c.railTrip n 3 else c)
    else
      let h := c.heatStep n (c.rail n).heat i
      let c := (c.setRail n { c.rail n with heat := min h (2 ^ 48 - 1) }).setReg (Reg.RAIL_HEAT n) (min (h / 2 ^ 25) 65535)
      let c := c.faultTimer n
      if (st = 3 ∨ st = 4) ∧ (code = 4095 ∨ c.reg (Reg.RAIL_INSTANT n) ≤ i) then c.railTrip n 2
      else if (st = 3 ∨ st = 4) ∧ 2 ^ 40 ≤ h then c.railTrip n 1
      else if st = 3 then c.settleStep n pg
      else c

/-- INRUSH_END: INRUSH_TIME since the gate went on (R547). -/
def Core.inrushEnd (c : Core) (n : Nat) : Core :=
  if !c.up || c.reg (Reg.RAIL_STATE n) != 2 then c
  else (c.advanceTo ((c.rail n).onAt + (c.rail n).inrush)).setReg (Reg.RAIL_STATE n) 3

/-- SETTLE_WINDOW_EXPIRY: W since the gate went on without power-good (R547, R551). -/
def Core.windowEnd (c : Core) (n : Nat) : Core :=
  if !c.up || c.reg (Reg.RAIL_STATE n) != 3 || (c.rail n).reached then c
  else (c.advanceTo ((c.rail n).onAt + (c.rail n).window)).railTrip n 4

/-- R552: at a strobe, power-good when the settle condition has held for 1 ms and no fault timer started in the tick. -/
def Core.railGood (c : Core) (n : Nat) : Core :=
  let x := c.rail n
  match x.settle with
  | none => c
  | some t =>
    if c.reg (Reg.RAIL_STATE n) ≠ 3 ∨ c.now < t + 1000000 then c
    else if x.fresh then c.setRail n { x with settle := none }
    else ((c.setRail n { x with good := some c.now, reached := true }).setReg (Reg.RAIL_STATE n) 4).railEvent n 1 0 (c.reg (Reg.RAIL_I_MA n))

/-- R33, R386: safe state acts on the rails. -/
def Core.safeActs (c : Core) : Bool := c.fc.safe && Nat.ble (c.fc.safeAt + 10) c.now

/-- R554, R555: the command of rail n at a strobe: its safe policy while safe state or the hold of outputs in CONFIG acts, where 1 keeps
the command that it had before; the level of the line it follows, from the strobe after the end of safe state; or RAIL_CMD. -/
def Core.railCommand (c : Core) (n : Nat) : Bool :=
  let now := c.reg (Reg.RAIL_CMD n) == 1
  if c.node.ioHold || c.safeActs then (match c.reg (Reg.RAIL_SAFE n) with
    | 0 => false
    | 1 => (c.rail n).kept
    | _ => true)
  else if c.reg (Reg.RAIL_FOLLOW n) = 0xFFFF ∨ c.pwr.followFrom = some c.now then now
  else c.followLevel (c.reg (Reg.RAIL_FOLLOW n))

/-- R555: the command that a rail follows is its RAIL_CMD, but for the hold of outputs in CONFIG, where RAIL_CMD keeps its
value (R643). -/
def Core.railFollows (c : Core) (n : Nat) (cmd : Bool) : Core :=
  if c.node.ioHold then c else c.setReg (Reg.RAIL_CMD n) (b2n cmd)

/-- R547: rail n obeys its command at a strobe. -/
def Core.railObey (c : Core) (n : Nat) (cmd : Bool) : Core :=
  let st := c.reg (Reg.RAIL_STATE n)
  let x := c.rail n
  if st = 0 ∨ 7 ≤ st then c
  else if !cmd then
    let c := if 2 ≤ st then ((c.railOff n).railTo n 1).setReg (Reg.RAIL_RETRIES n) 0 else c
    c.setRail n { c.rail n with wrote := false }
  else if c.pwr.dip.isSome then c
  else if st = 1 then c.railOn n false
  else if st = 6 ∧ x.wrote then c.railOn n false
  else if st = 5 ∧ x.offAt + x.interval ≤ c.now then c.railOn n true
  else c

/-- Rail n at a strobe (R33, R547, R552, R554, R555). Before CONFIG is first left every gate stays low; in CONTESTED no command
acts (R518). -/
def Core.railStrobe (c : Core) (n : Nat) : Core :=
  if !c.up || !c.disc.left then c
  else
    let c := c.railGood n
    let cmd := c.railCommand n
    let c := if c.disc.frozen then c else (c.railFollows n cmd).railObey n cmd
    let x := c.rail n
    c.setRail n { x with fresh := false, kept := if c.node.ioHold || c.safeActs || c.disc.frozen then x.kept else cmd }

/-- Every rail at a strobe. -/
def Core.railsStrobe (c : Core) : Core := (List.range 16).foldl (fun (c : Core) n => c.railStrobe n) c

/-- PG_LOST: FLD_n_PG low for 100 µs while ON, with RAIL_CFG[2] at 1 (R547). -/
def Core.pgLost (c : Core) (n : Nat) : Core :=
  if !c.up || c.reg (Reg.RAIL_STATE n) != 4 || !bit (c.cfg (Reg.RAIL_CFG n)) 2 then c else c.railTrip n 5

/-- The next strobe, or the present one where a strobe stands now. -/
def Core.toStrobe (c : Core) : Core := c.advanceSys ((c.sysNs + c.period - 1) / c.period * c.period)

/-- RETRY_INTERVAL_EXPIRY: RETRY_INTERVAL ends in WAIT, and the rail retries at the next strobe unless a dip episode holds it
(R534, R547, R551). -/
def Core.retryDue (c : Core) (n : Nat) : Core :=
  if !c.up || c.reg (Reg.RAIL_STATE n) != 5 then c
  else (c.advanceTo ((c.rail n).offAt + (c.rail n).interval)).toStrobe.railStrobe n

/-- RETRY_CLEAR_EXPIRY: the rail has held ON for RETRY_CLEAR (R551). -/
def Core.retryClear (c : Core) (n : Nat) : Core :=
  match (c.rail n).good with
  | none => c
  | some t =>
    if !c.up || c.reg (Reg.RAIL_STATE n) != 4 then c
    else (c.advanceTo (t + 1000000 * c.reg (Reg.RETRY_CLEAR n))).setReg (Reg.RAIL_RETRIES n) 0

/-- Presence is used on rail n: RAIL_CFG[1] in force (R545). -/
def Core.presUsed (c : Core) (n : Nat) : Bool := bit (c.cfg (Reg.RAIL_CFG n)) 1

/-- R553 step 1: the rail enters PULLED; a gate that was on counts as a trip of cause 6. -/
def Core.railPulled (c : Core) (n : Nat) : Core :=
  let st := c.reg (Reg.RAIL_STATE n)
  let c := if (c.rail n).gate then c.tripped n 6 else c
  (c.setRail n { c.rail n with away := some (c.now, st), settle := none, good := none }).setReg (Reg.RAIL_STATE n) 7

/-- PRESENCE_LOST: FLD_n_PRES_N goes high (R553). -/
def Core.presenceLost (c : Core) (n : Nat) : Core :=
  let c := c.setRail n { c.rail n with presHigh := true }
  let st := c.reg (Reg.RAIL_STATE n)
  if !c.up || !c.presUsed n || st == 0 || Nat.ble 7 st then c else c.railPulled n

/-- BOUNCE: FLD_n_PRES_N returns low within 50 ms, and the rail returns to WAIT (R553). -/
def Core.railBounce (c : Core) (n : Nat) : Core :=
  let x := c.rail n
  let c := c.setRail n { x with presHigh := false, away := none }
  match x.away with
  | none => c
  | some (t, st) =>
    if c.reg (Reg.RAIL_STATE n) ≠ 7 then c
    else
      let c := (if st = 6 then c.clear Src.RAIL_LOCKOUT n 0 else c).setReg (Reg.RAIL_STATE n) 5
      ((c.inc (Reg.RAIL_CNT_BOUNCE n)).railFlag n 2).railEvent n 6 2 ((c.now - t) / 1000000)

/-- ABSENT: an absence of 50 ms (R553). -/
def Core.railAbsent (c : Core) (n : Nat) : Core :=
  match (c.rail n).away with
  | none => c
  | some (t, _) =>
    if c.reg (Reg.RAIL_STATE n) ≠ 7 then c
    else
      let c := c.advanceTo (t + 50000000)
      let c := (c.setRail n { c.rail n with away := none }).clear Src.RAIL_LOCKOUT n 0
      (((c.setReg (Reg.RAIL_RETRIES n) 0).setReg (Reg.RAIL_STATE n) 8)).railEvent n 7 2 0

/-- INSERTED: FLD_n_PRES_N low for 50 ms at an ABSENT rail (R547, R553). -/
def Core.railInserted (c : Core) (n : Nat) : Core :=
  let c := c.setRail n { c.rail n with presHigh := false, away := none }
  if !c.up || c.reg (Reg.RAIL_STATE n) != 8 then c
  else
    let c := (c.setReg (Reg.RAIL_STATE n) 1).railEvent n 8 0 0
    if c.disc.left then c.railObey n (c.railCommand n) else c

/-- R547: at the exit from CONFIG a rail whose RAIL_CFG[0] is 0 is DISABLED; one whose board is away is PULLED. -/
def Core.railLeave (c : Core) : Core :=
  (List.range 16).foldl (fun (c : Core) n =>
    if !bit (c.cfg (Reg.RAIL_CFG n)) 0 then ((c.railOff n).railTo n 0).setRail n { (c.railOff n).rail n with away := none }
    else
      let c := if c.reg (Reg.RAIL_STATE n) = 0 then c.setReg (Reg.RAIL_STATE n) 1 else c
      let st := c.reg (Reg.RAIL_STATE n)
      if c.presUsed n && (c.rail n).presHigh && Nat.ble 1 st && Nat.ble st 6 then c.railPulled n else c) c

/-- R505, R556: FLD_n_GATE as driven: low at a unit that does not drive. -/
def Core.gatePin (c : Core) (n : Nat) : Bool := (c.rail n).gate && !c.disc.mute

/-- The gates of the 16 rails. -/
def Core.gates (c : Core) : Nat := (List.range 16).foldl (fun a n => if (c.rail n).gate then a + 2 ^ n else a) 0

/-- A write of RAIL_CMD takes effect at its strobe (R43, R547, R554): dropped while the rail follows a line, and in safe state, where
RAIL_SAFE gives the command (R555). -/
def Core.railWrite (c : Core) (n v : Nat) : Core :=
  if c.reg (Reg.RAIL_FOLLOW n) ≠ 0xFFFF ∨ c.safeActs then c
  else (c.setReg (Reg.RAIL_CMD n) v).setRail n { c.rail n with wrote := v == 1 && c.reg (Reg.RAIL_STATE n) == 6 }

/-! Checks of writes (R548, R551, R554). -/

/-- R548: RAIL_CURVE with this value of RAIL_INSTANT is in order. -/
def curveOk (b : Bytes) (instant : Nat) : Bool :=
  let i (k : Nat) : Nat := fieldAt b (6 * k) 2
  let t (k : Nat) : Nat := fieldAt b (6 * k + 2) 4
  Nat.ble 1 (i 0) && (List.range 7).all (fun k => Nat.blt (i k) (i (k + 1)) && Nat.ble (t (k + 1)) (t k))
    && (List.range 8).all (fun k => Nat.ble 10 (t k) && Nat.ble (t k) 100000000) && Nat.blt (i 7) instant

/-- R551: INRUSH_TIME + 1 ms is within W. -/
def inrushOk (time interval : Nat) : Bool := Nat.ble (50 * (time + 1)) interval

end Sys2Proof.Machine
end

