-- ==== Sys2Proof/Machine/Session.lean ====
section
/-! DEFINITION. Sessions, tokens, the lockout and the staging banks of the dictionary engine (R47 to R56, R71 to R80, R460). -/

namespace Sys2Proof.Machine

/-- The open session n. -/
def Core.session (c : Core) (n : Nat) : Option Session := (c.dict.sessions.find? (fun s => s.1 == n)).map (fun s => s.2)

/-- Replaces session n. -/
def Core.setSession (c : Core) (n : Nat) (x : Session) : Core :=
  { c with dict := { c.dict with sessions := c.dict.sessions.map (fun s => if s.1 = n then (n, x) else s) } }

/-- Key of the token of a level. -/
abbrev tokenKey (level : Nat) : Nat := (0x20F + level) * 256 + 1

/-- R49: the token of a level is set. -/
def Core.tokenSet (c : Core) (level : Nat) : Bool := (c.blob (tokenKey level)).any (fun b => b != 0)

/-! Staging banks and the end of a transfer (R71, R460). -/

/-- R460: the lowest-numbered idle bank of STAGE_SET. -/
def Core.idleStage (c : Core) : Option Nat :=
  (bitList 64 (c.cfg Reg.STAGE_SET)).find? (fun b => !c.dict.xfers.any (fun x => x.bank == b))

/-- R71, R460: a transfer begins; its bank goes to the dictionary engine by handover. What its owner's aborted transfers left no
longer answers ABORTED (R80); an abandoned one goes on answering TIMEOUT, but where this is a transfer of the same member (R78). -/
def Core.beginSeg (c : Core) (x : SegXfer) : Core :=
  let ended := c.dict.ended.filter (fun e => e.1 != x.owner || (e.2.2 && e.2.1 != x.key))
  let c := { c with dict := { c.dict with xfers := c.dict.xfers ++ [x], ended := ended } }
  (c.setReg (Reg.BANK_OWNER x.bank) 4).inc Reg.CNT_HANDOVER

/-- A transfer ends; its bank returns to management. -/
def Core.endSeg (c : Core) (x : SegXfer) : Core :=
  let c := { c with dict := { c.dict with xfers := c.dict.xfers.filter (fun y => y.owner != x.owner) } }
  (c.setReg (Reg.BANK_OWNER x.bank) 1).inc Reg.CNT_HANDOVER

/-- R78, R80: a transfer ends abandoned or aborted, and later segments of it are answered so. -/
def Core.breakSeg (c : Core) (x : SegXfer) (abandoned : Bool) : Core :=
  let c := c.endSeg x
  { c with dict := { c.dict with
      ended := (x.owner, x.key, abandoned) :: c.dict.ended.filter (fun e => !(e.1 == x.owner && e.2.1 == x.key)) } }

/-- The open transfer of an owner. -/
def Core.segOf (c : Core) (owner : Nat) : Option SegXfer := c.dict.xfers.find? (fun x => x.owner == owner)

/-! Opening and closing (R47 to R56). -/

/-- A session closes: its transfer ends, its replay store goes. -/
def Core.closeSession (c : Core) (n : Nat) : Core :=
  let c := match c.segOf n with
    | some x => c.endSeg x
    | none => c
  { c with dict := { c.dict with sessions := c.dict.sessions.filter (fun s => s.1 != n)
                                 ended := c.dict.ended.filter (fun e => e.1 != n) } }

/-- A session opens under number n. -/
def Core.openSession (c : Core) (n level src : Nat) : Core :=
  { c with dict := { c.dict with
      sessions := insertBy (fun (a b : Nat × Session) => Nat.blt a.1 b.1) (n, { level := level, src := src, lastReq := c.now })
        c.dict.sessions } }

/-- The numbers of sessions that are free. -/
def Core.freeNumbers (c : Core) : List Nat := ((List.range 32).map (fun i => i + 1)).filter (fun n => (c.session n).isNone)

/-- R54: sessions idle for longer than SESSION_IDLE close after a write of it. -/
def Core.closeIdle (c : Core) : Core :=
  let old := c.dict.sessions.filter (fun s => Nat.blt (c.reg Reg.SESSION_IDLE * 1000000000) (c.now - s.2.lastReq))
  old.foldl (fun (c : Core) s => c.closeSession s.1) c

/-- SESSION_IDLE_CLOSE: the session whose SESSION_IDLE ends first is closed. -/
def Core.sessionIdle (c : Core) : Core :=
  match sortBy (fun (a b : Nat × Session) => Nat.blt a.2.lastReq b.2.lastReq) c.dict.sessions with
  | [] => c
  | s :: _ => (c.advanceTo (s.2.lastReq + c.reg Reg.SESSION_IDLE * 1000000000)).closeSession s.1

/-- R50: a token write closes the sessions opened at its level, but for the writing session (0: none). -/
def Core.tokenWritten (c : Core) (level by_ : Nat) : Core :=
  (c.dict.sessions.filter (fun s => s.2.level == level && s.1 != by_)).foldl (fun (c : Core) s => c.closeSession s.1) c

/-- R49: the presented token opens the level. -/
def Core.tokenOpens (c : Core) (level : Nat) (token : Bytes) : Bool :=
  if c.tokenSet level then token == c.blob (tokenKey level)
  else c.modeCode == 3 && (c.reg Reg.LC_STATE == 0 || c.reg Reg.LC_STATE == 1)

/-- R56: an OPEN refused with TOKEN counts, and at OPEN_FAIL_LIMIT the lockout begins. -/
def Core.openFailed (c : Core) : Core :=
  let n := c.dict.fails + 1
  let c := { c with dict := { c.dict with fails := n } }
  if n < c.reg Reg.OPEN_FAIL_LIMIT then c
  else ({ c with dict := { c.dict with lockEnd := some (c.now + c.reg Reg.LOCKOUT_TIME * 1000000000) } }).raise
    Src.DICT_LOCKOUT noInst 0

/-- LOCKOUT_END: OPEN is served again and the count is 0 (R56). -/
def Core.lockoutEnd (c : Core) : Core :=
  match c.dict.lockEnd with
  | none => c
  | some t =>
    let c := c.advanceTo t
    ({ c with dict := { c.dict with lockEnd := none, fails := 0 } }).clear Src.DICT_LOCKOUT noInst 0

/-- R56: an OPEN is refused with LOCKOUT. -/
def Core.lockedOut (c : Core) : Bool := match c.dict.lockEnd with
  | some t => Nat.blt c.now t
  | none => false

/-- SEG_TIMEOUT_ABANDON: the transfer whose timeout ends first is abandoned (R78). -/
def Core.segTimeout (c : Core) : Core :=
  match sortBy (fun (a b : SegXfer) => Nat.blt (a.lastAt + a.timeout) (b.lastAt + b.timeout)) c.dict.xfers with
  | [] => c
  | x :: _ => ((c.advanceTo (x.lastAt + x.timeout)).breakSeg x true).inc Reg.STAT_SEG_ABANDON

/-- SESSION_n as it reads (R89). -/
def Core.sessionWord (c : Core) (n : Nat) : Nat := match c.session n with
  | none => 0
  | some s => 1 + s.level * 2 ^ 8 + s.src * 2 ^ 16 + min 0xFFFF ((c.now - s.lastReq) / 1000000000) * 2 ^ 32
      + b2n (c.segOf n).isSome * 2 ^ 48

end Sys2Proof.Machine
end

