-- ==== Sys2Proof/Machine/Twin.lean ====
section
/-! DEFINITION. The twin pair (chapter 15): link, life signs, pairing, snapshots, planned switchover and contest (R496 to R528).
What installs a snapshot or applies a journal record stands in Install. -/

namespace Sys2Proof.Machine

/-- A twin controller's event (R529). -/
def Core.twEvent (c : Core) (kind sev value : Nat) : Core := c.event 0xC01 kind sev value

/-- The pair runs: the unit is a member and BOOT has ended (R496, R501). -/
def Core.twOn (c : Core) : Bool := c.up && c.inPair

/-- The twin link is in service: TW_ENABLE is 1 (R501), and VDDA_SD out of its range puts it in DOWN (R531). -/
def Core.twLine (c : Core) : Bool := c.twRuns && !bit (c.reg Reg.SUPPLY_FLAGS) 0

/-- The peer's member record in the census table: another node with the own service address (R115). The service address must
differ from the peer's unit address too (R496). -/
def Core.peerMember (c : Core) : Option Member :=
  if !c.inPair then none
  else c.ring.home.table.find? (fun m => m.service == c.cfg Reg.TW_SERVICE_ADDR && m.addr != c.homeAddr && m.addr != m.service)

/-- R504: the period by which silence and the contest hold are judged, in ns. -/
def Core.twPeriod (c : Core) : Nat :=
  1000 * max (c.cfg Reg.HB_PERIOD) c.twin.peerPeriod

/-- R503: the witness port is JOINED and detects no link failure. -/
def Core.witnessOk (c : Core) : Bool := match c.witnessPort with
  | some p => c.joined p && !(c.port p).failing
  | none => false

/-- Bit i of TW_PATHS. -/
def Core.twPath (c : Core) (i : Nat) (b : Bool) : Core := c.setReg Reg.TW_PATHS (setBit (c.reg Reg.TW_PATHS) i b)

/-- TW_PATHS as read (R530): bits 0 and 2 are the present state of the wires and the witness. -/
def Core.twPaths (c : Core) : Nat :=
  let wires : Bool := !bit (c.reg Reg.TW_PATHS) 3 && (match c.twin.lastWire with
    | some t => Nat.ble c.now (t + 2 * c.twPeriod)
    | none => false)
  setBit (setBit (c.reg Reg.TW_PATHS) 0 (c.twOn && wires)) 2 (c.twOn && c.witnessOk)

/-- R504, R506, R507: the fault TW_CONFIG follows its causes. -/
def Core.twConfig (c : Core) : Core :=
  c.condition (bit (c.reg Reg.TW_PATHS) 5 || bit (c.reg Reg.TW_PATHS) 6 || c.twin.sessClash) Src.TW_CONFIG noInst 0

/-! Token and state (R505, R641). -/

/-- TW_STATE, TW_TOKEN and the base mode follow; a change of TW_STATE originates a census (R505). `mute` keeps the outputs
undriven. -/
def Core.setTw (c : Core) (st : Nat) (token mute : Bool) (trigger : Nat) : Core :=
  let was := c.reg Reg.TW_STATE
  let base := if c.node.base = 5 ∨ c.node.base = 6 then (if st = 2 then 6 else 5) else c.node.base
  let c := { c with node := { c.node with base := if st = 3 then c.node.base else base, contested := st == 3 }
                    disc := { c.disc with mute := mute } }
  let c := ((c.setReg Reg.TW_STATE st).setReg Reg.TW_TOKEN (b2n token)).refreshMode trigger
  if was = st then c else c.censusBoth 4

/-- LAST_SWITCH (R530). -/
def Core.lastSwitch (c : Core) (cause giver result : Nat) : Core :=
  (((c.setReg Reg.LS_CAUSE cause).setReg Reg.LS_TICK c.tick).setReg Reg.LS_FROM giver).setReg Reg.LS_RESULT result

/-- The snapshot timer starts with the token (R525). -/
def Core.snapTimer (c : Core) : Core :=
  { c with twin := { c.twin with snapNext := some (c.now + 1000000 * c.reg Reg.SNAP_PERIOD) } }

/-- The unit takes or keeps the token and is ACTIVE. -/
def Core.twActive (c : Core) (cause : Nat) (mute : Bool) (trigger : Nat) : Core :=
  let had := c.flag Reg.TW_TOKEN
  let giver := c.reg Reg.TW_PEER_ADDR
  let c := (c.setTw 1 true mute trigger).snapTimer
  let c := (c.setReg Reg.TW_READY 0)
  if had then c else (c.twEvent 1 2 cause).lastSwitch cause giver 0

/-- The unit gives up the token, or had none, and is STANDBY and not ready. -/
def Core.twStandby (c : Core) (cause : Nat) (trigger : Nat) : Core :=
  let had := c.flag Reg.TW_TOKEN
  let c := c.setTw 2 false true trigger
  let c := { c with twin := { c.twin with comm := none, pend := none, journal := [], seen := [], gap := false, snapNext := none,
                                          driveAt := none, thaw := false, low := c.reg Reg.JSEQ_LAST, quiet := false, held := [],
                                          awaiting := [], releaseEnd := none } }
  let c := ((c.setReg Reg.EPOCH_PENDING 0).setReg Reg.JOURNAL_USED 0).grantsGo
  if had then (c.twEvent 2 2 cause).lastSwitch cause c.homeAddr 0 else c

/-- R512: TW_READY follows, with its event; a standby in QUIESCENT is not ready (R640). -/
def Core.readyRefresh (c : Core) : Core :=
  let r : Bool := c.standby && c.twin.comm.isSome && !c.twin.gap && !c.node.quiescent
  if b2n r = c.reg Reg.TW_READY then c else (c.setReg Reg.TW_READY (b2n r)).twEvent 8 0 (b2n r)

/-! The link (R499, R500). -/

/-- The link is live again: the pairing hold counts on (R510). -/
def Core.linkUp (c : Core) : Core :=
  let c := { c with twin := { c.twin with linkLast := c.now } }
  if c.linkLive then c
  else
    let c := { c with twin := { c.twin with hold := c.twin.hold.map (fun (h : HeldOut) => { h with since := c.now }) } }
    (c.twPath 1 true).clear Src.TW_LINK_DOWN noInst 0

/-- R499: an acknowledgement frees the records up to it. An IMAGE that the standby acknowledges is the last agreed one of
the holder (R518). -/
def Core.laneAck (c : Core) (l ack : Nat) : Core :=
  let x := c.lane l
  match x.unacked.findIdx? (fun r => r.seq == ack) with
  | none => c
  | some i =>
    let gone := x.unacked.take (i + 1)
    let rest := x.unacked.drop (i + 1)
    let c := c.setLane l { x with unacked := rest, deadline := if rest.isEmpty then none else some (c.now + 10000) }
    let img := gone.filterMap (fun r => match r.body with
      | .image i => some i
      | _ => none)
    match img.getLast? with
    | some i => if c.flag Reg.TW_TOKEN then { c with twin := { c.twin with agreed := some i } } else c
    | none => c

/-- A record arrives on a lane (R499): true when it passes its CRC and is the next of its lane. -/
def Core.twRx (c : Core) (l seq ack : Nat) (h : TwHead) (b : TwBody) : Bool × Core :=
  if !c.twLine then (false, c)
  else if !h.good seq ack b then (false, c.inc Reg.CNT_LINK_BAD)
  else
    let c := c.linkUp.laneAck l ack
    let x := c.lane l
    let take : Bool := x.fresh || seq == (x.rxSeq + 1) % 65536
    (take, (c.setLane l (TwLane.pump c.now 32 (if take then { x with rxSeq := seq, fresh := false } else x))).grantsGo)

/-- TW_LINK_RETX: a record has gone 10 µs without acknowledgement; its lane resends from it (R499). -/
def Core.linkRetx (c : Core) (l : Nat) : Core :=
  match (c.lane l).deadline with
  | none => c
  | some t =>
    if !c.twLine then c
    else
      let c := c.advanceTo t
      let x := c.lane l
      (c.setLane l { x with deadline := some (c.now + 10000),
                            unacked := x.unacked.map (fun (r : TwRec) => { r with ack := x.rxSeq }) }).incBy
        Reg.CNT_LINK_RETX x.unacked.length

/-- R510: a single frame leaves with its number. -/
def Core.numbered (c : Core) (inp q : Nat) (f : Frame) : Core := c.originate inp ({ f with seq := q } : Frame).seal

/-- R510: while the link is not live the standby numbers its waiting frames from its own count. -/
def Core.numberOwn (c : Core) : Core :=
  let w := c.twin.waiting
  w.foldl (fun (c : Core) x =>
    let (q, c) := c.nextSeq x.2.2.okey x.2.2.cls x.2.2.stream
    c.numbered x.2.1 q x.2.2) { c with twin := { c.twin with waiting := [] } }

/-- The link stops being live (R500, R510, R516). -/
def Core.linkStops (c : Core) : Core :=
  let c := { c with twin := { c.twin with
    hold := c.twin.hold.map (fun (h : HeldOut) => { h with left := h.left - (c.now - h.since) })
    lanes := c.twin.lanes.map (fun (x : Nat × TwLane) => (x.1, { x.2 with fresh := true })) } }
  let c := ((c.twPath 1 false).inc Reg.CNT_LINK_DOWN).raise Src.TW_LINK_DOWN noInst 0
  (c.twAbandon 3 false).numberOwn.grantsGo

/-- TW_LINK_DOWN: no good record within 2 x HB_PERIOD (R500). -/
def Core.linkDown (c : Core) : Core :=
  if !c.twRuns || !c.linkLive then c else (c.advanceTo (c.twin.linkLast + 2000 * c.cfg Reg.HB_PERIOD)).linkStops

/-- SUPPLY_RANGE_CHANGE: with the ring ports, VDDA_SD out of its range takes the twin link down (R531). -/
def Core.supplyChange (c : Core) (meas out : Bool) : Core :=
  let c := c.supplyRange meas out
  if c.twRuns && c.linkLive && bit (c.reg Reg.SUPPLY_FLAGS) 0 then c.linkStops else c

/-! Life signs (R501 to R504). -/

/-- HEARTBEAT_TOGGLE (R501). -/
def Core.heartbeat (c : Core) : Core :=
  if !c.twRuns then c
  else
    let c := c.advanceTo c.twin.hbAt
    { c with twin := { c.twin with hb := some (!c.twin.hb.getD false), hbAt := c.now + 500 * c.cfg Reg.HB_PERIOD } }

/-- The members that the digest of R507 covers: RW and RWC, but for 0x1100-0x11FF and 0x8000-0x80FF. -/
def digestKey (k : Nat) : Bool :=
  let o := k / 256
  !(Nat.ble 0x1100 o && Nat.ble o 0x11FF) && !(Nat.ble 0x8000 o && Nat.ble o 0x80FF)
    && (match memberOf o (k % 256) with
      | some r => r.acc == .rw || r.acc == .rwc
      | none => false)

/-- R507: the digest of the pair configuration. -/
def Core.pairDigest (c : Core) : Nat :=
  Config.pairDigest (c.regs.filter (fun x => digestKey x.1)) (c.blobs.filter (fun x => digestKey x.1)) % 2 ^ 32

/-- STATUS_SEND (R500, R501). -/
def Core.statusSend (c : Core) : Core :=
  if !c.twRuns then c
  else
    let c := c.advanceTo c.twin.statusAt
    let c := { c with twin := { c.twin with statusAt := c.now + 1000 * c.cfg Reg.HB_PERIOD } }
    c.twSend 0 (.status { mode := c.modeCode, st := c.reg Reg.TW_STATE, rank := c.reg Reg.TW_RANK, token := c.flag Reg.TW_TOKEN,
                          period := c.cfg Reg.HB_PERIOD, epoch := c.reg Reg.EPOCH_COMMITTED, jseq := c.reg Reg.JSEQ_LAST,
                          digest := c.pairDigest })

/-- R522: both units act as ACTIVE; rank 1 releases every output. -/
def Core.dualActive (c : Core) : Core :=
  if c.reg Reg.TW_STATE = 1 ∧ c.twin.rank = 1 then (c.twStandby 5 10).readyRefresh else c

/-- HEARTBEAT_SIGN on the wires (R502). Two in a row from a peer that is not known and has sent no STATUS since it was last found
lost, or since the pair formed, mean to an ACTIVE unit that both act as ACTIVE (R522; log entry 50). -/
def Core.heartbeatSign (c : Core) : Core :=
  if !c.twRuns then c
  else
    let n := min 2 (c.twin.wireSigns + 1)
    let broken := bit (c.reg Reg.TW_PATHS) 3
    let c := { c with twin := { c.twin with wireSigns := n } }
    if broken && n < 2 then c
    else
      let c := if broken then (c.twPath 3 false).clear Src.TW_HB_WIRE noInst 0 else c
      let c := { c with twin := { c.twin with lastWire := some c.now, lastSign := c.now } }
      if n = 2 ∧ c.reg Reg.TW_PEER_ADDR = 0xFFFF ∧ !c.twin.heard then c.dualActive else c

/-- HB_WIRE_BROKEN: the two inputs stay equal for more than 2 µs (R502). -/
def Core.wireBroken (c : Core) : Core :=
  let c := if c.twRuns then { c with twin := { c.twin with wireSigns := 0 } } else c
  if !c.twRuns || bit (c.reg Reg.TW_PATHS) 3 then c
  else ((c.twPath 3 true).inc Reg.CNT_HB_WIRE).raise Src.TW_HB_WIRE noInst 0

/-- PEER_SILENCE: no sign for 2 x HB_PERIOD; the witness settle starts, and a switchover is abandoned (R503, R528). -/
def Core.peerSilence (c : Core) : Core :=
  let st := c.reg Reg.TW_STATE
  if !c.twOn || (c.reg Reg.TW_PEER_ADDR == 0xFFFF && !c.twin.heard) || c.twin.settleEnd.isSome || (st != 1 && st != 2) then c
  else
    let c := (c.advanceTo (c.twin.lastSign + 2 * c.twPeriod)).twAbandon 3 false
    { c with twin := { c.twin with settleEnd := some (c.now + 30000), witnessBad := !c.witnessOk, wireSigns := 0 } }

/-! STATUS (R504, R507, R511, R522). -/

/-- R511: the rank in force when both units report the same one: the lower DEVICE_UID acts as rank 0. -/
def Core.actRank (c : Core) : Nat :=
  match c.peerMember with
  | some m => if leVal (c.blob Reg.DEVICE_UID) < leVal m.uid then 0 else 1
  | none => c.twin.rank

/-- The peer is there (R511, R521): its address, its event; the occurrences of the pair's frames count from here. -/
def Core.peerSeen (c : Core) : Core :=
  if c.reg Reg.TW_PEER_ADDR ≠ 0xFFFF then c
  else match c.peerMember with
    | none => c
    | some m => ((({ c with twin := { c.twin with occs := [] } }.setReg Reg.TW_PEER_ADDR m.addr).twEvent 6 0 m.addr).clear Src.TW_PEER_LOST noInst 0)

/-- R504, R507, R511: what a STATUS says about periods, digests and ranks. -/
def Core.statusChecks (c : Core) (s : TwStatus) : Core :=
  let c := c.twPath 6 (s.period != c.cfg Reg.HB_PERIOD)
  let diffs := if s.digest = c.pairDigest then 0 else min 3 (c.twin.diffs + 1)
  let c := { c with twin := { c.twin with diffs := diffs } }
  let c := if diffs = 3 then c.twPath 5 true else if diffs = 0 then c.twPath 5 false else c
  let clash : Bool := s.rank == c.reg Reg.TW_RANK
  let c := (c.twPath 4 clash).condition clash Src.TW_RANK_CLASH noInst 0
  let c := if clash then { c with twin := { c.twin with rank := c.actRank } } else c
  c.twConfig

/-- R511: a forming unit hears its peer: ACTIVE, or STANDBY as a unit is that forms. A peer in CONFIG, with TW_STATE 0, is neither
(log entry 50). -/
def Core.formWith (c : Core) (s : TwStatus) : Core :=
  if c.twin.joinEnd.isNone then c
  else if s.st = 1 then { c with twin := { c.twin with joinEnd := none } }
  else if c.twin.rank = 0 ∧ s.st = 2 then
    ({ c with twin := { c.twin with joinEnd := none } }).twActive 0 false 10
  else c

/-- TW_STATUS: a STATUS record (R502, R504, R507, R511, R522, R525). One that passes its CRC is a sign, whatever its place in its
lane. -/
def Core.twStatus (c : Core) (seq ack : Nat) (h : TwHead) (s : TwStatus) : Core :=
  let (ok, c) := c.twRx 0 seq ack h (.status s)
  let c := if c.twLine && h.good seq ack (.status s) then { c with twin := { c.twin with lastSign := c.now } } else c
  if !ok then c
  else
    let alone : Bool := c.reg Reg.TW_PEER_ADDR == 0xFFFF
    let c := { c with twin := { c.twin with peer := some s, peerPeriod := s.period, heard := true } }
    let c := (c.peerSeen.statusChecks s)
    let c := if alone && c.reg Reg.TW_PEER_ADDR != 0xFFFF then
      { c with twin := { c.twin with low := 0, seen := [] } }.setReg Reg.JSEQ_LAST 0 else c
    let c := if c.flag Reg.TW_TOKEN then c.setReg Reg.EPOCH_COMMITTED s.epoch else c
    let forming := c.twin.joinEnd.isSome
    let c := c.formWith s
    if !forming && s.st == 1 && Nat.blt (c.twin.passAt + 2000) c.now then c.dualActive else c

/-- JOIN_WAIT_EXPIRY: no STATUS, or only those of a peer in CONFIG; the unit takes the token and is ACTIVE alone (R511). Rank 1
beside a peer that forms leaves the token to it. -/
def Core.joinWait (c : Core) : Core :=
  match c.twin.joinEnd with
  | none => c
  | some t =>
    if !c.twOn then c
    else
      let c := c.advanceTo t
      let c := { c with twin := { c.twin with joinEnd := none } }
      let other : Bool := c.twin.rank == 1 && (match c.twin.peer with
        | some s => s.st == 2
        | none => false)
      if other then c else ({ c with twin := { c.twin with wireSigns := 0 } }).twActive 0 false 10

/-- R496, R511: the unit leaves CONFIG with TW_ENABLE at 1: STANDBY, listening for JOIN_WAIT. -/
def Core.formPair (c : Core) : Core :=
  let peers : Bool := [0, 1].any (fun p => c.joined p && c.reg (Reg.RP_NEIGHBOUR p) == c.cfg Reg.TW_SERVICE_ADDR)
  let c := { c with twin := { c.twin with addrClash := peers } }
  if !c.inPair then
    (({ c with disc := { c.disc with mute := false } }).setReg Reg.TW_STATE 0).setReg Reg.TW_TOKEN 0
  else
    let c := { c with twin := { c.twin with joinEnd := some (c.now + 1000000 * c.cfg Reg.JOIN_WAIT), peer := none, low := 0,
                                            occs := [], heard := false } }
    (((c.setReg Reg.TW_PEER_ADDR 0xFFFF).setReg Reg.JSEQ_LAST 0).twStandby 0 10).readyRefresh

/-! Numbers (R509, R510). -/

/-- The standby's own count of a class and stream is set from a GRANT, never backwards (R509). -/
def Core.setCount (c : Core) (cls stream q : Nat) : Core :=
  let key := c.originKey
  let hit (x : Nat × Nat × Nat × Nat) : Bool := x.1 == key && x.2.1 == cls && x.2.2.1 == stream
  { c with fwd := { c.fwd with seqs := c.fwd.seqs.filter (fun x => !hit x) ++ [(key, cls, stream, q % 65536)] } }

/-- The OUT_SEQ of a route is set from a GRANT whose item the standby does not hold (R510). -/
def Core.setOutSeq (m : Memory) (c : Core) (g : TwGrant) : Memory :=
  c.store m (c.routeBase + g.key * 32 + 22) (leBytes 2 ((g.seq + 1) % 65536))

/-- R510, R528: the standby has produced the item of this GRANT already. -/
def Core.produced (c : Core) (g : TwGrant) : Bool :=
  c.twin.occs.any (fun x => x.1 == g.cls && x.2.1 == g.stream && x.2.2.1 == g.tick && Nat.ble g.occ x.2.2.2)

/-- GRANTs whose PAIR_WAIT has passed without an item set the count and are dropped (R510). -/
def Core.dropGrants (m : Memory) (c : Core) : Memory × Core :=
  let (old, young) := c.twin.grants.partition (fun g => Nat.ble g.2 c.now)
  (old.foldl (fun (m : Memory) g => Core.setOutSeq m c g.1) m,
    { c with twin := { c.twin with grants := young } })

/-- R506: an OPEN to the service address opens session n at the standby; a number that is taken raises TW_CONFIG. -/
def Core.takeNumber (c : Core) (n level src : Nat) : Core :=
  let clash := (c.session n).isSome
  let c := { c with twin := { c.twin with sessClash := clash } }
  (if clash then c else c.openSession n level src).twConfig

/-- R506: the session number that the holder's GRANT for the answer of an OPEN carries. -/
def Core.openByGrant (c : Core) (n : Nat) : Core :=
  match c.dict.opens with
  | [] => if (c.session n).isSome then c.takeNumber n 0 0 else { c with dict := { c.dict with numbers := c.dict.numbers ++ [n] } }
  | (level, src) :: rest => ({ c with dict := { c.dict with opens := rest } }).takeNumber n level src

/-- R510: an item whose PAIR_WAIT has ended goes before a GRANT that arrives now (R528). -/
def HeldOut.over (h : HeldOut) (now : Nat) : Bool := Nat.ble (h.since + h.left) now

/-- R510, R528: with the link live, the items of the hold whose PAIR_WAIT has ended are discarded. -/
def Core.dropHeld (c : Core) : Core :=
  if !c.linkLive then c
  else
    let (old, young) := c.twin.hold.partition (fun (h : HeldOut) => h.over c.now)
    ({ c with twin := { c.twin with hold := young } }).incBy Reg.CNT_PAIR_LATE old.length

/-- GRANT: sets the standby's counts and finds its item in the pairing hold (R509, R510). With no item there, the GRANT of one that was
produced only sets the count (R528); another waits for its item. -/
def Core.grantRx (m : Memory) (c : Core) (l seq ack : Nat) (h : TwHead) (g : TwGrant) : Memory × Core :=
  let (ok, c) := c.twRx l seq ack h (.grant g)
  if !ok || !(c.standby || !c.twin.hold.isEmpty) then (m, c)
  else if g.key = 0xFFFF then (m, c.setCount g.cls g.stream (g.seq + 1))
  else if g.cls = 4 then (m, (c.setCount 4 g.stream (g.seq + 1)).openByGrant g.key)
  else
    let (m, c) := Core.dropGrants m c.dropHeld
    match c.twin.hold.find? (fun h => g.names h.frame h.occ) with
    | some h => Core.pairMatch m { c with twin := { c.twin with hold := removeFirst h c.twin.hold } } h.route h.frame g
    | none =>
      if c.produced g then (Core.setOutSeq m c g, c)
      else
        let g' : TwGrant × Nat := (g, c.now + 1000 * c.reg Reg.PAIR_WAIT)
        (m, { c with twin := { c.twin with grants := c.twin.grants ++ [g'] } })

/-- The end of the PAIR_WAIT that ends first: of an item, while the link is live, or of a GRANT that waits for its item. -/
def Core.pairWaitEnd (c : Core) : Option Nat :=
  let items := if c.linkLive then c.twin.hold.map (fun (h : HeldOut) => h.since + h.left) else []
  (sortBy Nat.blt (items ++ c.twin.grants.map (fun g => g.2))).head?

/-- PAIR_WAIT_EXPIRY: the item whose PAIR_WAIT ends first is discarded while the link is live; a GRANT without an item sets the count
(R510). -/
def Core.pairWait (m : Memory) (c : Core) : Memory × Core :=
  match c.pairWaitEnd with
  | none => (m, c)
  | some t => if !c.twOn then (m, c) else Core.dropGrants m (c.advanceTo t).dropHeld

/-- NUMBER: a request of the standby is answered from the pair's count, or an answer numbers a waiting frame (R510). -/
def Core.numberRx (c : Core) (l seq ack : Nat) (h : TwHead) (answer : Bool) (id cls stream num : Nat) : Core :=
  let (ok, c) := c.twRx l seq ack h (.number answer id cls stream num)
  if !ok then c
  else if answer then
    match c.twin.waiting.find? (fun w => w.1 == id) with
    | none => c
    | some w =>
      ({ c with twin := { c.twin with waiting := c.twin.waiting.filter (fun x => x.1 != id) } }).numbered w.2.1 num w.2.2
  else if c.holder then
    let (q, c) := c.nextSeq c.originKey cls stream
    c.twSend l (.number true id cls stream q)
  else c

/-! Snapshots (R523, R525, R526). -/

/-- An entry of the schedule table (R269). -/
def SchedEntry.bytes (e : SchedEntry) : Bytes :=
  leBytes 6 e.target ++ [byteOf e.bank, byteOf e.mask, byteOf e.value] ++ zeros 7

/-- R523: the image as it stands. -/
def Core.pairImage (c : Core) : Bytes :=
  (List.range 1024).flatMap (fun r => let x := c.rule r; [byteOf (x.st + 8 * b2n x.stale)] ++ leBytes 3 x.run ++ [byteOf (b2n x.stale)] ++ zeros 3)
    ++ padTo 4096 (c.sched.table.flatMap SchedEntry.bytes)
    ++ (List.range 32).map (fun b => byteOf (c.reg (Reg.DISC_OUT b)))
    ++ (List.range 16).map (fun n => byteOf (c.reg (Reg.RAIL_CMD n))) ++ zeros 4048

/-- R525: the holder starts a snapshot epoch. -/
def Core.snapshot (c : Core) : Core :=
  let e := (c.reg Reg.EPOCH_COMMITTED + 1) % 2 ^ 32
  let j := c.reg Reg.JSEQ_LAST
  let t := c.nextTick % tickMod
  let c := { c with twin := { c.twin with snapTick := some t, snapJ := j, shot := none } }
  ((c.setReg Reg.EPOCH_PENDING e).snapTimer).twSend 0 (.mark e t j)

/-- SNAPSHOT_START: every SNAP_PERIOD (R525). -/
def Core.snapshotStart (c : Core) : Core :=
  match c.twin.snapNext with
  | none => c
  | some t => if c.twOn && c.holder then (c.advanceTo t).snapshot else c

/-- R525: at strobe T_E the image is captured; its chunks and the COMMIT follow. -/
def Core.capture (c : Core) (t : Nat) : Core :=
  if c.twin.snapTick ≠ some t then c
  else
    let img := c.pairImage
    let e := c.reg Reg.EPOCH_PENDING
    let c := { c with twin := { c.twin with snapTick := none, shot := some img } }
    ((List.range 4).foldl (fun (c : Core) i => c.twSend 0 (.chunk e i (slice img (4096 * i) 4096))) c).twSend 0
      (.commit e 4 (crc32c img))

/-- A record belongs to a snapshot. -/
def TwBody.isSnap : TwBody → Bool
  | .mark .. | .chunk .. | .commit .. => true
  | _ => false

/-- SNAPSHOT_SENT: every CHUNK and the COMMIT has been sent; a switchover that waits sends OFFER, which carries its cause in the
place of an instance (R514, R525). -/
def Core.snapshotSent (c : Core) : Core :=
  if !c.twOn || c.twin.shot.isNone || (c.lane 0).queue.any TwBody.isSnap then c
  else
    let c := ({ c with twin := { c.twin with shot := none } }).setReg Reg.EPOCH_PENDING 0
    if c.reg Reg.SWITCH_STATE = 1 then (c.setReg Reg.SWITCH_STATE 2).twSend 0 (.switch 1 c.tick 0 c.twin.cause) else c

/-- A pending shadow is discarded (R526). -/
def Core.dropShadow (c : Core) : Core :=
  if c.twin.pend.isNone then c
  else (({ c with twin := { c.twin with pend := none } }).setReg Reg.EPOCH_PENDING 0).inc Reg.CNT_SNAP_DISCARD

/-- MARK: a pending epoch starts at the standby (R525, R526). -/
def Core.markRx (c : Core) (seq ack : Nat) (h : TwHead) (e t j : Nat) : Core :=
  let (ok, c) := c.twRx 0 seq ack h (.mark e t j)
  if !ok || !c.standby then c
  else
    let c := c.dropShadow
    ({ c with twin := { c.twin with pend := some { epoch := e, j := j } } }).setReg Reg.EPOCH_PENDING e

/-- CHUNK: written into the pending shadow (R526). -/
def Core.chunkRx (c : Core) (seq ack : Nat) (h : TwHead) (e i : Nat) (data : Bytes) : Core :=
  let (ok, c) := c.twRx 0 seq ack h (.chunk e i data)
  match c.twin.pend with
  | some p =>
    if ok && c.standby && p.epoch == e && Nat.blt i 4 && data.length == 4096 then
      { c with twin := { c.twin with pend := some { p with chunks := mapSet [] i data p.chunks } } }
    else c
  | none => c

/-- The image of a shadow. -/
def Shadow.image (p : Shadow) : Bytes := p.chunks.flatMap (fun x => x.2)

/-- JOURNAL_USED: the bytes of the journal held. -/
def journalBytes (js : List JournalRec) : Nat := js.foldl (fun a x => a + 4 + 36 + x.frame.payload.length) 0

/-- The journal and JOURNAL_USED. -/
def Core.setJournal (c : Core) (js : List JournalRec) : Core :=
  ({ c with twin := { c.twin with journal := js } }).setReg Reg.JOURNAL_USED (journalBytes js)

/-- JSEQ a is ahead of b. -/
def jseqAhead (a b : Nat) : Bool := let d := (a + 2 ^ 32 - b) % 2 ^ 32; Nat.blt 0 d && Nat.blt d (2 ^ 31)

/-- The contiguous JSEQ rises over those received above it. -/
def jseqClose (low : Nat) : List Nat → Nat
  | [] => low
  | j :: js => if j = (low + 1) % 2 ^ 32 then jseqClose j js else low

/-- The JSEQ received above the contiguous ones, in order. -/
def jseqRest (low : Nat) (js : List Nat) : List Nat := js.filter (fun j => jseqAhead j low)

/-- R528: the takeover of R521 falls on this instant. -/
def Core.takeoverDue (c : Core) : Bool :=
  let at_ (t : Option Nat) : Bool := t.any (fun t => Nat.ble t c.now)
  (at_ c.twin.settleEnd && (c.twin.witnessBad || !c.witnessOk)) || (at_ c.twin.holdEnd && c.twin.rank == 1 && !c.witnessOk)

/-- COMMIT: the pending shadow becomes the committed one, or is discarded (R512, R526). -/
def Core.commitRx (c : Core) (seq ack : Nat) (h : TwHead) (e n crc : Nat) : Core :=
  let (ok, c) := c.twRx 0 seq ack h (.commit e n crc)
  if !ok || !c.standby then c
  else match c.twin.pend with
    | none => c
    | some p =>
      if p.epoch ≠ e ∨ c.takeoverDue ∨ n ≠ 4 ∨ p.chunks.length ≠ 4 ∨ crc32c p.image ≠ crc then c.dropShadow
      else
        let low := if jseqAhead p.j c.twin.low then p.j else c.twin.low
        let low := jseqClose low (jseqRest low c.twin.seen)
        let c := { c with twin := { c.twin with pend := none, comm := some p, gap := false, low := low,
                                                seen := jseqRest low c.twin.seen } }
        let c := c.setJournal (c.twin.journal.filter (fun x => jseqAhead x.jseq p.j))
        (((c.setReg Reg.EPOCH_PENDING 0).setReg Reg.EPOCH_COMMITTED e).inc Reg.CNT_SNAP_COMMIT).readyRefresh

/-- R512: the JSEQ of a record is entered. At most 3 x 32 records can be on the way in the three plane lanes, so a number missing
further back is a gap. -/
def Core.jseqIn (c : Core) (j : Nat) : Core :=
  let c := if jseqAhead j (c.reg Reg.JSEQ_LAST) then c.setReg Reg.JSEQ_LAST j else c
  let seen := insertBy Nat.blt j (jseqRest c.twin.low c.twin.seen)
  let low := jseqClose c.twin.low (jseqRest c.twin.low seen)
  let lost : Bool := jseqAhead j ((low + 96) % 2 ^ 32)
  let c := { c with twin := { c.twin with low := if lost then j else low, seen := if lost then [] else jseqRest low seen } }
  if lost then (({ c with twin := { c.twin with gap := true } }).twEvent 9 3 ((low + 1) % 2 ^ 32)).readyRefresh else c

/-- SENT: the standby drops its copy of a completed item (R515, R527): 1 a serial record, 2 a mailbox, 4 a scheduled entry, which
STREAM names by the low bits of its target. -/
def Core.sentRx (c : Core) (l seq ack : Nat) (h : TwHead) (j kind inst stream num : Nat) : Core :=
  let (ok, c) := c.twRx l seq ack h (.sent j kind inst stream num)
  if !ok || !(c.standby || c.reg Reg.TW_STATE == 1) then c
  else
    let c := if c.standby then c.jseqIn j else c
    if kind = 1 then
      let x := c.chan inst
      let keep (t : TxRec) : Bool := !(t.stream == stream && t.seq == num)
      c.setChan inst { x with staging := x.staging.filter (fun f => !(f.stream == stream && f.seq == num)),
                              txFill := x.txFill.filter keep,
                              txDrain := if x.busy then x.txDrain else x.txDrain.filter keep }
    else if kind = 2 then
      let hit (b : Nat × Mailbox) : Bool := b.2.state == 1 && b.2.stream == stream && b.2.seq == num
      (((c.can inst).boxes.filter hit).map (fun b => b.1)).foldl (fun (c : Core) m => c.setBox inst m {}) c
    else if kind = 4 then
      c.setSched (c.sched.table.filter (fun e => !(e.bank == inst && e.target % 65536 == stream)))
    else c

/-! Planned switchover (R513 to R517). -/

/-- The holder knows a standby that is ready and not in safe state (R513). -/
def Core.peerReady (c : Core) : Bool := match c.twin.peer with
  | some s => s.st == 2 && s.epoch != 0 && s.mode != 10
  | none => false

/-- R513: the holder offers the token for a cause; 0, REFUSED (0x11) or BUSY (0x0C). -/
def Core.twOffer (c : Core) (cause : Nat) : Nat × Core :=
  if !c.twOn || c.reg Reg.TW_STATE != 1 then (0x11, c)
  else if c.reg Reg.SWITCH_STATE != 0 || c.twin.strobeT.isSome || c.twin.releaseEnd.isSome then (0x0C, c)
  else if !c.linkLive || !c.peerReady || !c.holder || bit (c.reg Reg.TW_PATHS) 5 || bit (c.reg Reg.TW_PATHS) 6 then
    (0x11, ((c.inc Reg.CNT_SWITCH_FAIL).lastSwitch cause 0xFFFF 1).twEvent 7 3 1)
  else (0, (({ c with twin := { c.twin with cause := cause } }).setReg Reg.SWITCH_STATE 1).snapshot)

/-- TW_CMD: 1 offers the token, 2 starts a snapshot; RANGE (0x0B) else (R513, R525, R530). -/
def Core.twCmd (c : Core) (v : Nat) : Nat × Core :=
  if v = 1 then c.twOffer 1
  else if v = 2 then (if c.twOn && c.holder then (0, c.snapshot) else (0x11, c))
  else (0x0B, c)

/-- POWER_DEGRADED: declared after 20 ms; the holder offers the token (R513, R536). -/
def Core.powerDegraded (c : Core) : Core :=
  let (new, c) := c.declareDegraded
  if new && c.holder then (c.twOffer 2).2 else c

/-- Every instance that passes on its own (R515): channels, controllers, engines. -/
def twInstances : List (Nat × Nat) :=
  (List.range 128).map (fun n => (1, n)) ++ (List.range 32).map (fun n => (2, n)) ++ (List.range 64).map (fun n => (3, n))

/-- ACCEPT: the holder learns T (R514). -/
def Core.acceptRx (c : Core) (seq ack : Nat) (h : TwHead) (t : Nat) : Core :=
  let (ok, c) := c.twRx 0 seq ack h (.switch 2 t 0 0)
  if ok && c.holder && c.reg Reg.SWITCH_STATE == 2 then { c with twin := { c.twin with strobeT := some t } } else c

/-- TW_ABORT (R516). -/
def Core.abortRx (c : Core) (seq ack : Nat) (h : TwHead) : Core :=
  let (ok, c) := c.twRx 0 seq ack h (.switch 4 h.tick 0 0)
  if ok then c.twAbandon (if c.reg Reg.SWITCH_STATE = 2 ∧ c.twin.strobeT.isNone then 1 else 2) false else c

/-- The output image of this unit for tick t (R514). -/
def Core.outImage (c : Core) (t : Nat) : OutImage :=
  { tick := t, rails := c.gates,
    lines := (List.range 32).foldl (fun a b => a + Nat.land (c.reg (Reg.DISC_PIN b)) (c.bankDir b) * 2 ^ (8 * b)) 0 }

/-- R516: two images for one strobe differ. -/
def Core.imageDiff (c : Core) (i : OutImage) (others : List OutImage) : Core :=
  if others.any (fun o => o.tick == i.tick && !(o == i)) then (c.inc Reg.CNT_IMAGE_DIFF).twAbandon 2 true else c

/-- R514: the unit sends its image for strobe t, once. -/
def Core.sendImage (c : Core) (t : Nat) : Core :=
  if c.twin.sent.any (fun i => i.tick == t) then c
  else
    let i := c.outImage t
    let c := ({ c with twin := { c.twin with sent := c.twin.sent ++ [i] } }).twSend 0 (.image i)
    c.imageDiff i c.twin.got

/-- TW_IMAGE: the peer's image is compared with the own (R516, R518). -/
def Core.imageRx (c : Core) (seq ack : Nat) (h : TwHead) (i : OutImage) : Core :=
  let (ok, c) := c.twRx 0 seq ack h (.image i)
  if !ok then c
  else
    let c := if c.standby then { c with twin := { c.twin with agreed := some i } } else c
    let c := { c with twin := { c.twin with got := c.twin.got ++ [i] } }
    c.imageDiff i c.twin.sent

/-- R514, strobe T: the holder starts nothing new; the standby drives discrete lines and rails as well. -/
def Core.atT (c : Core) : Core :=
  let c := { c with twin := { c.twin with strobeAt := some c.now } }
  let c := if c.standby then { c with disc := { c.disc with mute := false } } else { c with twin := { c.twin with quiet := true } }
  c.setReg Reg.SWITCH_STATE 3

/-- The record, frame or pass under way at an instance; a CAN frame ends with its intermission (R515). -/
def Core.underWay (c : Core) (kind n : Nat) : Bool :=
  if kind = 1 then (c.chan n).busy
  else if kind = 2 then (c.can n).started
  else c.passRuns n

/-- R515: an instance leaves the former holder, which says so. A mailbox selected for a frame that has not begun waits again. -/
def Core.releaseOne (c : Core) (kind n : Nat) : Core :=
  let c := match kind, (c.can n).active with
    | 2, some m => (c.boxState n m 1).setCan n { (c.boxState n m 1).can n with active := none, lateAbort := false }
    | _, _ => c
  let left := c.twin.held.filter (fun x => !(x == (kind, n)))
  let c := { c with twin := { c.twin with
    held := left, quiet := c.twin.quiet && !left.isEmpty,
    releaseEnd := if left.isEmpty then none else c.twin.releaseEnd } }
  c.twSend 0 (.switch 3 c.tick kind n)

/-- R515: what has nothing under way at strobe T + 2 is released then, the controllers in their intermission excepted. -/
def Core.releaseIdle (c : Core) : Core :=
  (c.twin.held.filter (fun x => !c.underWay x.1 x.2 && !(x.1 == 2 && Nat.blt c.now (c.can x.2).idleAt))).foldl
    (fun (c : Core) x => c.releaseOne x.1 x.2) c

/-- R514, R515, strobe T + 2: the token passes; instances pass one at a time. -/
def Core.passToken (c : Core) : Core :=
  let cause := c.twin.cause
  let takes := c.standby
  let c := { c with twin := { c.twin with strobeT := none, sent := [], got := [], passAt := c.now, applying := false } }
  let c := (c.setReg Reg.SWITCH_STATE 0).inc Reg.CNT_SWITCH
  if takes then
    let c := c.twActive cause false 10
    { c with twin := { c.twin with awaiting := twInstances, quiet := false } }
  else
    let c := (c.twStandby cause 10).readyRefresh
    { c with twin := { c.twin with
        held := twInstances, quiet := true, releaseEnd := some (c.twin.strobeAt.getD (c.now - 2 * c.period) + 2000000000) } }.releaseIdle

/-- R518, R519: CONTESTED ends. -/
def Core.contestOver (c : Core) : Core :=
  ({ c with twin := { c.twin with holdEnd := none }, node := { c.node with contested := false } }).clear Src.TW_CONTESTED noInst 0

/-- R642: a unit in CONFIG takes no part in its pair: what it held or awaited of the pair is given up (log entry 50). -/
def Core.leavePair (c : Core) : Core :=
  if c.reg Reg.TW_STATE = 0 then c
  else
    let c := if c.node.contested then c.contestOver else c
    let c := ((c.twStandby 3 7).readyRefresh).setTw 0 false true 7
    { c with disc := { c.disc with frozen := false }
             twin := { c.twin with joinEnd := none, settleEnd := none, takeAt := none, safeAt := none } }

/-- R517: the strobe of a safe release or of its taking. -/
def Core.safeStrobe (c : Core) (t : Nat) : Core :=
  if c.twin.safeAt = some t then
    let c := { c with twin := { c.twin with safeAt := none, passAt := c.now } }
    let c := c.twStandby 3 10
    if c.operating then c.readyRefresh else c.leavePair
  else if c.twin.takeAt = some t then
    let c := { c with twin := { c.twin with takeAt := none, passAt := c.now } }
    if c.standby then c.twActive 3 false 10 else c
  else c

/-- R518: the holder drives the lines and rails of the last agreed image. -/
def Core.driveImage (c : Core) (i : OutImage) : Core :=
  let c := (List.range 32).foldl (fun (c : Core) b =>
    c.setReg (Reg.DISC_PIN b) (Nat.land (i.lines / 2 ^ (8 * b) % 256) (c.bankDir b))) c
  (List.range 16).foldl (fun (c : Core) n => c.railObey n (bit i.rails n)) c

/-- R519, R521: a new or returning holder drives from its strobe; out of a contest at that strobe the frozen image, and live from the
next. -/
def Core.driveStrobe (c : Core) : Core :=
  match c.twin.driveAt with
  | some d =>
    if c.now < d then c
    else if c.twin.thaw then
      let c := { c with twin := { c.twin with driveAt := none }, disc := { c.disc with mute := false } }
      match c.twin.agreed with
      | some i => c.driveImage i
      | none => c
    else { c with twin := { c.twin with driveAt := none }, disc := { c.disc with mute := false, frozen := false } }
  | none =>
    if c.twin.thaw then { c with twin := { c.twin with thaw := false }, disc := { c.disc with frozen := false } } else c

/-- The pair at strobe t, before the outputs change (R514, R517, R519, R521). -/
def Core.twStrobe (c : Core) (t : Nat) : Core :=
  let c := c.safeStrobe t
  let c := match c.twin.strobeT with
    | some s =>
      if t = s ∧ c.reg Reg.SWITCH_STATE ≠ 3 then c.atT
      else if t = (s + 2) % tickMod then c.passToken else c
    | none => c
  c.driveStrobe

/-- The pair at strobe t, after the outputs have changed: the snapshot of T_E, IMAGE for T and T + 1 (R514, R525). -/
def Core.twImages (c : Core) (t : Nat) : Core :=
  let c := c.capture t
  match c.twin.strobeT with
  | some s => if t = s ∨ t = (s + 1) % tickMod then c.sendImage t else c
  | none => c

/-- SWITCH_STROBE_T (R514). -/
def Core.switchStrobe (c : Core) : Core :=
  match c.twin.strobeT with
  | some t =>
    if c.reg Reg.SWITCH_STATE = 3 ∨ ¬ c.twOn then c
    else
      let c := (c.advanceTick t).atT
      ((List.range 32).foldl (fun (c : Core) b => c.bankDrive b) c).sendImage t
  | none => c

/-- TOKEN_PASS: strobe T + 2 (R514, R516). -/
def Core.tokenPass (c : Core) : Core :=
  match c.twin.strobeT with
  | some t => if c.reg Reg.SWITCH_STATE ≠ 3 ∨ ¬ c.twOn then c else (c.advanceTick ((t + 2) % tickMod)).passToken
  | none => c

/-- SAFE_TOKEN_RELEASE: the first strobe 20 µs after the holder's safe entry (R517). -/
def Core.safeRelease (c : Core) : Core :=
  match c.twin.safeAt with
  | some t => if c.twOn then (c.advanceTick t).safeStrobe t else c
  | none => c

/-- INSTANCE_RELEASE: the record, frame or pass under way has ended, and after a CAN frame its intermission (R515). -/
def Core.instanceRelease (c : Core) (kind n : Nat) : Core :=
  if !c.twin.held.contains (kind, n) || c.underWay kind n then c
  else (if kind = 2 then c.advanceTo (c.can n).idleAt else c).releaseOne kind n

/-- The record or frame under way at an instance is cut (R515). -/
def Core.cutInstance (c : Core) (kind n : Nat) : Core :=
  if kind = 1 ∧ (c.chan n).busy then
    let x := c.chan n
    (c.inc (Reg.CH_CNT_TX_DROP n)).setChan n { x with txDrain := x.txDrain.drop 1, busy := false, de := false, cs := false }
  else if kind = 2 then (match (c.can n).active with
    | some m => c.endAttempt n m 4
    | none => c)
  else c

/-- INSTANCE_RELEASE_TIMEOUT: 2 s after strobe T (R515). -/
def Core.releaseTimeout (c : Core) : Core :=
  match c.twin.releaseEnd with
  | none => c
  | some t =>
    let c := c.advanceTo t
    c.twin.held.foldl (fun (c : Core) x => (c.cutInstance x.1 x.2).releaseOne x.1 x.2) c

/-- RELEASED: the new holder drives the instance from now; for all outputs, the standby takes the token at the strobe named
(R515, R517). -/
def Core.releasedRx (c : Core) (seq ack : Nat) (h : TwHead) (t kind inst : Nat) : Core :=
  let (ok, c) := c.twRx 0 seq ack h (.switch 3 t kind inst)
  if !ok then c
  else if kind = 0 then (if c.standby && !c.fc.safe then { c with twin := { c.twin with takeAt := some t } } else c)
  else { c with twin := { c.twin with awaiting := c.twin.awaiting.filter (fun x => !(x == (kind, inst))) } }

/-! The contest and a lost peer (R518 to R521). -/

/-- The lines and rails of an image are loaded into the output registers. -/
def Core.loadImage (c : Core) (i : OutImage) : Core :=
  let c := (List.range 32).foldl (fun (c : Core) b => c.setOut b (c.bankDir b) (i.lines / 2 ^ (8 * b) % 256)) c
  (List.range 16).foldl (fun (c : Core) n => c.setReg (Reg.RAIL_CMD n) (b2n (bit i.rails n))) c

/-- R518: the unit enters CONTESTED with its outputs frozen at the last agreed image. -/
def Core.contest (c : Core) : Core :=
  let holds := c.flag Reg.TW_TOKEN
  let c := match c.twin.agreed with
    | some i => if holds then c.driveImage i else c.loadImage i
    | none => c
  let c := { c with disc := { c.disc with frozen := true }
                    twin := { c.twin with holdEnd := some (c.now + c.twPeriod), driveAt := none, thaw := false } }
  let c := (c.inc Reg.CNT_CONTEST).setTw 3 holds c.disc.mute 11
  ((c.twEvent 3 3 c.twin.rank).raise Src.TW_CONTESTED noInst 0).readyRefresh

/-- R521: the peer is gone. -/
def Core.peerGone (c : Core) : Core :=
  let a := c.reg Reg.TW_PEER_ADDR
  let c := { c with twin := { c.twin with
    lanes := c.twin.lanes.map (fun (x : Nat × TwLane) => (x.1, { x.2 with queue := [], unacked := [], deadline := none })),
    heard := false } }
  (((c.setReg Reg.TW_PEER_ADDR 0xFFFF).grantsGo.twEvent 5 3 a).raise Src.TW_PEER_LOST noInst 0)

/-- R519: rank 0 takes or keeps the token and drives from the first strobe at least 40 µs later. -/
def Core.contestKeep (c : Core) : Core :=
  let c := { c with twin := { c.twin with driveAt := some (c.now + 40000), thaw := true, awaiting := [] } }
  (c.twEvent 4 2 1).twActive 5 c.disc.mute 11

/-- R519: rank 1 releases every output at once. -/
def Core.contestYield (c : Core) : Core :=
  let c := { c with disc := { c.disc with frozen := false } }
  ((c.twEvent 4 2 0).twStandby 5 11).readyRefresh

end Sys2Proof.Machine
end

