-- ==== Sys2Proof/Machine/Manage.lean ====
section
/-! DEFINITION. Management (chapter 18): Heather restarts, firmware slots, trials, sensors, logs and life-cycle states. -/

namespace Sys2Proof.Machine

/-! Fault sources of management (R632). -/

/-- Numbers of the management sources (R632). -/
abbrev Src.HEATHER_WDT : Nat := 0x180
abbrev Src.HEATHER_ECC_CORR : Nat := 0x181
abbrev Src.HEATHER_ECC_UNCORR : Nat := 0x182
abbrev Src.TEMP_WARN : Nat := 0x183
abbrev Src.TEMP_CRIT : Nat := 0x184
abbrev Src.VMON_RANGE : Nat := 0x185
abbrev Src.FLASH_ERROR : Nat := 0x187
abbrev Src.UPDATE_REFUSED : Nat := 0x189
abbrev Src.TRIAL_REVERT : Nat := 0x18A
abbrev Src.ST_FAIL : Nat := 0x18B
abbrev Src.ST_SKIPPED : Nat := 0x18C
abbrev Src.LIFECYCLE : Nat := 0x18D

/-! Slots and images (R609, R612 to R614). -/

/-- Slot k: 0 for A, 1 for B. -/
def Core.slot (c : Core) (k : Nat) : Slot := if k = 0 then c.mgmt.slotA else c.mgmt.slotB

/-- Replaces slot k. -/
def Core.setSlot (c : Core) (k : Nat) (x : Slot) : Core :=
  { c with mgmt := if k = 0 then { c.mgmt with slotA := x } else { c.mgmt with slotB := x } }

/-- The state of slot k (R635). -/
def slotStateReg (k : Nat) : Nat := if k = 0 then Reg.SLOT_STATE_A else Reg.SLOT_STATE_B

/-- The version of slot k. -/
def slotVerReg (k : Nat) : Nat := if k = 0 then Reg.FW_VERSION_A else Reg.FW_VERSION_B

/-- SLOT_STATE of slot k. -/
def Core.slotState (c : Core) (k : Nat) : Nat := c.reg (slotStateReg k)

/-- Sets SLOT_STATE of slot k. -/
def Core.setSlotState (c : Core) (k v : Nat) : Core := c.setReg (slotStateReg k) v

/-- The slot that is not running; slot A for the recovery loader (R621). -/
def Core.idleSlot (c : Core) : Nat := if c.reg Reg.FW_RUNNING = 0 then 1 else 0

/-- R615: bytes of a chunk. -/
def chunkBytes : Nat := 1008

/-- R616: chunks of an image of n bytes. -/
def chunksOf (n : Nat) : Nat := (n + chunkBytes - 1) / chunkBytes

/-- n bytes of a slot from offset o; flash that nothing has been programmed into reads 0xFF. -/
def Slot.bytes (x : Slot) (o n : Nat) : Bytes :=
  (List.range n).map (fun i =>
    let a := o + i
    (mapGet [] (a / chunkBytes) x.chunks : Bytes).getD (a % chunkBytes) 0xFF)

/-- The header of the image in a slot. -/
def Slot.header (x : Slot) : Bytes := x.bytes 0 256

/-- R610: key 1 is accepted in MANUFACTURE and RETURNED. -/
def Core.keyOneOk (c : Core) : Bool := c.reg Reg.LC_STATE == 0 || c.reg Reg.LC_STATE == 3

/-- R613: the header checks, codes 1 to 5. -/
def Core.headerResult (c : Core) (h : Bytes) : Nat :=
  let zero (o n : Nat) : Bool := (slice h o n).all (fun b => b == 0)
  let body := fieldAt h 16 4
  let code := fieldAt h 20 4
  if slice h 0 4 ≠ [0x56, 0x58, 0x46, 0x57] ∨ fieldAt h 4 2 ≠ 1
      ∨ (zero 14 2 && zero 24 40 && zero 192 64) = false then 1
  else if fieldAt h 6 2 ≠ 0x1280 then 2
  else if body = 0 ∨ 12582656 < body ∨ code = 0 ∨ 262144 < code ∨ body < code then 3
  else if fieldAt h 12 1 < c.reg Reg.ROLLBACK_FUSE then 4
  else if 1 < fieldAt h 13 1 ∨ (fieldAt h 13 1 = 1 ∧ c.keyOneOk = false) then 5
  else 0

/-- R613: codes 6 and 7, over the bytes that a slot holds. -/
def Slot.imageResult (x : Slot) : Nat :=
  let h := x.header
  if sha512 (x.bytes 256 (fieldAt h 16 4)) ≠ slice h 64 64 then 6
  else if Config.ed25519Verify (fieldAt h 13 1) (slice h 0 128) (slice h 128 64) = false then 7
  else 0

/-- R613: every check of the image in a slot. -/
def Core.imageResult (c : Core) (x : Slot) : Nat :=
  let r := c.headerResult x.header
  if r ≠ 0 then r else x.imageResult

/-- R613, R614: the ROM starts slot k. The image that the part is shipped with passes (log entry 9). -/
def Core.romPass (c : Core) (k : Nat) : Bool :=
  let x := c.slot k
  (x.factory && c.reg Reg.ROLLBACK_FUSE == 0)
    || ([3, 5, 6, 7, 8].contains (c.slotState k) && !x.factory && Nat.ble (c.reg Reg.ROLLBACK_FUSE) (fieldAt x.header 12 1)
      && x.imageResult == 0)

/-- R605 kind 5: an update's log entry; actions 1 checked, 2 activated, 3 confirmed, 4 reverted. -/
def Core.updNote (c : Core) (action k result : Nat) : Core :=
  let h := (c.slot k).header
  let known : Bool := !(c.slot k).factory
  c.logNote 5 ([byteOf action, byteOf k, byteOf result, 0] ++ (if known then slice h 8 4 else leBytes 4 (c.reg (slotVerReg k)))
    ++ [if known then h.getD 12 0 else 0])

/-! Heather restarts (R597 to R599). -/

/-- A Heather restart begins; causes of R605 kind 8. A transfer goes on only when a BEGIN resumes it (R617). -/
def Core.restartHeather (c : Core) (cause : Nat) : Core :=
  let c := { c with node := { c.node with heatherEnd := some (c.now + 5000000000) }
                    mgmt := { c.mgmt with restart := cause,
                                          xfer := c.mgmt.xfer.map (fun (x : UpdXfer) => { x with live := false }),
                                          mapDue := false } }
  (c.setReg Reg.HEATHER_STATE 1).logNote 8 [byteOf cause]

/-- R534: the boot record is to hold that this trial has ended; in a dip episode that waits, and a reset before finds the trial open. -/
def Core.recordEnd (c : Core) (t : Trial) : Core :=
  if c.pwr.dip.isSome then { c with mgmt := { c.mgmt with recordDue := some t } } else c

/-- R621: the trial ends in a revert: the previous slot is the one to start. -/
def Core.closeTrial (c : Core) (t : Trial) : Core :=
  let c := { c with mgmt := { c.mgmt with trial := none, boot := t.prev, activate := false } }
  let c := ((c.setSlotState t.slot 8).setReg Reg.CONFIRM_LEFT 0).inc Reg.CNT_REVERT
  ((c.recordEnd t).updNote 4 t.slot 0).report Src.TRIAL_REVERT t.slot 0

/-- A restart that is no activation: it reverts an open trial, and the node is then in UPDATE (R621). -/
def Core.restartFor (c : Core) (cause : Nat) : Core :=
  match c.mgmt.trial with
  | none => c.restartHeather cause
  | some t =>
    let c := (c.closeTrial t).restartHeather cause
    { c with node := { c.node with updating := true } }.refreshMode 15

/-- HEATHER_WDT (R598). -/
def Core.heatherWdt (c : Core) : Core :=
  if !c.firmware then c else ((c.inc Reg.CNT_WDT).report Src.HEATHER_WDT noInst 0).restartFor 1

/-- HEATHER_ECC_CORR: inst 0 for instruction memory, 1 for data memory (R597). -/
def Core.heatherCorr (c : Core) (inst : Nat) : Core :=
  if !c.firmware then c else (c.inc Reg.CNT_HTR_CORR).report Src.HEATHER_ECC_CORR inst 0

/-- HEATHER_ECC_UNCORR (R597). -/
def Core.heatherUncorr (c : Core) (inst : Nat) : Core :=
  if !c.firmware then c else ((c.inc Reg.CNT_HTR_UNCORR).report Src.HEATHER_ECC_UNCORR inst 0).restartFor 2

/-- The ROM starts the slot of the boot record, else the other, else the recovery loader (R613, R621, R650). -/
def Core.romStart (c : Core) : Core :=
  let k := c.mgmt.boot
  if c.romPass k then
    let c := c.setReg Reg.FW_RUNNING k
    let c := if c.mgmt.trial.isSome then c else c.setSlotState k 5
    c.setReg Reg.HEATHER_STATE 0
  else
    let c := match c.mgmt.trial with
      | some t => c.closeTrial t
      | none => { c with mgmt := { c.mgmt with boot := 1 - k } }
    if c.romPass (1 - k) then ((c.setReg Reg.FW_RUNNING (1 - k)).setSlotState (1 - k) 5).setReg Reg.HEATHER_STATE 0
    else (c.setReg Reg.FW_RUNNING 0xFF).setReg Reg.HEATHER_STATE 2

/-- Entries that waited for the firmware are written. -/
def Core.logFlush (c : Core) : Core :=
  if !c.firmware then c
  else
    let rs := c.log.held
    rs.foldl (fun (c : Core) (r : LogRec) => c.logWrite r) { c with log := { c.log with held := [] } }

/-- CONFIRM_LEFT as it reads now: whole seconds left (R620). -/
def Core.confirmLeft (c : Core) : Nat :=
  match c.mgmt.trial.bind (fun (t : Trial) => t.ends) with
  | some e => (e - c.now + 999999999) / 1000000000
  | none => 0

/-! Activation, trial, revert (R619 to R621). UPD_CMD answers MODE 8, REFUSED 0x11, RANGE 0x0B. -/

/-- The trial begins. -/
def Core.activateNow (c : Core) : Core :=
  let k := c.idleSlot
  let t : Trial := { slot := k, prev := 1 - k }
  let c := { c with mgmt := { c.mgmt with activate := false, trial := some t, boot := k } }
  let c := ((c.setSlotState k 6).updNote 2 k 0).restartHeather 3
  { c with node := { c.node with updating := true } }.refreshMode 15

/-- The offer of R513 is over. -/
def Core.offerOver (c : Core) : Bool := c.reg Reg.SWITCH_STATE == 0 && c.twin.strobeT.isNone && c.twin.releaseEnd.isNone

/-- An ACTIVATE that waits for its offer, or for the end of a dip episode that holds flash writes, goes on (R534, R619). -/
def Core.activateDue (c : Core) : Core :=
  if c.mgmt.activate && c.offerOver && c.firmware && c.pwr.dip.isNone then c.activateNow else c

/-- UPD_CMD 1 (R619). -/
def Core.activate (c : Core) : Nat × Core :=
  if !([5, 6, 8, 9] : List Nat).contains c.modeCode then (8, c)
  else if !(c.slotState c.idleSlot == 3 || c.slotState c.idleSlot == 8) || c.mgmt.trial.isSome || c.mgmt.activate then (0x11, c)
  else
    let c := if c.inPair && c.flag Reg.TW_TOKEN then (c.twOffer 4).2 else c
    (0, ({ c with mgmt := { c.mgmt with activate := true } }).activateDue)

/-- ROLLBACK_FUSE rises to v, after any dip episode (R620). -/
def Core.blowRollback (c : Core) (v : Nat) : Core :=
  let v := min v 64
  if v ≤ c.reg Reg.ROLLBACK_FUSE then c
  else if c.pwr.dip.isSome then { c with mgmt := { c.mgmt with fuseDue := some (max v (c.mgmt.fuseDue.getD 0)) } }
  else c.setReg Reg.ROLLBACK_FUSE v

/-- A trial reverts in operation: UPDATE, and Heather restarts from the previous slot (R621). -/
def Core.revertTrial (c : Core) (t : Trial) : Core :=
  let c := (c.closeTrial t).restartHeather 4
  { c with node := { c.node with updating := true } }.refreshMode 15

/-- UPD_CMD 2 (R620, R631). -/
def Core.confirm (c : Core) : Nat × Core :=
  match c.mgmt.trial with
  | none => (0x11, c)
  | some t => match t.ends with
    | none => (0x11, c)
    | some e =>
      if e ≤ c.now then (0x11, c.revertTrial t)
      else
        let c := { c with mgmt := { c.mgmt with trial := none } }
        let c := ((c.setSlotState t.slot 5).setSlotState t.prev 7).setReg Reg.CONFIRM_LEFT 0
        (0, ((c.recordEnd t).updNote 3 t.slot 0).blowRollback (fieldAt (c.slot t.slot).header 12 1))

/-- UPD_CMD 3 (R621). -/
def Core.revert (c : Core) : Nat × Core :=
  match c.mgmt.trial with
  | none => (0x11, c)
  | some t => (0, c.revertTrial t)

/-- UPD_CMD 4 (R621): refused during a trial, and while an accepted ACTIVATE waits for its offer. -/
def Core.discard (c : Core) : Nat × Core :=
  if c.mgmt.trial.isSome ∨ c.mgmt.activate = true then (0x11, c)
  else
    let k := c.idleSlot
    let c := (c.setSlot k {}).setSlotState k 0
    (0, ({ c with mgmt := { c.mgmt with xfer := none } }).setReg (slotVerReg k) 0)

/-- UPD_CMD (R635). -/
def Core.updCmd (c : Core) (v : Nat) : Nat × Core :=
  if v = 1 then c.activate
  else if v = 2 then c.confirm
  else if v = 3 then c.revert
  else if v = 4 then c.discard
  else (0x0B, c)

/-- CONFIRM_LEFT_EXPIRY (R621). -/
def Core.confirmExpiry (c : Core) : Core :=
  match c.mgmt.trial with
  | none => c
  | some t => match t.ends with
    | none => c
    | some e => (c.advanceTo e).revertTrial t

/-! Sensors (R600, R601). -/

/-- R631: a reading is checked with the limit that stood before a write at its own moment. -/
def Core.limit (c : Core) (k : Nat) : Nat :=
  ((c.mgmt.limOld.find? (fun x => x.1 == k && x.2.2 == c.now)).map (fun x => x.2.1)).getD (c.reg k)

/-- A write of a limit. -/
def Core.setLimit (c : Core) (k v : Nat) : Core :=
  let old := c.mgmt.limOld.filter (fun x => x.2.2 == c.now) ++ [(k, c.reg k, c.now)]
  { c with mgmt := { c.mgmt with limOld := old } }.setReg k v

/-- A temperature limit: the condition holds from the limit, until every reading is 3 °C below it. -/
def Core.tempLimit (c : Core) (src reg : Nat) (temps : List Int) : Core :=
  let lim := toInt 16 (c.limit reg)
  if temps.any (fun (t : Int) => lim ≤ t) then c.raise src noInst 0
  else if temps.all (fun (t : Int) => t ≤ lim - 12) then c.clear src noInst 0
  else c

/-- Monitor k reads mv (R601). -/
def Core.vmonRead (c : Core) (k mv : Nat) : Core :=
  let (out, good) := mapGet (0, 0) k c.mgmt.vmon
  let c := c.setReg (Reg.VM_MV k) mv
  if mv < c.limit (Reg.VM_LOW k) ∨ c.limit (Reg.VM_HIGH k) < mv then
    let c := { c with mgmt := { c.mgmt with vmon := mapSet (0, 0) k (min 2 (out + 1), 0) c.mgmt.vmon } }
    if 1 ≤ out then c.raise Src.VMON_RANGE k 0 else c
  else
    let c := { c with mgmt := { c.mgmt with vmon := mapSet (0, 0) k (0, min 2 (good + 1)) c.mgmt.vmon } }
    if 1 ≤ good then c.clear Src.VMON_RANGE k 0 else c

/-- SENSOR_READ: SENSOR_PERIOD ends; the first reading since reset sets TEMP_MAX, and the four temperatures (I16 images) and ten voltages are what the sensors read. -/
def Core.sensorRead (c : Core) (temps : List Nat) (mvs : List Nat) : Core :=
  if !c.firmware then c
  else
    let c := c.advanceTo c.mgmt.sensorAt
    let c := { c with mgmt := { c.mgmt with sensorAt := c.now + 1000000 * c.reg Reg.SENSOR_PERIOD } }
    let ts := temps.map (toInt 16)
    let c := temps.zipIdx.foldl (fun (c : Core) (x : Nat × Nat) => c.setReg (Reg.TEMP x.2) x.1) c
    let first := if c.mgmt.vmon.isEmpty then ts.headD 0 else c.regI 16 Reg.TEMP_MAX
    let top := ts.foldl (fun (a b : Int) => if a < b then b else a) first
    let c := c.setReg Reg.TEMP_MAX (ofInt 16 top)
    let c := (c.tempLimit Src.TEMP_WARN Reg.TEMP_WARN ts).tempLimit Src.TEMP_CRIT Reg.TEMP_CRIT ts
    mvs.zipIdx.foldl (fun (c : Core) (x : Nat × Nat) => c.vmonRead x.2 x.1) c

/-! The flash log (R603, R607, R608). -/

/-- LOG_SEQ of an entry. -/
def logSeqOf (e : Bytes) : Nat := fieldAt e 12 4

/-- LOG_FLASH_OLDEST and LOG_FLASH_NEWEST follow the flash log. -/
def Core.flashEnds (c : Core) : Core :=
  match c.log.flash.head?, c.log.flash.getLast? with
  | some a, some b => (c.setReg Reg.LOG_FLASH_OLDEST (logSeqOf a)).setReg Reg.LOG_FLASH_NEWEST (logSeqOf b)
  | _, _ => c

/-- An entry is written to the flash log; before the first of a sector its 128 oldest entries go when the log is full. -/
def flashPut (fl : List Bytes) (e : Bytes) : List Bytes :=
  (if fl.length % 128 = 0 ∧ 65536 ≤ fl.length then fl.drop 128 else fl) ++ [e]

/-- The oldest n entries that wait, with LOST_BEFORE on the first when entries before it were lost. -/
def Core.waitingLogs (c : Core) (n : Nat) : List Bytes :=
  let start := c.reg Reg.LOG_RAM_WR + 4096 - c.log.waiting
  let es := (List.range n).map (fun i => (mapGet [] ((start + i) % 4096) c.log.ram : Bytes))
  match es with
  | [] => []
  | e :: rest => (if c.log.lostBefore then splice e 6 [byteOf (setBit (fieldAt e 6 1) 2 true)] else e) :: rest

/-- A log entry read back from its 32 bytes (R604). -/
def logRecOf (e : Bytes) : LogRec :=
  { tick := fieldAt e 0 6, flags := fieldAt e 6 1, kind := fieldAt e 7 1, node := fieldAt e 8 2, source := fieldAt e 10 2,
    body := slice e 16 16 }

/-- R541: the copies of power-loss entries that no flash page holds yet, which outlast a reset as the entries do. -/
def Core.powerLogs (c : Core) : List LogRec :=
  (((c.waitingLogs c.log.waiting).map logRecOf) ++ c.log.held).filter (fun (r : LogRec) => r.kind == 3)

/-- LOG_FLASH_COPY: 128 entries wait, or LOG_FLUSH has passed since one waits; `ok` tells whether the flash took the pages
(R607). A page of the second case is completed with filler entries. -/
def Core.flashCopy (c : Core) (ok : Bool) : Core :=
  match c.log.since with
  | none => c
  | some t =>
    if !c.firmware || c.pwr.dip.isSome || c.log.waiting == 0 then c
    else if !ok then c.report Src.FLASH_ERROR noInst 0
    else
      let flush : Bool := Nat.blt c.log.waiting 128
      let c := if flush then c.advanceTo (t + 1000000000 * c.reg Reg.LOG_FLUSH) else c
      let c := if flush then (List.range ((8 - c.log.waiting % 8) % 8)).foldl
          (fun (c : Core) _ => c.logNote 0 []) c else c
      let n := c.log.waiting / 8 * 8
      let left := c.log.waiting - n
      let es := c.waitingLogs n
      let c := { c with log := { c.log with
        flash := es.foldl flashPut c.log.flash, waiting := left, lostBefore := false
        since := if left = 0 then none else some c.now } }
      (c.incBy Reg.CNT_LOG_PAGES (n / 8)).flashEnds

/-- LOG_FLASH_DATA (R608). -/
def Core.flashData (c : Core) : Bytes :=
  let sel := c.reg Reg.LOG_FLASH_SEL
  let fl := c.log.flash
  let from_ : List Bytes := match fl.findIdx? (fun (e : Bytes) => logSeqOf e == sel) with
    | some i => fl.drop i
    | none =>
      let newer : Bool := match fl.getLast? with
        | some e => Nat.blt ((sel + 2 ^ 32 - logSeqOf e) % 2 ^ 32) (2 ^ 31)
        | none => true
      if newer then [] else fl
  let bs := (from_.take 128).flatMap id
  bs ++ List.replicate (4096 - bs.length) 0xFF

/-- The flash log is erased; its end registers then name no entry. -/
def Core.flashErase (c : Core) : Core :=
  let (a, c) := c.draw
  let (b, c) := c.draw
  (({ c with log := { c.log with flash := [], eraseDue := false } }).setReg Reg.LOG_FLASH_OLDEST (a % 2 ^ 32)).setReg
    Reg.LOG_FLASH_NEWEST (b % 2 ^ 32)

/-- LOG_ERASE: RANGE (0x0B) for 0; held while a dip holds flash writes (R534, R634). -/
def Core.logErase (c : Core) (v : Nat) : Nat × Core :=
  if v = 0 then (0x0B, c)
  else if c.pwr.dip.isSome then (0, { c with log := { c.log with eraseDue := true } })
  else (0, c.flashErase)

/-! Life-cycle states (R610, R611, R655). -/

/-- R611: a transition is made. -/
def Core.lcMove (c : Core) (next : Nat) : Core :=
  let old := c.reg Reg.LC_STATE
  ((c.setReg Reg.LC_STATE next).logNote 6 [byteOf old, byteOf next]).report Src.LIFECYCLE noInst 0

/-- A token is unset (R48). -/
def Core.tokenUnset (c : Core) (k : Nat) : Bool := (c.blob k).all (fun b => b == 0)

/-- LC_CMD at a session level: LEVEL 6, RANGE 0x0B, MODE 8, REFUSED 0x11 (R611, R656). -/
def Core.lcCmd (c : Core) (level v : Nat) : Nat × Core :=
  let st := c.reg Reg.LC_STATE
  if v = 1 then
    if level < 3 then (6, c)
    else if c.node.lockPin || !(st == 0 || st == 3) then (0x11, c)
    else (0, c.lcMove 1)
  else if v = 2 then
    if c.modeCode ≠ 3 then (8, c)
    else if c.node.lockPin || st != 1 then (0x11, c)
    else if c.tokenUnset Reg.TOKEN_L1 || c.tokenUnset Reg.TOKEN_L2 then (0x11, c)
    else (0, c.lcMove 2)
  else (0x0B, c)

/-- Both copies of the configuration store are erased, or wait for the end of a dip or of a Heather restart (R534, R599, R653). -/
def Core.cfgErase (c : Core) : Core :=
  if c.pwr.dip.isSome ∨ c.firmware = false then { c with node := { c.node with cfgEraseDue := true } }
  else { c with node := { c.node with copyA := {}, copyB := {}, cfgEraseDue := false } }

/-- LC_RETURN: the return record (R611, R655). The zeroing of TOKEN_L1 and TOKEN_L2 is no write of R50: it closes no session
(DESIGN CHOICE, log entry 117). -/
def Core.lcReturn (c : Core) (r : Bytes) : Nat × Core :=
  let st := c.reg Reg.LC_STATE
  let good : Bool := r.length == 128 && slice r 0 4 == [0x56, 0x58, 0x52, 0x54] && slice r 4 16 == c.blob Reg.DEVICE_UID
    && fieldAt r 20 1 == c.reg Reg.LC_RETURNS + 1 && (slice r 21 43).all (fun b => b == 0)
    && Config.ed25519Verify 0 (slice r 0 64) (slice r 64 64)
  if c.node.lockPin || !(st == 1 || st == 2) || Nat.ble 3 (c.reg Reg.LC_RETURNS) || !good then (0x11, c)
  else
    let c := (c.cfgErase.setBlob Reg.TOKEN_L1 (zeros 8)).setBlob Reg.TOKEN_L2 (zeros 8)
    (0, (c.setReg Reg.LC_RETURNS (c.reg Reg.LC_RETURNS + 1)).lcMove 3)

/-- The flash erases that waited for the end of a dip episode or of a Heather restart (R534, R599). -/
def Core.flashDue (c : Core) : Core :=
  if c.pwr.dip.isSome ∨ c.firmware = false then c
  else
    let c := if c.log.eraseDue then c.flashErase else c
    if c.node.cfgEraseDue then c.cfgErase else c

/-- What waited for the end of a dip episode: fuses, flash erases and flash writes (R534, R535, R617, R619, R620). -/
def Core.dipOver (c : Core) : Core :=
  if c.pwr.dip.isSome then c
  else
    let c := match c.mgmt.fuseDue with
      | some v => ({ c with mgmt := { c.mgmt with fuseDue := none } }).blowRollback v
      | none => c
    let c := c.flashDue
    let c := { c with mgmt := { c.mgmt with recordDue := none, mapDue := false,
                                            xfer := if c.mgmt.mapDue then c.mgmt.xfer.map (fun (x : UpdXfer) => { x with saved := x.got })
                                                    else c.mgmt.xfer } }
    c.activateDue

/-- HEATHER_RESTART_DONE (R599, R619, R620). -/
def Core.restartDone (c : Core) : Core :=
  if !c.up || c.node.heatherEnd.isNone then c
  else
    let c := c.romStart
    let c := { c with node := { c.node with heatherEnd := none, updating := false } }
    let c := match c.mgmt.trial with
      | some t =>
        let span := 60 * c.reg Reg.CONFIRM_TIME
        { c with mgmt := { c.mgmt with trial := some { t with ends := some (c.now + 1000000000 * span) } } }.setReg
          Reg.CONFIRM_LEFT span
      | none => c
    (c.flashDue.logFlush).refreshMode 15

end Sys2Proof.Machine
end

