-- ==== Sys2Proof/Machine/SelfTest.lean ====
section
/-! DEFINITION. The self-test engine (chapter 18, R622 to R630). -/

namespace Sys2Proof.Machine

/-! March algorithms (R622, R623). -/

/-- The operations of R622: read or write, of the background or of its inverse. -/
inductive MarchOp where
  | r0 | r1 | w0 | w1
  deriving DecidableEq, Repr

/-- The elements of an algorithm: whether the words go down, and the operations on each word. The order of an "any" element
is the implementation's. -/
def marchElems (alg : Nat) : List (Bool × List MarchOp) :=
  let any : Bool := Config.marchAnyDown
  if alg = 0 then [(any, [.w0]), (false, [.r0, .w1]), (true, [.r1, .w0])]
  else if alg = 1 then
    [(any, [.w0]), (false, [.r0, .w1]), (false, [.r1, .w0]), (true, [.r0, .w1]), (true, [.r1, .w0]), (any, [.r0])]
  else if alg = 2 then
    [(any, [.w0]), (false, [.r0, .w1, .r1, .w0, .r0, .w1]), (false, [.r1, .w0, .w1]), (true, [.r1, .w0, .w1, .w0]),
     (true, [.r0, .w1, .w0])]
  else
    [(any, [.w0]), (false, [.r0, .r0, .w0, .r0, .w1]), (false, [.r1, .r1, .w1, .r1, .w0]),
     (true, [.r0, .r0, .w0, .r0, .w1]), (true, [.r1, .r1, .w1, .r1, .w0]), (any, [.r0])]

/-- Words of a bank. -/
def bankWords : Nat := 8192

/-- Operations of the elements of an algorithm on a bank. -/
def elemOps (e : Bool × List MarchOp) : Nat := e.2.length * bankWords

/-- Operations of an algorithm on a bank. -/
def marchOps (alg : Nat) : Nat := (marchElems alg).foldl (fun (n : Nat) (e : Bool × List MarchOp) => n + elemOps e) 0

/-- R624: a lane slot takes 6 ns. -/
def laneNs (ops : Nat) : Nat := 6 * ops

/-- R623: background k of word w, 72 bits. -/
def groundWord (k w : Nat) : Nat :=
  (List.range 72).foldl (fun (v : Nat) (i : Nat) =>
    v + (if k = 1 then (i + w) % 2 else if k = 2 then i % 2 else if k = 3 then w % 2 else 0) * 2 ^ i) 0

/-- What a fault-free bank returns for a read of word w, as 9 bytes; none for a write. -/
def readBytes (k w : Nat) : MarchOp → Option Bytes
  | .r0 => some (leBytes 9 (groundWord k w))
  | .r1 => some (leBytes 9 (2 ^ 72 - 1 - groundWord k w))
  | .w0 | .w1 => none

/-- CRC of the reads of one word: operations left and CRC so far. -/
def wordCrc (k w : Nat) (ops : List MarchOp) (s : Nat × Nat) : Nat × Nat :=
  ops.foldl (fun (s : Nat × Nat) (op : MarchOp) =>
    if s.1 = 0 then s
    else (s.1 - 1, match readBytes k w op with
      | some bs => bs.foldl crc32cByte s.2
      | none => s.2)) s

/-- R629: the signature of a fault-free bank over the first n operations. -/
def marchSig (alg k n : Nat) : Nat :=
  let s := (marchElems alg).foldl (fun (s : Nat × Nat) (e : Bool × List MarchOp) =>
    (List.range bankWords).foldl (fun (s : Nat × Nat) (i : Nat) =>
      if s.1 = 0 then s else wordCrc k (if e.1 then bankWords - 1 - i else i) e.2 s) s) (n, 0xFFFFFFFF)
  Nat.xor s.2 0xFFFFFFFF

/-- Elements whose operations all lie in the first n. -/
def elemsDone (n : Nat) : List (Bool × List MarchOp) → Nat
  | [] => 0
  | e :: es => if elemOps e ≤ n then 1 + elemsDone (n - elemOps e) es else 0

/-! Result words (R629, R630). -/

/-- A result word before it is laid out. -/
structure StResult where
  aborted : Bool := false
  destructive : Bool := false
  alg : Nat
  bank : Nat
  ground : Nat
  elems : Nat
  failWord : Nat := 0xFFFF
  sig : Nat
  expected : Nat
  deriving DecidableEq, Repr

/-- The elements of its algorithm. -/
def StResult.wanted (r : StResult) : Nat := (marchElems r.alg).length

/-- Every element ran to its end. -/
def StResult.complete (r : StResult) : Bool := !r.aborted && r.elems == r.wanted

/-- R630. -/
def StResult.pass (r : StResult) : Bool := r.complete && r.sig == r.expected && r.failWord == 0xFFFF

/-- The 16 bytes of a result word. -/
def StResult.bytes (r : StResult) : Bytes :=
  [byteOf (b2n r.complete + 2 * b2n (r.failWord != 0xFFFF) + 4 * b2n r.pass + 8 * b2n r.aborted + 16 * b2n r.destructive),
   byteOf r.alg, byteOf r.bank, byteOf r.ground, byteOf r.elems, byteOf r.wanted] ++ leBytes 2 r.failWord
    ++ leBytes 4 r.sig ++ leBytes 4 r.expected

/-- A full run with what the reads showed: the first word that failed (0xFFFF for none) and the signature found. -/
def fullResult (destructive : Bool) (alg bank ground failWord sig : Nat) : StResult :=
  let want := marchSig alg ground (marchOps alg)
  { destructive := destructive, alg := alg, bank := bank, ground := ground, elems := (marchElems alg).length,
    failWord := failWord, sig := if failWord = 0xFFFF then want else sig, expected := want }

/-- A result word is recorded for lane l. -/
def Core.stRecord (c : Core) (l : Nat) (r : StResult) : Core :=
  let c := c.setBlob (Reg.ST_LANE l) r.bytes
  let c := c.inc (if r.pass then Reg.CNT_ST_PASS else if r.aborted then Reg.CNT_ST_ABORT else Reg.CNT_ST_FAIL)
  let c := if r.destructive then c.setBlob Reg.RUN_RESULTS (c.blob Reg.RUN_RESULTS ++ r.bytes) else c
  if r.pass then c else (c.setBlob Reg.ST_LAST_FAIL r.bytes).logNote 7 r.bytes

/-! Lanes. -/

/-- Lane l. -/
def Core.stLane (c : Core) (l : Nat) : StLane := mapGet {} l c.test.lanes

/-- Replaces lane l; SW_BANKS shows the bank that it has. -/
def Core.setStLane (c : Core) (l : Nat) (x : StLane) : Core :=
  let c := { c with test := { c.test with lanes := mapSet {} l x c.test.lanes } }
  let v := c.reg Reg.SWEEP_BANKS
  let b := if x.phase = .idle ∨ x.phase = .drain ∨ x.phase = .run ∨ x.phase = .clear then 0xFF else x.bank
  c.setReg Reg.SWEEP_BANKS (if l = 0 then v / 256 * 256 + b else b * 256 + v % 256)

/-- Bit b of a map of banks in an OCTETS member. -/
def Core.markBank (c : Core) (k b : Nat) : Core :=
  let v := c.blob k
  c.setBlob k (splice v (b / 8) [byteOf (setBit (fieldAt v (b / 8) 1) (b % 8) true)])

/-- R625: the sweep runs. -/
def Core.sweepRuns (c : Core) : Bool :=
  c.up && c.flag Reg.ST_BG_ENABLE && (c.reg Reg.LC_STATE == 1 || c.reg Reg.LC_STATE == 2)
    && !([2, 4, 9] : List Nat).contains (c.reg Reg.MODE) && !c.node.quiescent && c.reg Reg.RUN_STATE == 0

/-- The banks of a lane's sweep. -/
def laneBanks (l : Nat) : List (Nat × Bool) := (List.range 32).map (fun (i : Nat) => (2 * i + l, false))

/-- A sweep begins. -/
def Core.sweepBegin (c : Core) : Core :=
  if c.test.sweeping then c
  else
    let c := { c with test := { c.test with sweeping := true, alg := c.reg Reg.ST_BG_ALG } }
    let c := (c.setBlob Reg.SW_FAILED (zeros 9)).setBlob Reg.SW_SKIPPED (zeros 9)
    (List.range 2).foldl (fun (c : Core) l =>
      c.setStLane l { c.stLane l with todo := laneBanks l, swapDone := false }) c

/-- R626: the lane cannot borrow the bank at the head of its list. -/
def Core.passOver (c : Core) (l : Nat) : Core :=
  let x := c.stLane l
  match x.todo with
  | [] => c
  | (b, again) :: rest =>
    if again then ((((c.setStLane l { x with todo := rest }).markBank Reg.SW_SKIPPED b).inc Reg.CNT_ST_SKIP)).report
      Src.ST_SKIPPED b 0
    else c.setStLane l { x with todo := rest ++ [(b, true)] }

/-- The lane has finished its 32 banks. -/
def StLane.banksDone (x : StLane) : Bool := x.todo.isEmpty && (x.phase == .idle || x.phase == .inPlace)

/-- ST_SWEEP_STEP: the gap of lane l ends and it takes its next bank (R625). -/
def Core.sweepStep (c : Core) (l : Nat) : Core :=
  if !c.sweepRuns || (c.stLane l).phase != .idle then c
  else
    let c := c.advanceTo ((c.stLane l).ended + 1000000 * c.reg Reg.ST_BG_GAP)
    let c := c.sweepBegin
    let x := c.stLane l
    match x.todo with
    | (b, _) :: _ =>
      if c.canBorrow l b then (c.borrow l b).setStLane l { x with bank := b, phase := .copyIn, since := c.now }
      else c.passOver l
    | [] =>
      if x.swapDone || !(c.stLane (1 - l)).banksDone then c
      else c.setStLane l { x with bank := 64 + (1 - l), phase := .inPlace, since := c.now }

/-- A sweep ends when both lanes have done everything (R625, R636). -/
def Core.sweepEnd (c : Core) : Core :=
  let idleLane (x : StLane) : Bool := x.todo.isEmpty && x.swapDone && x.phase == .idle
  if !c.test.sweeping || !idleLane (c.stLane 0) || !idleLane (c.stLane 1) then c
  else
    let c := { c with test := { c.test with sweeping := false } }
    let c := (c.inc Reg.SW_COUNT).setReg Reg.SW_LAST_END c.sysNs
    c.logNote 7 (leBytes 4 (c.reg Reg.SW_COUNT))

/-- R464: the duration of a copy at full speed. -/
def copyNs : Nat := 2 * bankWords

/-- COPY_IN_DONE of lane l (R462). -/
def Core.sweepCopied (m : Memory) (c : Core) (l : Nat) : Memory × Core :=
  let x := c.stLane l
  if x.phase ≠ .copyIn then (m, c)
  else
    let (m, c) := Core.copyInDone m (c.advanceTo (x.since + copyNs)) l
    (m, c.setStLane l { x with phase := .test, since := c.now })

/-! Destructive runs (R628). -/

/-- R610: a destructive run is allowed. -/
def Core.runAllowed (c : Core) : Bool :=
  let st := c.reg Reg.LC_STATE
  let mode := c.reg Reg.MODE
  if st = 0 ∨ st = 3 then mode == 3 || mode == 4 else st == 1 && mode == 4

/-- The engine can take bank b, once its owner has drained it. -/
def Core.runCanTake (c : Core) (b : Nat) : Bool :=
  if 64 ≤ b then (c.swapFor (b - 64)).isNone
  else
    let o := c.reg (Reg.BANK_OWNER b)
    let busy : Bool := c.fab.handovers.any (fun h => h.bank == b) || (List.range 2).any (fun s => c.swapFor s == some b)
    let plain : Bool := o == 0 || o == 2 || o == 5
    !busy && (if plain then (o != 0 || c.poolSpares 1) && !(o == 2 && c.queueIn b)
      else c.reg Reg.MODE == 4)

/-- The run is over when no lane has a bank. -/
def Core.runOver (c : Core) : Core :=
  let busy (x : StLane) : Bool := x.phase == .drain || x.phase == .run || x.phase == .clear
  if !busy (c.stLane 0) && !busy (c.stLane 1) && c.test.queue.isEmpty then c.setReg Reg.RUN_STATE 0
  else c

/-- Lane l has bank b, drained. -/
def Core.runTaken (c : Core) (l b : Nat) : Core :=
  let owner := if b < 64 then c.reg (Reg.BANK_OWNER b) else 0
  let c := if b < 64 then (c.giveBank b 7).bankState b else c
  c.setStLane l { c.stLane l with bank := b, phase := .run, since := c.now, grounds := c.test.runGrounds, owner := owner }

/-- The result word of a bank that the engine could not take, or gave up before its first operation. -/
def Core.runSkipped (c : Core) (l b : Nat) : Core :=
  c.stRecord l { aborted := true, destructive := true, alg := c.test.runAlg, bank := b, ground := c.test.runGrounds.headD 0,
                 elems := 0, sig := 0, expected := 0 }

/-- Lane l takes the next bank of the run, or waits up to 2 µs for its drain (R458); banks that cannot be taken are skipped, with fuel for the whole list. -/
def Core.runTake (c : Core) (l : Nat) : Nat → Core
  | 0 => c
  | n + 1 =>
    match c.test.queue with
    | [] => c.runOver
    | b :: rest =>
      let x := c.stLane l
      if x.phase ≠ .idle ∨ c.reg Reg.RUN_STATE ≠ 1 then c
      else
        let c := { c with test := { c.test with queue := rest } }
        if c.runCanTake b then
          if 64 ≤ b || c.cellFree b then c.runTaken l b
          else c.setStLane l { x with bank := b, phase := .drain, since := c.now }
        else (c.runSkipped l b).runTake l n

/-- ALIASED_TEST_DONE of lane l: the march ends, of the borrowed bank or of the swap bank in place, after which a destructive run
that waits goes on; the first word that failed and the signature found are the bank's (R462, R625, R627, R628). -/
def Core.sweepTested (c : Core) (l failWord sig : Nat) : Core :=
  let x := c.stLane l
  if x.phase ≠ .test ∧ x.phase ≠ .inPlace then c
  else
    let c := c.advanceTo (x.since + laneNs (marchOps c.test.alg))
    let r := fullResult false c.test.alg x.bank (c.reg Reg.SW_COUNT % 4) failWord sig
    let c := c.stRecord l r
    let c := if r.pass then c else (c.markBank Reg.SW_FAILED x.bank).report Src.ST_FAIL x.bank 0
    if x.phase = .inPlace then
      let c := (c.setStLane l { x with phase := .idle, swapDone := true, ended := c.now }).sweepEnd
      if c.reg Reg.RUN_STATE = 1 then c.runTake l 67 else c
    else (c.setReg (Reg.SWAP_PHASE l) 3).bankState x.bank |>.setStLane l { x with phase := .copyBack, since := c.now }

/-- COPY_BACK_DONE of lane l: the bank is released, and the lane goes on (R462, R628). -/
def Core.sweepBack (m : Memory) (c : Core) (l : Nat) : Memory × Core :=
  let x := c.stLane l
  if x.phase ≠ .copyBack then (m, c)
  else
    let (m, c) := Core.copyBank m (c.advanceTo (x.since + copyNs)) (64 + l) x.bank
    let c := c.unborrow l
    let c := c.setStLane l { x with todo := x.todo.tail, phase := .idle, ended := c.now }
    (m, if c.reg Reg.RUN_STATE = 1 then c.runTake l 67 else c)

/-- COPY_IN_ABANDON of lane l: a COPY_IN has lasted 1 ms (R462, R626). -/
def Core.sweepAbandon (c : Core) (l : Nat) : Core :=
  let x := c.stLane l
  if x.phase ≠ .copyIn then c
  else
    let c := ((c.advanceTo (x.since + 1000000)).unborrow l).inc (Reg.CNT_SWAP_ABANDON l)
    let c := (c.setStLane l { x with phase := .idle, ended := c.now }).passOver l
    if c.reg Reg.RUN_STATE = 1 then c.runTake l 67 else c

/-- RUN_CMD 1: MODE (8) where it is not allowed, BUSY (0x0C) while one runs. -/
def Core.runStart (c : Core) : Nat × Core :=
  if !c.runAllowed then (8, c)
  else if c.reg Reg.RUN_STATE ≠ 0 then (0x0C, c)
  else
    let c := { c with test := { c.test with
      queue := bitList 66 (leVal (c.blob Reg.RUN_BANKS)), runAlg := c.reg Reg.RUN_ALG
      runGrounds := bitList 4 (c.reg Reg.RUN_BG) } }
    let c := (c.setBlob Reg.RUN_RESULTS []).setReg Reg.RUN_STATE 1
    (0, (c.runTake 0 67).runTake 1 67)

/-- A lane under test stops at its next operation (R628, R631). -/
def Core.laneStop (c : Core) (l : Nat) : Core :=
  let x := c.stLane l
  if x.phase = .drain then (c.runSkipped l x.bank).setStLane l { x with phase := .idle, ended := c.now }
  else if x.phase ≠ .run then c
  else
    let alg := c.test.runAlg
    let k := x.grounds.headD 0
    let n := min (marchOps alg) ((c.now - x.since) / 6)
    let sig := marchSig alg k n
    let c := c.stRecord l { aborted := true, destructive := true, alg := alg, bank := x.bank, ground := k,
                            elems := elemsDone n (marchElems alg), sig := sig, expected := sig }
    c.setStLane l { x with phase := .clear, since := c.now }

/-- RUN_CMD 2. -/
def Core.runStop (c : Core) : Nat × Core :=
  if c.reg Reg.RUN_STATE ≠ 1 then (0, c)
  else
    let c := { c with test := { c.test with queue := [] } }.setReg Reg.RUN_STATE 2
    (0, ((c.laneStop 0).laneStop 1).runOver)

/-- RUN_CMD (R636). -/
def Core.runCmd (c : Core) (v : Nat) : Nat × Core :=
  if v = 1 then c.runStart else if v = 2 then c.runStop else (0x0B, c)

/-- A bank is written to zeros with valid check bits; what the model keeps of its contents beside the memory goes too. -/
def Core.clearBank (m : Memory) (c : Core) (b : Nat) : Memory × Core :=
  let c := if c.reg Reg.EVQ_BASE / 65536 = b then { c with ev := { c.ev with slots := [] } } else c
  let c := if c.reg Reg.LOG_RAM_BASE / 65536 = b ∨ c.reg Reg.LOG_RAM_BASE / 65536 + 1 = b then
      { c with log := { c.log with ram := c.log.ram.filter (fun (x : Nat × Bytes) =>
        (c.reg Reg.LOG_RAM_BASE + 32 * x.1) / 65536 != b) } } else c
  (m.wipe b, c)

/-- The bank of lane l is cleared in 8,192 lane slots and returned; the lane takes the next. -/
def Core.runReturn (m : Memory) (c : Core) (l : Nat) : Memory × Core :=
  let x := c.stLane l
  let c := c.advance (laneNs bankWords)
  let (m, c) := Core.clearBank m c x.bank
  let c := if x.bank < 64 then (c.giveBank x.bank x.owner).bankState x.bank else c
  let c := c.setStLane l { x with phase := .idle, grounds := [], ended := c.now }
  (m, if c.reg Reg.RUN_STATE = 1 then c.runTake l 67 else c.runOver)

/-- The drain of lane l's bank ends: in its 2 µs without a cell, or after them, and the bank is skipped (R628). -/
def Core.runDrained (c : Core) (l : Nat) : Core :=
  let x := c.stLane l
  if c.cellFree x.bank ∧ c.now ≤ x.since + 2000 then c.runTaken l x.bank
  else
    let c := (c.advanceTo (x.since + 2000)).runSkipped l x.bank
    (c.setStLane l { x with phase := .idle, ended := c.now }).runTake l 67

/-- RUN_BANK_DONE of lane l: the drain of its bank ends; or a march on its bank ends with what its reads showed; after the last
background, or after a stop, the bank is cleared and returned (R628). -/
def Core.runBankDone (m : Memory) (c : Core) (l failWord sig : Nat) : Memory × Core :=
  let x := c.stLane l
  match x.phase, x.grounds with
  | .clear, _ => Core.runReturn m c l
  | .drain, _ => (m, c.runDrained l)
  | .run, k :: rest =>
    let c := c.advanceTo (x.since + laneNs (marchOps c.test.runAlg))
    let c := c.stRecord l (fullResult true c.test.runAlg x.bank k failWord sig)
    if rest.isEmpty then Core.runReturn m c l
    else (m, c.setStLane l { x with grounds := rest, since := c.now })
  | _, _ => (m, c)

end Sys2Proof.Machine
end

