-- ==== Sys2Proof/Machine/Update.lean ====
section
/-! DEFINITION. Delivery of firmware images by UPDATE frames (chapter 18, R615 to R618). -/

namespace Sys2Proof.Machine

/-- The transfer in progress: the slot receives or checks it. -/
def Core.xferOpen (c : Core) : Bool :=
  c.mgmt.xfer.isSome && (c.slotState c.idleSlot == 1 || c.slotState c.idleSlot == 2)

/-- Replaces the transfer; UPD_TRANSFER follows. -/
def Core.setXfer (c : Core) (x : UpdXfer) : Core :=
  let c := { c with mgmt := { c.mgmt with xfer := some x } }
  (((c.setReg Reg.UT_ID x.id).setReg Reg.UT_SOURCE x.source).setReg Reg.UT_CHUNKS (chunksOf x.total)).setReg
    Reg.UT_RECEIVED x.got.length

/-- R616: ranges of missing chunks of n, ascending: first chunk and count. -/
def missingRanges (n : Nat) (got : List Nat) : List (Nat × Nat) :=
  ((List.range n).foldl (fun (acc : List (Nat × Nat)) (i : Nat) =>
    if got.contains i then acc
    else match acc with
      | (a, k) :: rest => if a + k = i then (a, k + 1) :: rest else (i, 1) :: acc
      | [] => [(i, 1)]) []).reverse

/-- R615, R616: STATE is sent to an address for a transfer number, with a RESULT. -/
def Core.sendState (c : Core) (dst id result : Nat) : Core :=
  let (total, got) : Nat × List Nat := match c.mgmt.xfer with
    | some x => (x.total, x.got)
    | none => (0, [])
  let ranges := ((missingRanges (chunksOf total) got).take 124).flatMap (fun (r : Nat × Nat) => leBytes 4 r.1 ++ leBytes 4 r.2)
  let data := [byteOf (c.slotState c.idleSlot), byteOf result, 0, 0] ++ leBytes 4 got.length ++ leBytes 4 (chunksOf total)
    ++ zeros 4 ++ ranges
  let (f, c) := c.make 9 6 dst 0 c.tick false false false ([4, 0, 0, 0] ++ leBytes 4 id ++ leBytes 4 0 ++ leBytes 4 total ++ data)
  c.originate 14 f

/-- The answer to a BEGIN or END: a RESULT other than 0 is counted and reported (R618, R632). -/
def Core.sendVerdict (c : Core) (dst id result : Nat) : Core :=
  let c := if result = 0 then c else (c.inc Reg.CNT_UPD_REFUSED).report Src.UPDATE_REFUSED noInst 0
  c.sendState dst id result

/-- An UPDATE frame with operation op reaches SP_14, keeps its check and finds Heather running (R208, R599, R615). -/
def Core.updArrive (c : Core) (f : Frame) (op : Nat) (go : Core → Core) : Core :=
  if !c.up || f.kind != 9 || fieldAt f.payload 0 1 != op then c
  else
    let (ok, c) := (c.undeliver 14 f).mgmtCheck f
    if ok && c.node.heatherEnd.isNone then go c else c

/-- The transfer number that a frame names. -/
def updId (f : Frame) : Nat := fieldAt f.payload 4 4

/-- BEGIN of a new transfer: another one under way is replaced, the slot receives, and its blocks are erased. -/
def Core.beginXfer (c : Core) (f : Frame) : Core :=
  let k := c.idleSlot
  let old : List Nat := match c.mgmt.xfer with
    | some x => if c.xferOpen && x.id != updId f then [x.id] else []
    | none => []
  let total := fieldAt f.payload 12 4
  let c := { c with mgmt := { c.mgmt with gone := old ++ c.mgmt.gone } }
  let c := ((c.setSlot k { total := total }).setSlotState k 1).setReg (slotVerReg k) 0
  (c.setXfer { id := updId f, source := f.src, total := total, header := padTo 256 (f.payload.drop 16) }).setReg
    Reg.UT_RESULT 0

/-- BEGIN (R616, R617). -/
def Core.updBegin (c : Core) (f : Frame) : Core :=
  c.updArrive f 1 fun (c : Core) =>
    let header := padTo 256 (f.payload.drop 16)
    let r := if c.reg Reg.UPD_ALLOW = 0 then 10
      else if c.mgmt.trial.isSome ∨ c.mgmt.activate = true then 9
      else c.headerResult header
    if r ≠ 0 then (c.setReg Reg.UT_RESULT r).sendVerdict f.src (updId f) r
    else match c.mgmt.xfer with
      | some x =>
        if c.xferOpen && x.id == updId f && x.header == header then
          let c := if x.live then c else c.setXfer { x with live := true, got := x.saved, source := f.src }
          if x.erasing then c else c.sendVerdict f.src x.id 0
        else c.beginXfer f
      | none => c.beginXfer f

/-- UPDATE_ERASE_DONE: the erase of the slot ends, well or not; a dip suspends it (R534, R616). -/
def Core.updErased (c : Core) (ok : Bool) : Core :=
  match c.mgmt.xfer with
  | none => c
  | some x =>
    if !c.up || c.node.heatherEnd.isSome || c.pwr.dip.isSome || !x.erasing || !x.live then c
    else if ok then (c.setXfer { x with erasing := false }).sendVerdict x.source x.id 0
    else
      let c := (c.setXfer { x with live := false }).setSlotState c.idleSlot 4
      ((c.setReg Reg.UT_RESULT 8).report Src.FLASH_ERROR noInst 0).sendVerdict x.source x.id 8

/-- The bytes that chunk i of an image of n bytes has (R615). -/
def chunkSize (n i : Nat) : Nat := min chunkBytes (n - i * chunkBytes)

/-- CHUNK; `ok` tells whether the flash takes it (R616 to R618). -/
def Core.updChunk (c : Core) (f : Frame) (ok : Bool) : Core :=
  c.updArrive f 2 fun (c : Core) =>
    match c.mgmt.xfer with
    | none => c
    | some x =>
      let k := c.idleSlot
      let off := fieldAt f.payload 8 4
      let i := off / chunkBytes
      let data := f.payload.drop 16
      let mine : Bool := x.live && !x.erasing && x.id == updId f && c.slotState k == 1 && off % chunkBytes == 0
        && Nat.blt off x.total && data.length == chunkSize x.total i && Nat.ble (off + data.length) 0xC00000
      if !mine || x.got.contains i || c.pwr.dip.isSome then c
      else if !ok then (c.setReg Reg.UT_RESULT 8).report Src.FLASH_ERROR noInst 0
      else
        let s := c.slot k
        let c := c.setSlot k { s with chunks := mapSet [] i data s.chunks }
        let got := i :: x.got
        let c := c.setXfer { x with got := got, saved := if got.length % 64 = 0 then got else x.saved }
        let c := if i = 0 then c.setReg (slotVerReg k) (fieldAt data 8 4) else c
        c.inc Reg.CNT_UPD_CHUNK

/-- The RESULT for a frame that names a transfer: ABANDONED for one that another replaced (R613). -/
def Core.resultFor (c : Core) (id : Nat) : Nat :=
  let current : Bool := match c.mgmt.xfer with
    | some x => x.id == id
    | none => false
  if !current && c.mgmt.gone.contains id then 11 else c.reg Reg.UT_RESULT

/-- QUERY (R616). -/
def Core.updQuery (c : Core) (f : Frame) : Core :=
  c.updArrive f 3 fun (c : Core) => c.sendState f.src (updId f) (c.resultFor (updId f))

/-- END (R616, R617). -/
def Core.updEnd (c : Core) (f : Frame) : Core :=
  c.updArrive f 5 fun (c : Core) =>
    let at_ (c : Core) : Core := c.sendVerdict f.src (updId f) (c.resultFor (updId f))
    match c.mgmt.xfer with
    | none => at_ c
    | some x =>
      if x.id ≠ updId f ∨ x.live = false ∨ c.slotState c.idleSlot ≠ 1 then at_ c
      else
        let whole : Bool := x.got.length == chunksOf x.total
        let dip := c.pwr.dip.isSome
        let x := { x with saved := if dip then x.saved else x.got, checker := f.src }
        let c := { c.setXfer x with mgmt := { (c.setXfer x).mgmt with mapDue := dip } }
        if whole && !x.erasing then c.setSlotState c.idleSlot 2 else at_ c

/-- UPDATE_CHECK_DONE: the full checks end; `ok` is false when the flash could not be read back (R613). -/
def Core.updChecked (c : Core) (ok : Bool) : Core :=
  match c.mgmt.xfer with
  | none => c
  | some x =>
    let k := c.idleSlot
    if !c.up || c.node.heatherEnd.isSome || c.slotState k != 2 || !x.live then c
    else
      let r := if ok then c.imageResult (c.slot k) else 8
      let c := if ok then c else c.report Src.FLASH_ERROR noInst 0
      let c := (c.setSlotState k (if r = 0 then 3 else 4)).setReg Reg.UT_RESULT r
      (c.updNote 1 k r).sendVerdict x.checker x.id r

/-- A slot that was checked when a restart came has only received its image (R617). -/
def Core.checkLost (c : Core) : Core :=
  if c.slotState c.idleSlot = 2 then c.setSlotState c.idleSlot 1 else c

end Sys2Proof.Machine
end

