-- ==== Sys2Proof/Machine/Mode.lean ====
section
/-! DEFINITION. Modes and their transitions, entering and leaving CONFIG, resets, the configuration store (chapter 19). -/

namespace Sys2Proof.Machine

/-! Settings in force (R643). -/

/-- R109, R111: the addresses that the settings in force and the strap give. -/
def Core.takeAddr (c : Core) (pair : Nat) : Core :=
  let n := if pair = 0 then c.reg Reg.STRAP_NODE else c.cfg Reg.BRANCH_NODE
  if n ≤ 0x3FE then c.setAddr pair (c.segmentOn pair * 1024 + n) 1 else c.setAddr pair 0xFFFF 0

/-- The settings on which an address rests (R109 to R111). -/
def Core.addrBasis (c : Core) (pair : Nat) : Nat × Nat :=
  if pair = 0 then (c.cfg Reg.SEGMENT, 0) else (c.cfg Reg.BRANCH_SEGMENT, c.cfg Reg.BRANCH_NODE)

/-- The time base takes its settings; TICK_PERIOD waits for a whole second (R230, R256, R643). A master that takes TIME_PRIORITY 255
stays master, since R234 leads none out for it (DESIGN CHOICE, log entry 112). -/
def Core.takeTime (c : Core) : Core :=
  let code := c.reg Reg.TICK_PERIOD
  let c := { c with time := { c.time with prioInForce := c.reg Reg.TIME_PRIORITY, bridgeInForce := c.reg Reg.TIME_BRIDGE } }
  let c := c.ppsSwitch.ownMaster
  { c with time := { c.time with newPeriod := if code = c.time.periodCode then none else some code } }

/-- Every value that applies on leaving CONFIG comes into force, and the resources take it (R643 steps 1 to 4). Ports and
inputs that are not stopped in CONFIG act at once. -/
def Core.comeIntoForce (c : Core) : Core :=
  let old0 := c.addrBasis 0
  let old1 := c.addrBasis 1
  let c := { c with inForce := c.regs }
  let c := c.takeTime
  let c := if c.addrBasis 0 = old0 then c else c.takeAddr 0
  let c := if c.addrBasis 1 = old1 then c else c.takeAddr 1
  let c := ([0, 1, 2, 3] : List Nat).foldl (fun (c : Core) p => c.portRefresh p) c
  c.fiLeave.lhpRefresh

/-- R643 step 2: serial channels, trunks and CAN controllers check their settings; LEAVE_ERRORS counts those in CONFIG_ERR. -/
def Core.checkResources (c : Core) : Core :=
  let c := (List.range 8).foldl (fun (c : Core) t =>
    if c.cfg (Reg.TRUNK_CHANNEL t) = 0xFF ∧ c.reg (Reg.TRUNK_STATE t) = 0 then c else c.startTrunk t) c
  let c := (List.range 128).foldl (fun (c : Core) n => c.startChan n) c
  let c := (List.range 32).foldl (fun (c : Core) n => c.startCan n) c
  let c := (List.range 64).foldl (fun (c : Core) n => if c.engState n = 0 then c else c.engStop n) c
  c.setReg Reg.LEAVE_ERRORS (((List.range 128).filter (fun n => c.chanConflict n)).length
    + ((List.range 32).filter (fun n => c.reg (Reg.CAN_STATE n) == 5)).length)

/-- R643: steps 1 to 4 of the leave; step 5 comes at a strobe. -/
def Core.leaveConfig (m : Memory) (c : Core) : Memory × Core :=
  if c.node.leaveAt.isSome then (m, c)
  else
    let (m, c) := Core.moveRoutes m c (c.reg Reg.MAP_ROUTE_BANKS)
    let c := c.comeIntoForce.checkResources
    let c := (List.range 64).foldl (fun (c : Core) b =>
      if bit (c.reg (Reg.BANK_STATE b)) 3 = bit (c.cfg Reg.STAGE_SET) b then c else c.bankState b) c
    let c := { c with disc := { c.disc with left := true } }
    let c := c.discLeave.railLeave
    Core.reissueFree m { c with node := { c.node with leaveAt := some c.now, trigger := 6, started := true } }

/-- R643 step 5: the base mode is set, outputs are driven and the stopped resources run. -/
def Core.leaveStrobe (c : Core) : Core :=
  let base := if c.cfg Reg.TW_ENABLE = 1 then 6 else 5
  let c := { c with node := { c.node with leaveAt := none, base := base, ioHold := false } }
  let c := (c.refreshMode 6).formPair
  (List.range 32).foldl (fun (c : Core) n => c.measRefresh n) c

/-- The record under reception at a channel that stops is discarded (log entry 68). -/
def Core.dropPackets (c : Core) : Core :=
  { c with chans := c.chans.map (fun (x : Nat × Chan) => (x.1, { x.2 with packet := none })) }

/-- R642: the node enters CONFIG from operation. A holder passes its token as at safe entry; a unit leaves its pair. -/
def Core.enterConfig (c : Core) : Core :=
  let c := c.safeResources.dropPackets
  let c := { c with node := { c.node with enterAt := none, base := 3, ioHold := true } }
  let c := c.refreshMode 7
  let c := if c.twin.safeAt.isSome then c else c.leavePair
  (List.range 32).foldl (fun (c : Core) n => c.measRefresh n) c

/-- R640: QUIESCENT is set or cleared: the resources that it stops give up what waits for them; the branch pair follows. -/
def Core.setQuiet (c : Core) (on : Bool) : Core :=
  let c := { c with node := { c.node with quiescent := on } }
  let c := if on then
      let c := (c.chans.map (fun x => x.1)).foldl (fun (c : Core) (n : Nat) => c.chanSafe n) c.dropPackets
      let c := (c.cans.map (fun x => x.1)).foldl (fun (c : Core) (n : Nat) => c.canSafe n) c
      (List.range 64).foldl (fun (c : Core) (n : Nat) => if c.engState n = 0 then c else c.engStop n) c
    else c
  let c := (List.range 32).foldl (fun (c : Core) n => c.measRefresh n) c
  (((c.portRefresh 2).portRefresh 3).refreshMode 13).readyRefresh

/-- MODE_CHANGE_AT_STROBE: what a mode command or a leave asked at least 10 ns before this strobe (R640, R642, R643). -/
def Core.modeStrobe (c : Core) : Core :=
  let (ripe, young) := c.node.quietAt.partition (fun q => Nat.ble (q.2 + 10) c.now)
  let c := ripe.foldl (fun (c : Core) q => if (q.1 && c.node.contested) || q.1 == c.node.quiescent then c else c.setQuiet q.1)
    { c with node := { c.node with quietAt := young } }
  let c := match c.node.enterAt with
    | some t => if c.now < t + 10 ∨ c.node.updating = true ∨ c.mgmt.activate = true then c else c.enterConfig
    | none => c
  let c := c.routesDrained
  match c.node.leaveAt with
  | some t => if c.now < t + 10 ∨ c.time.newPeriod.isSome = true ∨ c.node.routeDrain ≠ [] then c else c.leaveStrobe
  | none => c

/-- The row: the first strobe at least 10 ns after the command. -/
def Core.modeChange (c : Core) : Core :=
  let due : Option Nat := match c.node.enterAt, c.node.quietAt, c.node.leaveAt with
    | some t, _, _ => some t
    | _, q :: _, _ => some q.2
    | _, _, some t => some t
    | none, [], none => none
  match due with
  | none => c
  | some t =>
    let c := c.advanceTo (t + 10)
    (c.advanceSys ((c.sysNs + c.period - 1) / c.period * c.period)).modeStrobe

/-- R654: a contest begins at this moment. -/
def Core.contestNow (c : Core) : Bool := c.node.contested && c.twin.holdEnd == some (c.now + c.twPeriod)

/-- R654: an ACTIVATE has been handled at this moment. -/
def Core.activatedNow (c : Core) : Bool := c.mgmt.restart == 3 && c.node.heatherEnd == some (c.now + 5000000000)

/-- MODE_CMD: RANGE 0x0B, MODE 8, BUSY 0x0C, REFUSED 0x11 (R640, R641, R654). Of several writes of 1 the first counts; 6 is
accepted whenever QUIESCENT is set or about to be (log entry 67). -/
def Core.modeCmd (m : Memory) (c : Core) (v : Nat) : Nat × Memory × Core :=
  let mode := c.modeCode
  if v = 0 ∨ 6 < v then (0x0B, m, c)
  else if v = 1 then
    if [5, 6, 8, 9, 10].contains mode || (mode == 11 && c.activatedNow) then
      (0, m, { c with node := { c.node with enterAt := some (c.node.enterAt.getD c.now) } })
    else (8, m, c)
  else if v = 2 then
    if mode = 3 then
      let (m, c) := Core.leaveConfig m c
      (0, m, c)
    else (8, m, c)
  else if v = 3 then
    if mode = 3 ∧ c.reg Reg.LC_STATE ≠ 2 ∧ c.node.leaveAt.isNone = true then
      (0, m, { c with node := { c.node with base := 4 } }.refreshMode 8)
    else (8, m, c)
  else if v = 4 then
    if mode ≠ 4 then (8, m, c)
    else if c.reg Reg.RUN_STATE ≠ 0 then (0x0C, m, c)
    else (0, m, { c with node := { c.node with base := 3 } }.refreshMode 9)
  else if v = 5 then
    if mode = 7 ∧ c.contestNow = true then (0x11, m, c)
    else if !([5, 6, 8] : List Nat).contains mode then (8, m, c)
    else if c.inPair && c.flag Reg.TW_TOKEN then (0x11, m, c)
    else (0, m, { c with node := { c.node with quietAt := c.node.quietAt ++ [(true, c.now)] } })
  else if c.node.quiescent || !c.node.quietAt.isEmpty then
    (0, m, { c with node := { c.node with quietAt := c.node.quietAt ++ [(false, c.now)] } })
  else (8, m, c)

/-! The change of TICK_PERIOD (R643, R679). -/

/-- R679: ticks that wait for their close take their new numbers; those that become one tick close together, at the later instant
(DESIGN CHOICE, log entry 70). -/
def renumberWaiting (p : Nat → Nat) : List (Nat × Nat) → List (Nat × Nat)
  | [] => []
  | (n, t) :: rest => match renumberWaiting p rest with
    | (m, u) :: more => if m = p n then (m, max t u) :: more else (p n, t) :: (m, u) :: more
    | [] => [(p n, t)]

/-- R679: a record not yet placed takes the new number of its tick. -/
def EvRec.renumber (p : Nat → Nat) (r : EvRec) : EvRec := { r with tick := p r.tick }

/-- A member of type TICK: it stamps a tick already begun. -/
def isStamp (k : Nat) : Bool := match memberOf (k / 256) (k % 256) with
  | some r => r.ty == .tick
  | none => false

/-- R679: every tick value that the node holds gets its number in the new period: `a` of a tick still to come, `p` of one already
begun. Scheduled entries that thereby share a target and a bank combine (R270). -/
def Core.renumber (c : Core) (a p : Nat → Nat) : Core :=
  let p (t : Nat) : Nat := if t = tickUnknown then t else p t
  let stamps := c.regs.filter (fun r => isStamp r.1)
  let c := stamps.foldl (fun (c : Core) r => c.setReg r.1 (p r.2)) c
  let pend (x : Census) : Census := { x with pending := x.pending.map (fun (t : PendTable) => { t with tick := a t.tick }) }
  let entry (e : SchedEntry) : SchedEntry := { e with target := a e.target }
  let pair (x : MeasPair) : MeasPair := { x with recTick := x.recTick.map p }
  let table := c.sched.table.map entry
  let c := { c with
    ring := { c.ring with home := pend c.ring.home, branch := pend c.ring.branch }
    dict := { c.dict with rwt := c.dict.rwt.map (fun (w : PendRwt) => { w with tick := a w.tick }) }
    sched := { c.sched with
      post := c.sched.post.map entry
      updates := c.sched.updates.map (fun (u : OutUpd) => { u with target := u.target.map a }) }
    twin := { c.twin with
      strobeT := c.twin.strobeT.map a, safeAt := c.twin.safeAt.map a, takeAt := c.twin.takeAt.map a
      snapTick := c.twin.snapTick.map a }
    meas := c.meas.map (fun (x : Nat × Meas) => (x.1, { x.2 with pairA := pair x.2.pairA, pairB := pair x.2.pairB }))
    chans := c.chans.map (fun (x : Nat × Chan) =>
      (x.1, { x.2 with packet := x.2.packet.map (fun (k : Packet) => { k with tick := p k.tick }) }))
    cans := c.cans.map (fun (x : Nat × Can) =>
      (x.1, { x.2 with boxes := x.2.boxes.map (fun (b : Nat × Mailbox) => (b.1, { b.2 with tick := p b.2.tick })) }))
    fcLatch := { c.fcLatch with tick := p c.fcLatch.tick, past := c.fcLatch.past.map (fun (s : Nat × Nat) => (p s.1, s.2)) }
    map := { c.map with lastPass := c.map.lastPass.map p }
    pwr := { c.pwr with dip := c.pwr.dip.map (fun (x : Dip) => { x with tick := p x.tick }) }
    ev := { c.ev with
      closed := c.ev.closed.map p, waiting := renumberWaiting p c.ev.waiting
      early := c.ev.early.map (EvRec.renumber p), opened := c.ev.opened.map (EvRec.renumber p), held := c.ev.held.map (EvRec.renumber p) }
    fc := { c.fc with
      closed := c.fc.closed.map p, waiting := renumberWaiting p c.fc.waiting
      arrivals := c.fc.arrivals.map (fun (x : FaultRec) => { x with onset := p x.onset, clear := p x.clear })
      active := c.fc.active.map (fun (x : Active) => { x with onset := p x.onset }) } }
  table.foldl (fun (c : Core) (e : SchedEntry) =>
    if c.sched.table.any (fun x => x.target == e.target && x.bank == e.bank) then
      c.setSched (c.sched.table.map (fun x => if x.target = e.target ∧ x.bank = e.bank then combineSched x e else x))
    else c.setSched (c.sched.table ++ [e])) (c.setSched [])

/-- The first whole second of system time not yet passed, in nanoseconds. -/
def Core.secondBoundary (c : Core) : Nat :=
  (c.time.sys + 1000000000 * 2 ^ 32 - 1) / (1000000000 * 2 ^ 32) * 1000000000

/-- The tick generator counts in the period of a code. The last tick that fired takes its number in the new period; the tick whose
boundary is now is armed unless it, or a later one, has fired (R250). -/
def Core.takePeriod (c : Core) (code : Nat) : Core :=
  let n := c.time.sys / 2 ^ 32 / periodOf code
  let last := c.time.lastTick.map (fun k => k * c.period / periodOf code)
  let free : Bool := match last with
    | some k => Nat.blt k n
    | none => true
  { c with time := { c.time with
    periodCode := code, newPeriod := none, lastTick := last, tag := last, armed := if free then some (n % tickMod) else none } }

/-- TICK_PERIOD_CHANGE: at the first whole second of system time after step 4 of the leave, the ticks held are renumbered; the next
strobe, at that second, has the number that the new period gives it. A node in MISMATCH enters FREE (R235). -/
def Core.periodChange (c : Core) : Core :=
  match c.time.newPeriod with
  | none => c
  | some code =>
    let c := c.advanceSys c.secondBoundary
    let full := c.tickFull
    let c := c.renumber (renumberAhead full c.period (periodOf code)) (renumberPast full c.period (periodOf code))
    let c := c.takePeriod code
    if c.timeState = 5 then c.moveTime 0 0 else c

/-! Resets (R644 to R647). -/

/-- The members that a reset leaves as they are (R538, R610, R614, R646). -/
def survives (k : Nat) : Bool :=
  [Reg.PL_NEXT, Reg.BK_VALID, Reg.BK_CNT_POWER_FAIL, Reg.LC_STATE, Reg.LC_RETURNS, Reg.ROLLBACK_FUSE, Reg.RESET_CAUSE,
   Reg.RESET_COUNT, Reg.FW_RUNNING, Reg.SLOT_STATE_A, Reg.SLOT_STATE_B, Reg.FW_VERSION_A, Reg.FW_VERSION_B,
   Reg.LOG_FLASH_OLDEST, Reg.LOG_FLASH_NEWEST].contains k

/-- A copy of the store that was being written (R653, R654). -/
def Core.copiesAfter (c : Core) : CfgCopy × CfgCopy :=
  let broken (x : CfgCopy) : CfgCopy := { x with valid := false, empty := false }
  match c.node.saving with
  | some (false, _) => (broken c.node.copyA, c.node.copyB)
  | some (true, _) => (c.node.copyA, broken c.node.copyB)
  | none => (c.node.copyA, c.node.copyB)

/-- The levels at the balls of a ring port, and the module that stands in it. -/
def RingPort.balls (r : RingPort) : RingPort :=
  { present := r.present, module := r.module, los := r.los, txFault := r.txFault }

/-- What a reset leaves: every object at its default, but the backup domain, the flash, the fuses and the reset registers;
levels on the balls stay what they are. -/
def Core.afterReset (c : Core) (keepCause : Bool) : Core :=
  let z : Core := {}
  let (a, b) := c.copiesAfter
  let trial := c.mgmt.trial.or c.mgmt.recordDue
  let c1 : Core := match trial with
    | some t => c.setSlotState t.slot 8
    | none => c.checkLost
  let z : Core := { z with
    free := c.free
    regs := c1.regs.filter (fun (x : Nat × Nat) => survives x.1)
    blobs := c.blobs.filter (fun (x : Nat × Bytes) => x.1 == Reg.PL_LOG || x.1 == Reg.TOKEN_L3 || x.1 == Reg.DEVICE_UID
      || (keepCause && x.1 == Reg.FC_RESET_CAUSE))
    time := { z.time with now := c.time.now }
    node := { z.node with strapNode := c.node.strapNode, strapRank := c.node.strapRank, bootSrc := c.node.bootSrc,
                          lockPin := c.node.lockPin, resetNLow := c.node.resetNLow, copyA := a, copyB := b }
    pwr := { z.pwr with rails := c.pwr.rails.filterMap (fun (x : Nat × Rail) =>
                          if x.2.presHigh then some (x.1, ({ presHigh := true } : Rail)) else none)
                        vbat := c.pwr.vbat, entryNo := c.pwr.entryNo, rtc := c.pwr.rtc, rtcAt := c.pwr.rtcAt }
    ring := { z.ring with ports := c.ring.ports.filterMap (fun (x : Nat × RingPort) =>
                            if x.2.balls == {} then none else some (x.1, x.2.balls)) }
    fc := { z.fc with lines := c.fc.lines }
    jtag := c.jtag
    lhp := { z.lhp with clock := c.lhp.clock }
    log := { z.log with flash := c.log.flash, held := c.powerLogs }
    mgmt := { z.mgmt with slotA := c.mgmt.slotA, slotB := c.mgmt.slotB, fuseDue := c.mgmt.fuseDue, gone := c.mgmt.gone
                          boot := (match trial with
                            | some t => t.prev
                            | none => c.mgmt.boot)
                          revertDue := trial.map (fun (t : Trial) => t.slot)
                          xfer := c.mgmt.xfer.map (fun (x : UpdXfer) => { x with live := false }) } }
  ((z.setReg Reg.SUPPLY_FLAGS (8 * b2n (bit (c.reg Reg.SUPPLY_FLAGS) 3))).setReg Reg.LHP_SB_STATE (c.fc.lines % 16)).setReg
    Reg.LHP_BCLK_KHZ (if c.lhp.clock then c.reg Reg.LHP_BCLK_KHZ else 0)

/-- R644, R646: a reset by a source: 1 POWER_ON, 2 SUPPLY, 3 RESET_N, 4 ESCALATION, 5 COMMAND. A source that acts within a
reset joins it, and RESET_CAUSE takes the first in table order. -/
def Core.resetNode (c : Core) (source : Nat) : Core :=
  let inside : Bool := c.node.phase == .reset
  let fromMode := if c.node.phase = .off then 0 else if c.node.phase = .backup then 1 else c.reg Reg.MODE
  let on : Bool := c.supervised
  let sources := if inside then source :: c.node.sources else [source]
  let z := if inside then c else c.afterReset (source == 4 || source == 5)
  let z := if source ≤ 3 then z.setBlob Reg.FC_RESET_CAUSE (zeros 32) else z
  let z := { z with node := { z.node with
    phase := .reset, sources := sources
    was := if inside then c.node.was else fromMode, wasUp := if inside then c.node.wasUp else on } }
  let n := if source = 1 then 0 else if inside then c.reg Reg.RESET_COUNT else min 0xFFFFFFFF (c.reg Reg.RESET_COUNT + 1)
  (z.setReg Reg.RESET_CAUSE (sources.foldl min 5)).setReg Reg.RESET_COUNT n

/-- POWER_ON: VDD_3V3 has risen from below 1.0 V (R644). -/
def Core.powerOn (c : Core) : Core := c.resetNode 1

/-- SUPPLY_RESET: the POWER_FAIL entry, then the reset; `low` is the lowest VIN_MV of a dip episode under way, `absent` tells
that the main supply goes (R533, R637). -/
def Core.supplyReset (c : Core) (low : Nat) (absent : Bool) : Core :=
  let c := if c.supervised then
      let (mn, dur) : Nat × Nat := match c.pwr.dip with
        | some d => (min low d.low, (c.now - d.start) / 1000)
        | none => (0, 0)
      let c := c.plWrite 4 mn dur false
      c.inc Reg.BK_CNT_POWER_FAIL
    else c
  if c.node.phase = .off ∨ c.node.phase = .backup then c
  else
    let c := c.resetNode 2
    if absent then { c with node := { c.node with phase := .backup } } else c

/-- RESET_N: the ball has been low for ns nanoseconds, and still is or not (R645). Between 0.8 and 1.2 µs it is open whether
the oscillator accepts the pulse. -/
def Core.resetBall (c : Core) (ns : Nat) (still : Bool) : Core :=
  let c := { c with node := { c.node with resetNLow := still } }
  let c := if still then c else c.jtagRelease
  let (v, c) := if 800 < ns ∧ ns < 1200 then c.draw else (1, c)
  let hit : Bool := Nat.ble 1200 ns || (Nat.blt 800 ns && v % 2 == 1)
  if !hit || c.node.phase == .off || c.node.phase == .backup then c else c.resetNode 3

/-- ESCALATION_RESET: 50 µs after a RESET step (R584). -/
def Core.escalationReset (c : Core) : Core :=
  match c.fc.resetAt with
  | none => c
  | some t => (c.advanceTo t).resetNode 4

/-- RESET_CMD: any value but 0x0000_A5A5 is refused with RANGE (0x0B) (R644). -/
def Core.resetCmd (c : Core) (v : Nat) : Nat × Core := if v = 0xA5A5 then (0, c.resetNode 5) else (0x0B, c)

/-- RESET_RELEASE: the conditions of R647 have held for 2 ms, after the 10 µs of an internal reset; BOOT begins, BOOT_SRC is
read. -/
def Core.resetRelease (c : Core) : Core :=
  if c.node.phase = .boot ∨ c.node.phase = .run ∨ c.node.phase = .off then c
  else
    let own : Bool := c.node.phase == .reset && c.node.sources.all (fun s => Nat.ble 4 s)
    let c := (c.advance (2000000 + 10000 * b2n own)).jtagRelease
    let code := if c.node.wasUp && c.node.phase == .reset then 4 else 3
    let was := if c.node.phase = .backup then 1 else c.node.was
    let c := { c with node := { c.node with phase := .boot, resetNLow := false, bootLatched := c.node.bootSrc
                                            releasedAt := c.now } }
    let c := ((c.setReg Reg.MODE 2).setReg Reg.MODE_FLAGS 1).setReg Reg.MODE_TICK c.tick
    let c := c.softEvent 0xC03 0x10 2 (was + 2 * 256 + code * 65536)
    (c.feedRefresh 0).feedRefresh 1

/-! The configuration store (R653). -/

/-- Members of access RWC that act when written, not on leaving CONFIG. -/
def actsAtOnce (k : Nat) : Bool := k == Reg.SYNC_PERIOD || k == Reg.DUP_POLICY || k == Reg.ASSIGN_BASE

/-- R653: a copy holds this member. -/
def inStore (k : Nat) : Bool :=
  let o := k / 256
  (match memberOf o (k % 256) with
    | some r => r.acc == .rw || r.acc == .rwc || r.acc == .rwt
    | none => false)
    && k != Reg.TIME_SET && (Nat.blt o 0x100 || Nat.blt 0x1FF o || k == Reg.AUTO_START)

/-- The value in force of a member of the store. -/
def Core.storeValue (c : Core) (k : Nat) : Nat :=
  match memberOf (k / 256) (k % 256) with
  | some r => if r.acc = .rwc ∧ actsAtOnce k = false then c.cfg k else c.reg k
  | none => 0

/-- Bytes of the tables that a copy holds: the route table, the mapping entries, the CAN filter entries (R404, R653). -/
def Core.tableByte (c : Core) (a : Nat) : Bool :=
  (Nat.ble c.routeBase a && Nat.blt a (44 * 65536) && !(Nat.blt a (40 * 65536) && Nat.ble 22 (a % 32) && Nat.blt (a % 32) 28))
    || (Nat.ble (44 * 65536) a && Nat.blt a (48 * 65536) && Nat.ble 0x1600 (a % 8192) && Nat.blt (a % 8192) 0x1C00)

/-- The bytes of the tables, other than 0, with their local offsets, rising. -/
def Core.tableCells (m : Memory) (c : Core) : List (Nat × Byte) :=
  let banks := (List.range 48).filter (fun b => Nat.ble (c.routeBase / 65536) b)
  let words (b : Nat) : List Nat := sortBy Nat.blt (m.wordsIn (c.bankPlace b).1)
  let cells := banks.flatMap (fun b => (words b).flatMap (fun w =>
    ((leBytes 8 (m.eccWord w).2).zipIdx.map (fun e => (b * 65536 + 8 * (w % 8192) + e.2, e.1)))))
  cells.filter (fun x => x.2 != emptyByte && c.tableByte x.1)

/-- The values in force, with the tokens and the tables. -/
def Core.storeImage (m : Memory) (c : Core) (gen : Nat) : CfgCopy :=
  let keys := ((c.regs ++ c.inForce).map (fun (x : Nat × Nat) => x.1)).eraseDups.filter inStore
  let values := (keys.map (fun (k : Nat) => (k, c.storeValue k))).filter (fun (x : Nat × Nat) => x.2 != regDefault x.1)
  { gen := gen, valid := true, empty := false, dictMajor := c.reg Reg.DICT_VERSION / 256
    values := sortBy (fun (x y : Nat × Nat) => Nat.blt x.1 y.1) values
    blobs := c.blobs.filter (fun (x : Nat × Bytes) => inStore x.1 || x.1 == Reg.TOKEN_L1 || x.1 == Reg.TOKEN_L2)
    tables := Core.tableCells m c }

/-- Copy B is the newer valid one. -/
def Core.newerIsB (c : Core) : Bool :=
  let a := c.node.copyA
  let b := c.node.copyB
  let d := (b.gen + 2 ^ 32 - a.gen) % 2 ^ 32
  b.valid && (!a.valid || (Nat.ble 1 d && Nat.blt d (2 ^ 31)))

/-- CFG_CMD 1: BUSY (0x0C) while a save runs. The save goes to the older or an invalid copy. -/
def Core.cfgSave (m : Memory) (c : Core) : Nat × Core :=
  if c.node.saving.isSome then (0x0C, c)
  else
    let a := c.node.copyA
    let b := c.node.copyB
    let gen := if a.valid ∨ b.valid then ((if c.newerIsB then b.gen else a.gen) + 1) % 2 ^ 32 else 1
    let toB : Bool := a.valid && !c.newerIsB
    let x := Core.storeImage m c gen
    (0, ({ c with node := { c.node with saving := some (toB, x) } }).setReg Reg.CFG_SAVE_STATE 1)

/-- CFG_SAVE_DONE: the save ends, well or not; a dip or a Heather restart holds it. -/
def Core.cfgSaveDone (c : Core) (ok : Bool) : Core :=
  match c.node.saving with
  | none => c
  | some (toB, x) =>
    if !c.firmware || c.pwr.dip.isSome then c
    else
      let x : CfgCopy := if ok then x else { x with valid := false }
      let c := { c with node := if toB then { c.node with saving := none, copyB := x } else { c.node with saving := none, copyA := x } }
      if ok then (c.setReg Reg.CFG_SAVE_STATE 0).setReg Reg.CFG_GENERATION x.gen
      else (c.setReg Reg.CFG_SAVE_STATE 2).report Src.FLASH_ERROR noInst 0

/-- CFG_CMD: 1 saves, 2 erases both copies; RANGE (0x0B) else. -/
def Core.cfgCmd (m : Memory) (c : Core) (v : Nat) : Nat × Core :=
  if v = 1 then Core.cfgSave m c else if v = 2 then (0, c.cfgErase) else (0x0B, c)

end Sys2Proof.Machine
end

