-- ==== Sys2Proof/Machine/Owner.lean ====
section
/-! DEFINITION. What the dictionary engine asks of the subsystem that owns a member: the value a read returns and its effect
(R42, R45), the checks of a value (R39 to R41), the modes in which it may be written (R42, R48), and the owner's own checks and
effect of a completed write (R62 steps 11 and 13). -/

namespace Sys2Proof.Machine

/-! Reading. -/

/-- The value of a member of fixed width as it reads now. A member that reports what other state holds is computed. -/
def Core.view (c : Core) (o mb : Nat) : Nat :=
  let k := o * 256 + mb
  if o = 0x0120 then setBit (c.reg k) 13 c.node.lockPin
  else if o = 0x0213 then b2n (c.tokenSet 1) + 2 * b2n (c.tokenSet 2) + 4 * b2n (c.tokenSet 3)
  else if o = 0x0221 then c.dict.sessions.length
  else if o = 0x0223 then c.sessionWord mb
  else if o = 0x0226 then (match c.dict.lockEnd with
    | some t => (t - c.now + 999999999) / 1000000000
    | none => 0)
  else if o = 0x0231 then c.dict.xfers.length
  else if 0x1000 ≤ o ∧ o < 0x1040 ∧ o % 0x10 = 5 then c.sfpStatus ((o - 0x1000) / 0x10)
  else if o = 0x1303 then c.reg Reg.SW_POOL / 1024
  else if 0x1340 ≤ o ∧ o < 0x13C0 ∧ o % 8 = 4 then max (c.reg k) (c.usedTotal ((o - 0x1340) / 8))
  else if 0x2000 ≤ o ∧ o < 0x3000 ∧ o % 0x20 = 0x16 then c.chCounts ((o - 0x2000) / 0x20)
  else if 0x3400 ≤ o ∧ o < 0x3800 ∧ o % 0x10 = 0xB then
    let x := c.eng ((o - 0x3400) / 0x10)
    [0, x.pc, x.sr, x.fill, b2n x.eq, x.cnt, b2n (x.pendProg.isSome || x.pendWrap.isSome || x.pendDiv.isSome), x.tx.length,
      x.rx.length].getD mb 0
  else if 0x4000 ≤ o ∧ o < 0x4100 ∧ o % 8 = 5 ∧ mb = 2 then c.discPin ((o - 0x4000) / 8)
  else if o = 0x5000 then c.sysNs
  else if o = 0x5001 then c.tickNow
  else if o = 0x500C then c.syncPortRead
  else if o = 0x5011 then (if c.timeState = 4 then min 0xFFFFFFFF ((c.now - c.time.enteredState) / 1000000) else 0)
  else if o = 0x6000 then c.routeBase
  else if o = 0x6002 then 2048 * c.cfg Reg.MAP_ROUTE_BANKS
  else if 0x7800 ≤ o ∧ o < 0x7840 ∧ mb = 2 then setBit (c.reg k) 3 (c.up && bit (c.cfg Reg.STAGE_SET) (o - 0x7800))
  else if o = 0x7C07 then c.irqState
  else if o = 0x8007 then c.twPaths
  else if o = 0x9001 then c.vinMv
  else if o = 0x9010 then c.rtcNs
  else if (o = 0x9020 ∨ o = 0x9028) ∧ mb = 5 then c.feedNow ((o - 0x9020) / 8)
  else if 0xA100 ≤ o ∧ o < 0xA184 ∧ mb = 4 then
    setBit (c.reg k) 4 (c.fc.isos.any (fun e => e.1 == o - 0xA100 && e.2.1 == noInst))
  else if o = 0xB20A then c.confirmLeft
  else c.reg k

/-- The bytes of an OCTETS or TEXT member as it reads now. -/
def Core.viewBytes (c : Core) (o mb : Nat) : Bytes :=
  if 0x3000 ≤ o ∧ o < 0x3200 ∧ o % 0x10 = 0xA then c.fcLatchBytes
  else if o = 0xA010 then (c.readFirst).1
  else if o = 0xA012 then (c.popFault).1
  else if o = 0xA013 then c.peekFault
  else if o = 0xA020 then c.escSlots
  else if o = 0xA022 then c.isoTable
  else if o = 0xB10A then c.flashData
  else c.blob (o * 256 + mb)

/-- R34: the member row of member .00. -/
def descriptorRow : MemRow := ⟨0, 0, .u32, .ro, 0, 0, 0, 0, 0, 0, 0⟩

/-- The value of a member, encoded (R39). -/
def Core.readValue (c : Core) (o mb : Nat) (r : MemRow) : Bytes :=
  if mb = 0 then (match objectOf o with
    | some x => leBytes 4 x.descriptor
    | none => [])
  else if r.isBytes then c.viewBytes o mb
  else leBytes (r.ty.bits / 8) (c.view o mb)

/-- R42: what a read does to the member: access RC clears it, and the fault records are removed. The highest total of an output since
the read begins with the present one (R198). -/
def Core.readEffectOf (c : Core) (o mb : Nat) (r : MemRow) : Core :=
  if r.acc ≠ .rc then c
  else if o = 0xA010 then (c.readFirst).2
  else if o = 0xA012 then (c.popFault).2
  else if 0x1340 ≤ o ∧ o < 0x13C0 ∧ o % 8 = 4 then c.setReg (o * 256 + mb) (c.usedTotal ((o - 0x1340) / 8))
  else c.setReg (o * 256 + mb) 0

/-! Checks of a value (R39 to R41, R62 steps 9 and 10). -/

/-- Bytes that continue a UTF-8 sequence. -/
def utf8Tail (n : Nat) (bs : Bytes) : Bool :=
  n == (bs.take n).length && (bs.take n).all (fun b => b.toNat / 64 == 2)

/-- R39: the bytes are well-formed UTF-8; `fuel` is their number. -/
def utf8Ok : Nat → Bytes → Bool
  | 0, bs => bs.isEmpty
  | fuel + 1, bs => match bs with
    | [] => true
    | b :: rest =>
      let x := b.toNat
      let y := fieldAt rest 0 1
      if x < 0x80 then utf8Ok fuel rest
      else if 0xC2 ≤ x ∧ x < 0xE0 then utf8Tail 1 rest && utf8Ok fuel (rest.drop 1)
      else if 0xE0 ≤ x ∧ x < 0xF0 then
        utf8Tail 2 rest && !(x == 0xE0 && Nat.blt y 0xA0) && !(x == 0xED && Nat.ble 0xA0 y) && utf8Ok fuel (rest.drop 2)
      else if 0xF0 ≤ x ∧ x < 0xF5 then
        utf8Tail 3 rest && !(x == 0xF0 && Nat.blt y 0x90) && !(x == 0xF4 && Nat.ble 0x90 y) && utf8Ok fuel (rest.drop 3)
      else false

/-- The value lies in the range that its object table gives; RAIL_FOLLOW and TRUNK_CHANNEL have a value for none beside theirs. -/
def MemRow.inRange (r : MemRow) (o v : Nat) : Bool :=
  let x : Int := if r.ty.signed then toInt r.ty.bits v else v
  (decide (r.lo ≤ x) && decide (x ≤ r.hi) && (r.ty != .f32 || v / 2 ^ 23 % 256 != 255))
    || (Nat.ble 0x9100 o && Nat.blt o 0x9200 && o % 0x10 == 2 && v == 0xFFFF)
    || (Nat.ble 0x1140 o && Nat.blt o 0x11C0 && o % 0x10 == 0 && v == 0xFF)

/-- The value of written bytes as a number, its reserved bits cleared (R4). -/
def MemRow.number (r : MemRow) (bs : Bytes) : Nat := if r.mask = 0 then leVal bs else Nat.land (leVal bs) r.mask

/-- R279, R284, R286, R287, R289, R294, R305, R307: the fields of a channel's setting j lie in their ranges. -/
def chanFieldsOk (j v : Nat) : Bool :=
  if j = 3 then bits v 2 1 != 3
  else if j = 4 then Nat.ble v 2
  else if j = 0xC then Nat.ble v 1
  else if j = 9 then Nat.ble 2 (bits v 15 0) && Nat.ble 1 (bits v 31 24)
  else if j = 0xA then Nat.blt (bits v 8 0) 0x20 || bits v 8 0 == 0x100 || bits v 8 0 == 0x1FF
  else if j = 0xB then bits v 1 0 != 3
  else if j = 0x10 then Nat.ble (bits v 6 4) 4
  else true

/-- R321, R322: the fields of a controller's setting j lie in their ranges. -/
def canFieldsOk (j v : Nat) : Bool :=
  if j = 0 then bits v 1 0 != 3 else if j = 1 then Nat.ble 1 (bits v 15 8) else true

/-- The fields of a value lie in the ranges that the rules give them. -/
def fieldsOk (o v : Nat) : Bool :=
  if 0x2000 ≤ o ∧ o < 0x3000 then chanFieldsOk (o % 0x20) v
  else if 0x3000 ≤ o ∧ o < 0x3200 then canFieldsOk (o % 0x10) v
  else true

/-- LENGTH 9, TYPE 0x0A or RANGE 0x0B of a written value, 0 when it passes. -/
def MemRow.valueStatus (r : MemRow) (o : Nat) (bs : Bytes) : Nat :=
  if r.isBytes then
    if r.maxLen < bs.length ∨ (r.fixLen ≠ 0 ∧ bs.length ≠ r.fixLen) then 9
    else if 0x3000 ≤ o ∧ o < 0x3200 ∧ bs.length < 8 then 9
    else if r.ty = .text ∧ utf8Ok bs.length bs = false then 0x0A else 0
  else if 8 * bs.length ≠ r.ty.bits then 9
  else if r.inRange o (r.number bs) && fieldsOk o (r.number bs) then 0 else 0x0B

/-- R42, R48, R653: the mode or life-cycle state forbids the write. -/
def Core.writeBarred (c : Core) (o : Nat) (r : MemRow) : Bool :=
  c.node.phase != .boot
    && ((r.acc == .rwc || o == 0x0210 || o == 0x0211) && c.modeCode != 3 || o == 0x0212 && c.reg Reg.LC_STATE != 0)

/-- R599, R621: the firmware that serves this object does not run. -/
def Core.ownerPaused (c : Core) (o : Nat) : Bool :=
  let h := c.reg Reg.HEATHER_STATE
  (Nat.ble 0xB000 o && Nat.ble o 0xB3FF || o == 0x7484) && (h == 1 || h == 2 && !(Nat.ble 0xB200 o && Nat.ble o 0xB2FF))

/-! Writing. -/

/-- What the owner made of a completed write: a status of R61, whether the answer waits for a handover (R457), memory and
core. -/
structure Own where
  st : Nat
  wait : Bool := false
  mem : Memory
  core : Core

/-- Objects below 0x2000: modes, tokens' sessions, ring, switch, checks. -/
def Core.ownLow (m : Memory) (c : Core) (lvl o mb v : Nat) : Own :=
  let k := o * 256 + mb
  let one (x : Nat × Core) : Own := { st := x.1, mem := m, core := x.2 }
  let both (x : Nat × Memory × Core) : Own := { st := x.1, mem := x.2.1, core := x.2.2 }
  if o = 0x0102 then both (Core.modeCmd m c v)
  else if o = 0x0111 then one (c.resetCmd v)
  else if o = 0x0131 then one (c.lcCmd lvl v)
  else if o = 0x0140 then one (Core.cfgCmd m c v)
  else if o = 0x0222 then one (0, (c.setReg k v).closeIdle)
  else if o = 0x1117 then one (if v = 1 then (0, c.censusBoth 0) else (0x0B, c))
  else if (o = 0x1134 ∧ c.reg Reg.TRUNK_DEAD ≤ 2 * v) ∨ (o = 0x1135 ∧ v ≤ 2 * c.reg Reg.TRUNK_KEEPALIVE) then one (0x0B, c)
  else if 0x1310 ≤ o ∧ o < 0x1320 then one (c.bufLimitEffect (o - 0x1310) (mb - 1) v)
  else if k = Reg.INJ_ARM then one (c.injArm v)
  else if k = Reg.EGRESS_BURST_LIMIT then one (0, c.burstLimitWrite v)
  else one (0, c.setReg k v)

/-- Objects from 0x2000 to 0x5FFF: channels, CAN controllers, engines, discrete banks, measurement inputs, the time base. -/
def Core.ownField (m : Memory) (c : Core) (o mb v raw : Nat) : Own :=
  let k := o * 256 + mb
  let one (x : Nat × Core) : Own := { st := x.1, mem := m, core := x.2 }
  if o < 0x3000 then
    let n := (o - 0x2000) / 0x20
    if o % 0x20 = 0x17 then one (if v = 1 then (0, c.chanReset n) else (0x0B, c))
    else if o % 0x20 = 0xD ∨ o % 0x20 = 0xE ∨ o % 0x20 = 0xF then one (0, (c.setReg k v).rxSwap n)
    else one (0, c.setReg k v)
  else if o < 0x3200 then
    let n := (o - 0x3000) / 0x10
    if o % 0x10 = 6 then one (c.canCmd n v)
    else if o % 0x10 = 7 then one (0, c.canAbort n v)
    else if o % 0x10 = 0xB then one (c.canRxRd n v)
    else one (0, c.setReg k v)
  else if o < 0x3800 then
    let n := (o - 0x3400) / 0x10
    let j := o % 0x10
    if j = 0 then one (c.engCtrl n v)
    else if j = 2 ∨ j = 3 ∨ j = 4 then one (c.engSetting n k v)
    else if j = 5 then
      let c := c.setSafe k v
      one (0, if c.engState n = 5 then c.setEng n { c.eng n with safeDue := true } else c)
    else if j = 6 then one (c.engDiv n raw)
    else if j = 7 then one (c.engWrap n raw)
    else one (0, c.setReg k v)
  else if o < 0x4100 then
    if o % 8 = 1 ∧ mb = 3 ∧ keyBaseOk v = false then one (0x0B, c)
    else one (0, if o % 8 = 4 ∧ mb = 1 then c.setSafe k v else c.setReg k v)
  else if 0x4400 ≤ o ∧ o < 0x4600 ∧ (o % 0x10 = 7 ∨ o % 0x10 = 8) then
    one (if (c.setReg k v).pairWriteOk ((o - 0x4400) / 0x10) (o % 0x10 - 7) then (0, c.setReg k v) else (0x0B, c))
  else if o = 0x5005 then one (0, (c.setReg k v).timeSetEffect v)
  else if o = 0x5063 then one (c.evqRdEffect v)
  else if o = 0x5083 then one (if v = 1 then (0, c.setSched []) else (0x0B, c))
  else one (0, c.setReg k v)

/-- R446: members of a mover. -/
def Core.ownMover (m : Memory) (c : Core) (o mb v : Nat) : Own :=
  let k := o * 256 + mb
  let n := (o - 0x7400) / 8
  let j := o % 8
  if j = 0 then
    let x := Core.mvCommand m c n v
    { st := x.1, mem := x.2.1, core := x.2.2 }
  else if 2 ≤ j ∧ j ≤ 5 then
    let q := j - 2
    if mb = 4 then
      if c.reg (Reg.Q_SIZE n q) ≤ v then { st := 0x0B, mem := m, core := c }
      else
        let x := Core.mvPump m (c.setReg k v) n
        { st := 0, mem := x.1, core := x.2 }
    else
      let base := if mb = 1 then v else c.reg (Reg.Q_BASE n q)
      let size := if mb = 2 then v else c.reg (Reg.Q_SIZE n q)
      let st := c.queueSetting n base size (mb == 1)
      { st := st, mem := m, core := if st = 0 then c.setReg k v else c }
  else { st := 0, mem := m, core := c.setReg k v }

/-- Objects from 0x6000 to 0x7FFF: mapper, rules, windows, movers, banks, the local host port. -/
def Core.ownFabric (m : Memory) (c : Core) (o mb v : Nat) (req : Option Req) : Own :=
  let k := o * 256 + mb
  let one (x : Nat × Core) : Own := { st := x.1, mem := m, core := x.2 }
  if o = 0x6001 then one (if c.routeBanksOk v then (0, c.setReg k v) else (0x11, c))
  else if 0x6400 ≤ o ∧ o < 0x6800 then
    let r := o - 0x6400
    if mb = 0xA then one (c.ruleResetEffect r v)
    else
      let d := c.setReg k v
      one (if ruleWriteOk (d.reg (Reg.RULE_CTRL r)) (d.regI 32 (Reg.RULE_TRIP r)) (d.regI 32 (Reg.RULE_RELEASE r)) then
        (0, d.ruleWritten r mb) else (0x0B, c))
  else if 0x7000 ≤ o ∧ o < 0x7400 then
    let w := (o - 0x7000) / 4
    let d := c.setReg k v
    one (if winSettingsOk (d.reg (Reg.WIN_BASE w)) (d.reg (Reg.WIN_TARGET w)) (d.reg (Reg.WIN_CTRL w)) then
      (0, d.winWritten w (o % 4 == 2)) else (0x0B, c))
  else if 0x7400 ≤ o ∧ o < 0x7480 then Core.ownMover m c o mb v
  else if 0x7800 ≤ o ∧ o < 0x7840 then
    match c.handoverAsk (o - 0x7800) v req with
    | (some st, c) => one (st, c)
    | (none, c) => { st := 0, wait := true, mem := m, core := c }
  else if o = 0x7850 then one (if c.stageSetStatus v = 0 then (0, c.setReg k v) else (c.stageSetStatus v, c))
  else if 0x7C20 ≤ o ∧ o < 0x7C30 then
    let r := o - 0x7C20
    let d := c.setReg k v
    one (if c.rangeOk (d.reg (Reg.HR_BASE r)) (d.reg (Reg.HR_SIZE_EXP r)) (d.reg (Reg.HR_CTRL r)) then (0, d) else (0x0B, c))
  else if k = Reg.XQ_TAIL then
    let x := Core.xqTailEffect m c v
    { st := x.1, mem := x.2.1, core := x.2.2 }
  else if k = Reg.XQ_BASE then one (if c.xqOk v (c.reg Reg.XQ_SIZE) then (0, c.setReg k v) else (0x0B, c))
  else if k = Reg.XQ_SIZE then one (if c.xqOk (c.reg Reg.XQ_BASE) v then (0, c.setReg k v) else (0x0B, c))
  else one (0, c.setReg k v)

/-- Objects from 0x8000 up: the twin controller, power and rails, faults, management. -/
def Core.ownHigh (m : Memory) (c : Core) (o mb v src : Nat) : Own :=
  let k := o * 256 + mb
  let one (x : Nat × Core) : Own := { st := x.1, mem := m, core := x.2 }
  let rangeIf (bad : Bool) : Own := one (if bad then (0x0B, c) else (0, c.setReg k v))
  if o = 0x800C then one (c.twCmd v)
  else if o = 0x9016 then one (c.plClear v)
  else if 0x9020 ≤ o ∧ o < 0x9030 then one (0, (c.setReg k v).feedRefresh ((o - 0x9020) / 8))
  else if 0x9100 ≤ o ∧ o < 0x9200 then
    let n := (o - 0x9100) / 0x10
    let j := o % 0x10
    if j = 6 then rangeIf (!curveOk (c.blob (Reg.RAIL_CURVE n)) v)
    else if j = 7 ∧ mb = 1 then rangeIf (!inrushOk v (c.reg (Reg.RETRY_INTERVAL n)))
    else if j = 8 ∧ mb = 2 then rangeIf (!inrushOk (c.reg (Reg.INRUSH_TIME n)) v)
    else rangeIf false
  else if o = 0xA001 then one (c.safeCmd v src)
  else if o = 0xA004 then one (0, c.ackFaults v)
  else if o = 0xA005 then one (c.unisolate v)
  else if k = Reg.FCINJ_ARM then one (c.fcInject v)
  else if o = 0xB005 ∨ o = 0xB006 ∨ (0xB010 ≤ o ∧ o < 0xB01A ∧ mb = 2) then one (0, c.setLimit k v)
  else if 0xB010 ≤ o ∧ o < 0xB01A ∧ mb = 3 then
    one (if v ≤ c.reg (Reg.VM_LOW (o - 0xB010)) then (0x0B, c) else (0, c.setLimit k v))
  else if o = 0xB10B then one (c.logErase v)
  else if o = 0xB208 then one (c.updCmd v)
  else if k = Reg.RUN_BG then rangeIf (v == 0)
  else if k = Reg.RUN_CMD then one (c.runCmd v)
  else rangeIf false

/-- ERR_SOURCE: 0 for a local path (R89). -/
def Core.reqSource (c : Core) (r : Req) : Nat :=
  if r.lvl.isSome || (r.f.src == c.homeAddr && r.f.dst == c.homeAddr) then 0 else r.f.src

/-- A completed write of a member of fixed width. `raw` is the written value with its reserved bits. -/
def Core.ownNumber (m : Memory) (c : Core) (lvl o mb v raw : Nat) (req : Option Req) : Own :=
  if o < 0x2000 then Core.ownLow m c lvl o mb v
  else if o < 0x6000 then Core.ownField m c o mb v raw
  else if o < 0x8000 then Core.ownFabric m c o mb v req
  else Core.ownHigh m c o mb v ((req.map (fun r => c.reqSource r)).getD 0)

/-- R4, R306: the reserved bits of FLAGS in each entry of CH_ID_TABLE read 0. -/
def idTableBytes (bs : Bytes) : Bytes :=
  (List.range (bs.length / 12)).flatMap (fun i =>
    slice bs (12 * i) 10 ++ [byteOf (fieldAt bs (12 * i + 10) 1 % 2), 0])

/-- A completed write of an OCTETS member; `by_` is the writing session, 0 for none. -/
def Core.ownBytes (m : Memory) (c : Core) (by_ o mb : Nat) (bs : Bytes) : Own :=
  let k := o * 256 + mb
  let one (x : Nat × Core) : Own := { st := x.1, mem := m, core := x.2 }
  if 0x0210 ≤ o ∧ o ≤ 0x0212 then one (0, (c.setBlob k bs).tokenWritten (o - 0x020F) by_)
  else if o = 0x0132 then one (c.lcReturn bs)
  else if o = 0x5082 then one (c.schedPostEffect bs)
  else if 0x2000 ≤ o ∧ o < 0x3000 ∧ o % 0x20 = 0x11 then one (0, c.setBlob k (idTableBytes bs))
  else if 0x3000 ≤ o ∧ o < 0x3200 then one (c.canPost ((o - 0x3000) / 0x10) bs)
  else if 0x3400 ≤ o ∧ o < 0x3800 then
    let n := (o - 0x3400) / 0x10
    one (if o % 0x10 = 8 then c.engProg n bs else c.engForce n bs)
  else if o = 0x7484 then one (0, c.foOpen bs)
  else if 0x9100 ≤ o ∧ o < 0x9200 then
    one (if curveOk bs (c.reg (Reg.RAIL_INSTANT ((o - 0x9100) / 0x10))) then (0, c.setBlob k bs) else (0x0B, c))
  else one (0, c.setBlob k bs)

/-! RWT members (R43, R44). -/

/-- R43: the tick at which a value written now takes effect. -/
def Core.effectTick (c : Core) : Nat := (if c.beforeStrobe then c.nextTick else c.nextTick + 1) % tickMod

/-- R554: a write of RAIL_CMD is refused while the rail follows a line. -/
def Core.rwtRefused (c : Core) (o : Nat) : Bool :=
  Nat.ble 0x9100 o && Nat.blt o 0x9200 && c.reg (Reg.RAIL_FOLLOW ((o - 0x9100) / 0x10)) != 0xFFFF

/-- A value takes effect outside a strobe, in the restore of BOOT, or at its strobe. -/
def Core.rwtAct (c : Core) (o mb v : Nat) : Core :=
  if 0x9100 ≤ o ∧ o < 0x9200 then c.railWrite ((o - 0x9100) / 0x10) v else c.setReg (o * 256 + mb) v

/-- R43: at a strobe the values whose tick has come take effect, in the order of their writes; RAIL_CMD is dropped, and
recorded in LAST_ERROR, when its rail has come to follow a line. DISC_OUT values go into the update registers with their
instants (R384, R399), or with `alone` into the command registers. -/
def Core.rwtStrobe (c : Core) (alone : Bool) : Core :=
  let (due, rest) := c.dict.rwt.partition (fun (w : PendRwt) => Nat.ble (w.done + 10) c.now && !tickAhead w.tick c.tickNow)
  let c := { c with dict := { c.dict with rwt := rest } }
  due.foldl (fun (c : Core) (w : PendRwt) =>
    let o := w.key / 256
    if o < 0x5000 ∧ alone = true then c.setOut ((o - 0x4000) / 8) 255 w.value
    else if o < 0x5000 then c.update { at_ := w.done, rank := 2, bank := (o - 0x4000) / 8, mask := 255, value := w.value }
    else if c.rwtRefused o then (c.lastError 0x11 2 o (w.key % 256) w.src).setReg Reg.ERR_TICK c.tickNow
    else c.railWrite ((o - 0x9100) / 0x10) w.value) c

/-- RWT_EFFECT: the strobe at which the oldest pending value takes effect, for the pending values alone. -/
def Core.rwtEffect (c : Core) : Core :=
  match c.dict.rwt with
  | [] => c
  | w :: _ =>
    if !c.up then c
    else
      let ahead := tickDiff w.tick c.tickNow
      let c := if ahead < tickMod / 2 then c.advanceSys ((c.tickFull + ahead) * c.period) else c
      let c := c.advanceTo (w.done + 10)
      if tickAhead w.tick c.tickNow then c else c.rwtStrobe true

end Sys2Proof.Machine
end

