-- ==== Sys2Proof/Machine/Dict.lean ====
section
/-! DEFINITION. The transactions of the dictionary engine (R59 to R80): requests and their queue, the order of the checks, the
commands, segmented transfers, the replay store, answers and counters. -/

namespace Sys2Proof.Machine

/-! The head of a request (R59). -/

/-- TRANSACTION. -/
def Req.txn (r : Req) : Nat := fieldAt r.f.payload 0 2
/-- COMMAND. -/
def Req.cmd (r : Req) : Nat := fieldAt r.f.payload 2 1
/-- SESSION. -/
def Req.sess (r : Req) : Nat := fieldAt r.f.payload 3 1
/-- OBJECT. -/
def Req.obj (r : Req) : Nat := fieldAt r.f.payload 4 2
/-- MEMBER, or the level of an OPEN. -/
def Req.mem (r : Req) : Nat := fieldAt r.f.payload 6 1
/-- OPTIONS[0] POSTED (R65). -/
def Req.posted (r : Req) : Bool := bit (fieldAt r.f.payload 7 1) 0
/-- The byte of the slot at which an access through object space begins, and its bytes; none for a request of another kind. -/
def Req.slot (r : Req) : Option (Nat × Nat) :=
  let k := bits (fieldAt r.f.payload 7 1) 5 1
  if k = 0 then none
  else
    let n := if k = 1 then 16 else if k < 4 then 8 else if k < 8 then 4 else if k < 16 then 2 else 1
    some ((k - 16 / n) * n, n)
/-- OFFSET. -/
def Req.off (r : Req) : Nat := fieldAt r.f.payload 8 4
/-- TOTAL. -/
def Req.tot (r : Req) : Nat := fieldAt r.f.payload 12 4
/-- The data. -/
def Req.data (r : Req) : Bytes := r.f.payload.drop 16
/-- The frame went to a multicast address (R66). -/
def Req.mcast (r : Req) : Bool := r.lvl.isNone && isMcast r.f.dst
/-- Key of the member. -/
def Req.key (r : Req) : Nat := r.obj * 256 + r.mem

/-- R506: the request came to the pair's service address. -/
def Core.forPair (c : Core) (r : Req) : Bool := r.lvl.isNone && c.inPair && r.f.dst == c.cfg Reg.TW_SERVICE_ADDR

/-- R506: this unit executes the pair's request as posted, without a replay entry. -/
def Core.silentUnit (c : Core) (r : Req) : Bool := c.forPair r && !c.flag Reg.TW_TOKEN

/-- R53, R57, R58, R66: the level at which a request acts; none when its session is not open for its source. -/
def Core.reqLevel (c : Core) (r : Req) : Option Nat :=
  match r.lvl with
  | some l => some l
  | none =>
    if r.sess = 0 then some 0
    else match c.session r.sess with
      | some s => if s.src = r.f.src then some s.level else if r.mcast then some 0 else none
      | none => if r.mcast then some 0 else none

/-- R53: the request's session is open for its source. -/
def Core.inSession (c : Core) (r : Req) : Bool := r.lvl.isNone && match c.session r.sess with
  | some s => s.src == r.f.src
  | none => false

/-- R72: the owner of a segmented transfer. -/
def Req.owner (r : Req) : Nat := if r.sess = 0 then 0x10000 + r.f.src else r.sess

/-! Results. -/

/-- What came of a request: status, data, SESSION and TOTAL of the answer, its flags; `wait` when the answer waits for a
handover. -/
structure DictOut where
  status : Nat
  data : Bytes := []
  sess : Nat := 0
  total : Nat := 0
  segm : Bool := false
  last : Bool := false
  wait : Bool := false

/-- What came of a request, with memory and core. -/
structure DictRes where
  out : DictOut
  mem : Memory
  core : Core

/-- A refusal, which changes nothing. -/
def refuseReq (m : Memory) (c : Core) (r : Req) (status : Nat) (total : Nat := 0) : DictRes :=
  { out := { status := status, sess := r.sess, total := total }, mem := m, core := c }

/-- The length of a member's value now. -/
def Core.valueLength (c : Core) (o mb : Nat) (x : MemRow) : Nat := (c.readValue o mb x).length

/-! Sessions (R47 to R56, R62 step 3). -/

/-- R506: an OPEN at the standby opens the number that the holder's GRANT has brought, or waits for it; with every number taken it
waits for none (log entry 1). -/
def Core.openSilent (c : Core) (level src : Nat) (full : Bool) : Core :=
  match c.dict.numbers with
  | n :: rest => ({ c with dict := { c.dict with numbers := rest, fails := 0 } }).takeNumber n level src
  | [] => if full then c else { c with dict := { c.dict with opens := c.dict.opens ++ [(level, src)], fails := 0 } }

/-- OPEN: LOCKOUT, RANGE, LEVEL, TOKEN, BUSY, then a session under a free number. Which number is left open (log entry 1). -/
def Core.dictOpen (m : Memory) (c : Core) (r : Req) : DictRes :=
  let c := match c.dict.lockEnd with
    | some t => if t ≤ c.now then c.lockoutEnd else c
    | none => c
  let level := r.mem
  if c.lockedOut then refuseReq m c r 0x10
  else if level = 0 ∨ 3 < level then refuseReq m c r 0x0B
  else if level = 3 ∧ c.reg Reg.LC_STATE ≠ 0 ∧ c.reg Reg.LC_STATE ≠ 3 then refuseReq m c r 6
  else if c.tokenOpens level r.data = false then refuseReq m c.openFailed r 0x0F
  else
    let free := c.freeNumbers
    if c.silentUnit r then refuseReq m (c.openSilent level r.f.src free.isEmpty) r 0
    else if free.isEmpty then refuseReq m c r 0x0C
    else
      let c := { c with dict := { c.dict with fails := 0 } }
        let (v, c) := c.draw
        let n := free.getD (v % free.length) 1
        { out := { status := 0, sess := n }, mem := m, core := c.openSession n level r.f.src }

/-- CLOSE: the requester's session closes. -/
def Core.dictClose (m : Memory) (c : Core) (r : Req) : DictRes :=
  refuseReq m (if c.inSession r then c.closeSession r.sess else c) r 0

/-! Members (R62 steps 4 to 11). -/

/-- Steps 4 and 5: the member's row, or NO_OBJECT 4 or NO_MEMBER 5. -/
def findMember (o mb lvl : Nat) : Nat × MemRow :=
  if 0xF000 ≤ o ∧ lvl < 3 then (4, descriptorRow)
  else match objectOf o with
    | none => (4, descriptorRow)
    | some x =>
      if mb = 0 then (0, descriptorRow)
      else match memFind mb x.members with
        | some r => (0, r)
        | none => (5, descriptorRow)

/-- Steps 6 to 8: READ_ONLY 3, WRITE_ONLY 7, LEVEL 6, MODE 8. -/
def Core.accessStatus (c : Core) (o lvl : Nat) (x : MemRow) (write : Bool) : Nat :=
  if write && (x.acc == .ro || x.acc == .rc) then 3
  else if !write && x.acc == .wo then 7
  else if lvl < x.lvl then 6
  else if write && c.writeBarred o x then 8 else 0

/-- R605 kind 4: an accepted write at a session's level. -/
def Core.audit (c : Core) (lvl o mb : Nat) (bs : Bytes) : Core :=
  if 0 < lvl ∧ c.reg Reg.LOG_AUDIT ≤ lvl then
    c.logNote 4 (leBytes 2 o ++ [byteOf mb, byteOf lvl] ++ padTo 8 bs ++ leBytes 4 bs.length)
  else c

/-- What the owner of the member makes of the value. -/
def Core.ownWrite (m : Memory) (c : Core) (r : Req) (lvl : Nat) (x : MemRow) (bs : Bytes) : Own :=
  if x.acc = .rwt then { st := if c.rwtRefused r.obj then 0x11 else 0, mem := m, core := c }
  else if x.isBytes then Core.ownBytes m c (if c.inSession r then r.sess else 0) r.obj r.mem bs
  else Core.ownNumber m c lvl r.obj r.mem (x.number bs) (leVal bs) (some r)

/-- R62: the first status that a value meets: the owner's MODE 8; LENGTH, TYPE, RANGE of the value; the owner's RANGE; BUSY where
the owner's firmware does not run; the owner's other statuses (`st`). -/
def Core.valueOrder (c : Core) (x : MemRow) (o : Nat) (bs : Bytes) (st : Nat) : Nat :=
  if st = 8 then 8
  else if x.valueStatus o bs ≠ 0 then x.valueStatus o bs
  else if st = 9 ∨ st = 0x0A ∨ st = 0x0B then st
  else if c.ownerPaused o then 0x0C else st

/-- Steps 8 to 13 of a value that replaces a member, and its effect. -/
def Core.putValue (m : Memory) (c : Core) (r : Req) (lvl : Nat) (x : MemRow) (bs : Bytes) : DictRes :=
  let o := r.obj
  let w := Core.ownWrite m c r lvl x bs
  let st := c.valueOrder x o bs w.st
  if st ≠ 0 then refuseReq m (if st = w.st then w.core else c) r st (if st = 9 then c.valueLength o r.mem x else 0)
  else if x.acc = .rwt then
    let t := c.effectTick
    let w : PendRwt := { key := r.key, value := x.number bs, tick := t, done := c.now, src := c.reqSource r }
    let c := ({ c with dict := { c.dict with rwt := c.dict.rwt ++ [w] } }).audit lvl o r.mem bs
    { out := { status := 0, data := leBytes 6 t, sess := r.sess }, mem := m, core := c }
  else
    let c := if w.wait then w.core else w.core.audit lvl o r.mem bs
    { out := { status := 0, sess := r.sess, wait := w.wait }, mem := w.mem, core := c }

/-- WRITE. -/
def Core.dictWrite (m : Memory) (c : Core) (r : Req) (lvl : Nat) (x : MemRow) : DictRes :=
  let st := c.accessStatus r.obj lvl x true
  if st ≠ 0 then refuseReq m c r st else Core.putValue m c r lvl x r.data

/-! Object space (R81 to R85). -/

/-- R83: bytes that the value of a member takes in its slot: its width rounded up to 1, 2, 4 or 8. -/
def MemRow.slotWidth (x : MemRow) : Nat :=
  let w := if x.isBytes then x.maxLen else x.ty.bits / 8
  if w ≤ 2 then w else if w ≤ 4 then 4 else 8

/-- R81: the 16 bytes of a member's slot. -/
def Core.slotBytes (c : Core) (o mb : Nat) (x : MemRow) : Bytes :=
  let v := c.readValue o mb x
  (if x.isLong then leBytes 4 v.length ++ zeros 4
    else if x.ty.signed then leBytes 8 (ofInt 64 (toInt (8 * v.length) (leVal v)))
    else padTo 8 v) ++ leBytes 4 x.descriptor ++ zeros 4

/-- R81, R85: a read of n bytes of a slot. Bytes 8 to 15 are read as DESCRIBE reads them; the length of a LONG member has no
direction and no read effect. -/
def Core.slotRead (m : Memory) (c : Core) (r : Req) (lvl : Nat) (x : MemRow) (off n : Nat) : DictRes :=
  let st := if 8 ≤ off then 0 else if x.isLong then (if lvl < x.lvl then 6 else 0) else c.accessStatus r.obj lvl x false
  if st ≠ 0 then refuseReq m c r st
  else if off < 8 ∧ c.ownerPaused r.obj = true then refuseReq m c r 0x0C
  else { out := { status := 0, data := slice (c.slotBytes r.obj r.mem x) off n, sess := r.sess }, mem := m
         core := if 8 ≤ off ∨ x.isLong = true then c else c.readEffectOf r.obj r.mem x }

/-- R83, R84: a write of bytes at a slot. -/
def Core.slotWrite (m : Memory) (c : Core) (r : Req) (lvl : Nat) (x : MemRow) (off n : Nat) : DictRes :=
  let w := x.slotWidth
  let st := if 8 < off + n then 3 else c.accessStatus r.obj lvl x true
  if st ≠ 0 then refuseReq m c r st
  else if x.isLong then refuseReq m c r 0x0A
  else if off ≠ 0 ∨ n ≠ w ∨ r.data.length ≠ w then refuseReq m c r 9 (c.valueLength r.obj r.mem x)
  else if x.ty = .tick ∧ fieldAt r.data 6 2 ≠ 0 then refuseReq m c r 0x0B
  else Core.putValue m c r lvl x (if x.ty = .tick then r.data.take 6 else r.data)

/-- READ (R42, R70). -/
def Core.dictRead (m : Memory) (c : Core) (r : Req) (lvl : Nat) (x : MemRow) : DictRes :=
  let st := c.accessStatus r.obj lvl x false
  if st ≠ 0 then refuseReq m c r st
  else
    let v := c.readValue r.obj r.mem x
    if 1008 < v.length then refuseReq m c r 9 v.length
    else if c.ownerPaused r.obj then refuseReq m c r 0x0C
    else { out := { status := 0, data := v, sess := r.sess }, mem := m, core := c.readEffectOf r.obj r.mem x }

/-! Segmented transfers (R70 to R80). -/

/-- R78, R79, R133: the timeout of a transfer in ns, by the path of its first request. -/
def Core.segLimit (c : Core) (r : Req) : Nat :=
  1000000 * c.reg (if r.f.corr = 0x7FFFFFFFFFFFFFFF then Reg.SEG_TIMEOUT_TRUNK else Reg.SEG_TIMEOUT)

/-- R78, R80: a segment with a nonzero OFFSET where no transfer is open: TIMEOUT 0x0E, ABORTED 0x12, SEGMENT 0x0D. -/
def Core.segGone (c : Core) (r : Req) : Nat :=
  match c.dict.ended.find? (fun e => e.1 == r.owner && e.2.1 == r.key) with
  | some e => if e.2.2 then 0x0E else 0x12
  | none => 0x0D

/-- R71, R72: the staging bank of a new transfer of an owner: the one that its own open transfer frees, or an idle one. -/
def Core.segRoom (c : Core) (r : Req) : Option Nat :=
  let c := match c.segOf r.owner with
    | some x => c.endSeg x
    | none => c
  if 4 ≤ c.dict.xfers.length then none else c.idleStage

/-- The engine reads n bytes of the staging bank of a transfer (R217, R219); one that proves uncorrectable ends the transfer and
refuses the request (log entry 95). -/
def Core.readStage (c : Core) (x : SegXfer) (n : Nat) : Bool × Core :=
  let (bad, c) := c.eccOwner x.bank ((n + 7) / 8)
  (bad, if bad then c.endSeg x else c)

/-- One segment of a read is served (R73, R74). -/
def Core.serveSeg (m : Memory) (c : Core) (r : Req) (x : SegXfer) : DictRes :=
  let part := slice x.buf x.next 1008
  let (bad, c) := c.readStage x part.length
  if bad then refuseReq m c r 0x11
  else
  let y : SegXfer := { x with next := x.next + part.length, lastAt := c.now }
  let last : Bool := Nat.ble x.total y.next
  let c := if last then c.endSeg x
    else { c with dict := { c.dict with xfers := c.dict.xfers.map (fun z => if z.owner = x.owner then y else z) } }
  { out := { status := 0, data := part, sess := r.sess, total := x.total, segm := true, last := last }, mem := m, core := c }

/-- A transfer that starts anew ends the one that its owner has open (R72). -/
def Core.dropSeg (c : Core) (r : Req) : Core := match c.segOf r.owner with
  | some x => c.endSeg x
  | none => c

/-- R73: the copy into the staging bank, with the member's read effect. -/
def Core.startSegRead (m : Memory) (c : Core) (r : Req) (x : MemRow) : DictRes :=
  match c.segRoom r with
  | none => refuseReq m c r 0x0C
  | some b =>
    let v := c.readValue r.obj r.mem x
    let y : SegXfer := { owner := r.owner, write := false, key := r.key, bank := b, buf := v, total := v.length, next := 0,
                         lastAt := c.now, timeout := c.segLimit r }
    Core.serveSeg m (((c.dropSeg r).readEffectOf r.obj r.mem x).beginSeg y) r y

/-- SEG_READ. A refusal for another reason than LENGTH carries TOTAL 0: R59 sets TOTAL 'for SEG_READ and for LENGTH refusals' and
leaves open whether a refused SEG_READ tells the length (DESIGN CHOICE, log entry 96). -/
def Core.segRead (m : Memory) (c : Core) (r : Req) (lvl : Nat) (x : MemRow) : DictRes :=
  let st := c.accessStatus r.obj lvl x false
  if st ≠ 0 then refuseReq m c r st
  else if c.ownerPaused r.obj then refuseReq m c r 0x0C
  else match c.segOf r.owner with
    | some y =>
      if y.key ≠ r.key then refuseReq m c r 0x0C
      else if r.off = 0 then Core.startSegRead m c r x
      else if y.write || r.off != y.next then refuseReq m c r 0x0D
      else Core.serveSeg m c r y
    | none => if r.off = 0 then Core.startSegRead m c r x else refuseReq m c r (c.segGone r)

/-- The data of a segment of a write fit, and LAST ends it exactly at TOTAL (R75). -/
def Req.fitsAt (r : Req) (off total : Nat) : Bool :=
  Nat.ble (off + r.data.length) total && (!r.f.last || off + r.data.length == total)

/-- A segment is staged; LAST makes the staged value replace the member (R76). -/
def Core.stageSeg (m : Memory) (c : Core) (r : Req) (lvl : Nat) (x : MemRow) (y : SegXfer) : DictRes :=
  let z : SegXfer := { y with buf := y.buf ++ r.data, next := y.next + r.data.length, lastAt := c.now }
  if r.f.last then
    let (bad, c) := c.readStage y z.buf.length
    if bad then refuseReq m c r 0x11 else Core.putValue m (c.endSeg y) r lvl x z.buf
  else
    { out := { status := 0, sess := r.sess }, mem := m
      core := { c with dict := { c.dict with xfers := c.dict.xfers.map (fun w => if w.owner = y.owner then z else w) } } }

/-- R75: the greatest TOTAL of a member: MAX_LEN + 1, where R36 gives MAX_LEN 0 to a member that is not LONG. -/
def MemRow.span (x : MemRow) : Nat := if x.isLong then x.maxLen else 1

/-- R75: the first segment of a write. -/
def Core.startSegWrite (m : Memory) (c : Core) (r : Req) (lvl : Nat) (x : MemRow) : DictRes :=
  match c.segRoom r with
  | none => refuseReq m c r 0x0C
  | some b =>
    if !r.fitsAt 0 r.tot then refuseReq m c r 0x0D
    else
      let y : SegXfer := { owner := r.owner, write := true, key := r.key, bank := b, buf := [], total := r.tot, next := 0,
                           lastAt := c.now, timeout := c.segLimit r }
      Core.stageSeg m ((c.dropSeg r).beginSeg y) r lvl x y

/-- SEG_WRITE. -/
def Core.segWrite (m : Memory) (c : Core) (r : Req) (lvl : Nat) (x : MemRow) : DictRes :=
  let st := c.accessStatus r.obj lvl x true
  let own := c.segOf r.owner
  if st = 8 then
    match own with
    | some y => refuseReq m (if y.write && y.key == r.key && r.f.last && r.off == y.next && r.fitsAt y.next y.total then c.endSeg y
        else c) r 8
    | none => refuseReq m c r 8
  else if st ≠ 0 then refuseReq m c r st
  else if r.off = 0 ∧ (r.tot = 0 ∨ x.span < r.tot) then refuseReq m c r 9 (c.valueLength r.obj r.mem x)
  else if c.ownerPaused r.obj || c.dict.xfers.any (fun y => y.write && y.key == r.key && y.owner != r.owner) then
    refuseReq m c r 0x0C
  else match own with
    | some y =>
      if y.key ≠ r.key then refuseReq m c r 0x0C
      else if r.off = 0 then Core.startSegWrite m c r lvl x
      else if !y.write || r.off != y.next || !r.fitsAt y.next y.total then refuseReq m c r 0x0D
      else Core.stageSeg m c r lvl x y
    | none => if r.off = 0 then Core.startSegWrite m c r lvl x else refuseReq m c r (c.segGone r)

/-- SEG_ABORT: the open transfer ends with ABORTED; OK whether or not one was open (R80). -/
def Core.segAbort (m : Memory) (c : Core) (r : Req) : DictRes :=
  refuseReq m (match c.segOf r.owner with
    | some x => c.breakSeg x false
    | none => c) r 0

/-! Answers, the replay store, counters (R59, R65 to R69, R90). -/

/-- R59: the payload of the answer. -/
def Req.answer (r : Req) (o : DictOut) : Bytes :=
  leBytes 2 r.txn ++ [byteOf r.cmd, byteOf o.sess] ++ leBytes 2 r.obj ++ [byteOf r.mem, byteOf o.status] ++ leBytes 4 r.off
    ++ leBytes 4 o.total ++ o.data

/-- The DICT_RSP leaves SP_14; `note` is what its GRANT carries (R506). -/
def Core.sendRsp (c : Core) (r : Req) (payload : Bytes) (segm last : Bool) (note : Nat) : Core :=
  let (f, c) := c.make 5 4 r.f.src 0 c.tick false segm last payload note
  c.originate 14 f

/-- R90: whether a refusal goes into LAST_ERROR. -/
def Core.recorded (c : Core) (r : Req) (status : Nat) : Bool :=
  !(status == 2 || status == 6) || r.lvl.any (fun l => l != 0) || (r.lvl.isNone && c.dict.sessions.any (fun s => s.2.src == r.f.src))

/-- R67: the request and its answer are kept in its session. -/
def Core.keepAnswer (c : Core) (r : Req) (o : DictOut) (posted : Bool) : Core :=
  match c.session r.sess with
  | none => c
  | some s =>
    let k : Replay := { txn := r.txn, rsp := if posted then none else some (r.answer o, o.segm, o.last) }
    c.setSession r.sess { s with replay := (k :: s.replay).take 4 }

/-- R527: a write of this object changes the pair's image: DISC_OUT, RAIL_CMD, SCHED_POST, SCHED_CANCEL, the members of a rule. -/
def imageObject (o : Nat) : Bool :=
  (Nat.ble 0x4000 o && Nat.blt o 0x4100 && o % 8 == 3) || (Nat.ble 0x9100 o && Nat.blt o 0x9200 && o % 16 == Reg.RAIL_CMD 0 / 256 % 16)
    || o == 0x5082 || o == 0x5083 || (Nat.ble 0x6400 o && Nat.blt o 0x6800)

/-- A request that has ended is counted, recorded, kept, journalled and answered. -/
def Core.conclude (c : Core) (r : Req) (o : DictOut) : Core :=
  let posted := r.posted || c.silentUnit r
  let bad := o.status != 0
  let c := c.inc (if bad then Reg.STAT_RSP_ERR else Reg.STAT_RSP_OK)
  let c := c.incIf (o.status == 0x0C) Reg.STAT_BUSY
  let c := c.incIf (r.cmd == 4 && (o.status == 0x0F || o.status == 0x10)) Reg.STAT_TOKEN_FAIL
  let c := c.incIf (bad && posted) Reg.STAT_POSTED_ERR
  let c := if bad && c.recorded r o.status then c.lastError o.status r.cmd r.obj r.mem (c.reqSource r) else c
  let c := if c.inSession r && !r.mcast && !c.silentUnit r && !(o.status == 1 || o.status == 2 || o.status == 0x0C) then
      c.keepAnswer r o posted else c
  let c := if !bad && c.forPair r && imageObject r.obj && (r.cmd == 2 || (r.cmd == 7 && r.f.last)) then
    c.twJournal 0 r.f else c
  if r.lvl.isSome then
    { c with dict := { c.dict with answer := some { cmd := r.cmd, key := r.key, status := o.status, data := o.data } } }
  else if posted || r.mcast then c
  else c.sendRsp r (r.answer o) o.segm o.last (if r.cmd == 4 && !bad && c.forPair r then o.sess else 0xFFFF)

/-- A result is concluded, unless its answer waits for a handover or the node has been reset. -/
def DictRes.finish (x : DictRes) (r : Req) : Memory × Core :=
  if x.out.wait || !x.core.up then (x.mem, x.core) else (x.mem, x.core.conclude r x.out)

/-! Execution (R60, R62, R66). -/

/-- A request that passed the command and session checks. -/
def Core.dictCommand (m : Memory) (c : Core) (r : Req) (lvl : Nat) : DictRes :=
  if r.cmd = 4 then Core.dictOpen m c r
  else if r.cmd = 5 then Core.dictClose m c r
  else if r.cmd = 8 then Core.segAbort m c r
  else
    let (st, x) := findMember r.obj r.mem lvl
    if st ≠ 0 then refuseReq m c r st
    else if r.cmd = 1 then (match r.slot with
      | some (off, n) => Core.slotRead m c r lvl x off n
      | none => Core.dictRead m c r lvl x)
    else if r.cmd = 2 then (match r.slot with
      | some (off, n) => Core.slotWrite m c r lvl x off n
      | none => Core.dictWrite m c r lvl x)
    else if r.cmd = 3 then
      { out := { status := 0, data := leBytes 4 x.descriptor, sess := r.sess }, mem := m, core := c }
    else if r.cmd = 6 then Core.segRead m c r lvl x
    else Core.segWrite m c r lvl x

/-- R54: a session that receives a request is not idle. -/
def Core.touchSession (c : Core) (r : Req) : Core :=
  if c.inSession r then (match c.session r.sess with
    | some s => c.setSession r.sess { s with lastReq := c.now }
    | none => c)
  else c

/-- R67: the kept request that this one repeats. -/
def Core.keptReq (c : Core) (r : Req) : Option Replay :=
  if c.inSession r then (c.session r.sess).bind (fun s => s.replay.find? (fun k => k.txn == r.txn)) else none

/-- A request at the head of the queue. -/
def Core.runReq (m : Memory) (c : Core) (r : Req) : Memory × Core :=
  if r.mcast && r.cmd != 2 then (m, c.inc Reg.STAT_RSP_ERR)
  else if r.cmd = 0 ∨ 8 < r.cmd then (refuseReq m c r 1).finish r
  else match c.reqLevel r with
    | none => (refuseReq m c r 2).finish r
    | some lvl =>
      let c := c.touchSession r
      match c.keptReq r with
      | some k =>
        let c := c.inc Reg.STAT_REPLAY
        (m, match k.rsp with
          | some (p, segm, last) => if r.mcast then c else c.sendRsp r p segm last 0xFFFF
          | none => c)
      | none => (Core.dictCommand m c r lvl).finish r

/-- R63, R457: the engine has a request at its head whose answer waits for a handover. -/
def Core.engineHeld (c : Core) : Bool := c.fab.handovers.any (fun h => h.req.isSome)

/-- R63: the queue is full. A request at the engine whose answer waits for a handover still takes one of the 64 entries. -/
def Core.queueFull (c : Core) : Bool := Nat.ble 64 (c.dict.queue.length + b2n c.engineHeld)

/-- The command rows: the request at the head of the queue is executed when its command is this one; DICT_READ also takes
one whose command no row names (BAD_COMMAND). -/
def Core.runHead (m : Memory) (c : Core) (cmd : Nat) : Memory × Core :=
  match c.dict.queue with
  | [] => (m, c)
  | r :: rest =>
    if !c.up || c.engineHeld then (m, c)
    else if r.cmd = cmd ∨ (cmd = 1 ∧ (r.cmd = 0 ∨ 8 < r.cmd)) then
      Core.runReq m { c with dict := { c.dict with queue := rest } } r
    else (m, c)

/-- DICT_REQ_ENQUEUE: a DICT_REQ at SP_14 joins the queue, or is answered BUSY; one in BOOT is discarded (R59, R63, R88, R208). -/
def Core.enqueueReq (c : Core) (f : Frame) : Core :=
  let c := c.undeliver 14 f
  if !c.up || f.kind != 4 then c
  else
    let (ok, c) := c.mgmtCheck f
    if !ok then c
    else
      let c := c.inc Reg.STAT_REQ
      if f.payload.length < 16 then c.inc Reg.STAT_RSP_ERR
      else if c.queueFull then
        let r : Req := { f := f }
        if r.mcast && r.cmd != 2 then c.inc Reg.STAT_RSP_ERR
        else c.conclude r { status := 0x0C, sess := r.sess }
      else { c with dict := { c.dict with queue := c.dict.queue ++ [{ f := f }] } }

/-! Register commands: a write or read of one member, by the node's own side, at a level (R58, R62, R90). -/

/-- A request that no frame carries. -/
def ownReq (lvl cmd key : Nat) (data : Bytes) : Req :=
  { f := { payload := dictReqBytes 0 cmd 0 (key / 256) (key % 256) 0 data }, lvl := some lvl }

/-- R63: a request of the node's own side joins the queue, or is answered BUSY when that is full; with the engine free and no
request before it, it is executed at once. -/
def Core.ownRun (m : Memory) (c : Core) (lvl cmd key : Nat) (data : Bytes) : Memory × Core :=
  let r := ownReq lvl cmd key data
  if !c.up then (m, c)
  else
    let c := c.inc Reg.STAT_REQ
    if c.queueFull then (m, c.conclude r { status := 0x0C, sess := 0 })
    else if c.dict.queue.isEmpty && !c.engineHeld then Core.runReq m c r
    else (m, { c with dict := { c.dict with queue := c.dict.queue ++ [r] } })

/-- A register write of bytes. -/
def Core.writeBytes (m : Memory) (c : Core) (lvl key : Nat) (data : Bytes) : Memory × Core := Core.ownRun m c lvl 2 key data

/-- A register write of a number in the member's width. -/
def Core.writeNum (m : Memory) (c : Core) (lvl key v : Nat) : Memory × Core :=
  Core.ownRun m c lvl 2 key (leBytes (match memberOf (key / 256) (key % 256) with
    | some r => r.ty.bits / 8
    | none => 0) v)

/-- FC_INJECT (R591): the kind is written, then INJ_ARM with 1. -/
def Core.injectKind (m : Memory) (c : Core) (lvl kind : Nat) : Memory × Core :=
  let (m, c) := Core.writeNum m c lvl Reg.FCINJ_KIND kind
  Core.writeNum m c lvl Reg.FCINJ_ARM 1

/-- A fabric write of a table entry by the node's own side; its status stays where Heather's last access has its answer (R404). -/
def Core.tableWrite (m : Memory) (c : Core) (a : Nat) (entry : Bytes) : Memory × Core :=
  if !c.up then (m, c)
  else
    let x := Core.localWrite m c 1 a entry (c.localItem 0 a entry) true none
    (x.2.1, { x.2.2 with fab := { x.2.2.fab with heather := some (x.1, []) } })

/-- EVENT_RECORD_ARRIVE: a record of this node reaches the event stream (R262). -/
def Core.eventArrive (c : Core) (source kind sev tick flags value : Nat) : Core :=
  if !c.up then c
  else c.addEvent { tick := tick, node := c.originKey, source := source, kind := kind, sev := sev, flags := flags, value := value }

/-- A register read. -/
def Core.readMember (m : Memory) (c : Core) (lvl key : Nat) : Memory × Core := Core.ownRun m c lvl 1 key []

/-- The request whose handover has ended is answered: OK, or REFUSED 0x11 (R457). -/
def Core.answerHeld (r : Option Req) (m : Memory) (c : Core) (status : Nat) : Memory × Core :=
  match r with
  | none => (m, c)
  | some r =>
    let c := if status = 0 then c.audit ((c.reqLevel r).getD 0) r.obj r.mem r.data else c
    (m, c.conclude r { status := status, sess := r.sess })

/-- HANDOVER_COMPLETE. -/
def Core.handoverRow (m : Memory) (c : Core) (ok : Bool) : Memory × Core :=
  let x := if ok then Core.handoverDone m c else Core.handoverFail m c
  Core.answerHeld x.1 x.2.1 x.2.2 (if ok then 0 else 0x11)

end Sys2Proof.Machine
end

