-- ==== Sys2Proof/Machine/Boot.lean ====
section
/-! DEFINITION. The end of BOOT and the automatic start (chapter 19, R649 to R653). -/

namespace Sys2Proof.Machine

/-! The restore of the configuration store (R653). -/

/-- One stored value is written by the firmware at L3, checked as in CONFIG. An RWT value acts at once. -/
def Core.restoreBytes (m : Memory) (c : Core) (key : Nat) (bs : Bytes) : Bool × Memory × Core :=
  let o := key / 256
  let mb := key % 256
  let (st, x) := findMember o mb 3
  if st ≠ 0 ∨ c.accessStatus o 3 x true ≠ 0 ∨ x.valueStatus o bs ≠ 0 ∨ c.ownerPaused o = true then (false, m, c)
  else if x.acc = .rwt then
    if c.rwtRefused o then (false, m, c) else (true, m, c.rwtAct o mb (x.number bs))
  else
    let w := if x.isBytes then Core.ownBytes m c 0 o mb bs else Core.ownNumber m c 3 o mb (x.number bs) (leVal bs) none
    if w.st ≠ 0 then (false, m, c)
    else if w.wait then (match Core.handoverDone w.mem w.core with
      | (_, m, c) => (true, m, c))
    else (true, w.mem, w.core)

/-- The stored values in turn; gives those refused. -/
def Core.restorePass (m : Memory) (c : Core) (vs : List (Nat × Bytes)) : List (Nat × Bytes) × Memory × Core :=
  vs.foldl (fun (s : List (Nat × Bytes) × Memory × Core) v =>
    match Core.restoreBytes s.2.1 s.2.2 v.1 v.2 with
    | (ok, m, c) => (if ok then s.1 else s.1 ++ [v], m, c)) ([], m, c)

/-- Values whose check needs another value of the copy are tried again, so that the order is one in which they pass. -/
def Core.restoreAll (m : Memory) (c : Core) : Nat → List (Nat × Bytes) → Nat × Memory × Core
  | 0, vs => (vs.length, m, c)
  | n + 1, vs => match Core.restorePass m c vs with
    | (left, m, c) => if left.isEmpty then (0, m, c) else Core.restoreAll m c n left

/-- The values of a copy, encoded. -/
def CfgCopy.encoded (x : CfgCopy) : List (Nat × Bytes) :=
  x.values.map (fun v => (v.1, leBytes (match memberOf (v.1 / 256) (v.1 % 256) with
    | some r => r.ty.bits / 8
    | none => 0) v.2)) ++ x.blobs

/-- The newer valid copy: true for copy B. -/
def Core.copyInUse (c : Core) : Option (Bool × CfgCopy) :=
  if c.newerIsB then some (true, c.node.copyB) else if c.node.copyA.valid then some (false, c.node.copyA) else none

/-- Steps 5 and 6 of R650 after a start by BOOT_SRC code `src`. CONFIG_RESULT is set (R653). -/
def Core.restoreStore (m : Memory) (c : Core) (src : Nat) : Memory × Core :=
  if src = 3 then (m, c.setReg Reg.CONFIG_RESULT 3)
  else match c.copyInUse with
    | none => (m, c.setReg Reg.CONFIG_RESULT (if c.node.copyA.empty && c.node.copyB.empty then 1 else 2))
    | some (b, x) =>
      if x.dictMajor ≠ c.reg Reg.DICT_VERSION / 256 then (m, c.setReg Reg.CONFIG_RESULT 4)
      else
        let c := (c.setReg Reg.CFG_COPY_IN_USE (b2n b)).setReg Reg.CFG_GENERATION x.gen
        let vs := if src = 2 then x.encoded.filter (fun v => v.1 == Reg.TOKEN_L1 || v.1 == Reg.TOKEN_L2) else x.encoded
        match Core.restoreAll m c 8 vs with
        | (n, m, c) => (m, (c.setReg Reg.CFG_SKIPPED (min n 0xFFFF)).setReg Reg.CONFIG_RESULT (if src = 2 then 3 else 0))

/-! The end of BOOT (R651). -/

/-- R648: the straps are latched; the heartbeat and STATUS run from now on (R501). -/
def Core.latchStraps (c : Core) : Core :=
  let n := c.node.strapNode % 1024
  let r := c.node.strapRank % 2
  let c := { c with twin := { c.twin with rank := r, hbAt := c.now, statusAt := c.now } }
  ((c.setReg Reg.STRAPS (n + 1024 * r + 2048 * c.node.bootLatched)).setReg Reg.STRAP_NODE n).setReg Reg.TW_RANK r

/-- R233: system time is loaded, and the time base is in FREE. -/
def Core.loadTime (c : Core) : Core :=
  let valid := c.flag Reg.BK_VALID
  let t := if valid then c.rtcNs else 0
  { c with time := { c.time with sys := t * 2 ^ 32, enteredState := c.now, steppedTo := t }
           sw := { c.sw with fairMs := t / 1000000, accountMs := t / 1000000 } }.setReg Reg.TIME_VALID (b2n valid)

/-- R621: a revert that a reset made is reported. -/
def Core.reportRevert (c : Core) : Core :=
  match c.mgmt.revertDue with
  | none => c
  | some k =>
    let c := ({ c with mgmt := { c.mgmt with revertDue := none } }).inc Reg.CNT_REVERT
    (c.updNote 4 k 0).report Src.TRIAL_REVERT k 0

/-- BOOT_END: `us` microseconds after release. -/
def Core.bootEnd (c : Core) (us : Nat) (m : Memory) : Memory × Core :=
  if c.node.phase ≠ .boot then (m, c)
  else
    let c := (c.advanceTo (c.node.releasedAt + 1000 * us)).setReg Reg.BOOT_TIME us
    let c := if c.node.bootLatched = 3 then (c.setReg Reg.FW_RUNNING 0xFF).setReg Reg.HEATHER_STATE 2 else c.romStart
    let src := if c.reg Reg.HEATHER_STATE = 2 then 3 else c.node.bootLatched
    let (m, c) := Core.restoreStore [] c src
    let c := c.latchStraps
    let (m, c) := Core.moveRoutes m c (c.reg Reg.MAP_ROUTE_BANKS)
    let auto : Bool := c.node.bootLatched == 0 && c.flag Reg.AUTO_START && c.reg Reg.CONFIG_RESULT == 0
    let c := { c with inForce := c.regs, node := { c.node with phase := .run, started := !auto }
                      time := { c.time with periodCode := c.reg Reg.TICK_PERIOD } }
    let c := ((c.loadTime.takeTime).takeAddr 0).takeAddr 1
    let c := { c with ring := { c.ring with linkWaitEnd := some (c.now + 1000000 * c.reg Reg.LINK_WAIT) } }
    let c := ([0, 1, 2, 3] : List Nat).foldl (fun (c : Core) p => (c.moduleRead p).portRefresh p) c
    let c := ((c.fiLeave.lhpRefresh).refreshMode 5).reportRevert
    let c := if c.node.sources.any (fun s => s == 1 || s == 2) then c.plWrite 5 0 0 false else c
    let c := if bit (c.reg Reg.SUPPLY_FLAGS) 3 then c.vbatReport else c
    let c := { c with mgmt := { c.mgmt with sensorAt := c.now + 1000000 * c.reg Reg.SENSOR_PERIOD } }
    (m, (((c.dipOver).logFlush).feedRefresh 0).feedRefresh 1)

/-- AUTO_START: the stored tables are written, and CONFIG is left; the end of BOOT has decided whether the start comes (R652,
R656). -/
def Core.autoStart (m : Memory) (c : Core) : Memory × Core :=
  if !c.up || c.node.started || c.node.base != 3 then (m, c)
  else
    let m := match c.copyInUse with
      | some (_, x) => x.tables.foldl (fun (m : Memory) t => c.store m t.1 [t.2]) m
      | none => m
    Core.leaveConfig m c

end Sys2Proof.Machine
end

