-- ==== Sys2Proof/Machine/RunBoot.lean ====
section
/-! DEFINITION. The end of BOOT and the automatic start (chapter 19). -/

namespace Sys2Proof.Machine

/-- BOOT_END (R651): BOOT ends, straps latch, values come into force, time loads and MODE becomes CONFIG. -/
def execBootEnd (us : BitVec 32) (s : State) : Host.Outcome State Fault Refusal :=
  onMem (fun m c => Core.bootEnd c us.toNat m) s

/-- AUTO_START (R652): After BOOT_SRC 0 the firmware restores tables and leaves CONFIG by itself. -/
def execAutoStart (s : State) : Host.Outcome State Fault Refusal :=
  onMem (fun m c => Core.autoStart m c) s

end Sys2Proof.Machine
end

