-- ==== Sys2Proof/Machine/RunCan.lean ====
section
/-! DEFINITION. The commands of the CAN controllers (chapter 09). -/

namespace Sys2Proof.Machine

/-- CAN_TX_ITEM_ARRIVE (R332): A transmit item passes egress and is copied into its mailbox, or is dropped. -/
def execCanTxItemArrive (n : Fin 32) (f : Frame) (s : State) : Host.Outcome State Fault Refusal :=
  onCore (fun c => c.canArrive n f) s

/-- CAN_FRAME_SELECT (R334): The controller selects the READY mailbox that wins arbitration and makes it ACTIVE. -/
def execCanFrameSelect (n : Fin 32) (s : State) : Host.Outcome State Fault Refusal :=
  onCore (fun c => c.canSelect n) s

/-- CAN_SOF (R335): An ACTIVE mailbox starts its SOF and stamps TICK, OFFSET and FC_SOF. -/
def execCanSof (n : Fin 32) (s : State) : Host.Outcome State Fault Refusal :=
  onCore (fun c => c.canSof n) s

/-- CAN_TX_SENT (R335): The frame is acknowledged and ends without error, so the mailbox enters SENT. -/
def execCanTxSent (n : Fin 32) (delay : Nat) (s : State) : Host.Outcome State Fault Refusal :=
  onCore (fun c => c.canSent n delay) s

/-- CAN_ARB_LOST (R335): Arbitration is lost and the mailbox returns to READY. -/
def execCanArbLost (n : Fin 32) (s : State) : Host.Outcome State Fault Refusal :=
  onCore (fun c => c.canArbLost n) s

/-- CAN_TX_ERROR (R344): A transmit error updates TEC and the error state, and the mailbox returns to READY. -/
def execCanTxError (n : Fin 32) (e : TxFault) (s : State) : Host.Outcome State Fault Refusal :=
  onCore (fun c => c.canTxError n e) s

/-- CAN_RECOVERED (R346): The recovery condition is met, so the controller becomes error-active with zero counters. -/
def execCanRecovered (n : Fin 32) (s : State) : Host.Outcome State Fault Refusal :=
  onCore (fun c => c.canRecovered n) s

/-- CAN_FRAME_RX_COMPLETE (R340): A received frame completes and is filtered to the mapper, a receive slot or discard.
-/
def execCanFrameRxComplete (n : Fin 32) (ident : Nat) (frame : Byte) (data : Bytes) (ago : Nat) (s : State) :
    Host.Outcome State Fault Refusal :=
  onRead (fun m c => Core.canRx m c n ident frame.toNat data ago) s

/-- CAN_RX_ERROR (R344): A controller detects a bus error while receiving, sends an error flag, raises REC under ISO
11898-1 and may become error-passive. -/
def execCanRxError (n : Fin 32) (e : RxFault) (s : State) : Host.Outcome State Fault Refusal :=
  onCore (fun c => c.canRxError n e) s

end Sys2Proof.Machine
end

