-- ==== Sys2Proof/Machine/Refresh.lean ====
section
/-! DEFINITION. The resources that an isolation takes away or gives back (R582, R583), after the steps that can change it. -/

namespace Sys2Proof.Machine

/-- The movers that are to stop do so as far as their accesses allow (R453, R582). -/
def Core.stoppedMovers (m : Memory) (c : Core) : Memory × Core :=
  ((c.fab.movers.filter (fun x => x.2.stop != 0)).map (fun x => x.1)).foldl
    (fun (x : Memory × Core) k => Core.mvPump x.1 x.2 k) (m, c)

/-- R582, R583: ring ports, the host port, movers and the serial channels of `isos` follow the isolations in force. -/
def Core.resourcesFollow (isos : List (Nat × Nat × Nat)) (m : Memory) (c : Core) : Memory × Core :=
  if !c.up then (m, c)
  else
    let c := ([0, 1, 2, 3] : List Nat).foldl (fun (c : Core) p => c.portRefresh p) c
    let c := (isos.filter (fun e => isoKind e.1 e.2.2 == .channel)).foldl (fun (c : Core) e => c.chanState e.2.1) c
    let (m, c) := Core.stoppedMovers m c.lhpRefresh
    Core.reissueFree m c

/-- What left the queue of those that seek admission makes room in the host port's write buffer (R476). -/
def Core.admitRow (m : Memory) (c : Core) : Memory × Core :=
  match c.lhp.cycle with
  | some x => if x.wait = .room then Core.hostPump m c else (m, c)
  | none => (m, c)

/-- FAULT_CLOSE, with what its escalation steps isolate (R569, R582). -/
def Core.faultCloseRow (m : Memory) (c : Core) : Memory × Core := Core.resourcesFollow [] m c.faultClose

/-- EVENT_CLOSE_EXPIRY, with what the collector's close isolates (R262, R582). -/
def Core.eventCloseRow (m : Memory) (c : Core) : Memory × Core := Core.resourcesFollow [] m c.eventClose

/-- ESCALATION_TIMER_EXPIRY, with what its step isolates (R579, R582). -/
def Core.escalationRow (m : Memory) (c : Core) : Memory × Core := Core.resourcesFollow [] m c.escalationExpiry

/-- R583: a strobe gives back what was released at least 10 ns before. -/
def Core.releaseIsolations (m : Memory) (c : Core) : Memory × Core :=
  let (gone, left) := c.fc.leaving.partition c.isoRipe
  Core.resourcesFollow gone m { c with fc := { c.fc with leaving := left } }

/-- SAFE_EXIT: the first strobe at least 10 ns after the command (R590). -/
def Core.safeExitRow (c : Core) : Core :=
  match c.fc.exitPending with
  | none => c
  | some t =>
    let c := c.advanceTo (t + 10)
    c.toStrobe.safeExit

end Sys2Proof.Machine
end

