-- ==== Sys2Proof/Machine/RunClock.lean ====
section
/-! DEFINITION. The commands of the time base and of the closes of the event and fault streams (chapters 07 and 17). -/

namespace Sys2Proof.Machine

/-- TIME_SYNC_SEND (R238): A node in MASTER originates a TIME_SYNC every SYNC_PERIOD on both rings. -/
def execTimeSyncSend (s : State) : Host.Outcome State Fault Refusal :=
  onCore (fun c => c.timeSyncSend) s

/-- TIME_SYNC_RX (R237): A TIME_SYNC is accepted or forwarded, the servo updates and the time-base state moves. -/
def execTimeSyncRx (p : Fin 4) (f : Frame) (e : EndKind) (residence : Nat) (s : State) :
    Host.Outcome State Fault Refusal :=
  onCore (fun c => c.timeSyncRx p f e residence) s

/-- SYNC_LOSS_EXPIRY (R234): No TIME_SYNC is accepted within SYNC_LOSS, so the time base enters HOLDOVER, or MASTER from
FREE. -/
def execSyncLossExpiry (s : State) : Host.Outcome State Fault Refusal :=
  onCore (fun c => c.syncLossExpiry) s

/-- PEER_DELAY_SEND (R243): A JOINED port sends a PEER_DELAY request every PEER_PERIOD, or at 1 ms spacing after
joining. -/
def execPeerDelaySend (p : Fin 4) (s : State) : Host.Outcome State Fault Refusal :=
  onCore (fun c => c.peerDelaySend p) s

/-- PEER_DELAY_REQ_RX (R243): A PEER_DELAY request is answered with the turnaround in CORRECTION. -/
def execPeerDelayReqRx (p : Fin 4) (f : Frame) (turnaround : Nat) (s : State) : Host.Outcome State Fault Refusal :=
  onCore (fun c => c.peerDelayReq p f turnaround) s

/-- PEER_DELAY_RSP_RX (R244): A PEER_DELAY response gives a delay result that updates LINK_DELAY or is discarded as an
outlier. -/
def execPeerDelayRspRx (p : Fin 4) (f : Frame) (s : State) : Host.Outcome State Fault Refusal :=
  onCore (fun c => c.peerDelayRsp p f) s

/-- PEER_DELAY_TIMEOUT (R244): No response arrives within 1 ms, which is counted, and 3 in a row clear DELAY_VALID. -/
def execPeerDelayTimeout (p : Fin 4) (s : State) : Host.Outcome State Fault Refusal :=
  onCore (fun c => c.peerDelayTimeout p) s

/-- PPS_EDGE (R253): A TB_PPS_IN edge is validated and its offset steers the servo. -/
def execPpsEdge (s : State) : Host.Outcome State Fault Refusal :=
  onCore (fun c => c.ppsEdge) s

/-- PPS_LOSS_TIMEOUT (R253): No valid edge arrives for 3 s, so PPS_STATE enters holdover and PPS_LOST is reported. -/
def execPpsLossTimeout (s : State) : Host.Outcome State Fault Refusal :=
  onCore (fun c => c.ppsLoss) s

/-- PPS_OUT_RISE (R255): At each whole second TB_PPS_OUT is driven high. -/
def execPpsOutRise (s : State) : Host.Outcome State Fault Refusal :=
  onCore (fun c => c.ppsRise) s

/-- PPS_OUT_FALL (R255): 1 ms after each whole second TB_PPS_OUT is driven low. -/
def execPpsOutFall (s : State) : Host.Outcome State Fault Refusal :=
  onCore (fun c => c.ppsFall) s

/-- TICK_ARM_POINT (R30): 400 ns before boundary N the time base writes arm records into every tick unit and loads
scheduled entries. -/
def execTickArmPoint (s : State) : Host.Outcome State Fault Refusal :=
  onCore (fun c => c.armPoint) s

/-- EVENT_CLOSE_EXPIRY (R262): EVENT_CLOSE after a strobe, the records of that tick are sorted, placed and streamed. -/
def execEventCloseExpiry (s : State) : Host.Outcome State Fault Refusal :=
  onMem (fun m c => Core.eventCloseRow m c) s

/-- EVQ_MOVE_COMPLETE (R264): The move of R264 ends, EVQ_MOVING clears and waiting records and EVQ_RD writes proceed. -/
def execEvqMoveComplete (s : State) : Host.Outcome State Fault Refusal :=
  onCore (fun c => c.evqMoveComplete) s

/-- FAULT_CLOSE (R569): EVENT_CLOSE after a strobe the collector places the tick's records, events, frames and slots. -/
def execFaultClose (s : State) : Host.Outcome State Fault Refusal :=
  onMem (fun m c => Core.faultCloseRow m c) s

end Sys2Proof.Machine
end

