-- ==== Sys2Proof/Machine/RunDict.lean ====
section
/-! DEFINITION. The commands of the object dictionary engine (chapter 02). -/

namespace Sys2Proof.Machine

/-- DICT_REQ_ENQUEUE (R63): A DICT_REQ arriving at SP_14 is queued, or is answered BUSY when the 64-entry queue is full.
-/
def execDictReqEnqueue (f : Frame) (s : State) : Host.Outcome State Fault Refusal :=
  onCore (fun c => c.enqueueReq f) s

/-- DICT_READ (R60): The READ command at the head of the queue returns the member's value, clearing RC members. -/
def execDictRead (s : State) : Host.Outcome State Fault Refusal :=
  onMem (fun m c => Core.runHead m c 1) s

/-- DICT_WRITE (R60): The WRITE command is checked under R62 and, if it passes, writes the member, with RWT values held
pending. -/
def execDictWrite (s : State) : Host.Outcome State Fault Refusal :=
  onMem (fun m c => Core.runHead m c 2) s

/-- DESCRIBE (R60): The DESCRIBE command returns the member descriptor at L0 for any existing member. -/
def execDictDescribe (s : State) : Host.Outcome State Fault Refusal :=
  onMem (fun m c => Core.runHead m c 3) s

/-- OPEN (R56): The OPEN command checks the lockout, the level and the token, and opens a session or counts a failure.
-/
def execDictOpen (s : State) : Host.Outcome State Fault Refusal :=
  onMem (fun m c => Core.runHead m c 4) s

/-- CLOSE (R60): The CLOSE command closes the requester's session and ends its segmented transfer with ABORTED. -/
def execDictClose (s : State) : Host.Outcome State Fault Refusal :=
  onMem (fun m c => Core.runHead m c 5) s

/-- SEG_READ (R73): SEG_READ copies the member to a staging bank at OFFSET 0 and serves segments in order from that
copy. -/
def execSegRead (s : State) : Host.Outcome State Fault Refusal :=
  onMem (fun m c => Core.runHead m c 6) s

/-- SEG_WRITE (R75): SEG_WRITE stages segments in order and replaces the member whole at the accepted LAST segment. -/
def execSegWrite (s : State) : Host.Outcome State Fault Refusal :=
  onMem (fun m c => Core.runHead m c 7) s

/-- SEG_ABORT (R80): SEG_ABORT ends the open segmented transfer with ABORTED and frees its staging bank. -/
def execSegAbort (s : State) : Host.Outcome State Fault Refusal :=
  onMem (fun m c => Core.runHead m c 8) s

/-- RWT_EFFECT (R43): At its effect strobe a pending RWT value takes effect, or is dropped and recorded when the owner
cannot take it. -/
def execRwtEffect (s : State) : Host.Outcome State Fault Refusal :=
  onCore (fun c => c.rwtEffect) s

/-- SESSION_IDLE_CLOSE (R54): A session that has received no request for SESSION_IDLE seconds is closed. -/
def execSessionIdleClose (s : State) : Host.Outcome State Fault Refusal :=
  onCore (fun c => c.sessionIdle) s

/-- LOCKOUT_END (R56): LOCKOUT_TIME expires, OPEN is served again and the failure count is 0. -/
def execLockoutEnd (s : State) : Host.Outcome State Fault Refusal :=
  onCore (fun c => c.lockoutEnd) s

/-- SEG_TIMEOUT_ABANDON (R78): No next segment arrives within SEG_TIMEOUT, so the transfer is abandoned and its staging
bank freed. -/
def execSegTimeoutAbandon (s : State) : Host.Outcome State Fault Refusal :=
  onCore (fun c => c.segTimeout) s

/-- HANDOVER_COMPLETE (R457): The drain ends within 2 µs and the new owner takes the bank. -/
def execHandoverComplete (s : State) : Host.Outcome State Fault Refusal :=
  onMem (fun m c => Core.handoverRow m c true) s

/-- HANDOVER_REFUSED (R457): The drain does not end within 2 µs, so the old owner keeps the bank. -/
def execHandoverRefused (s : State) : Host.Outcome State Fault Refusal :=
  onMem (fun m c => Core.handoverRow m c false) s

/-- POST_REGISTER_TAKE (R19): The owning resource takes the value waiting in a post register, which frees it. -/
def execPostRegisterTake (res : Fin 33) (s : State) : Host.Outcome State Fault Refusal :=
  onCore (fun c => if res.val < 32 then c.canPostTake res else c.schedPostTake) s

end Sys2Proof.Machine
end

