-- ==== Sys2Proof/Machine/RunDiscrete.lean ====
section
/-! DEFINITION. The commands of discrete lines and measurement inputs (chapter 11). -/

namespace Sys2Proof.Machine

/-- DISC_OUTPUT_ITEM (R384): An output item for a discrete bank passes egress and loads its MASK bits into DISC_OUT. -/
def execDiscOutputItem (b : Fin 32) (f : Frame) (s : State) : Host.Outcome State Fault Refusal :=
  onCore (fun c => c.discItem b f) s

/-- SCHED_ITEM_RX (R268): An output item for a scheduled bank enters the schedule table, or is discarded or applied
late. -/
def execSchedItemRx (b : Fin 32) (f : Frame) (s : State) : Host.Outcome State Fault Refusal :=
  onCore (fun c => c.schedItem b f) s

/-- DISC_VIO_SENSE (R376): Each millisecond a bank senses its supply and changes DISC_VIO after 2 equal senses. -/
def execDiscVioSense (b : Fin 32) (mv : Nat) (s : State) : Host.Outcome State Fault Refusal :=
  onCore (fun c => c.vioSense b mv) s

/-- MEAS_SAMPLE_DELIVER (R392): A calibrated sample is delivered, thresholds are evaluated and sample sets are formed.
-/
def execMeasSampleDeliver (n : Fin 32) (x : Int) (s : State) : Host.Outcome State Fault Refusal :=
  onCore (fun c => c.measSample n x) s

/-- MEAS_OPEN_ENTER (R395): The open comparator is above its level for 1 ms, so the input enters OPEN. -/
def execMeasOpenEnter (n : Fin 32) (s : State) : Host.Outcome State Fault Refusal :=
  onCore (fun c => c.measOpen n) s

/-- MEAS_OPEN_LEAVE (R395): The open comparator is below its level for 1 ms, so the input leaves OPEN. -/
def execMeasOpenLeave (n : Fin 32) (s : State) : Host.Outcome State Fault Refusal :=
  onCore (fun c => c.measClose n) s

end Sys2Proof.Machine
end

