-- ==== Sys2Proof/Machine/RunEngine.lean ====
section
/-! DEFINITION. The commands of the pin engines (chapter 10). -/

namespace Sys2Proof.Machine

/-- SHIFT_OUT (R361): The engine shifts bits of SR out to OUT_PIN, with optional clock and refill. -/
def execShiftOut (n : Fin 64) (s : State) : Host.Outcome State Fault Refusal :=
  onCore (fun c => c.runShiftOut n) s

/-- SHIFT_IN (R361): The engine samples bits from IN_PIN into SR, with optional clock and spill. -/
def execShiftIn (n : Fin 64) (ins : BitVec 32) (s : State) : Host.Outcome State Fault Refusal :=
  onCore (fun c => c.runShiftIn n ins) s

/-- DELAY (R361): The engine waits n cycles. -/
def execEngDelay (n : Fin 64) (s : State) : Host.Outcome State Fault Refusal :=
  onCore (fun c => c.runDelay n) s

/-- WAIT (R362): The engine waits for a pin level, the counter, or a tick strobe. -/
def execEngWait (n : Fin 64) (k : Nat) (levels : BitVec 8) (s : State) : Host.Outcome State Fault Refusal :=
  onCore (fun c => c.runWait n k levels) s

/-- SET (R363): The engine sets pin levels or directions. -/
def execEngSet (n : Fin 64) (s : State) : Host.Outcome State Fault Refusal :=
  onCore (fun c => c.runSet n) s

/-- MOVE (R361): The engine moves a word between a queue, SR and CMPR. -/
def execEngMove (n : Fin 64) (s : State) : Host.Outcome State Fault Refusal :=
  onCore (fun c => c.runMove n) s

/-- CMP (R361): The engine compares and sets EQ. -/
def execEngCmp (n : Fin 64) (levels : BitVec 8) (s : State) : Host.Outcome State Fault Refusal :=
  onCore (fun c => c.runCmp n levels) s

/-- ENG_EVENT (R373): The EVENT instruction writes a program record and may skip the next instruction. -/
def execEngEvent (n : Fin 64) (s : State) : Host.Outcome State Fault Refusal :=
  onCore (fun c => c.runEvent n) s

/-- ENG_STALL_END (R364): A stalled engine finds its word or room at a cycle's first edge and continues. -/
def execEngStallEnd (n : Fin 64) (k : Nat) (ins : BitVec 32) (s : State) : Host.Outcome State Fault Refusal :=
  onCore (fun c => c.stallEnd n k ins) s

/-- TX_DATA (R366): A TX_DATA write is verified and its words enter the TX queue, or it is refused. -/
def execTxData (n : Fin 64) (bs : Bytes) (s : State) : Host.Outcome State Fault Refusal :=
  onCore (fun c => c.engTxData n bs) s

/-- ENG_RX_POP (R365): A read of RX_POP returns and removes the RX queue head, or gets an error when empty. -/
def execEngRxPop (n : Fin 64) (s : State) : Host.Outcome State Fault Refusal :=
  onCore (fun c => c.engRxPop n) s

/-- RX_PEEK (R367): A read of RX_PEEK returns the RX queue head, counting a read of an empty queue. -/
def execRxPeek (n : Fin 64) (s : State) : Host.Outcome State Fault Refusal :=
  onCore (fun c => c.engRxPeek n) s

end Sys2Proof.Machine
end

