-- ==== Sys2Proof/Machine/RunFabric.lean ====
section
/-! DEFINITION. The commands of the fabric, windows, movers and banks (chapter 13). -/

namespace Sys2Proof.Machine

/-- FABRIC_READ (R432): A READ request at the target is checked whole and answered READ_DATA or ERROR. -/
def execFabricRead (f : Frame) (s : State) : Host.Outcome State Fault Refusal :=
  onMem (fun m c => Core.fabRead m c f) s

/-- FABRIC_WRITE (R432): A WRITE request at the target is verified, written and answered WRITE_DONE or ERROR. -/
def execFabricWrite (f : Frame) (clash : Option Nat) (s : State) : Host.Outcome State Fault Refusal :=
  onMem (fun m c => Core.fabWrite m c f clash) s

/-- WRITE_POSTED (R432): A WRITE_POSTED request is verified and written without an answer. -/
def execWritePosted (f : Frame) (clash : Option Nat) (s : State) : Host.Outcome State Fault Refusal :=
  onMem (fun m c => Core.fabPosted m c f clash) s

/-- C7_RUNT_DISCARD (R432): A C7 DATA item shorter than the fabric head is discarded and counted. -/
def execC7RuntDiscard (f : Frame) (s : State) : Host.Outcome State Fault Refusal :=
  onCore (fun c => c.fabRunt f) s

/-- READ_DATA (R433): A READ_DATA answer completes an outstanding access, or is discarded as late. -/
def execReadData (f : DataAnswer) (s : State) : Host.Outcome State Fault Refusal :=
  onMem (fun m c => Core.duringClash f.clash (fun m c => Core.fabAnswerRx m c f.frame Op.READ_DATA) m c) s

/-- WRITE_DONE (R433): A WRITE_DONE answer completes an outstanding write. -/
def execWriteDone (f : Frame) (s : State) : Host.Outcome State Fault Refusal :=
  onMem (fun m c => Core.fabAnswerRx m c f Op.WRITE_DONE) s

/-- FABRIC_ERROR_RX (R433): An ERROR answer ends an outstanding access with its status. -/
def execFabricErrorRx (f : Frame) (s : State) : Host.Outcome State Fault Refusal :=
  onMem (fun m c => Core.fabAnswerRx m c f Op.ERROR) s

/-- FAB_TIMEOUT_EXPIRY (R433): No answer arrives within FAB_TIMEOUT, so the access ends TIMEOUT. -/
def execFabTimeoutExpiry (s : State) : Host.Outcome State Fault Refusal :=
  onMem (fun m c => Core.fabExpiry m c) s

/-- WINDOW_ACCESS (R437): A window-space access is translated, served from prefetch or refused as a window fault. -/
def execWindowAccess (a : BitVec 32) (write : Bool) (n : Fin 1009) (bs : PortWrite) (s : State) :
    Host.Outcome State Fault Refusal :=
  onMem (fun m c => Core.duringClash bs.clash (fun m c => Core.heatherAccess m c a.toNat write n bs.bytes) m c) s

/-- FAB_OPEN_ANSWER (R445): The OPEN answer arrives and sets FO_STATUS and FO_SESSION. -/
def execFabOpenAnswer (f : Frame) (s : State) : Host.Outcome State Fault Refusal :=
  onMem (fun m c => Core.dictRsp m c f true) s

/-- DICT_RSP_RX (R435): A DICT_RSP answering a window or mover access into another node's object space arrives and ends
that access, mapping its status under R435. -/
def execDictRspRx (f : Frame) (s : State) : Host.Outcome State Fault Refusal :=
  onMem (fun m c => Core.dictAnswerRx m c f) s

/-- MV_DESC_START (R449): A mover starts or resumes a descriptor and issues its reads. -/
def execMvDescStart (k : MoverStart) (s : State) : Host.Outcome State Fault Refusal :=
  onMem (fun m c => Core.duringClash k.clash (fun m c => Core.mvStart m c k.mover) m c) s

/-- MV_PREEMPT (R450): A higher queue holds a descriptor, so once outstanding accesses end the current one is PREEMPTED.
-/
def execMvPreempt (k : Fin 16) (s : State) : Host.Outcome State Fault Refusal :=
  onMem (fun m c => Core.mvPreempt m c k) s

/-- MV_DESC_END (R454): A descriptor ends DONE and Q_HEAD advances. -/
def execMvDescEnd (k : Fin 16) (s : State) : Host.Outcome State Fault Refusal :=
  onMem (fun m c => Core.mvDescEnd m c k) s

end Sys2Proof.Machine
end

