-- ==== Sys2Proof/Machine/RunFaults.lean ====
section
/-! DEFINITION. The commands of the fault collector and the safe-state controller (chapter 17). -/

namespace Sys2Proof.Machine

/-- FAULT_REPORT (R568): A subsystem reports a fault onset, clearing or one-shot to the collector. -/
def execFaultReport (r : ReportKind) (source : Fin 512) (inst : Fin 65536) (cause : Fin 256) (detail : Nat) (s : State) :
    Host.Outcome State Fault Refusal :=
  onCore (fun c => c.faultReport r source inst cause detail) s

/-- FAULT_FRAME_RX (R576): A delivered FAULT frame's records are placed in the event queue. -/
def execFaultFrameRx (f : Frame) (s : State) : Host.Outcome State Fault Refusal :=
  onCore (fun c => c.faultFrame f) s

/-- ESCALATION_TIMER_EXPIRY (R579): A slot's timer expires and the next escalation step is taken. -/
def execEscalationTimerExpiry (s : State) : Host.Outcome State Fault Refusal :=
  onMem (fun m c => Core.escalationRow m c) s

/-- FC_SELF_CHECK (R585): The collector's register copies differ, so safe state is driven and SELF_FAIL is set. -/
def execFcSelfCheck (s : State) : Host.Outcome State Fault Refusal :=
  onCore (fun c => c.selfCheck false) s

/-- SAFE_ENTRY (R586): A safe cause puts the node in safe state and moves outputs to safe values. -/
def execSafeEntry (cause : Fin 4) (s : State) : Host.Outcome State Fault Refusal :=
  onCore (fun c => c.enterSafe (cause + 1)) s

/-- SAFE_EXIT (R590): At the strobe the exit is checked again and safe state ends. -/
def execSafeExit (s : State) : Host.Outcome State Fault Refusal :=
  onCore (fun c => c.safeExitRow) s

end Sys2Proof.Machine
end

