-- ==== Sys2Proof/Machine/RunForward.lean ====
section
/-! DEFINITION. The commands of frame reception, origination and holds (chapter 04). -/

namespace Sys2Proof.Machine

/-- FRAME_RX_HEADER (R149): A received header is checked and the frame is stripped, delivered or forwarded under steps 1
to 8. -/
def execFrameRxHeader (p : Fin 4) (f : Frame) (s : State) : Host.Outcome State Fault Refusal :=
  onCore (fun c => c.frameRxHeader p f) s

/-- FRAME_RX_END (R150): A frame ends good or bad, and delivery and each output act on the result. -/
def execFrameRxEnd (p : Fin 4) (f : Frame) (e : EndKind) (s : State) : Host.Outcome State Fault Refusal :=
  onCore (fun c => c.frameRxEnd p f e) s

/-- CUT_THROUGH_UNDERRUN (R159): A cut-through output needs a block the input has not supplied and ends the frame
poisoned with cause 5. -/
def execCutThroughUnderrun (o : Fin 4) (s : State) : Host.Outcome State Fault Refusal :=
  onCore (fun c => c.underrun o) s

/-- FRAME_ORIGINATE (R151): A subsystem hands a frame to the ring, which is discarded when the node is not a census
member. -/
def execFrameOriginate (sp : Fin 12) (f : Frame) (s : State) : Host.Outcome State Fault Refusal :=
  onCore (fun c => c.frameOriginate (4 + sp) f) s

/-- TRACK_AGE_EXPIRY (R162): A tracker entry unused for TRACK_AGE is freed. -/
def execTrackAgeExpiry (s : State) : Host.Outcome State Fault Refusal :=
  onCore (fun c => c.trackExpiry) s

/-- LINK_HOLD_EXPIRY (R165): LINK_HOLD ends before the port carries traffic again, so the frozen queue is flushed. -/
def execLinkHoldExpiry (p : Fin 4) (s : State) : Host.Outcome State Fault Refusal :=
  onCore (fun c => c.holdExpiry p) s

/-- HOLD_RESUME (R165): A frozen port carries traffic again within LINK_HOLD and its queue resumes, removing aged
frames. -/
def execHoldResume (p : Fin 4) (s : State) : Host.Outcome State Fault Refusal :=
  onCore (fun c => c.holdResume p) s

end Sys2Proof.Machine
end

