-- ==== Sys2Proof/Machine/RunHost.lean ====
section
/-! DEFINITION. The commands of the local host port (chapter 14). -/

namespace Sys2Proof.Machine

/-- HOST_READ_CYCLE (R474): A host read cycle is decoded and served through its range, with wait states, retry or error.
-/
def execHostReadCycle (a : BitVec 32) (n : Nat) (s : State) : Host.Outcome State Fault Refusal :=
  onMem (fun m c => Core.hostRead m c a.toNat n) s

/-- HOST_WRITE_CYCLE (R476): A host write cycle is decoded, buffered and sent as a burst item. -/
def execHostWriteCycle (a : BitVec 32) (bs : PortWrite) (s : State) : Host.Outcome State Fault Refusal :=
  onMem (fun m c => Core.duringClash bs.clash (fun m c => Core.hostWrite m c a.toNat bs.bytes) m c) s

/-- LHP_NO_CLOCK (R472): No LHP_BCLK edge arrives for 1 µs and the port reports no clock. -/
def execLhpNoClock (s : State) : Host.Outcome State Fault Refusal :=
  onCore (fun c => c.noClock) s

/-- LHP_BCLK_RETURN (R472): An LHP_BCLK edge arrives after the port reported no clock, and LHP_STATE leaves its no-clock
state so that cycles can start again. -/
def execLhpBclkReturn (khz : Fin 66001) (s : State) : Host.Outcome State Fault Refusal :=
  onCore (fun c => c.clockBack khz) s

/-- HOST_RETRY_DEADLOCK (R490): A waiting host cycle and a pending bus request hold together for 2 µs, so the cycle is
retried and kept. -/
def execHostRetryDeadlock (s : State) : Host.Outcome State Fault Refusal :=
  onCore (fun c => c.hostRetry) s

/-- REISSUE_EXPIRY (R491): A kept retried access that no cycle joins within LHP_REISSUE is discarded. -/
def execReissueExpiry (s : State) : Host.Outcome State Fault Refusal :=
  onCore (fun c => c.reissueExpiry) s

/-- LOCK_SEQUENCE_BEGIN (R483): An address edge sampling LHP_LOCK_N low begins a locked sequence. -/
def execLockSequenceBegin (s : State) : Host.Outcome State Fault Refusal :=
  onCore (fun c => c.lockBegin) s

/-- LOCK_SEQUENCE_END (R483): An edge sampling LHP_LOCK_N high ends the sequence and frees its semaphores. -/
def execLockSequenceEnd (s : State) : Host.Outcome State Fault Refusal :=
  onMem (fun m c => Core.lockEnd m c) s

/-- LOCK_BROKEN (R485): A sequence reaches LHP_LOCK_MAX or needs a 33rd region and is broken. -/
def execLockBroken (s : State) : Host.Outcome State Fault Refusal :=
  onMem (fun m c => Core.lockExpiry m c) s

/-- DEVICE_MASTER_CYCLE (R487): On grant the port drives a bus cycle of a host transfer descriptor. -/
def execDeviceMasterCycle (done : Option (Fin 129)) (bus : BusCycle) (s : State) : Host.Outcome State Fault Refusal :=
  onMem (fun m c => Core.deviceCycle m c (done.map Fin.val) bus) s

/-- DEVICE_RETRY_REISSUE (R489): 1 µs after LHP_RETRY_N the device reissues its cycle, ending ERROR after 8. -/
def execDeviceRetryReissue (done : Option (Fin 129)) (bus : BusCycle) (s : State) : Host.Outcome State Fault Refusal :=
  onMem (fun m c => Core.deviceReissue m c (done.map Fin.val) bus) s

/-- SIDEBAND_EDGE (R493): A side-band ball changes and its line and the selected IRQ pins follow. -/
def execSidebandEdge (k : Fin 4) (level : Bool) (s : State) : Host.Outcome State Fault Refusal :=
  onCore (fun c => c.sidebandEdge k level) s

end Sys2Proof.Machine
end

