-- ==== Sys2Proof/Machine/RunJtag.lean ====
section
/-! DEFINITION. The commands of the test access port (chapter 20). -/

namespace Sys2Proof.Machine

/-- BYPASS (R671): The JTAG BYPASS instruction. -/
def execJtagBypass (s : State) : Host.Outcome State Fault Refusal :=
  onCore (fun c => c.jtagLoad .bypass 0) s

/-- IDCODE (R671): The JTAG IDCODE instruction returns 0x2128_04C3. -/
def execJtagIdcode (s : State) : Host.Outcome State Fault Refusal :=
  onCore (fun c => c.jtagLoad .idcode idcode) s

/-- SAMPLE_PRELOAD (R672): The JTAG SAMPLE/PRELOAD instruction samples the boundary without disturbing any ball. -/
def execJtagSample (levels : Bytes) (boundary : Bytes) (s : State) : Host.Outcome State Fault Refusal :=
  onCore (fun c => c.samplePreload levels boundary) s

/-- EXTEST (R672): The JTAG EXTEST instruction takes the balls while RESET_N is low. -/
def execJtagExtest (s : State) : Host.Outcome State Fault Refusal :=
  onCore (fun c => c.jtagLoad .extest 0) s

/-- CLAMP (R672): The JTAG CLAMP instruction takes the balls while RESET_N is low. -/
def execJtagClamp (s : State) : Host.Outcome State Fault Refusal :=
  onCore (fun c => c.jtagLoad .clamp 0) s

/-- HIGHZ (R672): The JTAG HIGHZ instruction takes the balls while RESET_N is low. -/
def execJtagHighz (s : State) : Host.Outcome State Fault Refusal :=
  onCore (fun c => c.jtagLoad .highz 0) s

end Sys2Proof.Machine
end

