-- ==== Sys2Proof/Machine/RunManage.lean ====
section
/-! DEFINITION. The commands of management, update and self-test (chapter 18). -/

namespace Sys2Proof.Machine

/-- HEATHER_WDT (R598): The watchdog is not refreshed for 10 ms and restarts Heather. -/
def execHeatherWdt (s : State) : Host.Outcome State Fault Refusal :=
  onCore (fun c => c.heatherWdt) s

/-- HEATHER_ECC_CORR (R597): A read of Heather's instruction or data memory finds a single-bit error, corrects it,
counts CNT_HTR_CORR and reports HEATHER_ECC_CORR. -/
def execHeatherEccCorr (inst : Fin 2) (s : State) : Host.Outcome State Fault Refusal :=
  onCore (fun c => c.heatherCorr inst) s

/-- HEATHER_ECC_UNCORR (R597): An uncorrectable error in Heather's memory restarts Heather. -/
def execHeatherEccUncorr (inst : Fin 2) (s : State) : Host.Outcome State Fault Refusal :=
  onCore (fun c => c.heatherUncorr inst) s

/-- HEATHER_RESTART_DONE (R599): A Heather restart completes and paused functions resume. -/
def execHeatherRestartDone (s : State) : Host.Outcome State Fault Refusal :=
  onCore (fun c => c.restartDone) s

/-- SENSOR_READ (R600): Every SENSOR_PERIOD temperatures and voltage monitors are read and limit conditions raised or
cleared. -/
def execSensorRead (t0 : BitVec 16) (t1 : BitVec 16) (t2 : BitVec 16) (t3 : BitVec 16) (m0 : BitVec 16) (m1 : BitVec 16) (m2 : BitVec 16) (m3 : BitVec 16) (m4 : BitVec 16) (m5 : BitVec 16) (m6 : BitVec 16) (m7 : BitVec 16) (m8 : BitVec 16) (m9 : BitVec 16) (s : State) :
    Host.Outcome State Fault Refusal :=
  onCore (fun c => c.sensorRead [t0.toNat, t1.toNat, t2.toNat, t3.toNat] [m0.toNat, m1.toNat, m2.toNat, m3.toNat, m4.toNat, m5.toNat, m6.toNat, m7.toNat, m8.toNat, m9.toNat]) s

/-- LOG_FLASH_COPY (R607): 128 entries wait or LOG_FLUSH passes and Heather copies a page into the flash log. -/
def execLogFlashCopy (ok : Bool) (s : State) : Host.Outcome State Fault Refusal :=
  onCore (fun c => c.flashCopy ok) s

/-- BEGIN (R616): An UPDATE BEGIN checks the header and starts, resumes or replaces a transfer. -/
def execUpdBegin (f : Frame) (s : State) : Host.Outcome State Fault Refusal :=
  onCore (fun c => c.updBegin f) s

/-- UPDATE_ERASE_DONE (R616): The slot erase after BEGIN completes and STATE is answered. -/
def execUpdateEraseDone (ok : Bool) (s : State) : Host.Outcome State Fault Refusal :=
  onCore (fun c => c.updErased ok) s

/-- UPDATE_CHUNK (R616): An UPDATE CHUNK of the transfer is written to the slot, or ignored. -/
def execUpdateChunk (f : Frame) (ok : Bool) (s : State) : Host.Outcome State Fault Refusal :=
  onCore (fun c => c.updChunk f ok) s

/-- QUERY (R616): An UPDATE QUERY is answered with STATE. -/
def execUpdQuery (f : Frame) (s : State) : Host.Outcome State Fault Refusal :=
  onCore (fun c => c.updQuery f) s

/-- END (R616): An UPDATE END starts the full checks, or answers STATE when chunks are missing. -/
def execUpdEnd (f : Frame) (s : State) : Host.Outcome State Fault Refusal :=
  onCore (fun c => c.updEnd f) s

/-- UPDATE_CHECK_DONE (R613): The full image checks finish and STATE is answered with RESULT. -/
def execUpdateCheckDone (ok : Bool) (s : State) : Host.Outcome State Fault Refusal :=
  onCore (fun c => c.updChecked ok) s

/-- CONFIRM_LEFT_EXPIRY (R621): CONFIRM_LEFT reaches 0 and the trial reverts. -/
def execConfirmLeftExpiry (s : State) : Host.Outcome State Fault Refusal :=
  onCore (fun c => c.confirmExpiry) s

/-- ST_SWEEP_STEP (R625): ST_BG_GAP after its last step a lane borrows the next bank for the background sweep. -/
def execStSweepStep (lane : Fin 2) (s : State) : Host.Outcome State Fault Refusal :=
  onCore (fun c => c.sweepStep lane) s

/-- COPY_IN_DONE (R462): The last word is copied into the swap bank and the borrow enters ALIASED. -/
def execCopyInDone (lane : Fin 2) (s : State) : Host.Outcome State Fault Refusal :=
  onMem (fun m c => Core.sweepCopied m c lane) s

/-- COPY_IN_ABANDON (R462): A COPY_IN not ended within 1 ms is abandoned and the bank released. -/
def execCopyInAbandon (lane : Fin 2) (s : State) : Host.Outcome State Fault Refusal :=
  onCore (fun c => c.sweepAbandon lane) s

/-- ALIASED_TEST_DONE (R462): The march test of the borrowed bank ends and COPY_BACK starts. -/
def execAliasedTestDone (lane : Fin 2) (failWord : BitVec 16) (sig : BitVec 32) (s : State) :
    Host.Outcome State Fault Refusal :=
  onCore (fun c => c.sweepTested lane failWord.toNat sig.toNat) s

/-- COPY_BACK_DONE (R462): The last word is copied back and the bank is released. -/
def execCopyBackDone (lane : Fin 2) (s : State) : Host.Outcome State Fault Refusal :=
  onMem (fun m c => Core.sweepBack m c lane) s

/-- RUN_BANK_DONE (R628): A destructive bank test completes and the bank is cleared and returned. -/
def execRunBankDone (lane : Fin 2) (failWord : BitVec 16) (sig : BitVec 32) (s : State) :
    Host.Outcome State Fault Refusal :=
  onMem (fun m c => Core.runBankDone m c lane failWord.toNat sig.toNat) s

end Sys2Proof.Machine
end

