-- ==== Sys2Proof/Machine/RunMapper.lean ====
section
/-! DEFINITION. The commands of the signal mapper and the interlock rules (chapter 12). -/

namespace Sys2Proof.Machine

/-- MAPPER_INPUT_ITEM (R403): The mapper starts an input item, fetches its route chain and runs the programs. -/
def execMapperInputItem (arrived : Option Frame) (s : State) : Host.Outcome State Fault Refusal :=
  onMem (fun m c => Core.mapperInput m c arrived) s

/-- MAPPER_RELEASE (R415): On a pass verdict the outputs and slot stores of an item are released in one cycle. -/
def execMapperRelease (s : State) : Host.Outcome State Fault Refusal :=
  onMem (fun m c => Core.mapperRelease m c) s

/-- MAP_LOAD_WINDOW_END (R419): At each 1 ms window MAP_LOAD takes the entries run. -/
def execMapLoadWindowEnd (s : State) : Host.Outcome State Fault Refusal :=
  onMem (fun m c => (m, c.mapWindow m)) s

/-- RULE_PASS (R421): Each tick the rule unit evaluates all rules and writes line holds and records. -/
def execRulePass (s : State) : Host.Outcome State Fault Refusal :=
  onCore (fun c => c.rulePass) s

end Sys2Proof.Machine
end

