-- ==== Sys2Proof/Machine/RunMode.lean ====
section
/-! DEFINITION. The commands of modes, reset and start-up (chapter 19). -/

namespace Sys2Proof.Machine

/-- MODE_CHANGE_AT_STROBE (R642): At the first strobe after a mode command the CONFIG hold, QUIESCENT or the leave takes
effect. -/
def execModeChangeAtStrobe (s : State) : Host.Outcome State Fault Refusal :=
  onCore (fun c => c.modeChange) s

/-- POWER_ON (R644): VDD_3V3 rises from below 1.0 V and the node is reset with cause POWER_ON. -/
def execPowerOn (s : State) : Host.Outcome State Fault Refusal :=
  onCore (fun c => c.powerOn) s

/-- RESET_N (R645): RESET_N held low resets the node. -/
def execResetN (ns : Nat) (still : Bool) (s : State) : Host.Outcome State Fault Refusal :=
  onCore (fun c => c.resetBall ns still) s

/-- RESET_RELEASE (R647): The release conditions hold for 2 ms and BOOT begins. -/
def execResetRelease (s : State) : Host.Outcome State Fault Refusal :=
  onCore (fun c => c.resetRelease) s

/-- SUPPLY_RESET (R533): VDD_3V3 or VDD_CORE falls below its reset level, so the chip resets and logs POWER_FAIL. -/
def execSupplyReset (low : BitVec 16) (absent : Bool) (s : State) : Host.Outcome State Fault Refusal :=
  onCore (fun c => c.supplyReset low.toNat absent) s

/-- ESCALATION_RESET (R584): 50 µs after a RESET step the node resets with cause ESCALATION. -/
def execEscalationReset (s : State) : Host.Outcome State Fault Refusal :=
  onCore (fun c => c.escalationReset) s

/-- CFG_SAVE_DONE (R653): The configuration save completes or fails. -/
def execCfgSaveDone (ok : Bool) (s : State) : Host.Outcome State Fault Refusal :=
  onCore (fun c => c.cfgSaveDone ok) s

/-- TICK_PERIOD_CHANGE (R679): At a whole second a new TICK_PERIOD takes effect and every held tick value is renumbered.
-/
def execTickPeriodChange (s : State) : Host.Outcome State Fault Refusal :=
  onCore (fun c => c.periodChange) s

end Sys2Proof.Machine
end

