-- ==== Sys2Proof/Machine/RunPower.lean ====
section
/-! DEFINITION. The commands of supplies, feeds and rails (chapter 16). -/

namespace Sys2Proof.Machine

/-- DIP_START (R534): VDD_3V3 at or below 3.05 V for 2 µs starts a dip episode that holds flash writes and turn-ons. -/
def execDipStart (mv : Fin 65536) (s : State) : Host.Outcome State Fault Refusal :=
  onCore (fun c => c.dipStart mv) s

/-- DIP_END (R535): VDD_3V3 at or above 3.10 V for 100 µs ends the episode and logs it. -/
def execDipEnd (mv : Fin 65536) (low : Fin 65536) (s : State) : Host.Outcome State Fault Refusal :=
  onCore (fun c => (c.dipEnd mv low).dipOver) s

/-- POWER_DEGRADED (R536): An episode that has lasted 20 ms declares POWER_DEGRADED. -/
def execPowerDegraded (s : State) : Host.Outcome State Fault Refusal :=
  onCore (fun c => c.powerDegraded) s

/-- DEGRADED_CLEAR (R536): VIN_MV stays good for DEGRADED_CLEAR and POWER_DEGRADED clears. -/
def execDegradedClear (mv : Fin 65536) (s : State) : Host.Outcome State Fault Refusal :=
  onCore (fun c => c.degradedClear mv) s

/-- SUPPLY_RANGE_CHANGE (R531): VDDA_SD or VDDA_MEAS leaves or returns to its range after its filter. -/
def execSupplyRangeChange (meas : Bool) (out : Bool) (s : State) : Host.Outcome State Fault Refusal :=
  onCore (fun c => c.supplyChange meas out) s

/-- VBAT_SENSE (R540): Once per LCLK second VBAT is compared with 2.2 V, which may set VBAT_LOW. -/
def execVbatSense (mv : Fin 65536) (s : State) : Host.Outcome State Fault Refusal :=
  onCore (fun c => c.vbatSense mv) s

/-- RTC_LOAD (R539): At each whole minute the real-time counter is loaded from system time. -/
def execRtcLoad (s : State) : Host.Outcome State Fault Refusal :=
  onCore (fun c => c.rtcLoad) s

/-- BACKUP_BROWN_OUT (R538): The backup supply falls below 1.5 V and the backup domain is cleared. -/
def execBackupBrownOut (s : State) : Host.Outcome State Fault Refusal :=
  onCore (fun c => c.brownOut) s

/-- VBAT_RISE (R641): VBAT rises above 1.5 V with no main supply and the chip enters BACKUP. -/
def execVbatRise (s : State) : Host.Outcome State Fault Refusal :=
  onCore (fun c => c.vbatRise) s

/-- FEED_REVERSE (R543): FEED_x_VOUT exceeds FEED_x_VIN and the gate is driven low. -/
def execFeedReverse (x : Fin 2) (code : Fin 4096) (s : State) : Host.Outcome State Fault Refusal :=
  onCore (fun c => c.feedReverse x code) s

/-- FEED_UNBLOCK (R543): A reverse-blocked feed's VIN exceeds VOUT by 10 mV for 10 µs and it turns on again. -/
def execFeedUnblock (x : Fin 2) (code : Fin 4096) (s : State) : Host.Outcome State Fault Refusal :=
  onCore (fun c => c.feedUnblock x code) s

/-- FEED_LOST (R543): FEED_MV stays below FEED_MIN_MV for 1 ms and the feed is lost. -/
def execFeedLost (x : Fin 2) (code : Fin 4096) (s : State) : Host.Outcome State Fault Refusal :=
  onCore (fun c => c.feedLost x code) s

/-- FEED_RESTORED (R543): A lost feed is good for 1 ms and returns. -/
def execFeedRestored (x : Fin 2) (code : Fin 4096) (s : State) : Host.Outcome State Fault Refusal :=
  onCore (fun c => c.feedRestored x code) s

/-- RAIL_TURN_ON (R547): Command 1 at a strobe turns a rail on into INRUSH. -/
def execRailTurnOn (n : Fin 16) (s : State) : Host.Outcome State Fault Refusal :=
  onCore (fun c => c.railStrobe n) s

/-- RAIL_TURN_OFF (R547): Command 0 at a strobe takes a rail to OFF. -/
def execRailTurnOff (n : Fin 16) (s : State) : Host.Outcome State Fault Refusal :=
  onCore (fun c => c.railStrobe n) s

/-- INRUSH_END (R547): INRUSH_TIME ends and the rail enters SETTLING. -/
def execInrushEnd (n : Fin 16) (s : State) : Host.Outcome State Fault Refusal :=
  onCore (fun c => c.inrushEnd n) s

/-- RAIL_SAMPLE (R548): Every 1 µs the rail current updates the heat H and the fault timer. -/
def execRailSample (n : Fin 16) (code : Fin 4096) (pg : Bool) (s : State) : Host.Outcome State Fault Refusal :=
  onCore (fun c => c.railSample n code pg) s

/-- SETTLE_WINDOW_EXPIRY (R551): Window W ends without power-good and the rail trips with cause 4. -/
def execSettleWindowExpiry (n : Fin 16) (s : State) : Host.Outcome State Fault Refusal :=
  onCore (fun c => c.windowEnd n) s

/-- POWER_GOOD (R552): The settle condition holds for 1 ms and power-good is asserted at the next strobe. -/
def execPowerGood (n : Fin 16) (s : State) : Host.Outcome State Fault Refusal :=
  onCore (fun c => c.railStrobe n) s

/-- PG_LOST (R547): FLD_n_PG is low for 100 µs while ON and the rail trips with cause 5. -/
def execPgLost (n : Fin 16) (s : State) : Host.Outcome State Fault Refusal :=
  onCore (fun c => c.pgLost n) s

/-- RETRY_INTERVAL_EXPIRY (R551): RETRY_INTERVAL ends in WAIT and the rail retries into INRUSH. -/
def execRetryIntervalExpiry (n : Fin 16) (s : State) : Host.Outcome State Fault Refusal :=
  onCore (fun c => c.retryDue n) s

/-- RETRY_CLEAR_EXPIRY (R551): A rail held ON for RETRY_CLEAR has its retry count returned to 0. -/
def execRetryClearExpiry (n : Fin 16) (s : State) : Host.Outcome State Fault Refusal :=
  onCore (fun c => c.retryClear n) s

/-- PRESENCE_LOST (R553): FLD_n_PRES_N goes high, so the gate goes low and the rail enters PULLED. -/
def execPresenceLost (n : Fin 16) (s : State) : Host.Outcome State Fault Refusal :=
  onCore (fun c => c.presenceLost n) s

/-- BOUNCE (R553): Presence returns within 50 ms and the rail returns to WAIT. -/
def execRailBounce (n : Fin 16) (s : State) : Host.Outcome State Fault Refusal :=
  onCore (fun c => c.railBounce n) s

/-- ABSENT (R553): An absence of 50 ms enters ABSENT and clears the retry state. -/
def execRailAbsent (n : Fin 16) (s : State) : Host.Outcome State Fault Refusal :=
  onCore (fun c => c.railAbsent n) s

/-- INSERTED (R547): Presence low for 50 ms returns an ABSENT rail to OFF, and to INRUSH under command 1. -/
def execRailInserted (n : Fin 16) (s : State) : Host.Outcome State Fault Refusal :=
  onCore (fun c => c.railInserted n) s

end Sys2Proof.Machine
end

