-- ==== Sys2Proof/Machine/RunRegister.lean ====
section
/-! DEFINITION. The commands that are reads and writes of one member. -/

namespace Sys2Proof.Machine

/-- REGISTER_WRITE (R42): A dictionary write to a member that has no row of its own is checked under R62 and, if it
passes, takes effect under its access code. -/
def execRegisterWrite (lvl : Fin 4) (obj : Fin 65536) (mb : Fin 256) (data : Bytes) (s : State) :
    Host.Outcome State Fault Refusal :=
  onMem (fun m c => Core.writeBytes m c lvl (obj * 256 + mb) data) s

/-- CENSUS_START (R113): A write of 1 to CENSUS_START originates a census. -/
def execCensusStart (lvl : Fin 4) (s : State) : Host.Outcome State Fault Refusal :=
  onMem (fun m c => Core.writeNum m c lvl Reg.CENSUS_START 1) s

/-- BUF_LIMIT_WRITE (R189): A BUF_LIMIT write is checked against SW_POOL and applies at once. -/
def execBufLimitWrite (lvl : Fin 4) (out : Fin 16) (cls : Fin 8) (v : BitVec 32) (s : State) :
    Host.Outcome State Fault Refusal :=
  onMem (fun m c => Core.writeNum m c lvl (limitKey out cls) v.toNat) s

/-- INJ_ARM (R223): A write of 1 to INJ_ARM arms check-bit inversion at the chosen checker. -/
def execInjArm (lvl : Fin 4) (s : State) : Host.Outcome State Fault Refusal :=
  onMem (fun m c => Core.writeNum m c lvl Reg.INJ_ARM 1) s

/-- INJ_CANCEL (R224): A write of 0 to INJ_ARM sets INJ_LEFT to 0. -/
def execInjCancel (lvl : Fin 4) (s : State) : Host.Outcome State Fault Refusal :=
  onMem (fun m c => Core.writeNum m c lvl Reg.INJ_ARM 0) s

/-- TIME_SET (R249): A TIME_SET write in CONFIG steps system time to the written value and sets TIME_VALID. -/
def execTimeSet (lvl : Fin 4) (v : BitVec 64) (s : State) : Host.Outcome State Fault Refusal :=
  onMem (fun m c => Core.writeNum m c lvl Reg.TIME_SET v.toNat) s

/-- EVENT_RECORD_ARRIVE (R262): A record reaches the event stream and joins its tick's sort buffer, or is placed at once
with LATE_CLOSE. -/
def execEventRecordArrive (source : Fin 65536) (kind : Fin 256) (sev : Fin 5) (tick : BitVec 48) (flags : BitVec 16) (value : BitVec 64) (s : State) :
    Host.Outcome State Fault Refusal :=
  onCore (fun c => c.eventArrive source kind sev tick.toNat flags.toNat value.toNat) s

/-- EVQ_RD_WRITE (R265): A write of EVQ_RD releases records, or is refused when it would pass EVQ_WR. -/
def execEvqRdWrite (lvl : Fin 4) (v : Fin 65536) (s : State) : Host.Outcome State Fault Refusal :=
  onMem (fun m c => Core.writeNum m c lvl Reg.EVQ_RD v) s

/-- SCHED_POST (R269): A 16-byte SCHED_POST write enters one schedule entry. -/
def execSchedPost (lvl : Fin 4) (data : Bytes) (s : State) : Host.Outcome State Fault Refusal :=
  onMem (fun m c => Core.writeBytes m c lvl Reg.SCHED_POST data) s

/-- SCHED_CANCEL (R270): A write of 1 to SCHED_CANCEL removes every pending entry. -/
def execSchedCancel (lvl : Fin 4) (s : State) : Host.Outcome State Fault Refusal :=
  onMem (fun m c => Core.writeNum m c lvl Reg.SCHED_CANCEL 1) s

/-- CH_RESET (R304): A write of 1 to CH_RESET clears both directions of the channel. -/
def execChReset (lvl : Fin 4) (n : Fin 128) (s : State) : Host.Outcome State Fault Refusal :=
  onMem (fun m c => Core.writeNum m c lvl (Reg.CH_RESET n) 1) s

/-- CAN_TX_POST (R331): A CAN_TX_POST write fills the controller's post register as a transmit item. -/
def execCanTxPost (lvl : Fin 4) (n : Fin 32) (data : Bytes) (s : State) : Host.Outcome State Fault Refusal :=
  onMem (fun m c => Core.writeBytes m c lvl (Reg.CAN_TX_POST n) data) s

/-- CAN_ABORT (R336): A CAN_ABORT mask registered in the controller aborts its mailboxes as their state gives. -/
def execCanAbort (lvl : Fin 4) (n : Fin 32) (mask : BitVec 64) (s : State) : Host.Outcome State Fault Refusal :=
  onMem (fun m c => Core.writeNum m c lvl (Reg.CAN_ABORT n) mask.toNat) s

/-- ABORT_ALL (R336): CAN_CMD 2 aborts every mailbox. -/
def execCanAbortAll (lvl : Fin 4) (n : Fin 32) (s : State) : Host.Outcome State Fault Refusal :=
  onMem (fun m c => Core.writeNum m c lvl (Reg.CAN_CMD n) 2) s

/-- RECOVER (R346): CAN_CMD 1 in bus-off puts the controller in RECOVERING. -/
def execCanRecover (lvl : Fin 4) (n : Fin 32) (s : State) : Host.Outcome State Fault Refusal :=
  onMem (fun m c => Core.writeNum m c lvl (Reg.CAN_CMD n) 1) s

/-- RX_RD_WRITE (R341): A write of RX_RD releases receive slots, or is refused when it would pass RX_WR. -/
def execRxRdWrite (lvl : Fin 4) (n : Fin 32) (v : Fin 256) (s : State) : Host.Outcome State Fault Refusal :=
  onMem (fun m c => Core.writeNum m c lvl (Reg.CAN_RX_RD n) v) s

/-- ENG_START (R354): ENG_CTRL START checks the group, takes over its pins and begins the program at WRAP_BOTTOM. -/
def execEngStart (lvl : Fin 4) (n : Fin 64) (s : State) : Host.Outcome State Fault Refusal :=
  onMem (fun m c => Core.writeNum m c lvl (Reg.ENG_CTRL n) 1) s

/-- ENG_STOP (R369): ENG_CTRL STOP abandons the instruction under way and releases the pins. -/
def execEngStop (lvl : Fin 4) (n : Fin 64) (s : State) : Host.Outcome State Fault Refusal :=
  onMem (fun m c => Core.writeNum m c lvl (Reg.ENG_CTRL n) 2) s

/-- STOP_AT_WRAP (R369): ENG_CTRL STOP_AT_WRAP stops the engine at its next wrap. -/
def execStopAtWrap (lvl : Fin 4) (n : Fin 64) (s : State) : Host.Outcome State Fault Refusal :=
  onMem (fun m c => Core.writeNum m c lvl (Reg.ENG_CTRL n) 3) s

/-- ENG_FLUSH (R369): ENG_CTRL FLUSH empties both queues of a stopped engine. -/
def execEngFlush (lvl : Fin 4) (n : Fin 64) (s : State) : Host.Outcome State Fault Refusal :=
  onMem (fun m c => Core.writeNum m c lvl (Reg.ENG_CTRL n) 4) s

/-- ENG_PROG_WRITE (R370): An ENG_PROG write is held pending until the next wrap while the engine runs. -/
def execEngProgWrite (lvl : Fin 4) (n : Fin 64) (data : Bytes) (s : State) : Host.Outcome State Fault Refusal :=
  onMem (fun m c => Core.writeBytes m c lvl (Reg.ENG_PROG n) data) s

/-- ENG_WRAP_WRITE (R370): An ENG_WRAP write is checked and held pending until the next wrap while the engine runs. -/
def execEngWrapWrite (lvl : Fin 4) (n : Fin 64) (v : BitVec 32) (s : State) : Host.Outcome State Fault Refusal :=
  onMem (fun m c => Core.writeNum m c lvl (Reg.ENG_WRAP n) v.toNat) s

/-- ENG_DIV_WRITE (R370): An ENG_DIV write is held pending until the next wrap while the engine runs. -/
def execEngDivWrite (lvl : Fin 4) (n : Fin 64) (v : BitVec 32) (s : State) : Host.Outcome State Fault Refusal :=
  onMem (fun m c => Core.writeNum m c lvl (Reg.ENG_DIV n) v.toNat) s

/-- ENG_PROG_FORCE (R371): An ENG_PROG_FORCE write abandons the instruction under way and installs the program at once.
-/
def execEngProgForce (lvl : Fin 4) (n : Fin 64) (data : Bytes) (s : State) : Host.Outcome State Fault Refusal :=
  onMem (fun m c => Core.writeBytes m c lvl (Reg.ENG_PROG_FORCE n) data) s

/-- DISC_SAFE_WRITE (R386): A DISC_SAFE write applies at once, from the next strobe for a bank in safe state. -/
def execDiscSafeWrite (lvl : Fin 4) (b : Fin 32) (v : Fin 256) (s : State) : Host.Outcome State Fault Refusal :=
  onMem (fun m c => Core.writeNum m c lvl (Reg.DISC_SAFE b) v) s

/-- ROUTE_TABLE_WRITE (R404): A fabric write of a route entry is checked and replaces the entry in one cycle. -/
def execRouteTableWrite (key : Fin 65536) (entry : Bytes) (s : State) : Host.Outcome State Fault Refusal :=
  onMem (fun m c => Core.tableWrite m c (c.routeBase + key * 32) entry) s

/-- MAPPING_ENTRY_WRITE (R404): A fabric write of a mapping entry replaces it in one cycle. -/
def execMappingEntryWrite (k : Fin 16384) (entry : Bytes) (s : State) : Host.Outcome State Fault Refusal :=
  onMem (fun m c => Core.tableWrite m c (entryBase + k * 16) entry) s

/-- RULE_RESET (R425): A write of 1 to RULE_RESET returns a CLEARED rule to NORMAL at the next pass. -/
def execRuleReset (lvl : Fin 4) (r : Fin 1024) (s : State) : Host.Outcome State Fault Refusal :=
  onMem (fun m c => Core.writeNum m c lvl (Reg.RULE_RESET r) 1) s

/-- WIN_CTRL_WRITE (R443): A WIN_CTRL write is checked and may set PF_CONFLICT and report the prefetch fault. -/
def execWinCtrlWrite (lvl : Fin 4) (w : Fin 256) (v : BitVec 32) (s : State) : Host.Outcome State Fault Refusal :=
  onMem (fun m c => Core.writeNum m c lvl (Reg.WIN_CTRL w) v.toNat) s

/-- FO_TOKEN_WRITE (R445): A write to FO_TOKEN makes Heather send an OPEN to FO_NODE. -/
def execFoTokenWrite (lvl : Fin 4) (data : Bytes) (s : State) : Host.Outcome State Fault Refusal :=
  onMem (fun m c => Core.writeBytes m c lvl Reg.FO_TOKEN data) s

/-- Q_TAIL_WRITE (R446): A Q_TAIL write adds descriptors to a mover queue. -/
def execQTailWrite (lvl : Fin 4) (k : Fin 16) (q : Fin 4) (v : Fin 65536) (s : State) :
    Host.Outcome State Fault Refusal :=
  onMem (fun m c => Core.writeNum m c lvl (Reg.Q_TAIL k q) v) s

/-- MV_ENABLE (R453): MV_CMD ENABLE takes a DISABLED mover to IDLE. -/
def execMvEnable (lvl : Fin 4) (k : Fin 16) (s : State) : Host.Outcome State Fault Refusal :=
  onMem (fun m c => Core.writeNum m c lvl (Reg.MV_CMD k) 1) s

/-- MV_DISABLE (R453): MV_CMD DISABLE preempts and disables the mover. -/
def execMvDisable (lvl : Fin 4) (k : Fin 16) (s : State) : Host.Outcome State Fault Refusal :=
  onMem (fun m c => Core.writeNum m c lvl (Reg.MV_CMD k) 2) s

/-- MV_RESUME (R453): MV_CMD RESUME reissues reads from DONE. -/
def execMvResume (lvl : Fin 4) (k : Fin 16) (s : State) : Host.Outcome State Fault Refusal :=
  onMem (fun m c => Core.writeNum m c lvl (Reg.MV_CMD k) 3) s

/-- MV_SKIP (R453): MV_CMD SKIP ends the suspended descriptor and advances Q_HEAD. -/
def execMvSkip (lvl : Fin 4) (k : Fin 16) (s : State) : Host.Outcome State Fault Refusal :=
  onMem (fun m c => Core.writeNum m c lvl (Reg.MV_CMD k) 4) s

/-- MV_ABORT (R453): MV_CMD ABORT ends the running descriptor ABORTED. -/
def execMvAbort (lvl : Fin 4) (k : Fin 16) (s : State) : Host.Outcome State Fault Refusal :=
  onMem (fun m c => Core.writeNum m c lvl (Reg.MV_CMD k) 5) s

/-- BANK_OWNER_WRITE (R457): A BANK_OWNER write requests a handover and starts the old owner's drain. -/
def execBankOwnerWrite (lvl : Fin 4) (b : Fin 64) (v : Fin 256) (s : State) : Host.Outcome State Fault Refusal :=
  onMem (fun m c => Core.writeNum m c lvl (Reg.BANK_OWNER b) v) s

/-- XQ_TAIL_WRITE (R486): An XQ_TAIL write adds host transfer descriptors and raises LHP_BREQ_N. -/
def execXqTailWrite (lvl : Fin 4) (v : Fin 65536) (s : State) : Host.Outcome State Fault Refusal :=
  onMem (fun m c => Core.writeNum m c lvl Reg.XQ_TAIL v) s

/-- TW_CMD_OFFER (R513): TW_CMD 1 at the holder starts a planned switchover, or is refused. -/
def execTwCmdOffer (lvl : Fin 4) (s : State) : Host.Outcome State Fault Refusal :=
  onMem (fun m c => Core.writeNum m c lvl Reg.TW_CMD 1) s

/-- TW_CMD_SNAPSHOT (R525): TW_CMD 2 starts a snapshot epoch at once. -/
def execTwCmdSnapshot (lvl : Fin 4) (s : State) : Host.Outcome State Fault Refusal :=
  onMem (fun m c => Core.writeNum m c lvl Reg.TW_CMD 2) s

/-- PL_CLEAR (R559): A write of 1 to PL_CLEAR zeroes the power-loss log. -/
def execPlClear (lvl : Fin 4) (s : State) : Host.Outcome State Fault Refusal :=
  onMem (fun m c => Core.writeNum m c lvl Reg.PL_CLEAR 1) s

/-- FF_RECORD (R570): A read of FF_RECORD returns and empties the first-fault record. -/
def execFfRecord (lvl : Fin 4) (s : State) : Host.Outcome State Fault Refusal :=
  onMem (fun m c => Core.readMember m c lvl Reg.FF_RECORD) s

/-- FQ_POP (R573): A read of FQ_POP returns and removes the oldest fault record. -/
def execFqPop (lvl : Fin 4) (s : State) : Host.Outcome State Fault Refusal :=
  onMem (fun m c => Core.readMember m c lvl Reg.FQ_POP) s

/-- FC_ACK (R580): A write to FC_ACK frees every slot at or behind the written FAULT_SEQ. -/
def execFcAck (lvl : Fin 4) (q : Fin 65536) (s : State) : Host.Outcome State Fault Refusal :=
  onMem (fun m c => Core.writeNum m c lvl Reg.FC_ACK q) s

/-- FC_UNISOLATE (R583): A write to FC_UNISOLATE releases one or all isolations. -/
def execFcUnisolate (lvl : Fin 4) (v : BitVec 32) (s : State) : Host.Outcome State Fault Refusal :=
  onMem (fun m c => Core.writeNum m c lvl Reg.FC_UNISOLATE v.toNat) s

/-- FC_SAFE_ENTER (R586): FC_SAFE_CMD 1 enters safe state. -/
def execFcSafeEnter (lvl : Fin 4) (s : State) : Host.Outcome State Fault Refusal :=
  onMem (fun m c => Core.writeNum m c lvl Reg.FC_SAFE_CMD 1) s

/-- FC_SAFE_EXIT (R590): FC_SAFE_CMD 2 requests the end of safe state after its checks. -/
def execFcSafeExit (lvl : Fin 4) (s : State) : Host.Outcome State Fault Refusal :=
  onMem (fun m c => Core.writeNum m c lvl Reg.FC_SAFE_CMD 2) s

/-- FC_INJECT_REPORT (R591): Injection kind 1 makes an injected one-shot report. -/
def execFcInjectReport (lvl : Fin 4) (s : State) : Host.Outcome State Fault Refusal :=
  onMem (fun m c => Core.injectKind m c lvl 1) s

/-- FC_INJECT_PAIR (R591): Injection kind 2 forces a fault input pair reading for INJ_TICKS strobes. -/
def execFcInjectPair (lvl : Fin 4) (s : State) : Host.Outcome State Fault Refusal :=
  onMem (fun m c => Core.injectKind m c lvl 2) s

/-- FC_INJECT_SAFE_FLAG (R591): Injection kind 3 inverts a bit of the second safe-state copy. -/
def execFcInjectSafeFlag (lvl : Fin 4) (s : State) : Host.Outcome State Fault Refusal :=
  onMem (fun m c => Core.injectKind m c lvl 3) s

/-- LOG_ERASE (R634): A write of 1 to LOG_ERASE erases the flash log. -/
def execLogErase (lvl : Fin 4) (s : State) : Host.Outcome State Fault Refusal :=
  onMem (fun m c => Core.writeNum m c lvl Reg.LOG_ERASE 1) s

/-- LC_TO_FIELD_OPEN (R611): LC_CMD 1 moves MANUFACTURE or RETURNED to FIELD_OPEN. -/
def execLcToFieldOpen (lvl : Fin 4) (s : State) : Host.Outcome State Fault Refusal :=
  onMem (fun m c => Core.writeNum m c lvl Reg.LC_CMD 1) s

/-- LC_TO_FIELD_SEALED (R611): LC_CMD 2 moves FIELD_OPEN to FIELD_SEALED. -/
def execLcToFieldSealed (lvl : Fin 4) (s : State) : Host.Outcome State Fault Refusal :=
  onMem (fun m c => Core.writeNum m c lvl Reg.LC_CMD 2) s

/-- LC_RETURN (R655): An accepted return record enters RETURNED and erases configuration and tokens. -/
def execLcReturn (lvl : Fin 4) (record : Bytes) (s : State) : Host.Outcome State Fault Refusal :=
  onMem (fun m c => Core.writeBytes m c lvl Reg.LC_RETURN record) s

/-- ACTIVATE (R619): UPD_CMD 1 activates the valid inactive slot as a trial. -/
def execUpdActivate (lvl : Fin 4) (s : State) : Host.Outcome State Fault Refusal :=
  onMem (fun m c => Core.writeNum m c lvl Reg.UPD_CMD 1) s

/-- CONFIRM (R620): UPD_CMD 2 confirms the trial and raises ROLLBACK_FUSE. -/
def execUpdConfirm (lvl : Fin 4) (s : State) : Host.Outcome State Fault Refusal :=
  onMem (fun m c => Core.writeNum m c lvl Reg.UPD_CMD 2) s

/-- REVERT (R621): UPD_CMD 3 reverts the trial to the previous slot. -/
def execUpdRevert (lvl : Fin 4) (s : State) : Host.Outcome State Fault Refusal :=
  onMem (fun m c => Core.writeNum m c lvl Reg.UPD_CMD 3) s

/-- DISCARD (R621): UPD_CMD 4 empties the inactive slot. -/
def execUpdDiscard (lvl : Fin 4) (s : State) : Host.Outcome State Fault Refusal :=
  onMem (fun m c => Core.writeNum m c lvl Reg.UPD_CMD 4) s

/-- RUN_START (R628): RUN_CMD 1 starts a destructive run on RUN_BANKS. -/
def execRunStart (lvl : Fin 4) (s : State) : Host.Outcome State Fault Refusal :=
  onMem (fun m c => Core.writeNum m c lvl Reg.RUN_CMD 1) s

/-- RUN_STOP (R628): RUN_CMD 2 stops every lane and returns the banks ABORTED. -/
def execRunStop (lvl : Fin 4) (s : State) : Host.Outcome State Fault Refusal :=
  onMem (fun m c => Core.writeNum m c lvl Reg.RUN_CMD 2) s

/-- ENTER_CONFIG (R642): MODE_CMD 1 requests CONFIG from operation. -/
def execEnterConfig (lvl : Fin 4) (s : State) : Host.Outcome State Fault Refusal :=
  onMem (fun m c => Core.writeNum m c lvl Reg.MODE_CMD 1) s

/-- LEAVE_CONFIG (R643): MODE_CMD 2 brings CONFIG values into force, checks resources and sets the base mode. -/
def execLeaveConfig (lvl : Fin 4) (s : State) : Host.Outcome State Fault Refusal :=
  onMem (fun m c => Core.writeNum m c lvl Reg.MODE_CMD 2) s

/-- ENTER_SELF_TEST (R641): MODE_CMD 3 moves CONFIG to SELF_TEST. -/
def execEnterSelfTest (lvl : Fin 4) (s : State) : Host.Outcome State Fault Refusal :=
  onMem (fun m c => Core.writeNum m c lvl Reg.MODE_CMD 3) s

/-- LEAVE_SELF_TEST (R641): MODE_CMD 4 moves SELF_TEST to CONFIG. -/
def execLeaveSelfTest (lvl : Fin 4) (s : State) : Host.Outcome State Fault Refusal :=
  onMem (fun m c => Core.writeNum m c lvl Reg.MODE_CMD 4) s

/-- SET_QUIESCENT (R640): MODE_CMD 5 requests QUIESCENT. -/
def execSetQuiescent (lvl : Fin 4) (s : State) : Host.Outcome State Fault Refusal :=
  onMem (fun m c => Core.writeNum m c lvl Reg.MODE_CMD 5) s

/-- CLEAR_QUIESCENT (R640): MODE_CMD 6 requests the end of QUIESCENT. -/
def execClearQuiescent (lvl : Fin 4) (s : State) : Host.Outcome State Fault Refusal :=
  onMem (fun m c => Core.writeNum m c lvl Reg.MODE_CMD 6) s

/-- RESET_CMD (R644): A write of 0x0000_A5A5 to RESET_CMD resets the node. -/
def execResetCmd (lvl : Fin 4) (s : State) : Host.Outcome State Fault Refusal :=
  onMem (fun m c => Core.writeNum m c lvl Reg.RESET_CMD 0xA5A5) s

/-- CFG_SAVE (R653): CFG_CMD 1 starts a save of the values in force to the older copy. -/
def execCfgSave (lvl : Fin 4) (s : State) : Host.Outcome State Fault Refusal :=
  onMem (fun m c => Core.writeNum m c lvl Reg.CFG_CMD 1) s

/-- CFG_ERASE (R653): CFG_CMD 2 erases both configuration copies. -/
def execCfgErase (lvl : Fin 4) (s : State) : Host.Outcome State Fault Refusal :=
  onMem (fun m c => Core.writeNum m c lvl Reg.CFG_CMD 2) s

end Sys2Proof.Machine
end

