-- ==== Sys2Proof/Machine/RunRing.lean ====
section
/-! DEFINITION. The commands of ring ports, wrap and census (chapter 03). -/

namespace Sys2Proof.Machine

/-- PORT_MODULE_PRESENT (R97): RP_p_PRES_N goes low, so the port enters DOWN, enables TX and reads RP_SFP_ID. -/
def execPortModulePresent (p : Fin 4) (id : Option Bytes) (s : State) : Host.Outcome State Fault Refusal :=
  onCore (fun c => c.modulePresent p id) s

/-- PORT_MODULE_ABSENT (R97): RP_p_PRES_N goes high, so the port enters ABSENT and disables TX. -/
def execPortModuleAbsent (p : Fin 4) (s : State) : Host.Outcome State Fault Refusal :=
  onCore (fun c => c.moduleAbsent p) s

/-- PORT_LOCK_GAINED (R97): A DOWN port gains block lock or synchronisation with every condition good and enters
QUALIFYING. -/
def execPortLockGained (p : LinkLock) (s : State) : Host.Outcome State Fault Refusal :=
  onCore (fun c => c.lockGained p.port p.sets p.still) s

/-- PORT_LOCK_LOST (R97): A QUALIFYING, UP or MISWIRED port loses a condition of DOWN and returns to DOWN. -/
def execPortLockLost (p : Fin 4) (cause : LinkLoss) (s : State) : Host.Outcome State Fault Refusal :=
  onCore (fun c => c.lockLost p cause) s

/-- LINK_QUAL_EXPIRY (R97): The conditions held for LINK_QUAL, so the port enters UP. -/
def execLinkQualExpiry (p : Fin 4) (s : State) : Host.Outcome State Fault Refusal :=
  onCore (fun c => c.linkQualExpiry p) s

/-- SPLICE_REQ_SEND (R99): A port in UP sends a SPLICE_REQ every 100 µs. -/
def execSpliceReqSend (p : Fin 4) (s : State) : Host.Outcome State Fault Refusal :=
  onCore (fun c => c.spliceReqSend p) s

/-- SPLICE_REQ_RX (R99): A port that receives a SPLICE_REQ answers it with a SPLICE_ACK. -/
def execSpliceReqRx (p : Fin 4) (f : Frame) (s : State) : Host.Outcome State Fault Refusal :=
  onCore (fun c => c.spliceReqRx p f) s

/-- SPLICE_ACK_RX (R99): A SPLICE_ACK to the port's own request completes the handshake, which it accepts into JOINED or
refuses into MISWIRED. -/
def execSpliceAckRx (p : Fin 4) (f : Frame) (s : State) : Host.Outcome State Fault Refusal :=
  onCore (fun c => c.spliceAckRx p f) s

/-- UNWRAP_HOLD_EXPIRY (R100): UNWRAP_HOLD ends for a port re-entering UP, which sends its first SPLICE_REQ. -/
def execUnwrapHoldExpiry (p : Fin 4) (s : State) : Host.Outcome State Fault Refusal :=
  onCore (fun c => c.unwrapHoldExpiry p) s

/-- UNWRAP_COMPLETE (R105): The wrapped side re-enters JOINED and the unwrap completes within 3 µs. -/
def execUnwrapComplete (p : Fin 4) (s : State) : Host.Outcome State Fault Refusal :=
  onCore (fun c => c.unwrapComplete p) s

/-- LINK_FAILURE_DETECT (R103): A JOINED port detects a link failure, starts WRAP_QUAL, sends remote fault and freezes
its output queue. -/
def execLinkFailureDetect (p : Fin 4) (cause : LinkLoss) (s : State) : Host.Outcome State Fault Refusal :=
  onCore (fun c => c.failureDetect p cause) s

/-- LINK_FAILURE_RECOVER (R103): Every condition of DOWN is restored before WRAP_QUAL ends, so the port stays JOINED as
a glitch. -/
def execLinkFailureRecover (p : Fin 4) (s : State) : Host.Outcome State Fault Refusal :=
  onCore (fun c => c.failureRecover p) s

/-- WRAP_QUAL_EXPIRY (R103): WRAP_QUAL ends with the failure standing, so the port enters DOWN and the node wraps on
that side. -/
def execWrapQualExpiry (p : Fin 4) (s : State) : Host.Outcome State Fault Refusal :=
  onCore (fun c => c.wrapQualExpiry p) s

/-- WRAP_COMPLETE (R104): The wrap completes, RING_WRAP is reported and a census with CAUSE 2 is originated. -/
def execWrapComplete (p : Fin 4) (s : State) : Host.Outcome State Fault Refusal :=
  onCore (fun c => c.wrapComplete p) s

/-- LINK_WAIT_EXPIRY (R106): Neither home port has joined by LINK_WAIT after BOOT, so the node becomes lone. -/
def execLinkWaitExpiry (s : State) : Host.Outcome State Fault Refusal :=
  onCore (fun c => c.linkWaitExpiry) s

/-- SFP_DIAG_POLL (R96): Every SFP_POLL the port reads module diagnostics, and Heather checks their limits. -/
def execSfpDiagPoll (p : Fin 4) (id : Option Bytes) (diag : Option Bytes) (s : State) :
    Host.Outcome State Fault Refusal :=
  onCore (fun c => c.sfpPoll p id diag) s

/-- CENSUS_COLLECT_RX (R117): A COLLECT batch is received and appended to, forwarded, or discarded as superseded. -/
def execCensusCollectRx (p : Fin 4) (f : Frame) (s : State) : Host.Outcome State Fault Refusal :=
  onCore (fun c => c.censusCollect p f) s

/-- CENSUS_CLOSE_RETURN (R118): The closing batch returns to the originator, which builds the table and sends the FINAL
batches. -/
def execCensusCloseReturn (p : Fin 4) (f : Frame) (s : State) : Host.Outcome State Fault Refusal :=
  onCore (fun c => c.censusClose p f) s

/-- CENSUS_FINAL_RX (R120): A FINAL batch is copied, and at the LAST batch the table is scheduled for APPLY_TICK or held
for a restart. -/
def execCensusFinalRx (p : Fin 4) (f : Frame) (s : State) : Host.Outcome State Fault Refusal :=
  onCore (fun c => c.censusFinal p f) s

/-- CENSUS_APPLY (R120): At APPLY_TICK the node applies the new table and its address, and frees tracker entries. -/
def execCensusApply (pair : Fin 2) (s : State) : Host.Outcome State Fault Refusal :=
  onCore (fun c => c.censusApply pair) s

/-- CENSUS_TIMEOUT (R121): The closing batch has not returned within CENSUS_TIMEOUT, so the originator restarts the
census with CAUSE 5. -/
def execCensusTimeout (pair : Fin 2) (s : State) : Host.Outcome State Fault Refusal :=
  onCore (fun c => c.censusTimeout pair) s

/-- CENSUS_FINAL_TIMEOUT (R121): A node that appended has no complete FINAL within 2 × CENSUS_TIMEOUT and originates a
census with CAUSE 5. -/
def execCensusFinalTimeout (pair : Fin 2) (s : State) : Host.Outcome State Fault Refusal :=
  onCore (fun c => c.censusFinalTimeout pair) s

end Sys2Proof.Machine
end

