-- ==== Sys2Proof/Machine/RunSerial.lean ====
section
/-! DEFINITION. The commands of the serial channels (chapter 08). -/

namespace Sys2Proof.Machine

/-- CHAR_RX (R280): A UART character completes and is added to the packet, with parity and stop errors flagged. -/
def execCharRx (n : Fin 128) (b : Byte) (ok : Bool) (silence : Nat) (s : State) : Host.Outcome State Fault Refusal :=
  onCore (fun c => c.charRx n b ok silence) s

/-- BREAK (R281): The line is held low beyond a character time, so the packet closes with BREAK and an event is written.
-/
def execChBreak (n : Fin 128) (s : State) : Host.Outcome State Fault Refusal :=
  onCore (fun c => c.chanBreak n) s

/-- IDLE_GAP_EXPIRY (R294): The line is idle for CH_GAP, which ends the packet and closes the record. -/
def execIdleGapExpiry (n : Fin 128) (s : State) : Host.Outcome State Fault Refusal :=
  onCore (fun c => c.idleGap n) s

/-- MODBUS_SILENCE_EXPIRY (R295): A silence of t3.5 ends a Modbus RTU packet and the CRC and length are checked. -/
def execModbusSilenceExpiry (n : Fin 128) (s : State) : Host.Outcome State Fault Refusal :=
  onCore (fun c => c.modbusSilence n) s

/-- FLUSH_AGE_EXPIRY (R301): The oldest byte is older than CH_FLUSH_AGE, so the banks swap. -/
def execFlushAgeExpiry (n : Fin 128) (s : State) : Host.Outcome State Fault Refusal :=
  onCore (fun c => c.flushAge n) s

/-- CH_PTR_MISMATCH (R303): The pointer copies of a direction differ, so it drops its records, clears and reports the
fault. -/
def execChPtrMismatch (n : Fin 128) (tx : Bool) (s : State) : Host.Outcome State Fault Refusal :=
  onCore (fun c => c.ptrMismatch n tx) s

/-- SCANNER_RX_VISIT (R309): The scanner visits a channel's receive side and hands its records to the item former or
trunk. -/
def execScannerRxVisit (n : Fin 128) (s : State) : Host.Outcome State Fault Refusal :=
  onCore (fun c => c.scannerRx n) s

/-- SCANNER_TX_VISIT (R311): The scanner moves staged items through the egress check into the transmit fill bank. -/
def execScannerTxVisit (n : Fin 128) (s : State) : Host.Outcome State Fault Refusal :=
  onCore (fun c => c.scannerTx n) s

/-- CH_TX_ITEM_ARRIVE (R310): An item for a channel enters transmit staging or is dropped. -/
def execChTxItemArrive (n : Fin 128) (f : Frame) (s : State) : Host.Outcome State Fault Refusal :=
  onCore (fun c => c.txArrive n f) s

/-- CH_TX_RECORD_START (R312): The transmitter starts a record once its conditions hold, raising DE first in RS485. -/
def execChTxRecordStart (n : Fin 128) (ballC : Bool) (s : State) : Host.Outcome State Fault Refusal :=
  onCore (fun c => c.txStart n ballC) s

/-- CH_TX_RECORD_END (R312): A record is sent whole, counted, and DE falls after the DE lag. -/
def execChTxRecordEnd (e : TxEnd) (s : State) : Host.Outcome State Fault Refusal :=
  onCore (fun c => c.txEnd e.chan e.held) s

/-- SPI_TRANSACTION_DONE (R286): An SPI transaction ends, chip select is released and the bytes shifted in form a
receive record. -/
def execSpiTransactionDone (n : Fin 128) (miso : Bytes) (s : State) : Host.Outcome State Fault Refusal :=
  onCore (fun c => c.spiDone n miso) s

/-- I2C_TRANSACTION_DONE (R291): A controller transaction ends and produces a receive record with its STATUS. -/
def execI2cTransactionDone (n : Fin 128) (status : Fin 5) (data : Bytes) (pec : Byte) (s : State) :
    Host.Outcome State Fault Refusal :=
  onCore (fun c => c.i2cDone n status data pec) s

/-- I2C_ARB_RETRY (R291): After arbitration loss and 50 µs of idle bus the controller retries the transaction. -/
def execI2cArbRetry (n : Fin 128) (s : State) : Host.Outcome State Fault Refusal :=
  onCore (fun c => c.arbRetry n) s

/-- I2C_TARGET_WRITE (R292): A controller write to the own address closes at STOP or repeated START as a receive record.
-/
def execI2cTargetWrite (n : Fin 128) (data : TargetData) (s : State) : Host.Outcome State Fault Refusal :=
  onCore (fun c => c.targetWrite n data) s

/-- I2C_TARGET_READ (R292): A controller read is served from the head transmit record, or 0xFF on underrun. -/
def execI2cTargetRead (n : Fin 128) (count : Fin 512) (s : State) : Host.Outcome State Fault Refusal :=
  onCore (fun c => c.targetRead n count) s

/-- BUS_STUCK (R293): SDA is held low past the timeout, so the controller clocks SCL 9 times and marks the bus stuck if
it stays low. -/
def execBusStuck (n : Fin 128) (low : HeldLow) (s : State) : Host.Outcome State Fault Refusal :=
  onCore (fun c => c.busStuck n low.ns low.still) s

/-- BUS_STUCK_RETRY (R293): Every 100 ms a stuck bus is tried again until SDA is released. -/
def execBusStuckRetry (n : Fin 128) (low : Bool) (s : State) : Host.Outcome State Fault Refusal :=
  onCore (fun c => c.busRetry n low) s

/-- SMBALERT (R293): A falling edge of SMBALERT_N writes an SMBALERT event. -/
def execSmbalert (n : Fin 128) (s : State) : Host.Outcome State Fault Refusal :=
  onCore (fun c => c.smbAlert n) s

/-- CH_RX_POP (R313): A read of RX_POP returns and consumes the next bytes of the receive drain bank. -/
def execChRxPop (n : Fin 128) (size : Fin 9) (s : State) : Host.Outcome State Fault Refusal :=
  onCore (fun c => c.chRxPop n size) s

/-- RX_RELEASE (R314): A write to RX_RELEASE releases whole records from the drain bank. -/
def execRxRelease (n : Fin 128) (count : Fin 65536) (s : State) : Host.Outcome State Fault Refusal :=
  onCore (fun c => c.chRxRelease n count) s

/-- TX_WRITE (R313): A write burst to TX_WRITE forms one transmit item. -/
def execTxWrite (n : Fin 128) (bs : Bytes) (s : State) : Host.Outcome State Fault Refusal :=
  onCore (fun c => c.chTxWrite n bs) s

/-- RX_SILENT (R316): No good record closes for CH_SILENCE ms, so an RX_SILENT event is written. -/
def execRxSilent (n : Fin 128) (s : State) : Host.Outcome State Fault Refusal :=
  onCore (fun c => c.rxSilent n) s

end Sys2Proof.Machine
end

