-- ==== Sys2Proof/Machine/Install.lean ====
section
/-! DEFINITION. What installs a snapshot and applies journal records at the standby, and what decides between a contest and a
lost peer (R503, R514, R518, R519, R521, R524, R527). -/

namespace Sys2Proof.Machine

/-! Installing (R523, R524). -/

/-- The entry of the schedule table in 16 bytes; an unused one is zero (R523). -/
def schedOfImage (b : Bytes) : Option SchedEntry := if b.all (fun x => x == 0) then none else some (schedEntryOf b)

/-- Rule r of an image: RULE_STATE, the run count, the stale flag. -/
def Core.ruleOfImage (c : Core) (img : Bytes) (r : Nat) : Core :=
  let x : Rule := { c.rule r with st := fieldAt img (8 * r) 1 % 8, run := fieldAt img (8 * r + 1) 3,
                                  stale := fieldAt img (8 * r + 4) 1 != 0, reset := false }
  if x = c.rule r then c else c.setRule r x

/-- R523, R524: an image is written into the rule unit, the schedule table and the command registers. -/
def Core.writeImage (c : Core) (img : Bytes) : Core :=
  let c := (List.range 1024).foldl (fun (c : Core) r => c.ruleOfImage img r) c
  let c := c.writeHolds.setSched ((List.range 256).filterMap (fun i => schedOfImage (slice img (0x2000 + 16 * i) 16)))
  let c := (List.range 32).foldl (fun (c : Core) b => c.setReg (Reg.DISC_OUT b) (fieldAt img (0x3000 + b) 1)) c
  (List.range 16).foldl (fun (c : Core) n => c.setReg (Reg.RAIL_CMD n) (fieldAt img (0x3020 + n) 1 % 2)) c

/-- R524: a frame is entered in the duplicate tracker, so that a later ring copy is discarded. -/
def Core.enterTrack (c : Core) (f : Frame) : Core :=
  let (new, d) := c.dedup f
  if new then d else c

/-- R524: a journalled request is executed as the holder did, whatever sessions stand now; it is answered to no one. -/
def Core.journalReq (m : Memory) (c : Core) (f : Frame) : Memory × Core :=
  let was := c.dict.answer
  let (m, c) := Core.runReq m c { f := f, lvl := some 3 }
  (m, { c with dict := { c.dict with answer := was } })

/-- R524: a journal record is applied straight to its consumer. -/
def Core.journalAct (m : Memory) (c : Core) (r : JournalRec) : Memory × Core :=
  let f := r.frame
  let c := c.enterTrack f
  if f.kind = 4 then Core.journalReq m c f
  else
    let e := outEntry r.inst f
    (m, if bit (c.cfg Reg.SCHED_BANKS) r.inst then c.enterSched e
      else c.update { at_ := c.now, rank := 1, bank := r.inst, mask := e.mask, value := e.value })

/-- R524: installs the last committed snapshot, and then the journal in JSEQ order. -/
def Core.installPair (m : Memory) (c : Core) : Memory × Core :=
  let c := match c.twin.comm with
    | some p => c.writeImage p.image
    | none => c
  let js := c.twin.journal
  let (m, c) := js.foldl (fun (x : Memory × Core) r => Core.journalAct x.1 x.2 r) (m, c)
  (m, c.setJournal [])

/-! The standby in a planned switchover (R513, R514). -/

/-- The standby refuses an offer: it is not ready, in safe state or degraded, or the units' settings differ (R513, R528). -/
def Core.offerBarred (c : Core) : Bool :=
  c.reg Reg.TW_READY != 1 || c.fc.safe || bit (c.reg Reg.PWR_STATE) 1 || bit (c.reg Reg.TW_PATHS) 5
    || bit (c.reg Reg.TW_PATHS) 6

/-- OFFER: the standby installs, applies journal records from now on, and answers with T, the first tick whose strobe falls at
least 20 µs later; or refuses (R514). -/
def Core.offerRx (m : Memory) (c : Core) (seq ack : Nat) (h : TwHead) (cause : Nat) : Memory × Core :=
  let (ok, c) := c.twRx 0 seq ack h (.switch 1 h.tick 0 cause)
  if !ok || !c.standby then (m, c)
  else if c.offerBarred then (m, c.twSend 0 (.switch 4 c.tick 0 0))
  else
    let (m, c) := Core.installPair m c
    let t := ((c.sysNs + 20000 + c.period - 1) / c.period) % tickMod
    (m, ({ c with twin := { c.twin with cause := cause, applying := true, strobeT := some t } }).twSend 0 (.switch 2 t 0 0))

/-! The journal (R512, R527). -/

/-- A journal record is kept in JSEQ order; one that finds the journal full is counted, and the standby is not ready. -/
def Core.keepJournal (c : Core) (r : JournalRec) : Core :=
  let known : Bool := match c.twin.comm with
    | some p => !jseqAhead r.jseq p.j
    | none => false
  let js := insertBy (fun (a b : JournalRec) => jseqAhead b.jseq a.jseq) r c.twin.journal
  if known then c
  else if journalBytes js ≤ 65536 then c.setJournal js
  else (({ c with twin := { c.twin with gap := true } }).inc Reg.CNT_JOURNAL_OVF).readyRefresh

/-- JOURNAL: kept until the standby installs, and applied as it arrives from then on (R514, R527). -/
def Core.journalRx (m : Memory) (c : Core) (l seq ack : Nat) (h : TwHead) (r : JournalRec) : Memory × Core :=
  let (ok, c) := c.twRx l seq ack h (.journal r.jseq r.inst r.frame)
  if !ok || !c.standby then (m, c)
  else
    let c := c.jseqIn r.jseq
    if c.twin.applying then Core.journalAct m c r else (m, c.keepJournal r)

/-! A silent peer (R503, R518 to R521). -/

/-- R521: the standby takes over. -/
def Core.takeOverPair (m : Memory) (c : Core) : Memory × Core :=
  let ready := c.flag Reg.TW_READY
  let c := match c.twin.agreed with
    | some i => c.loadImage i
    | none => c
  let (m, c) := Core.installPair m c.dropShadow
  let held := c.twin.hold
  let c := { c with twin := { c.twin with hold := [], held := [], awaiting := [], quiet := false, releaseEnd := none,
                                          comm := none, applying := false } }
  let c := held.foldl (fun (c : Core) h => c.originate 12 h.frame) c
  let c := if ready then c else c.twEvent 9 3 ((c.twin.low + 1) % 2 ^ 32)
  let c := (c.inc Reg.CNT_TAKEOVER).twActive 6 true 10
  (m, ({ c with twin := { c.twin with driveAt := some (c.now + 10) } }).peerGone)

/-- R521: the holder keeps the token and runs alone. -/
def Core.holderAlone (c : Core) : Core :=
  (({ c with disc := { c.disc with frozen := false }, twin := { c.twin with awaiting := [], thaw := false } }).twActive 6 c.disc.mute 11).peerGone

/-- R521: the peer is lost. -/
def Core.peerLost (m : Memory) (c : Core) : Memory × Core :=
  if c.flag Reg.TW_TOKEN then (m, c.holderAlone) else Core.takeOverPair m c

/-- WITNESS_SETTLE_END: the witness tells a cut pair from a lost peer (R503). -/
def Core.settleOver (m : Memory) (c : Core) : Memory × Core :=
  match c.twin.settleEnd with
  | none => (m, c)
  | some t =>
    if !c.twOn then (m, c)
    else
      let c := c.advanceTo t
      let healthy := c.witnessOk && !c.twin.witnessBad
      let c := { c with twin := { c.twin with settleEnd := none } }
      if healthy then (m, c.contest) else Core.peerLost m c

/-- CONTEST_HOLD_END: rank 0 takes or keeps the token; rank 1 releases, or treats the peer as lost and so holds the token (R519). -/
def Core.contestHoldOver (m : Memory) (c : Core) : Memory × Core :=
  match c.twin.holdEnd with
  | none => (m, c)
  | some t =>
    if !c.twOn then (m, c)
    else
      let c := (c.advanceTo t).contestOver
      if c.twin.rank = 0 then (m, c.contestKeep)
      else if c.witnessOk then (m, c.contestYield)
      else Core.peerLost m (c.twEvent 4 2 1)

end Sys2Proof.Machine
end

