-- ==== Sys2Proof/Machine/Strobe.lean ====
section
/-! DEFINITION. The tick strobe (R29 to R33): what every subsystem does at the boundary of a tick. -/

namespace Sys2Proof.Machine

/-- R30: a tick unit without an arm record numbers its captures by its previous tick plus 1, and reports. -/
def Core.tagStrobe (c : Core) (n : Nat) : Core :=
  let armed : Bool := c.time.armed == some (n % tickMod)
  let tag := if armed then n else match c.time.tag with
    | some t => t + 1
    | none => n
  let c := { c with time := { c.time with lastTick := some n, tag := some tag, armed := none } }
  if armed then c else ([0, 1, 2, 3, 4] : List Nat).foldl (fun (c : Core) i => c.report Src.TICK_ARM_LATE i 0) c

/-- R569: a fault record that arose before the first strobe takes its tick. -/
def FaultRec.first (t : Nat) (r : FaultRec) : FaultRec :=
  { r with onset := t, clear := if r.clear = tickUnknown then r.clear else t }

/-- R262, R569: the records that arose before the first strobe join its tick. -/
def Core.firstStrobe (c : Core) (t : Nat) : Core :=
  { c with ev := { c.ev with early := [], opened := c.ev.opened ++ c.ev.early.map (fun (r : EvRec) => { r with tick := t }) }
           fc := { c.fc with arrivals := c.fc.arrivals.map (FaultRec.first t)
                             active := c.fc.active.map (fun (a : Active) => { a with onset := t }) } }

/-- R262, R569: tick t opens; its close comes EVENT_CLOSE after this strobe. The limits of one report or event per tick start
afresh. -/
def Core.openTick (c : Core) (t : Nat) : Core :=
  let e : Nat × Nat := (t, c.now + 1000 * c.reg Reg.EVENT_CLOSE)
  { c with ev := { c.ev with waiting := c.ev.waiting ++ [e], limited := [] }
           fc := { c.fc with waiting := c.fc.waiting ++ [e], limited := [] } }

/-- R271, R272: the entries due at strobe t, or left behind by a step, enter the output update registers. -/
def Core.dueSched (c : Core) (t : Nat) : Core :=
  let (rest, due) := c.sched.table.partition (fun e => tickAhead e.target t)
  due.foldl (fun (c : Core) e => c.loadSched e (c.now - 400)) (c.setSched rest)

/-- R342, R362, R372: the frame counter latch and the pin engines at strobe t. -/
def Core.fieldStrobe (c : Core) (t : Nat) : Core :=
  let c := c.latchCounter t
  (List.range 64).foldl (fun (c : Core) n => (c.engTick n t).engSafeStrobe n) c

/-- The inputs and outputs of the block at strobe t, in the order of R29 and R33: what was asked takes effect, the inputs are
captured as the pins stood, the outputs change, and rails and fault inputs follow. -/
def Core.strobeAt (t : Nat) (dio : BitVec 256) (fiP fiN : BitVec 128) (c : Core) : Core :=
  let c := ((c.modeStrobe.safeExit.dueSched t).rwtStrobe false).twStrobe t
  let c := (c.discCapture dio.toNat).discOutputs []
  let c := (c.twImages t).fieldStrobe c.tick
  (c.faultStrobe fiP fiN).railsStrobe.activateDue

/-- TICK_STROBE: the strobe of the next tick (R29, R250). `dio` holds the levels at the discrete balls, `fiP` and `fiN` those at
the fault input pairs. -/
def Core.tickStrobe (dio : BitVec 256) (fiP fiN : BitVec 128) (m : Memory) (c : Core) : Memory × Core :=
  if !c.up then (m, c)
  else
    let n := c.nextTick
    let t := n % tickMod
    let first := c.time.lastTick.isNone
    let c := (c.advanceSys (n * c.period)).tagStrobe n
    let c := (if first then c.firstStrobe t else c).openTick t
    let (m, c) := Core.releaseIsolations m c
    (m, c.strobeAt t dio fiP fiN)

end Sys2Proof.Machine
end

