-- ==== Sys2Proof/Machine/RunStrobe.lean ====
section
/-! DEFINITION. The tick strobe and the commands that depend on every unit. -/

namespace Sys2Proof.Machine

/-- TICK_STROBE (R29): The tick strobe captures every input, changes the outputs and advances each tick unit. -/
def execTickStrobe (dio : BitVec 256) (fiP : BitVec 128) (fiN : BitVec 128) (s : State) :
    Host.Outcome State Fault Refusal :=
  onMem (fun m c => Core.tickStrobe dio fiP fiN m c) s

end Sys2Proof.Machine
end

