-- ==== Sys2Proof/Machine/RunSwitch.lean ====
section
/-! DEFINITION. The commands of the switch core (chapter 05). -/

namespace Sys2Proof.Machine

/-- SWITCH_SLOT_SCHEDULE (R176): Each cell slot the scheduler runs three request-grant-accept iterations and moves
matched cells. -/
def execSwitchSlotSchedule (s : State) : Host.Outcome State Fault Refusal :=
  onCore (fun c => c.switchSlot) s

/-- FRAME_ADMISSION (R184): A frame's first cell seeks admission at each output and class, and is admitted, dropped or
held. -/
def execFrameAdmission (s : State) : Host.Outcome State Fault Refusal :=
  onMem (fun m c => Core.admitRow m c.frameAdmission) s

/-- HELD_FRAME_ADMIT (R186): Room appears for a held local frame, which is admitted. -/
def execHeldFrameAdmit (s : State) : Host.Outcome State Fault Refusal :=
  onMem (fun m c => Core.admitRow m c.heldAdmit) s

/-- LOCAL_WAIT_EXPIRY (R186): A held local frame finds no room within LOCAL_WAIT and is dropped. -/
def execLocalWaitExpiry (s : State) : Host.Outcome State Fault Refusal :=
  onMem (fun m c => Core.admitRow m c.localWaitExpiry) s

/-- FAIR_WINDOW_END (R194): At each 1 ms boundary the active-source counts become A_p,c and K is recomputed. -/
def execFairWindowEnd (s : State) : Host.Outcome State Fault Refusal :=
  onCore (fun c => c.fairWindowEnd) s

/-- BUF_ACCOUNT_CHECK (R192): At each 1 ms boundary the buffer manager checks the cell accounting and reports any
mismatch. -/
def execBufAccountCheck (s : State) : Host.Outcome State Fault Refusal :=
  onCore (fun c => c.accountCheck) s

end Sys2Proof.Machine
end

