-- ==== Sys2Proof/Machine/RunTrunk.lean ====
section
/-! DEFINITION. The commands of the serial trunks (chapter 03). -/

namespace Sys2Proof.Machine

/-- TRUNK_FRAME_ENQUEUE (R131): A frame routed to a trunk is class-checked, check-verified and queued in its class part,
or dropped. -/
def execTrunkFrameEnqueue (t : Fin 8) (f : Frame) (s : State) : Host.Outcome State Fault Refusal :=
  onCore (fun c => c.trunkEnqueue t f) s

/-- TRUNK_SLOT (R132): A trunk slot begins and the trunk sends at most one block of that slot's plane, with age
discards. -/
def execTrunkSlot (t : Fin 8) (s : State) : Host.Outcome State Fault Refusal :=
  onCore (fun c => c.trunkSlot t) s

/-- TRUNK_BLOCK_RX (R127): A trunk block is received, FCS-checked, acknowledged and joined into its frame. -/
def execTrunkBlockRx (t : Fin 8) (chars : Bytes) (s : State) : Host.Outcome State Fault Refusal :=
  onCore (fun c => c.trunkRx t chars) s

/-- TRUNK_RTO_EXPIRY (R129): An unacknowledged block reaches TRUNK_RTO and the plane resends by go-back-N, or discards
the frame and resets the link. -/
def execTrunkRtoExpiry (t : Fin 8) (plane : Fin 2) (s : State) : Host.Outcome State Fault Refusal :=
  onCore (fun c => c.trunkRto t plane) s

/-- TRUNK_KEEPALIVE (R130): A plane idle for TRUNK_KEEPALIVE sends an acknowledgement-only block, or a down trunk sends
a link reset. -/
def execTrunkKeepalive (t : Fin 8) (plane : Fin 2) (s : State) : Host.Outcome State Fault Refusal :=
  onCore (fun c => c.trunkKeepalive t plane) s

/-- TRUNK_DEAD_EXPIRY (R130): No good block arrives within TRUNK_DEAD, so the trunk enters DOWN and reports TRUNK_DOWN.
-/
def execTrunkDeadExpiry (t : Fin 8) (s : State) : Host.Outcome State Fault Refusal :=
  onCore (fun c => c.trunkDead t) s

end Sys2Proof.Machine
end

