-- ==== Sys2Proof/Machine/RunTwin.lean ====
section
/-! DEFINITION. The commands of the twin pair (chapter 15). -/

namespace Sys2Proof.Machine

/-- HEARTBEAT_TOGGLE (R501): Every HB_PERIOD / 2 the unit inverts its heartbeat outputs. -/
def execHeartbeatToggle (s : State) : Host.Outcome State Fault Refusal :=
  onCore (fun c => c.heartbeat) s

/-- STATUS_SEND (R501): Every HB_PERIOD the unit sends STATUS on the twin link. -/
def execStatusSend (s : State) : Host.Outcome State Fault Refusal :=
  onCore (fun c => c.statusSend) s

/-- HEARTBEAT_SIGN (R502): A heartbeat sign arrives on the wires and renews the silence timer. -/
def execHeartbeatSign (s : State) : Host.Outcome State Fault Refusal :=
  onCore (fun c => c.heartbeatSign) s

/-- HB_WIRE_BROKEN (R502): The heartbeat inputs stay equal for more than 2 µs and the wires are marked broken. -/
def execHbWireBroken (s : State) : Host.Outcome State Fault Refusal :=
  onCore (fun c => c.wireBroken) s

/-- TW_LINK_RETX (R499): A twin link record unacknowledged for 10 µs is resent by go-back-N in its lane. -/
def execTwLinkRetx (l : Fin 4) (s : State) : Host.Outcome State Fault Refusal :=
  onCore (fun c => c.linkRetx l) s

/-- TW_LINK_DOWN (R500): No good record arrives within 2 × HB_PERIOD and the link stops being live. -/
def execTwLinkDown (s : State) : Host.Outcome State Fault Refusal :=
  onCore (fun c => c.linkDown) s

/-- TW_STATUS (R504): A STATUS record is a sign and updates peer period, configuration digest and the pair state. -/
def execTwStatus (seq : Fin 65536) (ack : Fin 65536) (h : TwHead) (r : TwStatus) (s : State) :
    Host.Outcome State Fault Refusal :=
  onCore (fun c => c.twStatus seq ack h r) s

/-- TW_IMAGE (R516): An IMAGE record is compared with the own image, and a difference aborts the switchover. -/
def execTwImage (seq : Fin 65536) (ack : Fin 65536) (h : TwHead) (img : OutImage) (s : State) :
    Host.Outcome State Fault Refusal :=
  onCore (fun c => c.imageRx seq ack h img) s

/-- ACCEPT (R514): The holder receives ACCEPT and stops starting new records from strobe T. -/
def execTwAccept (seq : Fin 65536) (ack : Fin 65536) (h : TwHead) (t : Nat) (s : State) :
    Host.Outcome State Fault Refusal :=
  onCore (fun c => c.acceptRx seq ack h t) s

/-- RELEASED (R515): The standby receives RELEASED for an instance and drives it from then. -/
def execTwReleased (seq : Fin 65536) (ack : Fin 65536) (h : TwHead) (t : Nat) (kind : Fin 4) (inst : Fin 128) (s : State) :
    Host.Outcome State Fault Refusal :=
  onCore (fun c => c.releasedRx seq ack h t kind inst) s

/-- TW_ABORT (R516): An ABORT record abandons the switchover, with the standby releasing its outputs. -/
def execTwAbort (seq : Fin 65536) (ack : Fin 65536) (h : TwHead) (s : State) : Host.Outcome State Fault Refusal :=
  onCore (fun c => c.abortRx seq ack h) s

/-- GRANT (R509): A GRANT sets the standby's counts and matches an item in the pairing hold. -/
def execTwGrant (l : Fin 3) (seq : Fin 65536) (ack : Fin 65536) (h : TwHead) (g : TwGrant) (s : State) :
    Host.Outcome State Fault Refusal :=
  onMem (fun m c => Core.grantRx m c (l + 1) seq ack h g) s

/-- NUMBER (R510): A NUMBER request or answer numbers a single frame of the standby. -/
def execTwNumber (l : Fin 3) (seq : Fin 65536) (ack : Fin 65536) (h : TwHead) (answer : Bool) (id : Nat) (cls : Fin 8) (stream : Fin 65536) (num : Fin 65536) (s : State) :
    Host.Outcome State Fault Refusal :=
  onCore (fun c => c.numberRx (l + 1) seq ack h answer id cls stream num) s

/-- SENT (R527): A SENT record makes the standby drop its copy of a completed item. -/
def execTwSent (l : Fin 3) (seq : Fin 65536) (ack : Fin 65536) (h : TwHead) (j : Nat) (kind : Fin 5) (inst : Fin 128) (stream : Fin 65536) (num : Fin 65536) (s : State) :
    Host.Outcome State Fault Refusal :=
  onCore (fun c => c.sentRx (l + 1) seq ack h j kind inst stream num) s

/-- MARK (R525): A MARK record starts a pending snapshot epoch at the standby. -/
def execTwMark (seq : Fin 65536) (ack : Fin 65536) (h : TwHead) (e : Nat) (t : Nat) (j : Nat) (s : State) :
    Host.Outcome State Fault Refusal :=
  onCore (fun c => c.markRx seq ack h e t j) s

/-- CHUNK (R526): A snapshot CHUNK is written into the pending shadow. -/
def execTwChunk (seq : Fin 65536) (ack : Fin 65536) (h : TwHead) (e : Nat) (k : Nat) (data : Bytes) (s : State) :
    Host.Outcome State Fault Refusal :=
  onCore (fun c => c.chunkRx seq ack h e k data) s

/-- COMMIT (R526): A COMMIT makes the pending shadow committed, or discards it on a failed check. -/
def execTwCommit (seq : Fin 65536) (ack : Fin 65536) (h : TwHead) (e : Nat) (n : Nat) (crc : Nat) (s : State) :
    Host.Outcome State Fault Refusal :=
  onCore (fun c => c.commitRx seq ack h e n crc) s

/-- PAIR_WAIT_EXPIRY (R510): A held item finds no GRANT within PAIR_WAIT while the link is live and is discarded. -/
def execPairWaitExpiry (s : State) : Host.Outcome State Fault Refusal :=
  onMem (fun m c => Core.pairWait m c) s

/-- PEER_SILENCE (R503): No sign arrives for 2 × HB_PERIOD, so the unit starts the witness settle. -/
def execPeerSilence (s : State) : Host.Outcome State Fault Refusal :=
  onCore (fun c => c.peerSilence) s

/-- JOIN_WAIT_EXPIRY (R511): JOIN_WAIT ends and the forming unit takes or leaves the token. -/
def execJoinWaitExpiry (s : State) : Host.Outcome State Fault Refusal :=
  onCore (fun c => c.joinWait) s

/-- SNAPSHOT_START (R525): Every SNAP_PERIOD the holder starts a snapshot epoch with MARK. -/
def execSnapshotStart (s : State) : Host.Outcome State Fault Refusal :=
  onCore (fun c => c.snapshotStart) s

/-- SNAPSHOT_SENT (R525): The holder has sent every CHUNK and the COMMIT, and sends OFFER when a switchover waits. -/
def execSnapshotSent (s : State) : Host.Outcome State Fault Refusal :=
  onCore (fun c => c.snapshotSent) s

/-- SWITCH_STROBE_T (R514): At strobe T both units drive discrete lines and rails and send IMAGE. -/
def execSwitchStrobeT (s : State) : Host.Outcome State Fault Refusal :=
  onCore (fun c => c.switchStrobe) s

/-- TOKEN_PASS (R514): At strobe T + 2 the holder releases its lines and rails and the token passes. -/
def execTokenPass (s : State) : Host.Outcome State Fault Refusal :=
  onCore (fun c => c.tokenPass) s

/-- INSTANCE_RELEASE (R515): The record, frame or pass under way ends and the holder releases that instance. -/
def execInstanceRelease (kind : Fin 3) (n : Fin 128) (s : State) : Host.Outcome State Fault Refusal :=
  onCore (fun c => c.instanceRelease (kind + 1) n) s

/-- INSTANCE_RELEASE_TIMEOUT (R515): 2 s after strobe T any instance still held is released with its record cut. -/
def execInstanceReleaseTimeout (s : State) : Host.Outcome State Fault Refusal :=
  onCore (fun c => c.releaseTimeout) s

/-- SAFE_TOKEN_RELEASE (R517): At the first strobe 20 µs after its safe entry the holder releases its outputs to the
standby. -/
def execSafeTokenRelease (s : State) : Host.Outcome State Fault Refusal :=
  onCore (fun c => c.safeRelease) s

/-- OFFER (R514): The standby receives OFFER, installs the snapshot and journal and sends ACCEPT naming T. -/
def execTwOffer (seq : Fin 65536) (ack : Fin 65536) (h : TwHead) (cause : Fin 8) (s : State) :
    Host.Outcome State Fault Refusal :=
  onMem (fun m c => Core.offerRx m c seq ack h cause) s

/-- JOURNAL (R527): A JOURNAL record is kept by the standby, or discarded when the journal is full. -/
def execTwJournal (l : Fin 3) (seq : Fin 65536) (ack : Fin 65536) (h : TwHead) (r : JournalRec) (s : State) :
    Host.Outcome State Fault Refusal :=
  onMem (fun m c => Core.journalRx m c (l + 1) seq ack h r) s

/-- WITNESS_SETTLE_END (R503): After 30 µs the witness decides between a contest and a lost peer. -/
def execWitnessSettleEnd (s : State) : Host.Outcome State Fault Refusal :=
  onMem (fun m c => Core.settleOver m c) s

/-- CONTEST_HOLD_END (R519): At CONTEST_HOLD rank 0 takes the token and rank 1 releases or treats the peer as lost. -/
def execContestHoldEnd (s : State) : Host.Outcome State Fault Refusal :=
  onMem (fun m c => Core.contestHoldOver m c) s

end Sys2Proof.Machine
end

