-- ==== Sys2Proof/Machine/Dispatch.lean ====
section
/-! DEFINITION. What each command does: one arm per constructor of Instr, each one call of its meaning. -/

namespace Sys2Proof.Machine

def exec (i : Instr) (s : State) : Host.Outcome State Fault Refusal :=
  match i with
  | .registerWrite lvl obj mb data => Sys2Proof.Machine.execRegisterWrite lvl obj mb data s
  | .dictReqEnqueue f => Sys2Proof.Machine.execDictReqEnqueue f s
  | .dictRead => Sys2Proof.Machine.execDictRead s
  | .dictWrite => Sys2Proof.Machine.execDictWrite s
  | .dictDescribe => Sys2Proof.Machine.execDictDescribe s
  | .dictOpen => Sys2Proof.Machine.execDictOpen s
  | .dictClose => Sys2Proof.Machine.execDictClose s
  | .segRead => Sys2Proof.Machine.execSegRead s
  | .segWrite => Sys2Proof.Machine.execSegWrite s
  | .segAbort => Sys2Proof.Machine.execSegAbort s
  | .rwtEffect => Sys2Proof.Machine.execRwtEffect s
  | .sessionIdleClose => Sys2Proof.Machine.execSessionIdleClose s
  | .lockoutEnd => Sys2Proof.Machine.execLockoutEnd s
  | .segTimeoutAbandon => Sys2Proof.Machine.execSegTimeoutAbandon s
  | .tickArmPoint => Sys2Proof.Machine.execTickArmPoint s
  | .tickStrobe dio fiP fiN => Sys2Proof.Machine.execTickStrobe dio fiP fiN s
  | .postRegisterTake res => Sys2Proof.Machine.execPostRegisterTake res s
  | .portModulePresent p id => Sys2Proof.Machine.execPortModulePresent p id s
  | .portModuleAbsent p => Sys2Proof.Machine.execPortModuleAbsent p s
  | .portLockGained p => Sys2Proof.Machine.execPortLockGained p s
  | .portLockLost p cause => Sys2Proof.Machine.execPortLockLost p cause s
  | .linkQualExpiry p => Sys2Proof.Machine.execLinkQualExpiry p s
  | .spliceReqSend p => Sys2Proof.Machine.execSpliceReqSend p s
  | .spliceReqRx p f => Sys2Proof.Machine.execSpliceReqRx p f s
  | .spliceAckRx p f => Sys2Proof.Machine.execSpliceAckRx p f s
  | .unwrapHoldExpiry p => Sys2Proof.Machine.execUnwrapHoldExpiry p s
  | .unwrapComplete p => Sys2Proof.Machine.execUnwrapComplete p s
  | .linkFailureDetect p cause => Sys2Proof.Machine.execLinkFailureDetect p cause s
  | .linkFailureRecover p => Sys2Proof.Machine.execLinkFailureRecover p s
  | .wrapQualExpiry p => Sys2Proof.Machine.execWrapQualExpiry p s
  | .wrapComplete p => Sys2Proof.Machine.execWrapComplete p s
  | .linkWaitExpiry => Sys2Proof.Machine.execLinkWaitExpiry s
  | .sfpDiagPoll p id diag => Sys2Proof.Machine.execSfpDiagPoll p id diag s
  | .censusStart lvl => Sys2Proof.Machine.execCensusStart lvl s
  | .censusCollectRx p f => Sys2Proof.Machine.execCensusCollectRx p f s
  | .censusCloseReturn p f => Sys2Proof.Machine.execCensusCloseReturn p f s
  | .censusFinalRx p f => Sys2Proof.Machine.execCensusFinalRx p f s
  | .censusApply pair => Sys2Proof.Machine.execCensusApply pair s
  | .censusTimeout pair => Sys2Proof.Machine.execCensusTimeout pair s
  | .censusFinalTimeout pair => Sys2Proof.Machine.execCensusFinalTimeout pair s
  | .trunkFrameEnqueue t f => Sys2Proof.Machine.execTrunkFrameEnqueue t f s
  | .trunkSlot t => Sys2Proof.Machine.execTrunkSlot t s
  | .trunkBlockRx t chars => Sys2Proof.Machine.execTrunkBlockRx t chars s
  | .trunkRtoExpiry t plane => Sys2Proof.Machine.execTrunkRtoExpiry t plane s
  | .trunkKeepalive t plane => Sys2Proof.Machine.execTrunkKeepalive t plane s
  | .trunkDeadExpiry t => Sys2Proof.Machine.execTrunkDeadExpiry t s
  | .frameRxHeader p f => Sys2Proof.Machine.execFrameRxHeader p f s
  | .frameRxEnd p f e => Sys2Proof.Machine.execFrameRxEnd p f e s
  | .cutThroughUnderrun o => Sys2Proof.Machine.execCutThroughUnderrun o s
  | .frameOriginate sp f => Sys2Proof.Machine.execFrameOriginate sp f s
  | .trackAgeExpiry => Sys2Proof.Machine.execTrackAgeExpiry s
  | .linkHoldExpiry p => Sys2Proof.Machine.execLinkHoldExpiry p s
  | .holdResume p => Sys2Proof.Machine.execHoldResume p s
  | .switchSlotSchedule => Sys2Proof.Machine.execSwitchSlotSchedule s
  | .frameAdmission => Sys2Proof.Machine.execFrameAdmission s
  | .heldFrameAdmit => Sys2Proof.Machine.execHeldFrameAdmit s
  | .localWaitExpiry => Sys2Proof.Machine.execLocalWaitExpiry s
  | .fairWindowEnd => Sys2Proof.Machine.execFairWindowEnd s
  | .bufAccountCheck => Sys2Proof.Machine.execBufAccountCheck s
  | .bufLimitWrite lvl out cls v => Sys2Proof.Machine.execBufLimitWrite lvl out cls v s
  | .injArm lvl => Sys2Proof.Machine.execInjArm lvl s
  | .injCancel lvl => Sys2Proof.Machine.execInjCancel lvl s
  | .timeSyncSend => Sys2Proof.Machine.execTimeSyncSend s
  | .timeSyncRx p f e residence => Sys2Proof.Machine.execTimeSyncRx p f e residence s
  | .syncLossExpiry => Sys2Proof.Machine.execSyncLossExpiry s
  | .timeSet lvl v => Sys2Proof.Machine.execTimeSet lvl v s
  | .peerDelaySend p => Sys2Proof.Machine.execPeerDelaySend p s
  | .peerDelayReqRx p f turnaround => Sys2Proof.Machine.execPeerDelayReqRx p f turnaround s
  | .peerDelayRspRx p f => Sys2Proof.Machine.execPeerDelayRspRx p f s
  | .peerDelayTimeout p => Sys2Proof.Machine.execPeerDelayTimeout p s
  | .ppsEdge => Sys2Proof.Machine.execPpsEdge s
  | .ppsLossTimeout => Sys2Proof.Machine.execPpsLossTimeout s
  | .ppsOutRise => Sys2Proof.Machine.execPpsOutRise s
  | .ppsOutFall => Sys2Proof.Machine.execPpsOutFall s
  | .tickPeriodChange => Sys2Proof.Machine.execTickPeriodChange s
  | .eventRecordArrive source kind sev tick flags value => Sys2Proof.Machine.execEventRecordArrive source kind sev tick flags value s
  | .eventCloseExpiry => Sys2Proof.Machine.execEventCloseExpiry s
  | .evqMoveComplete => Sys2Proof.Machine.execEvqMoveComplete s
  | .evqRdWrite lvl v => Sys2Proof.Machine.execEvqRdWrite lvl v s
  | .schedItemRx b f => Sys2Proof.Machine.execSchedItemRx b f s
  | .schedPost lvl data => Sys2Proof.Machine.execSchedPost lvl data s
  | .schedCancel lvl => Sys2Proof.Machine.execSchedCancel lvl s
  | .charRx n b ok silence => Sys2Proof.Machine.execCharRx n b ok silence s
  | .chBreak n => Sys2Proof.Machine.execChBreak n s
  | .idleGapExpiry n => Sys2Proof.Machine.execIdleGapExpiry n s
  | .modbusSilenceExpiry n => Sys2Proof.Machine.execModbusSilenceExpiry n s
  | .flushAgeExpiry n => Sys2Proof.Machine.execFlushAgeExpiry n s
  | .chPtrMismatch n tx => Sys2Proof.Machine.execChPtrMismatch n tx s
  | .chReset lvl n => Sys2Proof.Machine.execChReset lvl n s
  | .scannerRxVisit n => Sys2Proof.Machine.execScannerRxVisit n s
  | .scannerTxVisit n => Sys2Proof.Machine.execScannerTxVisit n s
  | .chTxItemArrive n f => Sys2Proof.Machine.execChTxItemArrive n f s
  | .chTxRecordStart n ballC => Sys2Proof.Machine.execChTxRecordStart n ballC s
  | .chTxRecordEnd e => Sys2Proof.Machine.execChTxRecordEnd e s
  | .spiTransactionDone n miso => Sys2Proof.Machine.execSpiTransactionDone n miso s
  | .i2cTransactionDone n status data pec => Sys2Proof.Machine.execI2cTransactionDone n status data pec s
  | .i2cArbRetry n => Sys2Proof.Machine.execI2cArbRetry n s
  | .i2cTargetWrite n data => Sys2Proof.Machine.execI2cTargetWrite n data s
  | .i2cTargetRead n count => Sys2Proof.Machine.execI2cTargetRead n count s
  | .busStuck n low => Sys2Proof.Machine.execBusStuck n low s
  | .busStuckRetry n low => Sys2Proof.Machine.execBusStuckRetry n low s
  | .smbalert n => Sys2Proof.Machine.execSmbalert n s
  | .chRxPop n size => Sys2Proof.Machine.execChRxPop n size s
  | .rxRelease n count => Sys2Proof.Machine.execRxRelease n count s
  | .txWrite n bs => Sys2Proof.Machine.execTxWrite n bs s
  | .rxSilent n => Sys2Proof.Machine.execRxSilent n s
  | .canTxPost lvl n data => Sys2Proof.Machine.execCanTxPost lvl n data s
  | .canTxItemArrive n f => Sys2Proof.Machine.execCanTxItemArrive n f s
  | .canFrameSelect n => Sys2Proof.Machine.execCanFrameSelect n s
  | .canSof n => Sys2Proof.Machine.execCanSof n s
  | .canTxSent n delay => Sys2Proof.Machine.execCanTxSent n delay s
  | .canArbLost n => Sys2Proof.Machine.execCanArbLost n s
  | .canTxError n e => Sys2Proof.Machine.execCanTxError n e s
  | .canAbort lvl n mask => Sys2Proof.Machine.execCanAbort lvl n mask s
  | .canAbortAll lvl n => Sys2Proof.Machine.execCanAbortAll lvl n s
  | .canRecover lvl n => Sys2Proof.Machine.execCanRecover lvl n s
  | .canRecovered n => Sys2Proof.Machine.execCanRecovered n s
  | .canFrameRxComplete n ident frame data ago => Sys2Proof.Machine.execCanFrameRxComplete n ident frame data ago s
  | .rxRdWrite lvl n v => Sys2Proof.Machine.execRxRdWrite lvl n v s
  | .engStart lvl n => Sys2Proof.Machine.execEngStart lvl n s
  | .engStop lvl n => Sys2Proof.Machine.execEngStop lvl n s
  | .stopAtWrap lvl n => Sys2Proof.Machine.execStopAtWrap lvl n s
  | .engFlush lvl n => Sys2Proof.Machine.execEngFlush lvl n s
  | .shiftOut n => Sys2Proof.Machine.execShiftOut n s
  | .shiftIn n ins => Sys2Proof.Machine.execShiftIn n ins s
  | .engDelay n => Sys2Proof.Machine.execEngDelay n s
  | .engWait n k levels => Sys2Proof.Machine.execEngWait n k levels s
  | .engSet n => Sys2Proof.Machine.execEngSet n s
  | .engMove n => Sys2Proof.Machine.execEngMove n s
  | .engCmp n levels => Sys2Proof.Machine.execEngCmp n levels s
  | .engEvent n => Sys2Proof.Machine.execEngEvent n s
  | .engStallEnd n k ins => Sys2Proof.Machine.execEngStallEnd n k ins s
  | .txData n bs => Sys2Proof.Machine.execTxData n bs s
  | .engRxPop n => Sys2Proof.Machine.execEngRxPop n s
  | .rxPeek n => Sys2Proof.Machine.execRxPeek n s
  | .engProgWrite lvl n data => Sys2Proof.Machine.execEngProgWrite lvl n data s
  | .engWrapWrite lvl n v => Sys2Proof.Machine.execEngWrapWrite lvl n v s
  | .engDivWrite lvl n v => Sys2Proof.Machine.execEngDivWrite lvl n v s
  | .engProgForce lvl n data => Sys2Proof.Machine.execEngProgForce lvl n data s
  | .discOutputItem b f => Sys2Proof.Machine.execDiscOutputItem b f s
  | .discSafeWrite lvl b v => Sys2Proof.Machine.execDiscSafeWrite lvl b v s
  | .discVioSense b mv => Sys2Proof.Machine.execDiscVioSense b mv s
  | .measSampleDeliver n x => Sys2Proof.Machine.execMeasSampleDeliver n x s
  | .measOpenEnter n => Sys2Proof.Machine.execMeasOpenEnter n s
  | .measOpenLeave n => Sys2Proof.Machine.execMeasOpenLeave n s
  | .mapperInputItem arrived => Sys2Proof.Machine.execMapperInputItem arrived s
  | .mapperRelease => Sys2Proof.Machine.execMapperRelease s
  | .routeTableWrite key entry => Sys2Proof.Machine.execRouteTableWrite key entry s
  | .mappingEntryWrite k entry => Sys2Proof.Machine.execMappingEntryWrite k entry s
  | .rulePass => Sys2Proof.Machine.execRulePass s
  | .ruleReset lvl r => Sys2Proof.Machine.execRuleReset lvl r s
  | .mapLoadWindowEnd => Sys2Proof.Machine.execMapLoadWindowEnd s
  | .fabricRead f => Sys2Proof.Machine.execFabricRead f s
  | .fabricWrite f clash => Sys2Proof.Machine.execFabricWrite f clash s
  | .writePosted f clash => Sys2Proof.Machine.execWritePosted f clash s
  | .c7RuntDiscard f => Sys2Proof.Machine.execC7RuntDiscard f s
  | .readData f => Sys2Proof.Machine.execReadData f s
  | .writeDone f => Sys2Proof.Machine.execWriteDone f s
  | .fabricErrorRx f => Sys2Proof.Machine.execFabricErrorRx f s
  | .fabTimeoutExpiry => Sys2Proof.Machine.execFabTimeoutExpiry s
  | .windowAccess a write n bs => Sys2Proof.Machine.execWindowAccess a write n bs s
  | .winCtrlWrite lvl w v => Sys2Proof.Machine.execWinCtrlWrite lvl w v s
  | .foTokenWrite lvl data => Sys2Proof.Machine.execFoTokenWrite lvl data s
  | .fabOpenAnswer f => Sys2Proof.Machine.execFabOpenAnswer f s
  | .qTailWrite lvl k q v => Sys2Proof.Machine.execQTailWrite lvl k q v s
  | .mvDescStart k => Sys2Proof.Machine.execMvDescStart k s
  | .mvPreempt k => Sys2Proof.Machine.execMvPreempt k s
  | .mvDescEnd k => Sys2Proof.Machine.execMvDescEnd k s
  | .mvEnable lvl k => Sys2Proof.Machine.execMvEnable lvl k s
  | .mvDisable lvl k => Sys2Proof.Machine.execMvDisable lvl k s
  | .mvResume lvl k => Sys2Proof.Machine.execMvResume lvl k s
  | .mvSkip lvl k => Sys2Proof.Machine.execMvSkip lvl k s
  | .mvAbort lvl k => Sys2Proof.Machine.execMvAbort lvl k s
  | .bankOwnerWrite lvl b v => Sys2Proof.Machine.execBankOwnerWrite lvl b v s
  | .handoverComplete => Sys2Proof.Machine.execHandoverComplete s
  | .handoverRefused => Sys2Proof.Machine.execHandoverRefused s
  | .copyInDone lane => Sys2Proof.Machine.execCopyInDone lane s
  | .copyInAbandon lane => Sys2Proof.Machine.execCopyInAbandon lane s
  | .aliasedTestDone lane failWord sig => Sys2Proof.Machine.execAliasedTestDone lane failWord sig s
  | .copyBackDone lane => Sys2Proof.Machine.execCopyBackDone lane s
  | .hostReadCycle a n => Sys2Proof.Machine.execHostReadCycle a n s
  | .hostWriteCycle a bs => Sys2Proof.Machine.execHostWriteCycle a bs s
  | .lhpNoClock => Sys2Proof.Machine.execLhpNoClock s
  | .hostRetryDeadlock => Sys2Proof.Machine.execHostRetryDeadlock s
  | .reissueExpiry => Sys2Proof.Machine.execReissueExpiry s
  | .lockSequenceBegin => Sys2Proof.Machine.execLockSequenceBegin s
  | .lockSequenceEnd => Sys2Proof.Machine.execLockSequenceEnd s
  | .lockBroken => Sys2Proof.Machine.execLockBroken s
  | .xqTailWrite lvl v => Sys2Proof.Machine.execXqTailWrite lvl v s
  | .deviceMasterCycle done bus => Sys2Proof.Machine.execDeviceMasterCycle done bus s
  | .deviceRetryReissue done bus => Sys2Proof.Machine.execDeviceRetryReissue done bus s
  | .sidebandEdge k level => Sys2Proof.Machine.execSidebandEdge k level s
  | .heartbeatToggle => Sys2Proof.Machine.execHeartbeatToggle s
  | .statusSend => Sys2Proof.Machine.execStatusSend s
  | .heartbeatSign => Sys2Proof.Machine.execHeartbeatSign s
  | .hbWireBroken => Sys2Proof.Machine.execHbWireBroken s
  | .twLinkRetx l => Sys2Proof.Machine.execTwLinkRetx l s
  | .twLinkDown => Sys2Proof.Machine.execTwLinkDown s
  | .twStatus seq ack h r => Sys2Proof.Machine.execTwStatus seq ack h r s
  | .twImage seq ack h img => Sys2Proof.Machine.execTwImage seq ack h img s
  | .twOffer seq ack h cause => Sys2Proof.Machine.execTwOffer seq ack h cause s
  | .twAccept seq ack h t => Sys2Proof.Machine.execTwAccept seq ack h t s
  | .twReleased seq ack h t kind inst => Sys2Proof.Machine.execTwReleased seq ack h t kind inst s
  | .twAbort seq ack h => Sys2Proof.Machine.execTwAbort seq ack h s
  | .twGrant l seq ack h g => Sys2Proof.Machine.execTwGrant l seq ack h g s
  | .twNumber l seq ack h answer id cls stream num => Sys2Proof.Machine.execTwNumber l seq ack h answer id cls stream num s
  | .twSent l seq ack h j kind inst stream num => Sys2Proof.Machine.execTwSent l seq ack h j kind inst stream num s
  | .twJournal l seq ack h r => Sys2Proof.Machine.execTwJournal l seq ack h r s
  | .twMark seq ack h e t j => Sys2Proof.Machine.execTwMark seq ack h e t j s
  | .twChunk seq ack h e k data => Sys2Proof.Machine.execTwChunk seq ack h e k data s
  | .twCommit seq ack h e n crc => Sys2Proof.Machine.execTwCommit seq ack h e n crc s
  | .pairWaitExpiry => Sys2Proof.Machine.execPairWaitExpiry s
  | .peerSilence => Sys2Proof.Machine.execPeerSilence s
  | .witnessSettleEnd => Sys2Proof.Machine.execWitnessSettleEnd s
  | .contestHoldEnd => Sys2Proof.Machine.execContestHoldEnd s
  | .joinWaitExpiry => Sys2Proof.Machine.execJoinWaitExpiry s
  | .twCmdOffer lvl => Sys2Proof.Machine.execTwCmdOffer lvl s
  | .twCmdSnapshot lvl => Sys2Proof.Machine.execTwCmdSnapshot lvl s
  | .snapshotStart => Sys2Proof.Machine.execSnapshotStart s
  | .snapshotSent => Sys2Proof.Machine.execSnapshotSent s
  | .switchStrobeT => Sys2Proof.Machine.execSwitchStrobeT s
  | .tokenPass => Sys2Proof.Machine.execTokenPass s
  | .instanceRelease kind n => Sys2Proof.Machine.execInstanceRelease kind n s
  | .instanceReleaseTimeout => Sys2Proof.Machine.execInstanceReleaseTimeout s
  | .safeTokenRelease => Sys2Proof.Machine.execSafeTokenRelease s
  | .supplyReset low absent => Sys2Proof.Machine.execSupplyReset low absent s
  | .dipStart mv => Sys2Proof.Machine.execDipStart mv s
  | .dipEnd mv low => Sys2Proof.Machine.execDipEnd mv low s
  | .powerDegraded => Sys2Proof.Machine.execPowerDegraded s
  | .degradedClear mv => Sys2Proof.Machine.execDegradedClear mv s
  | .supplyRangeChange meas out => Sys2Proof.Machine.execSupplyRangeChange meas out s
  | .vbatSense mv => Sys2Proof.Machine.execVbatSense mv s
  | .rtcLoad => Sys2Proof.Machine.execRtcLoad s
  | .backupBrownOut => Sys2Proof.Machine.execBackupBrownOut s
  | .vbatRise => Sys2Proof.Machine.execVbatRise s
  | .feedReverse x code => Sys2Proof.Machine.execFeedReverse x code s
  | .feedUnblock x code => Sys2Proof.Machine.execFeedUnblock x code s
  | .feedLost x code => Sys2Proof.Machine.execFeedLost x code s
  | .feedRestored x code => Sys2Proof.Machine.execFeedRestored x code s
  | .railTurnOn n => Sys2Proof.Machine.execRailTurnOn n s
  | .railTurnOff n => Sys2Proof.Machine.execRailTurnOff n s
  | .inrushEnd n => Sys2Proof.Machine.execInrushEnd n s
  | .railSample n code pg => Sys2Proof.Machine.execRailSample n code pg s
  | .settleWindowExpiry n => Sys2Proof.Machine.execSettleWindowExpiry n s
  | .powerGood n => Sys2Proof.Machine.execPowerGood n s
  | .pgLost n => Sys2Proof.Machine.execPgLost n s
  | .retryIntervalExpiry n => Sys2Proof.Machine.execRetryIntervalExpiry n s
  | .retryClearExpiry n => Sys2Proof.Machine.execRetryClearExpiry n s
  | .presenceLost n => Sys2Proof.Machine.execPresenceLost n s
  | .railBounce n => Sys2Proof.Machine.execRailBounce n s
  | .railAbsent n => Sys2Proof.Machine.execRailAbsent n s
  | .railInserted n => Sys2Proof.Machine.execRailInserted n s
  | .plClear lvl => Sys2Proof.Machine.execPlClear lvl s
  | .faultReport r source inst cause detail => Sys2Proof.Machine.execFaultReport r source inst cause detail s
  | .faultClose => Sys2Proof.Machine.execFaultClose s
  | .ffRecord lvl => Sys2Proof.Machine.execFfRecord lvl s
  | .fqPop lvl => Sys2Proof.Machine.execFqPop lvl s
  | .faultFrameRx f => Sys2Proof.Machine.execFaultFrameRx f s
  | .escalationTimerExpiry => Sys2Proof.Machine.execEscalationTimerExpiry s
  | .escalationReset => Sys2Proof.Machine.execEscalationReset s
  | .fcAck lvl q => Sys2Proof.Machine.execFcAck lvl q s
  | .fcUnisolate lvl v => Sys2Proof.Machine.execFcUnisolate lvl v s
  | .fcSelfCheck => Sys2Proof.Machine.execFcSelfCheck s
  | .safeEntry cause => Sys2Proof.Machine.execSafeEntry cause s
  | .fcSafeEnter lvl => Sys2Proof.Machine.execFcSafeEnter lvl s
  | .fcSafeExit lvl => Sys2Proof.Machine.execFcSafeExit lvl s
  | .safeExit => Sys2Proof.Machine.execSafeExit s
  | .fcInjectReport lvl => Sys2Proof.Machine.execFcInjectReport lvl s
  | .fcInjectPair lvl => Sys2Proof.Machine.execFcInjectPair lvl s
  | .fcInjectSafeFlag lvl => Sys2Proof.Machine.execFcInjectSafeFlag lvl s
  | .heatherWdt => Sys2Proof.Machine.execHeatherWdt s
  | .heatherEccUncorr inst => Sys2Proof.Machine.execHeatherEccUncorr inst s
  | .heatherRestartDone => Sys2Proof.Machine.execHeatherRestartDone s
  | .sensorRead t0 t1 t2 t3 m0 m1 m2 m3 m4 m5 m6 m7 m8 m9 => Sys2Proof.Machine.execSensorRead t0 t1 t2 t3 m0 m1 m2 m3 m4 m5 m6 m7 m8 m9 s
  | .logFlashCopy ok => Sys2Proof.Machine.execLogFlashCopy ok s
  | .logErase lvl => Sys2Proof.Machine.execLogErase lvl s
  | .lcToFieldOpen lvl => Sys2Proof.Machine.execLcToFieldOpen lvl s
  | .lcToFieldSealed lvl => Sys2Proof.Machine.execLcToFieldSealed lvl s
  | .lcReturn lvl record => Sys2Proof.Machine.execLcReturn lvl record s
  | .updBegin f => Sys2Proof.Machine.execUpdBegin f s
  | .updateEraseDone ok => Sys2Proof.Machine.execUpdateEraseDone ok s
  | .updateChunk f ok => Sys2Proof.Machine.execUpdateChunk f ok s
  | .updQuery f => Sys2Proof.Machine.execUpdQuery f s
  | .updEnd f => Sys2Proof.Machine.execUpdEnd f s
  | .updateCheckDone ok => Sys2Proof.Machine.execUpdateCheckDone ok s
  | .updActivate lvl => Sys2Proof.Machine.execUpdActivate lvl s
  | .updConfirm lvl => Sys2Proof.Machine.execUpdConfirm lvl s
  | .updRevert lvl => Sys2Proof.Machine.execUpdRevert lvl s
  | .updDiscard lvl => Sys2Proof.Machine.execUpdDiscard lvl s
  | .confirmLeftExpiry => Sys2Proof.Machine.execConfirmLeftExpiry s
  | .stSweepStep lane => Sys2Proof.Machine.execStSweepStep lane s
  | .runStart lvl => Sys2Proof.Machine.execRunStart lvl s
  | .runStop lvl => Sys2Proof.Machine.execRunStop lvl s
  | .runBankDone lane failWord sig => Sys2Proof.Machine.execRunBankDone lane failWord sig s
  | .enterConfig lvl => Sys2Proof.Machine.execEnterConfig lvl s
  | .leaveConfig lvl => Sys2Proof.Machine.execLeaveConfig lvl s
  | .enterSelfTest lvl => Sys2Proof.Machine.execEnterSelfTest lvl s
  | .leaveSelfTest lvl => Sys2Proof.Machine.execLeaveSelfTest lvl s
  | .setQuiescent lvl => Sys2Proof.Machine.execSetQuiescent lvl s
  | .clearQuiescent lvl => Sys2Proof.Machine.execClearQuiescent lvl s
  | .modeChangeAtStrobe => Sys2Proof.Machine.execModeChangeAtStrobe s
  | .powerOn => Sys2Proof.Machine.execPowerOn s
  | .resetN ns still => Sys2Proof.Machine.execResetN ns still s
  | .resetCmd lvl => Sys2Proof.Machine.execResetCmd lvl s
  | .resetRelease => Sys2Proof.Machine.execResetRelease s
  | .bootEnd us => Sys2Proof.Machine.execBootEnd us s
  | .autoStart => Sys2Proof.Machine.execAutoStart s
  | .cfgSave lvl => Sys2Proof.Machine.execCfgSave lvl s
  | .cfgSaveDone ok => Sys2Proof.Machine.execCfgSaveDone ok s
  | .cfgErase lvl => Sys2Proof.Machine.execCfgErase lvl s
  | .jtagBypass => Sys2Proof.Machine.execJtagBypass s
  | .jtagIdcode => Sys2Proof.Machine.execJtagIdcode s
  | .jtagSample levels boundary => Sys2Proof.Machine.execJtagSample levels boundary s
  | .jtagExtest => Sys2Proof.Machine.execJtagExtest s
  | .jtagClamp => Sys2Proof.Machine.execJtagClamp s
  | .jtagHighz => Sys2Proof.Machine.execJtagHighz s
  | .canRxError n e => Sys2Proof.Machine.execCanRxError n e s
  | .dictRspRx f => Sys2Proof.Machine.execDictRspRx f s
  | .heatherEccCorr inst => Sys2Proof.Machine.execHeatherEccCorr inst s
  | .lhpBclkReturn khz => Sys2Proof.Machine.execLhpBclkReturn khz s

end Sys2Proof.Machine
end

