-- ==== Sys2Proof/Machine/Step.lean ====
section
/-! DEFINITION. The step: the command at the front of the queue is run on the state with the queue's rest; on an empty queue
one FCLK cycle passes (log entry 14). -/

namespace Sys2Proof.Machine

/-- On an empty queue one FCLK cycle of 2 ns passes once BOOT has ended; before, nothing does. -/
def idle (s : State) : Host.Outcome State Fault Refusal :=
  onCore (fun c => if c.up then c.advance 2 else c) s

/-- One step of the block. -/
def step (s : State) : Host.Outcome State Fault Refusal :=
  match s.pending with
  | [] => idle s
  | i :: rest => exec i { s with pending := rest }

/-- The state with the command that a word spells put at the front of its queue. The opcode table gives no row any bits, so
no word spells a command and the state stays as it is. -/
def State.withFetchWord (s : State) (nbits w : Nat) : State :=
  match decodeTableWord nbits w with
  | some i => { s with pending := i :: s.pending }
  | none => s

end Sys2Proof.Machine
end

