-- ==== Sys2Proof/WellFormed.lean ====
section
/-! DEFINITION. Well-formed commands: every operand is one that the spec's fields and signals can carry. The types of the operands
already bound instances, levels and words; this file bounds the fields of frames and records, and the lengths of byte
strings. -/

namespace Sys2Proof

open Machine

/-- Ticks are 48 bits (R230). -/
abbrev tickMod48 : Nat := 2 ^ 48

namespace Machine

/-- R143: every header field fits its place, and the payload is at most 1,024 bytes. -/
def Frame.wf (f : Frame) : Bool :=
  Nat.blt f.version 16 && Nat.blt f.kind 16 && Nat.blt f.cls 8 && Nat.blt f.hop 256 && Nat.blt f.res 256
    && Nat.blt f.dst 65536 && Nat.blt f.src 65536 && Nat.blt f.okey 65536 && Nat.blt f.stream 65536
    && Nat.blt f.seq 65536 && Nat.blt f.len 65536 && Nat.blt f.tick tickMod48 && Nat.blt f.corr (2 ^ 64)
    && Nat.blt f.hopCheck 65536 && Nat.ble f.payload.length 1024 && Nat.blt f.check (2 ^ 32)

/-- R499: FLAGS, the body length, the CRC and a tick. -/
def TwHead.wf (h : TwHead) : Bool :=
  Nat.blt h.flags 256 && Nat.blt h.len 65536 && Nat.blt h.crc (2 ^ 32) && Nat.blt h.tick tickMod48

/-- R500: the fields of a STATUS record. -/
def TwStatus.wf (s : TwStatus) : Bool :=
  Nat.blt s.mode 256 && Nat.blt s.st 4 && Nat.blt s.rank 2 && Nat.ble 10 s.period && Nat.ble s.period 10000
    && Nat.blt s.epoch (2 ^ 32) && Nat.blt s.jseq (2 ^ 32) && Nat.blt s.digest (2 ^ 32)

/-- R514: an image has 256 lines and 16 gates. -/
def OutImage.wf (i : OutImage) : Bool := Nat.blt i.tick tickMod48 && Nat.blt i.lines (2 ^ 256) && Nat.blt i.rails (2 ^ 16)

/-- R509: the fields of a GRANT. -/
def TwGrant.wf (g : TwGrant) : Bool :=
  Nat.blt g.cls 8 && Nat.blt g.stream 65536 && Nat.blt g.seq 65536 && Nat.blt g.tick tickMod48 && Nat.blt g.key 65536

/-- R527: a journal record holds one frame and, for an output item, one of 32 banks. -/
def JournalRec.wf (r : JournalRec) : Bool := Nat.blt r.jseq (2 ^ 32) && Nat.blt r.inst 32 && r.frame.wf

/-- What a read of a module's address gives: nothing, or so many bytes (R96). -/
def optLen (b : Option Bytes) (n : Nat) : Bool := b.all (fun x => x.length == n)

/-- R473: a host cycle carries one byte at an odd address, and words from an even one. -/
def cycleFits (a : BitVec 32) (n : Nat) : Bool :=
  if a.toNat % 2 = 1 then n == 1 else n % 2 == 0 && Nat.ble 2 n && Nat.ble n 512

end Machine

/-- The command's operands are ones that the spec's fields can carry. -/
def Instr.wf : Instr → Bool
  | .registerWrite _ _ _ data => Nat.ble data.length 1008
  | .dictReqEnqueue f => f.wf
  | .dictRead => true
  | .dictWrite => true
  | .dictDescribe => true
  | .dictOpen => true
  | .dictClose => true
  | .segRead => true
  | .segWrite => true
  | .segAbort => true
  | .rwtEffect => true
  | .sessionIdleClose => true
  | .lockoutEnd => true
  | .segTimeoutAbandon => true
  | .tickArmPoint => true
  | .tickStrobe _ _ _ => true
  | .postRegisterTake _ => true
  | .portModulePresent _ id => optLen id 96
  | .portModuleAbsent _ => true
  | .portLockGained _ => true
  | .portLockLost _ _ => true
  | .linkQualExpiry _ => true
  | .spliceReqSend _ => true
  | .spliceReqRx _ f => f.wf
  | .spliceAckRx _ f => f.wf
  | .unwrapHoldExpiry _ => true
  | .unwrapComplete _ => true
  | .linkFailureDetect _ _ => true
  | .linkFailureRecover _ => true
  | .wrapQualExpiry _ => true
  | .wrapComplete _ => true
  | .linkWaitExpiry => true
  | .sfpDiagPoll _ id diag => optLen id 96 && optLen diag 22
  | .censusStart _ => true
  | .censusCollectRx _ f => f.wf
  | .censusCloseReturn _ f => f.wf
  | .censusFinalRx _ f => f.wf
  | .censusApply _ => true
  | .censusTimeout _ => true
  | .censusFinalTimeout _ => true
  | .trunkFrameEnqueue _ f => f.wf
  | .trunkSlot _ => true
  | .trunkBlockRx _ chars => Nat.ble chars.length 4096
  | .trunkRtoExpiry _ _ => true
  | .trunkKeepalive _ _ => true
  | .trunkDeadExpiry _ => true
  | .frameRxHeader _ f => f.wf
  | .frameRxEnd _ f _ => f.wf
  | .cutThroughUnderrun _ => true
  | .frameOriginate _ f => f.wf
  | .trackAgeExpiry => true
  | .linkHoldExpiry _ => true
  | .holdResume _ => true
  | .switchSlotSchedule => true
  | .frameAdmission => true
  | .heldFrameAdmit => true
  | .localWaitExpiry => true
  | .fairWindowEnd => true
  | .bufAccountCheck => true
  | .bufLimitWrite _ _ _ _ => true
  | .injArm _ => true
  | .injCancel _ => true
  | .timeSyncSend => true
  | .timeSyncRx _ f _ _ => f.wf
  | .syncLossExpiry => true
  | .timeSet _ _ => true
  | .peerDelaySend _ => true
  | .peerDelayReqRx _ f _ => f.wf
  | .peerDelayRspRx _ f => f.wf
  | .peerDelayTimeout _ => true
  | .ppsEdge => true
  | .ppsLossTimeout => true
  | .ppsOutRise => true
  | .ppsOutFall => true
  | .tickPeriodChange => true
  | .eventRecordArrive _ _ _ _ _ _ => true
  | .eventCloseExpiry => true
  | .evqMoveComplete => true
  | .evqRdWrite _ _ => true
  | .schedItemRx _ f => f.wf
  | .schedPost _ data => Nat.ble data.length 1008
  | .schedCancel _ => true
  | .charRx _ _ _ _ => true
  | .chBreak _ => true
  | .idleGapExpiry _ => true
  | .modbusSilenceExpiry _ => true
  | .flushAgeExpiry _ => true
  | .chPtrMismatch _ _ => true
  | .chReset _ _ => true
  | .scannerRxVisit _ => true
  | .scannerTxVisit _ => true
  | .chTxItemArrive _ f => f.wf
  | .chTxRecordStart _ _ => true
  | .chTxRecordEnd _ => true
  | .spiTransactionDone _ miso => Nat.ble miso.length 1024
  | .i2cTransactionDone _ _ data _ => Nat.ble data.length 255
  | .i2cArbRetry _ => true
  | .i2cTargetWrite _ data => Nat.ble data.bytes.length 512
  | .i2cTargetRead _ _ => true
  | .busStuck _ _ => true
  | .busStuckRetry _ _ => true
  | .smbalert _ => true
  | .chRxPop _ _ => true
  | .rxRelease _ _ => true
  | .txWrite _ bs => Nat.ble bs.length 1024
  | .rxSilent _ => true
  | .canTxPost _ _ data => Nat.ble data.length 1008
  | .canTxItemArrive _ f => f.wf
  | .canFrameSelect _ => true
  | .canSof _ => true
  | .canTxSent _ _ => true
  | .canArbLost _ => true
  | .canTxError _ _ => true
  | .canAbort _ _ _ => true
  | .canAbortAll _ _ => true
  | .canRecover _ _ => true
  | .canRecovered _ => true
  | .canFrameRxComplete _ ident _ data _ => Nat.blt ident (2 ^ 31) && Nat.ble data.length 64
  | .rxRdWrite _ _ _ => true
  | .engStart _ _ => true
  | .engStop _ _ => true
  | .stopAtWrap _ _ => true
  | .engFlush _ _ => true
  | .shiftOut _ => true
  | .shiftIn _ _ => true
  | .engDelay _ => true
  | .engWait _ _ _ => true
  | .engSet _ => true
  | .engMove _ => true
  | .engCmp _ _ => true
  | .engEvent _ => true
  | .engStallEnd _ _ _ => true
  | .txData _ bs => Nat.ble bs.length 1024
  | .engRxPop _ => true
  | .rxPeek _ => true
  | .engProgWrite _ _ data => Nat.ble data.length 1008
  | .engWrapWrite _ _ _ => true
  | .engDivWrite _ _ _ => true
  | .engProgForce _ _ data => Nat.ble data.length 1008
  | .discOutputItem _ f => f.wf
  | .discSafeWrite _ _ _ => true
  | .discVioSense _ mv => Nat.blt mv 65536
  | .measSampleDeliver _ _ => true
  | .measOpenEnter _ => true
  | .measOpenLeave _ => true
  | .mapperInputItem arrived => arrived.all Frame.wf
  | .mapperRelease => true
  | .routeTableWrite _ entry => entry.length == 32
  | .mappingEntryWrite _ entry => entry.length == 16
  | .rulePass => true
  | .ruleReset _ _ => true
  | .mapLoadWindowEnd => true
  | .fabricRead f => f.wf
  | .fabricWrite f _ => f.wf
  | .writePosted f _ => f.wf
  | .c7RuntDiscard f => f.wf
  | .readData f => f.frame.wf
  | .writeDone f => f.wf
  | .fabricErrorRx f => f.wf
  | .fabTimeoutExpiry => true
  | .windowAccess _ write n bs => (!write || bs.bytes.length == n.val)
  | .winCtrlWrite _ _ _ => true
  | .foTokenWrite _ data => Nat.ble data.length 1008
  | .fabOpenAnswer f => f.wf
  | .qTailWrite _ _ _ _ => true
  | .mvDescStart _ => true
  | .mvPreempt _ => true
  | .mvDescEnd _ => true
  | .mvEnable _ _ => true
  | .mvDisable _ _ => true
  | .mvResume _ _ => true
  | .mvSkip _ _ => true
  | .mvAbort _ _ => true
  | .bankOwnerWrite _ _ _ => true
  | .handoverComplete => true
  | .handoverRefused => true
  | .copyInDone _ => true
  | .copyInAbandon _ => true
  | .aliasedTestDone _ _ _ => true
  | .copyBackDone _ => true
  | .hostReadCycle a n => cycleFits a n
  | .hostWriteCycle a bs => cycleFits a bs.bytes.length
  | .lhpNoClock => true
  | .hostRetryDeadlock => true
  | .reissueExpiry => true
  | .lockSequenceBegin => true
  | .lockSequenceEnd => true
  | .lockBroken => true
  | .xqTailWrite _ _ => true
  | .deviceMasterCycle _ bus => Nat.ble bus.bytes.length 256
  | .deviceRetryReissue _ bus => Nat.ble bus.bytes.length 256
  | .sidebandEdge _ _ => true
  | .heartbeatToggle => true
  | .statusSend => true
  | .heartbeatSign => true
  | .hbWireBroken => true
  | .twLinkRetx _ => true
  | .twLinkDown => true
  | .twStatus _ _ h r => h.wf && r.wf
  | .twImage _ _ h img => h.wf && img.wf
  | .twOffer _ _ h _ => h.wf
  | .twAccept _ _ h t => h.wf && Nat.blt t tickMod48
  | .twReleased _ _ h t _ _ => h.wf && Nat.blt t tickMod48
  | .twAbort _ _ h => h.wf
  | .twGrant _ _ _ h g => h.wf && g.wf
  | .twNumber _ _ _ h _ id _ _ _ => h.wf && Nat.blt id 131072
  | .twSent _ _ _ h j _ _ _ _ => h.wf && Nat.blt j (2 ^ 32)
  | .twJournal _ _ _ h r => h.wf && r.wf
  | .twMark _ _ h e t j => h.wf && Nat.blt e (2 ^ 32) && Nat.blt t tickMod48 && Nat.blt j (2 ^ 32)
  | .twChunk _ _ h e k data => h.wf && Nat.blt e (2 ^ 32) && Nat.blt k 4 && data.length == 4096
  | .twCommit _ _ h e n crc => h.wf && Nat.blt e (2 ^ 32) && Nat.blt n 256 && Nat.blt crc (2 ^ 32)
  | .pairWaitExpiry => true
  | .peerSilence => true
  | .witnessSettleEnd => true
  | .contestHoldEnd => true
  | .joinWaitExpiry => true
  | .twCmdOffer _ => true
  | .twCmdSnapshot _ => true
  | .snapshotStart => true
  | .snapshotSent => true
  | .switchStrobeT => true
  | .tokenPass => true
  | .instanceRelease _ _ => true
  | .instanceReleaseTimeout => true
  | .safeTokenRelease => true
  | .supplyReset _ _ => true
  | .dipStart _ => true
  | .dipEnd _ _ => true
  | .powerDegraded => true
  | .degradedClear _ => true
  | .supplyRangeChange _ _ => true
  | .vbatSense _ => true
  | .rtcLoad => true
  | .backupBrownOut => true
  | .vbatRise => true
  | .feedReverse _ _ => true
  | .feedUnblock _ _ => true
  | .feedLost _ _ => true
  | .feedRestored _ _ => true
  | .railTurnOn _ => true
  | .railTurnOff _ => true
  | .inrushEnd _ => true
  | .railSample _ _ _ => true
  | .settleWindowExpiry _ => true
  | .powerGood _ => true
  | .pgLost _ => true
  | .retryIntervalExpiry _ => true
  | .retryClearExpiry _ => true
  | .presenceLost _ => true
  | .railBounce _ => true
  | .railAbsent _ => true
  | .railInserted _ => true
  | .plClear _ => true
  | .faultReport _ _ _ _ detail => Nat.blt detail (2 ^ 64)
  | .faultClose => true
  | .ffRecord _ => true
  | .fqPop _ => true
  | .faultFrameRx f => f.wf
  | .escalationTimerExpiry => true
  | .escalationReset => true
  | .fcAck _ _ => true
  | .fcUnisolate _ _ => true
  | .fcSelfCheck => true
  | .safeEntry _ => true
  | .fcSafeEnter _ => true
  | .fcSafeExit _ => true
  | .safeExit => true
  | .fcInjectReport _ => true
  | .fcInjectPair _ => true
  | .fcInjectSafeFlag _ => true
  | .heatherWdt => true
  | .heatherEccUncorr _ => true
  | .heatherRestartDone => true
  | .sensorRead _ _ _ _ _ _ _ _ _ _ _ _ _ _ => true
  | .logFlashCopy _ => true
  | .logErase _ => true
  | .lcToFieldOpen _ => true
  | .lcToFieldSealed _ => true
  | .lcReturn _ record => Nat.ble record.length 1008
  | .updBegin f => f.wf
  | .updateEraseDone _ => true
  | .updateChunk f _ => f.wf
  | .updQuery f => f.wf
  | .updEnd f => f.wf
  | .updateCheckDone _ => true
  | .updActivate _ => true
  | .updConfirm _ => true
  | .updRevert _ => true
  | .updDiscard _ => true
  | .confirmLeftExpiry => true
  | .stSweepStep _ => true
  | .runStart _ => true
  | .runStop _ => true
  | .runBankDone _ _ _ => true
  | .enterConfig _ => true
  | .leaveConfig _ => true
  | .enterSelfTest _ => true
  | .leaveSelfTest _ => true
  | .setQuiescent _ => true
  | .clearQuiescent _ => true
  | .modeChangeAtStrobe => true
  | .powerOn => true
  | .resetN _ _ => true
  | .resetCmd _ => true
  | .resetRelease => true
  | .bootEnd _ => true
  | .autoStart => true
  | .cfgSave _ => true
  | .cfgSaveDone _ => true
  | .cfgErase _ => true
  | .jtagBypass => true
  | .jtagIdcode => true
  | .jtagSample levels boundary => levels.length == boundary.length
  | .jtagExtest => true
  | .jtagClamp => true
  | .jtagHighz => true
  | .canRxError _ _ => true
  | .dictRspRx f => f.wf
  | .heatherEccCorr _ => true
  | .lhpBclkReturn _ => true

end Sys2Proof
end

