-- ==== Sys2Proof/Safety.lean ====
section
/-! DEFINITION. The terms in which claims about runs are made: the next state that a command answers, the commands that may store
to memory, and the invariant that every step keeps. -/

namespace Sys2Proof.Machine

/-- The command answers a next state of which P holds. -/
def Answers (i : Instr) (s : State) (P : State → Prop) : Prop := ∃ t, exec i s = .next t ∧ P t

/-- The step answers a next state of which P holds. -/
def Steps (s : State) (P : State → Prop) : Prop := ∃ t, step s = .next t ∧ P t

/-- The fault collector has not closed the tick that a record made now carries: a report waits for that close (R568, R569). -/
def Core.tickOpen (c : Core) : Bool := match c.time.lastTick, c.fc.closed, c.time.tag with
  | some _, some k, some n => tickAhead (n % tickMod) k
  | some _, some _, none => false
  | _, _, _ => true

/-- No escalation timer runs (R578). -/
def Core.noTimer (c : Core) : Bool := c.fc.slots.all (fun x => x.timer.isNone)

/-- No record is placed and no escalation step is due while the command runs: reports and clearings only wait or are queued. -/
def Core.settled (c : Core) : Bool := c.tickOpen && c.noTimer

/-- Physical byte p is one of those to which n bytes are stored from a local offset, in the bank that an access reaches or in the
other bank of a copy under way (R462, R465). -/
def Core.storesAt (c : Core) (off n p : Nat) : Bool :=
  (cutBank off n).any (fun q =>
    let a := c.swapAlias q.1
    let x := c.bankPlace (a / 65536)
    (x.1 :: x.2.toList).any (fun b => Nat.ble (b * 65536 + a % 65536) p && Nat.blt p (b * 65536 + a % 65536 + q.2)))

/-- The dictionary engine takes a write of this member at this level at once: no reset or BOOT holds, no request is before it,
the member exists and may be written at the level and in the mode, its owner runs (R62 steps 4 to 8 and 11). -/
def Core.takes (c : Core) (lvl key : Nat) : Bool :=
  let (st, x) := findMember (key / 256) (key % 256) lvl
  c.up && c.dict.queue.isEmpty && !c.engineHeld && st == 0 && c.accessStatus (key / 256) lvl x true == 0 && !c.ownerPaused (key / 256)

/-- The engine answered OK to the last request of the node's own side, a write of this member (R61). -/
def Core.wroteOk (c : Core) (key : Nat) : Bool :=
  match c.dict.answer with
  | some a => a.cmd == 2 && a.key == key && a.status == 0
  | none => false

/-- A run is safe when its memory is in canonical form, so that equal memories are equal data. -/
def State.Safe (s : State) : Prop := s.mem.wf = true

/-- Whether the command may store to memory: every other one leaves all of memory as it was. -/
def stores : Instr → Bool
  | .registerWrite _ _ _ _ => true
  | .dictReqEnqueue _ => false
  | .dictRead => false
  | .dictWrite => true
  | .dictDescribe => false
  | .dictOpen => false
  | .dictClose => false
  | .segRead => false
  | .segWrite => true
  | .segAbort => false
  | .rwtEffect => false
  | .sessionIdleClose => false
  | .lockoutEnd => false
  | .segTimeoutAbandon => false
  | .tickArmPoint => false
  | .tickStrobe _ _ _ => true
  | .postRegisterTake _ => false
  | .portModulePresent _ _ => false
  | .portModuleAbsent _ => false
  | .portLockGained _ => false
  | .portLockLost _ _ => false
  | .linkQualExpiry _ => false
  | .spliceReqSend _ => false
  | .spliceReqRx _ _ => false
  | .spliceAckRx _ _ => false
  | .unwrapHoldExpiry _ => false
  | .unwrapComplete _ => false
  | .linkFailureDetect _ _ => false
  | .linkFailureRecover _ => false
  | .wrapQualExpiry _ => false
  | .wrapComplete _ => false
  | .linkWaitExpiry => false
  | .sfpDiagPoll _ _ _ => false
  | .censusStart _ => false
  | .censusCollectRx _ _ => false
  | .censusCloseReturn _ _ => false
  | .censusFinalRx _ _ => false
  | .censusApply _ => false
  | .censusTimeout _ => false
  | .censusFinalTimeout _ => false
  | .trunkFrameEnqueue _ _ => false
  | .trunkSlot _ => false
  | .trunkBlockRx _ _ => false
  | .trunkRtoExpiry _ _ => false
  | .trunkKeepalive _ _ => false
  | .trunkDeadExpiry _ => false
  | .frameRxHeader _ _ => false
  | .frameRxEnd _ _ _ => false
  | .cutThroughUnderrun _ => false
  | .frameOriginate _ _ => false
  | .trackAgeExpiry => false
  | .linkHoldExpiry _ => false
  | .holdResume _ => false
  | .switchSlotSchedule => false
  | .frameAdmission => true
  | .heldFrameAdmit => true
  | .localWaitExpiry => true
  | .fairWindowEnd => false
  | .bufAccountCheck => false
  | .bufLimitWrite _ _ _ _ => false
  | .injArm _ => false
  | .injCancel _ => false
  | .timeSyncSend => false
  | .timeSyncRx _ _ _ _ => false
  | .syncLossExpiry => false
  | .timeSet _ _ => false
  | .peerDelaySend _ => false
  | .peerDelayReqRx _ _ _ => false
  | .peerDelayRspRx _ _ => false
  | .peerDelayTimeout _ => false
  | .ppsEdge => false
  | .ppsLossTimeout => false
  | .ppsOutRise => false
  | .ppsOutFall => false
  | .tickPeriodChange => false
  | .eventRecordArrive _ _ _ _ _ _ => false
  | .eventCloseExpiry => true
  | .evqMoveComplete => false
  | .evqRdWrite _ _ => false
  | .schedItemRx _ _ => false
  | .schedPost _ _ => false
  | .schedCancel _ => false
  | .charRx _ _ _ _ => false
  | .chBreak _ => false
  | .idleGapExpiry _ => false
  | .modbusSilenceExpiry _ => false
  | .flushAgeExpiry _ => false
  | .chPtrMismatch _ _ => false
  | .chReset _ _ => false
  | .scannerRxVisit _ => false
  | .scannerTxVisit _ => false
  | .chTxItemArrive _ _ => false
  | .chTxRecordStart _ _ => false
  | .chTxRecordEnd _ => false
  | .spiTransactionDone _ _ => false
  | .i2cTransactionDone _ _ _ _ => false
  | .i2cArbRetry _ => false
  | .i2cTargetWrite _ _ => false
  | .i2cTargetRead _ _ => false
  | .busStuck _ _ => false
  | .busStuckRetry _ _ => false
  | .smbalert _ => false
  | .chRxPop _ _ => false
  | .rxRelease _ _ => false
  | .txWrite _ _ => false
  | .rxSilent _ => false
  | .canTxPost _ _ _ => false
  | .canTxItemArrive _ _ => false
  | .canFrameSelect _ => false
  | .canSof _ => false
  | .canTxSent _ _ => false
  | .canArbLost _ => false
  | .canTxError _ _ => false
  | .canAbort _ _ _ => false
  | .canAbortAll _ _ => false
  | .canRecover _ _ => false
  | .canRecovered _ => false
  | .canFrameRxComplete _ _ _ _ _ => false
  | .rxRdWrite _ _ _ => false
  | .engStart _ _ => false
  | .engStop _ _ => false
  | .stopAtWrap _ _ => false
  | .engFlush _ _ => false
  | .shiftOut _ => false
  | .shiftIn _ _ => false
  | .engDelay _ => false
  | .engWait _ _ _ => false
  | .engSet _ => false
  | .engMove _ => false
  | .engCmp _ _ => false
  | .engEvent _ => false
  | .engStallEnd _ _ _ => false
  | .txData _ _ => false
  | .engRxPop _ => false
  | .rxPeek _ => false
  | .engProgWrite _ _ _ => false
  | .engWrapWrite _ _ _ => false
  | .engDivWrite _ _ _ => false
  | .engProgForce _ _ _ => false
  | .discOutputItem _ _ => false
  | .discSafeWrite _ _ _ => false
  | .discVioSense _ _ => false
  | .measSampleDeliver _ _ => false
  | .measOpenEnter _ => false
  | .measOpenLeave _ => false
  | .mapperInputItem _ => true
  | .mapperRelease => true
  | .routeTableWrite _ _ => true
  | .mappingEntryWrite _ _ => true
  | .rulePass => false
  | .ruleReset _ _ => false
  | .mapLoadWindowEnd => true
  | .fabricRead _ => true
  | .fabricWrite _ _ => true
  | .writePosted _ _ => true
  | .c7RuntDiscard _ => false
  | .readData _ => true
  | .writeDone _ => true
  | .fabricErrorRx _ => true
  | .fabTimeoutExpiry => true
  | .windowAccess _ _ _ _ => true
  | .winCtrlWrite _ _ _ => false
  | .foTokenWrite _ _ => false
  | .fabOpenAnswer _ => true
  | .qTailWrite _ _ _ _ => true
  | .mvDescStart _ => true
  | .mvPreempt _ => true
  | .mvDescEnd _ => true
  | .mvEnable _ _ => true
  | .mvDisable _ _ => true
  | .mvResume _ _ => true
  | .mvSkip _ _ => true
  | .mvAbort _ _ => true
  | .bankOwnerWrite _ _ _ => false
  | .handoverComplete => true
  | .handoverRefused => true
  | .copyInDone _ => true
  | .copyInAbandon _ => false
  | .aliasedTestDone _ _ _ => false
  | .copyBackDone _ => true
  | .hostReadCycle _ _ => true
  | .hostWriteCycle _ _ => true
  | .lhpNoClock => false
  | .hostRetryDeadlock => false
  | .reissueExpiry => false
  | .lockSequenceBegin => false
  | .lockSequenceEnd => true
  | .lockBroken => true
  | .xqTailWrite _ _ => true
  | .deviceMasterCycle _ _ => true
  | .deviceRetryReissue _ _ => true
  | .sidebandEdge _ _ => false
  | .heartbeatToggle => false
  | .statusSend => false
  | .heartbeatSign => false
  | .hbWireBroken => false
  | .twLinkRetx _ => false
  | .twLinkDown => false
  | .twStatus _ _ _ _ => false
  | .twImage _ _ _ _ => false
  | .twOffer _ _ _ _ => true
  | .twAccept _ _ _ _ => false
  | .twReleased _ _ _ _ _ _ => false
  | .twAbort _ _ _ => false
  | .twGrant _ _ _ _ _ => true
  | .twNumber _ _ _ _ _ _ _ _ _ => false
  | .twSent _ _ _ _ _ _ _ _ _ => false
  | .twJournal _ _ _ _ _ => true
  | .twMark _ _ _ _ _ _ => false
  | .twChunk _ _ _ _ _ _ => false
  | .twCommit _ _ _ _ _ _ => false
  | .pairWaitExpiry => true
  | .peerSilence => false
  | .witnessSettleEnd => true
  | .contestHoldEnd => true
  | .joinWaitExpiry => false
  | .twCmdOffer _ => false
  | .twCmdSnapshot _ => false
  | .snapshotStart => false
  | .snapshotSent => false
  | .switchStrobeT => false
  | .tokenPass => false
  | .instanceRelease _ _ => false
  | .instanceReleaseTimeout => false
  | .safeTokenRelease => false
  | .supplyReset _ _ => false
  | .dipStart _ => false
  | .dipEnd _ _ => false
  | .powerDegraded => false
  | .degradedClear _ => false
  | .supplyRangeChange _ _ => false
  | .vbatSense _ => false
  | .rtcLoad => false
  | .backupBrownOut => false
  | .vbatRise => false
  | .feedReverse _ _ => false
  | .feedUnblock _ _ => false
  | .feedLost _ _ => false
  | .feedRestored _ _ => false
  | .railTurnOn _ => false
  | .railTurnOff _ => false
  | .inrushEnd _ => false
  | .railSample _ _ _ => false
  | .settleWindowExpiry _ => false
  | .powerGood _ => false
  | .pgLost _ => false
  | .retryIntervalExpiry _ => false
  | .retryClearExpiry _ => false
  | .presenceLost _ => false
  | .railBounce _ => false
  | .railAbsent _ => false
  | .railInserted _ => false
  | .plClear _ => false
  | .faultReport _ _ _ _ _ => false
  | .faultClose => true
  | .ffRecord _ => false
  | .fqPop _ => false
  | .faultFrameRx _ => false
  | .escalationTimerExpiry => true
  | .escalationReset => false
  | .fcAck _ _ => false
  | .fcUnisolate _ _ => false
  | .fcSelfCheck => false
  | .safeEntry _ => false
  | .fcSafeEnter _ => false
  | .fcSafeExit _ => false
  | .safeExit => false
  | .fcInjectReport _ => false
  | .fcInjectPair _ => false
  | .fcInjectSafeFlag _ => false
  | .heatherWdt => false
  | .heatherEccUncorr _ => false
  | .heatherRestartDone => false
  | .sensorRead _ _ _ _ _ _ _ _ _ _ _ _ _ _ => false
  | .logFlashCopy _ => false
  | .logErase _ => false
  | .lcToFieldOpen _ => false
  | .lcToFieldSealed _ => false
  | .lcReturn _ _ => false
  | .updBegin _ => false
  | .updateEraseDone _ => false
  | .updateChunk _ _ => false
  | .updQuery _ => false
  | .updEnd _ => false
  | .updateCheckDone _ => false
  | .updActivate _ => false
  | .updConfirm _ => false
  | .updRevert _ => false
  | .updDiscard _ => false
  | .confirmLeftExpiry => false
  | .stSweepStep _ => false
  | .runStart _ => false
  | .runStop _ => false
  | .runBankDone _ _ _ => true
  | .enterConfig _ => false
  | .leaveConfig _ => true
  | .enterSelfTest _ => false
  | .leaveSelfTest _ => false
  | .setQuiescent _ => false
  | .clearQuiescent _ => false
  | .modeChangeAtStrobe => false
  | .powerOn => false
  | .resetN _ _ => false
  | .resetCmd _ => false
  | .resetRelease => false
  | .bootEnd _ => true
  | .autoStart => true
  | .cfgSave _ => false
  | .cfgSaveDone _ => false
  | .cfgErase _ => false
  | .jtagBypass => false
  | .jtagIdcode => false
  | .jtagSample _ _ => false
  | .jtagExtest => false
  | .jtagClamp => false
  | .jtagHighz => false
  | .canRxError _ _ => false
  | .dictRspRx _ => true
  | .heatherEccCorr _ => false
  | .lhpBclkReturn _ => false

/-! Frames: what a command may change at all. The parts of a core beside its registers; the event queue and the logs, which any
command may add to, are none of them. -/

/-- The parts of a core (one structure of State each). -/
inductive CorePart where
  | free
  | inForce
  | time
  | sched
  | node
  | dict
  | ring
  | fwd
  | sw
  | integ
  | fc
  | chans
  | cans
  | fcLatch
  | engs
  | disc
  | meas
  | map
  | fab
  | lhp
  | twin
  | pwr
  | mgmt
  | test
  | jtag
  deriving DecidableEq, Repr

/-- A part is the same in two cores. Of the numbers of frames, the switch's newcomers, the fault collector's records and the twin
link's lanes, which a report or a frame of the node adds to, only the rest counts. -/
def CorePart.same (c d : Core) : CorePart → Prop
  | .free => d.free = c.free
  | .inForce => d.inForce = c.inForce
  | .time => d.time = c.time
  | .sched => d.sched = c.sched
  | .node => d.node = c.node
  | .dict => d.dict = c.dict
  | .ring => d.ring = c.ring
  | .fwd =>
    let bare (x : FwdState) : FwdState :=
      { x with seqs := [], tracker := [] }
    bare d.fwd = bare c.fwd
  | .sw =>
    let bare (x : SwitchState) : SwitchState :=
      { x with seeking := [], nextId := 0, srcKeys := [] }
    bare d.sw = bare c.sw
  | .integ => d.integ = c.integ
  | .fc =>
    let bare (x : FaultState) : FaultState :=
      { x with arrivals := [], queue := [], lostBefore := false, first := none, active := [], slots := [], limited := [] }
    bare d.fc = bare c.fc
  | .chans => d.chans = c.chans
  | .cans => d.cans = c.cans
  | .fcLatch => d.fcLatch = c.fcLatch
  | .engs => d.engs = c.engs
  | .disc => d.disc = c.disc
  | .meas => d.meas = c.meas
  | .map => d.map = c.map
  | .fab => d.fab = c.fab
  | .lhp => d.lhp = c.lhp
  | .twin =>
    let bare (x : TwinState) : TwinState :=
      { x with lanes := [], occs := [], nextNumber := 0, waiting := [], granting := [] }
    bare d.twin = bare c.twin
  | .pwr => d.pwr = c.pwr
  | .mgmt => d.mgmt = c.mgmt
  | .test => d.test = c.test
  | .jtag => d.jtag = c.jtag

/-- Registers and OCTETS members: one, those of every instance, those of every instance and sub-instance, those of an access
code, or all. -/
inductive KeySet where
  | one (k : Nat)
  | each (f : Nat → Nat)
  | each2 (f : Nat → Nat → Nat)
  | acc (a : Acc)
  | all

/-- The member with key k belongs to the set. -/
def KeySet.has (k : Nat) : KeySet → Prop
  | .one j => k = j
  | .each f => ∃ n, k = f n
  | .each2 f => ∃ n q, k = f n q
  | .acc a => (findMember (k / 256) (k % 256) 3).1 = 0 ∧ (findMember (k / 256) (k % 256) 3).2.acc = a
  | .all => True

/-- The registers that events, logs, fault records and frames of the node may change beside what the command does. -/
def reportKeys : List Nat :=
  [Reg.EVQ_WR, Reg.EVQ_COUNT, Reg.EVQ_LOST, Reg.EVQ_MOVING, Reg.CNT_EV_LATE, Reg.LOG_RAM_WR, Reg.LOG_SEQ_NEXT, Reg.CNT_LOG_LOST,
    Reg.CNT_NOT_MEMBER, Reg.CNT_LONE_DROP, Reg.FQ_SEQ, Reg.FQ_COUNT, Reg.FQ_LOST, Reg.CNT_RECORDS, Reg.CNT_DUP, Reg.CNT_STALE,
    Reg.CNT_TRACK_EVICT, Reg.TRACK_USED, Reg.FW_CNT_HOLD_FLUSH 0, Reg.FW_CNT_HOLD_FLUSH 1, Reg.FW_CNT_HOLD_FLUSH 2,
    Reg.FW_CNT_HOLD_FLUSH 3]

/-- R220, R221: what a check of a frame counts and records, and what an armed injection counts down. -/
def checkKeys : List KeySet :=
  [.one Reg.CNT_INJECTED, .one Reg.INJ_ACTIVE, .one Reg.INJ_LEFT, .one Reg.LF_CHECKER, .one Reg.LF_INJECTED, .one
   Reg.LF_INSTANCE, .one Reg.LF_SEQUENCE, .one Reg.LF_SOURCE, .one Reg.LF_STREAM, .one Reg.LF_TICK]

/-- R638: MODE, its flags and its tick. -/
def modeKeys : List KeySet :=
  [.one Reg.MODE, .one Reg.MODE_FLAGS, .one Reg.MODE_TICK]

/-- R513: what the end of an offer records. -/
def offerKeys : List KeySet :=
  [.one Reg.CNT_SWITCH_FAIL, .one Reg.LS_CAUSE, .one Reg.LS_FROM, .one Reg.LS_RESULT, .one Reg.LS_TICK, .one Reg.SWITCH_STATE]

/-- R90: what the dictionary engine counts and records of a request. -/
def answerKeys : List KeySet :=
  [.one Reg.ERR_COMMAND, .one Reg.ERR_MEMBER, .one Reg.ERR_OBJECT, .one Reg.ERR_SOURCE, .one Reg.ERR_STATUS, .one
   Reg.ERR_TICK, .one Reg.JSEQ_LAST, .one Reg.STAT_BUSY, .one Reg.STAT_POSTED_ERR, .one Reg.STAT_REPLAY, .one Reg.STAT_REQ,
   .one Reg.STAT_RSP_ERR, .one Reg.STAT_RSP_OK, .one Reg.STAT_TOKEN_FAIL]

/-- R142: LAST_POISON. -/
def poisonKeys : List KeySet :=
  [.one Reg.LP_CAUSE, .one Reg.LP_PORT, .one Reg.LP_SEQUENCE, .one Reg.LP_SOURCE, .one Reg.LP_STREAM, .one Reg.LP_TICK]

/-- R301: what the close of a receive record counts. -/
def packetKeys : List KeySet :=
  [.each Reg.CH_CNT_LINE_ERR, .each Reg.CH_CNT_RX_CRC, .each Reg.CH_CNT_RX_PKT]

/-- R616: UPD_TRANSFER. -/
def transferKeys : List KeySet :=
  [.one Reg.UT_CHUNKS, .one Reg.UT_ID, .one Reg.UT_RECEIVED, .one Reg.UT_SOURCE]

/-- R551: what a trip records. -/
def tripKeys : List KeySet :=
  [.each Reg.LT_CAUSE, .each Reg.LT_MA, .each Reg.LT_TICK, .each Reg.RAIL_CNT_INSTANT, .each Reg.RAIL_CNT_TRIP, .each
   Reg.RAIL_FLAGS, .each Reg.RAIL_STATE]

/-- R629: what a result word changes. -/
def resultKeys : List KeySet :=
  [.one Reg.CNT_ST_ABORT, .one Reg.CNT_ST_FAIL, .one Reg.CNT_ST_PASS, .one Reg.RUN_RESULTS, .each Reg.ST_LANE, .one
   Reg.ST_LAST_FAIL]

/-- R225: what a word of a protected memory counts when it is read. -/
def eccKeys : List KeySet :=
  [.one Reg.CNT_ECC_CORR, .one Reg.CNT_ECC_UNCORR]

/-- R432: what an access that the node serves may change. -/
def accessKeys : List KeySet :=
  [.each Reg.CH_CNT_LINE_ERR, .each Reg.CH_CNT_RX_CRC, .each Reg.CH_CNT_RX_PKT, .each Reg.CH_CNT_TX_DROP, .one
   Reg.CNT_EGRESS_ENGINE, .one Reg.CNT_EGRESS_HOST, .one Reg.CNT_EGRESS_SERIAL, .one Reg.CNT_LOCK_RETRY, .one
   Reg.CNT_MEM_WRITE_FAIL, .one Reg.CNT_OPS, .one Reg.CNT_SAT, .one Reg.CNT_TRUNK_FAIL, .each Reg.CNT_WRITE_CLASH, .each
   Reg.ENG_CNT_RX_EMPTY, .each Reg.ENG_CNT_TX_REFUSED, .each Reg.ENG_FLAGS, .one Reg.LC_BANK, .one Reg.LC_TICK, .one
   Reg.LC_WORD, .each Reg.TRUNK_CNT_DROP_CLASS, .each Reg.TRUNK_CNT_DROP_FULL, .each Reg.TRUNK_QUEUED, .one
   Reg.TRUNK_QUEUED_C3, .one Reg.TRUNK_QUEUED_C4, .one Reg.TRUNK_QUEUED_C6, .each2 usedKey]

/-- R453, R454: what a mover may change beside. -/
def moverKeys : List KeySet :=
  [.one Reg.FAB_TAGS_USED, .one Reg.FF_ADDRESS, .one Reg.FF_CAUSE, .one Reg.FF_MASTER, .one Reg.FF_STATUS, .one Reg.FF_TICK,
   .each Reg.MV_CAUSE, .each Reg.MV_CLASS, .each Reg.MV_CNT_MV_BYTES, .each Reg.MV_CNT_MV_DESC, .each Reg.MV_CNT_MV_PARTIAL,
   .each Reg.MV_CNT_MV_PREEMPT, .each Reg.MV_CNT_MV_SUSPEND, .each Reg.MV_DESC, .each Reg.MV_MODE, .each2 Reg.Q_HEAD]

/-- R437, R481: what an access that goes on to another node or device may change beside. -/
def remoteKeys : List KeySet :=
  [.one Reg.CNT_WIN_MISS, .one Reg.LHP_STATE, .each Reg.WIN_CNT_PF_SUPPRESSED, .each Reg.WIN_CNT_WIN_ACC, .each
   Reg.WIN_CNT_WIN_FAULT, .each Reg.WIN_FLAGS]

/-- The parts that the command may change. The commands with every part run others inside them, or reset the node. -/
def touched : Instr → List CorePart
  | .registerWrite _ _ _ _ => [.free, .inForce, .time, .sched, .node, .dict, .ring, .fwd, .sw, .integ, .fc, .chans, .cans,
    .fcLatch, .engs, .disc, .meas, .map, .fab, .lhp, .twin, .pwr, .mgmt, .test, .jtag]
  | .dictReqEnqueue _ => [.dict, .sw, .integ]
  | .dictRead => [.dict, .sw, .integ, .fc]
  | .dictWrite => [.free, .inForce, .time, .sched, .node, .dict, .ring, .fwd, .sw, .integ, .fc, .chans, .cans, .fcLatch,
    .engs, .disc, .meas, .map, .fab, .lhp, .twin, .pwr, .mgmt, .test, .jtag]
  | .dictDescribe => [.dict, .sw, .integ]
  | .dictOpen => [.free, .dict]
  | .dictClose => [.dict, .sw, .integ]
  | .segRead => [.dict, .sw, .integ, .fc]
  | .segWrite => [.free, .inForce, .time, .sched, .node, .dict, .ring, .fwd, .sw, .integ, .fc, .chans, .cans, .fcLatch,
    .engs, .disc, .meas, .map, .fab, .lhp, .twin, .pwr, .mgmt, .test, .jtag]
  | .segAbort => [.dict, .sw, .integ]
  | .rwtEffect => [.time, .sched, .dict, .sw, .integ, .pwr]
  | .sessionIdleClose => [.time, .dict, .sw, .integ]
  | .lockoutEnd => [.free, .time, .dict, .ring, .sw, .integ, .chans, .cans, .engs, .map, .fab, .lhp]
  | .segTimeoutAbandon => [.time, .dict, .sw, .integ]
  | .tickArmPoint => [.time, .sched]
  | .tickStrobe _ _ _ => [.free, .inForce, .time, .sched, .node, .dict, .ring, .fwd, .sw, .integ, .fc, .chans, .cans,
    .fcLatch, .engs, .disc, .meas, .map, .fab, .lhp, .twin, .pwr, .mgmt, .test, .jtag]
  | .postRegisterTake _ => [.sched, .sw, .integ, .cans]
  | .portModulePresent _ _ => [.time, .node, .ring, .sw, .integ]
  | .portModuleAbsent _ => [.time, .node, .ring, .sw, .integ]
  | .portLockGained _ => [.ring]
  | .portLockLost _ _ => [.time, .node, .ring, .fwd, .sw, .integ, .twin]
  | .linkQualExpiry _ => [.time, .ring]
  | .spliceReqSend _ => [.time, .ring, .sw, .integ]
  | .spliceReqRx _ _ => [.ring, .sw, .integ]
  | .spliceAckRx _ _ => [.time, .node, .ring, .sw, .integ, .disc, .twin]
  | .unwrapHoldExpiry _ => [.time, .ring, .sw, .integ]
  | .unwrapComplete _ => [.ring]
  | .linkFailureDetect _ _ => [.ring, .fwd, .sw, .integ, .twin]
  | .linkFailureRecover _ => [.ring, .fwd, .sw]
  | .wrapQualExpiry _ => [.time, .node, .ring, .sw, .integ]
  | .wrapComplete _ => [.ring, .sw, .integ]
  | .linkWaitExpiry => [.time, .node, .ring, .sw, .integ]
  | .sfpDiagPoll _ _ _ => [.time, .ring, .sw, .integ]
  | .censusStart _ => [.dict, .ring, .sw, .integ]
  | .censusCollectRx _ _ => [.ring, .sw, .integ]
  | .censusCloseReturn _ _ => [.ring, .sw, .integ]
  | .censusFinalRx _ _ => [.node, .ring, .fwd, .sw, .integ]
  | .censusApply _ => [.time, .node, .ring, .fwd, .sw, .integ]
  | .censusTimeout _ => [.time, .ring, .sw, .integ]
  | .censusFinalTimeout _ => [.time, .ring, .sw, .integ]
  | .trunkFrameEnqueue _ _ => [.ring, .sw, .integ]
  | .trunkSlot _ => [.ring, .sw, .integ]
  | .trunkBlockRx _ _ => [.ring, .fwd, .sw, .integ]
  | .trunkRtoExpiry _ _ => [.time, .ring]
  | .trunkKeepalive _ _ => [.time, .ring]
  | .trunkDeadExpiry _ => [.time, .ring]
  | .frameRxHeader _ _ => [.fwd, .sw, .integ]
  | .frameRxEnd _ _ _ => [.ring, .fwd, .sw, .integ]
  | .cutThroughUnderrun _ => [.ring, .sw, .integ]
  | .frameOriginate _ _ => [.sw]
  | .trackAgeExpiry => [.time, .fwd]
  | .linkHoldExpiry _ => [.time, .fwd, .sw]
  | .holdResume _ => [.fwd, .sw]
  | .switchSlotSchedule => [.time, .ring, .sw, .integ]
  | .frameAdmission => [.free, .ring, .sw, .integ, .chans, .cans, .engs, .map, .fab, .lhp]
  | .heldFrameAdmit => [.free, .ring, .sw, .integ, .chans, .cans, .engs, .map, .fab, .lhp]
  | .localWaitExpiry => [.free, .time, .ring, .sw, .integ, .chans, .cans, .engs, .map, .fab, .lhp]
  | .fairWindowEnd => [.time, .sw]
  | .bufAccountCheck => [.time, .sw]
  | .bufLimitWrite _ _ _ _ => [.dict, .sw, .integ]
  | .injArm _ => [.dict, .sw, .integ]
  | .injCancel _ => [.dict, .sw, .integ]
  | .timeSyncSend => [.time, .ring, .sw, .integ]
  | .timeSyncRx _ _ _ _ => [.time, .ring, .fwd, .sw, .integ, .meas]
  | .syncLossExpiry => [.time]
  | .timeSet _ _ => [.time, .dict, .sw, .integ, .meas]
  | .peerDelaySend _ => [.time, .ring, .sw]
  | .peerDelayReqRx _ _ _ => [.ring, .sw, .integ]
  | .peerDelayRspRx _ _ => [.time, .sw, .integ]
  | .peerDelayTimeout _ => [.time]
  | .ppsEdge => [.time, .sw, .integ, .meas]
  | .ppsLossTimeout => [.time]
  | .ppsOutRise => [.time]
  | .ppsOutFall => [.time]
  | .tickPeriodChange => [.free, .inForce, .time, .sched, .node, .dict, .ring, .fwd, .sw, .integ, .fc, .chans, .cans,
    .fcLatch, .engs, .disc, .meas, .map, .fab, .lhp, .twin, .pwr, .mgmt, .test, .jtag]
  | .eventRecordArrive _ _ _ _ _ _ => []
  | .eventCloseExpiry => [.free, .inForce, .time, .sched, .node, .dict, .ring, .fwd, .sw, .integ, .fc, .chans, .cans,
    .fcLatch, .engs, .disc, .meas, .map, .fab, .lhp, .twin, .pwr, .mgmt, .test, .jtag]
  | .evqMoveComplete => [.sw, .integ]
  | .evqRdWrite _ _ => [.dict, .sw, .integ]
  | .schedItemRx _ _ => [.sched, .sw, .integ]
  | .schedPost _ _ => [.sched, .dict, .sw, .integ]
  | .schedCancel _ => [.sched, .dict, .sw, .integ]
  | .charRx _ _ _ _ => [.sw, .integ, .chans]
  | .chBreak _ => [.sw, .integ, .chans]
  | .idleGapExpiry _ => [.time, .sw, .integ, .chans]
  | .modbusSilenceExpiry _ => [.time, .sw, .integ, .chans]
  | .flushAgeExpiry _ => [.time, .sw, .integ, .chans]
  | .chPtrMismatch _ _ => [.chans]
  | .chReset _ _ => [.dict, .sw, .integ, .chans]
  | .scannerRxVisit _ => [.ring, .fwd, .sw, .integ, .chans]
  | .scannerTxVisit _ => [.sw, .integ, .chans]
  | .chTxItemArrive _ _ => [.ring, .sw, .integ, .chans]
  | .chTxRecordStart _ _ => [.time, .sw, .integ, .chans]
  | .chTxRecordEnd _ => [.time, .sw, .integ, .chans]
  | .spiTransactionDone _ _ => [.time, .sw, .integ, .chans]
  | .i2cTransactionDone _ _ _ _ => [.sw, .integ, .chans]
  | .i2cArbRetry _ => [.time, .chans]
  | .i2cTargetWrite _ _ => [.sw, .integ, .chans]
  | .i2cTargetRead _ _ => [.sw, .integ, .chans]
  | .busStuck _ _ => [.chans]
  | .busStuckRetry _ _ => [.time, .chans]
  | .smbalert _ => []
  | .chRxPop _ _ => [.sw, .integ, .chans]
  | .rxRelease _ _ => [.sw, .integ, .chans]
  | .txWrite _ _ => [.ring, .sw, .integ, .chans]
  | .rxSilent _ => [.time, .chans]
  | .canTxPost _ _ _ => [.dict, .sw, .integ, .cans]
  | .canTxItemArrive _ _ => [.sw, .integ, .cans]
  | .canFrameSelect _ => [.time, .sw, .integ, .cans]
  | .canSof _ => [.sw, .integ, .cans]
  | .canTxSent _ _ => [.cans]
  | .canArbLost _ => [.cans]
  | .canTxError _ _ => [.sw, .cans]
  | .canAbort _ _ _ => [.free, .dict, .sw, .integ, .cans]
  | .canAbortAll _ _ => [.free, .dict, .sw, .integ, .cans]
  | .canRecover _ _ => [.free, .dict, .sw, .integ, .cans]
  | .canRecovered _ => [.cans]
  | .canFrameRxComplete _ _ _ _ _ => [.free, .sw, .integ, .cans]
  | .rxRdWrite _ _ _ => [.dict, .sw, .integ]
  | .engStart _ _ => [.free, .dict, .sw, .integ, .chans, .engs]
  | .engStop _ _ => [.free, .dict, .sw, .integ, .chans, .engs]
  | .stopAtWrap _ _ => [.free, .dict, .sw, .integ, .chans, .engs]
  | .engFlush _ _ => [.free, .dict, .sw, .integ, .chans, .engs]
  | .shiftOut _ => [.time, .sw, .integ, .chans, .engs]
  | .shiftIn _ _ => [.time, .sw, .integ, .chans, .engs]
  | .engDelay _ => [.time, .sw, .integ, .chans, .engs]
  | .engWait _ _ _ => [.time, .sw, .integ, .chans, .engs]
  | .engSet _ => [.time, .sw, .integ, .chans, .engs]
  | .engMove _ => [.time, .sw, .integ, .chans, .engs]
  | .engCmp _ _ => [.time, .sw, .integ, .chans, .engs]
  | .engEvent _ => [.time, .sw, .integ, .chans, .engs]
  | .engStallEnd _ _ _ => [.time, .sw, .integ, .chans, .engs]
  | .txData _ _ => [.sw, .integ, .engs]
  | .engRxPop _ => [.engs]
  | .rxPeek _ => [.engs]
  | .engProgWrite _ _ _ => [.dict, .sw, .integ, .engs]
  | .engWrapWrite _ _ _ => [.dict, .sw, .integ, .engs]
  | .engDivWrite _ _ _ => [.dict, .sw, .integ, .engs]
  | .engProgForce _ _ _ => [.free, .dict, .sw, .integ, .engs]
  | .discOutputItem _ _ => [.sched, .sw, .integ]
  | .discSafeWrite _ _ _ => [.dict, .sw, .integ, .disc]
  | .discVioSense _ _ => [.disc]
  | .measSampleDeliver _ _ => [.time, .sw, .integ, .meas]
  | .measOpenEnter _ => [.meas]
  | .measOpenLeave _ => [.meas]
  | .mapperInputItem _ => [.sw, .integ, .map]
  | .mapperRelease => [.sw, .integ, .map, .twin]
  | .routeTableWrite _ _ => [.ring, .sw, .integ, .chans, .cans, .engs, .map, .fab]
  | .mappingEntryWrite _ _ => [.ring, .sw, .integ, .chans, .cans, .engs, .map, .fab]
  | .rulePass => [.time, .disc, .map]
  | .ruleReset _ _ => [.dict, .sw, .integ, .map]
  | .mapLoadWindowEnd => [.time, .sw, .integ, .map]
  | .fabricRead _ => [.free, .ring, .sw, .integ, .chans, .cans, .engs, .map, .fab]
  | .fabricWrite _ _ => [.free, .ring, .sw, .integ, .chans, .cans, .engs, .map, .fab]
  | .writePosted _ _ => [.free, .ring, .sw, .integ, .chans, .cans, .engs, .map, .fab]
  | .c7RuntDiscard _ => [.sw]
  | .readData _ => [.free, .ring, .sw, .integ, .chans, .cans, .engs, .map, .fab, .lhp]
  | .writeDone _ => [.free, .ring, .sw, .integ, .chans, .cans, .engs, .map, .fab, .lhp]
  | .fabricErrorRx _ => [.free, .ring, .sw, .integ, .chans, .cans, .engs, .map, .fab, .lhp]
  | .fabTimeoutExpiry => [.free, .time, .ring, .sw, .integ, .chans, .cans, .engs, .map, .fab, .lhp]
  | .windowAccess _ _ _ _ => [.free, .ring, .sw, .integ, .chans, .cans, .engs, .map, .fab]
  | .winCtrlWrite _ _ _ => [.dict, .sw, .integ, .fab]
  | .foTokenWrite _ _ => [.dict, .sw, .integ, .fab]
  | .fabOpenAnswer _ => [.free, .ring, .sw, .integ, .chans, .cans, .engs, .map, .fab]
  | .qTailWrite _ _ _ _ => [.free, .dict, .ring, .sw, .integ, .chans, .cans, .engs, .map, .fab]
  | .mvDescStart _ => [.free, .ring, .sw, .integ, .chans, .cans, .engs, .map, .fab]
  | .mvPreempt _ => [.free, .ring, .sw, .integ, .chans, .cans, .engs, .map, .fab]
  | .mvDescEnd _ => [.sw, .integ, .fab]
  | .mvEnable _ _ => [.free, .dict, .ring, .sw, .integ, .chans, .cans, .engs, .map, .fab]
  | .mvDisable _ _ => [.free, .dict, .ring, .sw, .integ, .chans, .cans, .engs, .map, .fab]
  | .mvResume _ _ => [.free, .dict, .ring, .sw, .integ, .chans, .cans, .engs, .map, .fab]
  | .mvSkip _ _ => [.free, .dict, .ring, .sw, .integ, .chans, .cans, .engs, .map, .fab]
  | .mvAbort _ _ => [.free, .dict, .ring, .sw, .integ, .chans, .cans, .engs, .map, .fab]
  | .bankOwnerWrite _ _ _ => [.dict, .sw, .integ, .fab]
  | .handoverComplete => [.free, .inForce, .time, .sched, .node, .dict, .ring, .fwd, .sw, .integ, .fc, .chans, .cans,
    .fcLatch, .engs, .disc, .meas, .map, .fab, .lhp, .twin, .pwr, .mgmt, .test, .jtag]
  | .handoverRefused => [.free, .inForce, .time, .sched, .node, .dict, .ring, .fwd, .sw, .integ, .fc, .chans, .cans,
    .fcLatch, .engs, .disc, .meas, .map, .fab, .lhp, .twin, .pwr, .mgmt, .test, .jtag]
  | .copyInDone _ => [.time, .sw, .integ, .test]
  | .copyInAbandon _ => [.time, .sw, .integ, .fab, .test]
  | .aliasedTestDone _ _ _ => [.time, .sw, .integ, .test]
  | .copyBackDone _ => [.time, .sw, .integ, .fab, .test]
  | .hostReadCycle _ _ => [.free, .ring, .sw, .integ, .chans, .cans, .engs, .map, .fab, .lhp]
  | .hostWriteCycle _ _ => [.free, .ring, .sw, .integ, .chans, .cans, .engs, .map, .fab, .lhp]
  | .lhpNoClock => [.lhp]
  | .hostRetryDeadlock => [.time, .lhp]
  | .reissueExpiry => [.time, .lhp]
  | .lockSequenceBegin => [.lhp]
  | .lockSequenceEnd => [.free, .ring, .sw, .integ, .chans, .cans, .engs, .map, .fab, .lhp]
  | .lockBroken => [.free, .time, .ring, .sw, .integ, .chans, .cans, .engs, .map, .fab, .lhp]
  | .xqTailWrite _ _ => [.dict, .sw, .integ, .lhp]
  | .deviceMasterCycle _ _ => [.sw, .integ, .lhp]
  | .deviceRetryReissue _ _ => [.time, .sw, .integ, .lhp]
  | .sidebandEdge _ _ => [.fc]
  | .heartbeatToggle => [.time, .twin]
  | .statusSend => [.time, .twin]
  | .heartbeatSign => [.node, .ring, .fwd, .sw, .integ, .disc, .twin]
  | .hbWireBroken => [.twin]
  | .twLinkRetx _ => [.time, .twin]
  | .twLinkDown => [.time, .fwd, .sw, .integ, .disc, .twin]
  | .twStatus _ _ _ _ => [.node, .ring, .fwd, .sw, .integ, .disc, .twin]
  | .twImage _ _ _ _ => [.fwd, .sw, .integ, .disc, .twin]
  | .twOffer _ _ _ _ => [.free, .inForce, .time, .sched, .node, .dict, .ring, .fwd, .sw, .integ, .fc, .chans, .cans,
    .fcLatch, .engs, .disc, .meas, .map, .fab, .lhp, .twin, .pwr, .mgmt, .test, .jtag]
  | .twAccept _ _ _ _ => [.fwd, .sw, .integ, .twin]
  | .twReleased _ _ _ _ _ _ => [.fwd, .sw, .integ, .twin]
  | .twAbort _ _ _ => [.fwd, .sw, .integ, .disc, .twin]
  | .twGrant _ _ _ _ _ => [.dict, .fwd, .sw, .integ, .twin]
  | .twNumber _ _ _ _ _ _ _ _ _ => [.fwd, .sw, .integ, .twin]
  | .twSent _ _ _ _ _ _ _ _ _ => [.sched, .fwd, .sw, .integ, .chans, .cans, .twin]
  | .twJournal _ _ _ _ _ => [.free, .inForce, .time, .sched, .node, .dict, .ring, .fwd, .sw, .integ, .fc, .chans, .cans,
    .fcLatch, .engs, .disc, .meas, .map, .fab, .lhp, .twin, .pwr, .mgmt, .test, .jtag]
  | .twMark _ _ _ _ _ _ => [.fwd, .sw, .integ, .twin]
  | .twChunk _ _ _ _ _ _ => [.fwd, .sw, .integ, .twin]
  | .twCommit _ _ _ _ _ _ => [.fwd, .sw, .integ, .twin]
  | .pairWaitExpiry => [.time, .sw, .integ, .twin]
  | .peerSilence => [.time, .disc, .twin]
  | .witnessSettleEnd => [.free, .inForce, .time, .sched, .node, .dict, .ring, .fwd, .sw, .integ, .fc, .chans, .cans,
    .fcLatch, .engs, .disc, .meas, .map, .fab, .lhp, .twin, .pwr, .mgmt, .test, .jtag]
  | .contestHoldEnd => [.free, .inForce, .time, .sched, .node, .dict, .ring, .fwd, .sw, .integ, .fc, .chans, .cans,
    .fcLatch, .engs, .disc, .meas, .map, .fab, .lhp, .twin, .pwr, .mgmt, .test, .jtag]
  | .joinWaitExpiry => [.time, .node, .ring, .sw, .integ, .disc, .twin]
  | .twCmdOffer _ => [.dict, .sw, .integ, .twin]
  | .twCmdSnapshot _ => [.dict, .sw, .integ, .twin]
  | .snapshotStart => [.time, .twin]
  | .snapshotSent => [.twin]
  | .switchStrobeT => [.time, .sw, .disc, .twin]
  | .tokenPass => [.free, .time, .sched, .node, .dict, .ring, .fwd, .sw, .integ, .fc, .chans, .cans, .fcLatch, .engs, .disc,
    .meas, .twin, .pwr, .mgmt]
  | .instanceRelease _ _ => [.time, .cans, .twin]
  | .instanceReleaseTimeout => [.time, .chans, .cans, .twin]
  | .safeTokenRelease => [.time, .node, .ring, .fwd, .sw, .integ, .disc, .twin]
  | .supplyReset _ _ => [.free, .inForce, .time, .sched, .node, .dict, .ring, .fwd, .sw, .integ, .fc, .chans, .cans,
    .fcLatch, .engs, .disc, .meas, .map, .fab, .lhp, .twin, .pwr, .mgmt, .test, .jtag]
  | .dipStart _ => [.pwr]
  | .dipEnd _ _ => [.free, .time, .node, .sw, .integ, .twin, .pwr, .mgmt]
  | .powerDegraded => [.free, .time, .sw, .integ, .twin, .pwr]
  | .degradedClear _ => [.time, .sw, .integ, .pwr]
  | .supplyRangeChange _ _ => [.time, .node, .ring, .fwd, .sw, .integ, .disc, .twin]
  | .vbatSense _ => [.sw, .integ, .pwr]
  | .rtcLoad => [.time, .pwr]
  | .backupBrownOut => [.node, .sw, .integ, .pwr]
  | .vbatRise => [.node, .sw, .integ]
  | .feedReverse _ _ => [.sw, .integ, .pwr]
  | .feedUnblock _ _ => [.pwr]
  | .feedLost _ _ => [.sw, .integ, .pwr]
  | .feedRestored _ _ => [.pwr]
  | .railTurnOn _ => [.pwr]
  | .railTurnOff _ => [.pwr]
  | .inrushEnd _ => [.time]
  | .railSample _ _ _ => [.free, .time, .sw, .integ, .fc, .chans, .cans, .engs, .disc, .fab, .twin, .pwr]
  | .settleWindowExpiry _ => [.free, .time, .sw, .integ, .fc, .chans, .cans, .engs, .disc, .fab, .twin, .pwr]
  | .powerGood _ => [.pwr]
  | .pgLost _ => [.free, .sw, .integ, .fc, .chans, .cans, .engs, .disc, .fab, .twin, .pwr]
  | .retryIntervalExpiry _ => [.time, .pwr]
  | .retryClearExpiry _ => [.time, .sw, .integ]
  | .presenceLost _ => [.pwr]
  | .railBounce _ => [.pwr]
  | .railAbsent _ => [.time, .pwr]
  | .railInserted _ => [.pwr]
  | .plClear _ => [.dict, .sw, .integ]
  | .faultReport _ _ _ _ _ => []
  | .faultClose => [.free, .inForce, .time, .sched, .node, .dict, .ring, .fwd, .sw, .integ, .fc, .chans, .cans, .fcLatch,
    .engs, .disc, .meas, .map, .fab, .lhp, .twin, .pwr, .mgmt, .test, .jtag]
  | .ffRecord _ => [.dict, .sw, .integ, .fc]
  | .fqPop _ => [.dict, .sw, .integ, .fc]
  | .faultFrameRx _ => [.node, .sw, .integ]
  | .escalationTimerExpiry => [.free, .inForce, .time, .sched, .node, .dict, .ring, .fwd, .sw, .integ, .fc, .chans, .cans,
    .fcLatch, .engs, .disc, .meas, .map, .fab, .lhp, .twin, .pwr, .mgmt, .test, .jtag]
  | .escalationReset => [.free, .inForce, .time, .sched, .node, .dict, .ring, .fwd, .sw, .integ, .fc, .chans, .cans,
    .fcLatch, .engs, .disc, .meas, .map, .fab, .lhp, .twin, .pwr, .mgmt, .test, .jtag]
  | .fcAck _ _ => [.dict, .sw, .integ, .fc]
  | .fcUnisolate _ _ => [.dict, .sw, .integ, .fc]
  | .fcSelfCheck => [.free, .sw, .integ, .fc, .chans, .cans, .engs, .disc, .twin]
  | .safeEntry _ => [.free, .sw, .integ, .fc, .chans, .cans, .engs, .disc, .twin]
  | .fcSafeEnter _ => [.free, .dict, .sw, .integ, .fc, .chans, .cans, .engs, .disc, .twin]
  | .fcSafeExit _ => [.free, .dict, .sw, .integ, .fc, .chans, .cans, .engs, .disc, .twin]
  | .safeExit => [.time, .sched, .sw, .integ, .fc, .pwr]
  | .fcInjectReport _ => [.free, .dict, .sw, .integ, .fc, .chans, .cans, .engs, .disc, .twin]
  | .fcInjectPair _ => [.free, .dict, .sw, .integ, .fc, .chans, .cans, .engs, .disc, .twin]
  | .fcInjectSafeFlag _ => [.free, .dict, .sw, .integ, .fc, .chans, .cans, .engs, .disc, .twin]
  | .heatherWdt => [.node, .sw, .integ, .mgmt]
  | .heatherEccUncorr _ => [.node, .sw, .integ, .mgmt]
  | .heatherRestartDone => [.free, .node, .sw, .integ, .mgmt]
  | .sensorRead _ _ _ _ _ _ _ _ _ _ _ _ _ _ => [.time, .mgmt]
  | .logFlashCopy _ => [.time, .sw, .integ]
  | .logErase _ => [.free, .dict, .sw, .integ]
  | .lcToFieldOpen _ => [.dict, .sw, .integ]
  | .lcToFieldSealed _ => [.dict, .sw, .integ]
  | .lcReturn _ _ => [.node, .dict, .sw, .integ]
  | .updBegin _ => [.node, .sw, .integ, .twin, .mgmt]
  | .updateEraseDone _ => [.sw, .integ, .mgmt]
  | .updateChunk _ _ => [.sw, .integ, .mgmt]
  | .updQuery _ => [.sw, .integ]
  | .updEnd _ => [.sw, .integ, .mgmt]
  | .updateCheckDone _ => [.sw, .integ]
  | .updActivate _ => [.node, .dict, .sw, .integ, .twin, .mgmt]
  | .updConfirm _ => [.node, .dict, .sw, .integ, .mgmt]
  | .updRevert _ => [.node, .dict, .sw, .integ, .mgmt]
  | .updDiscard _ => [.node, .dict, .sw, .integ, .twin, .mgmt]
  | .confirmLeftExpiry => [.time, .node, .sw, .integ, .mgmt]
  | .stSweepStep _ => [.time, .sw, .integ, .fab, .test]
  | .runStart _ => [.dict, .sw, .integ, .test]
  | .runStop _ => [.dict, .sw, .integ, .test]
  | .runBankDone _ _ _ => [.time, .sw, .integ, .test]
  | .enterConfig _ => [.node, .dict, .sw, .integ]
  | .leaveConfig _ => [.free, .inForce, .time, .sched, .node, .dict, .ring, .fwd, .sw, .integ, .fc, .chans, .cans, .fcLatch,
    .engs, .disc, .meas, .map, .fab, .lhp, .twin, .pwr, .mgmt, .test, .jtag]
  | .enterSelfTest _ => [.node, .dict, .sw, .integ]
  | .leaveSelfTest _ => [.node, .dict, .sw, .integ]
  | .setQuiescent _ => [.node, .dict, .sw, .integ]
  | .clearQuiescent _ => [.node, .dict, .sw, .integ]
  | .modeChangeAtStrobe => [.free, .time, .node, .ring, .fwd, .sw, .integ, .chans, .cans, .engs, .disc, .meas, .twin, .mgmt]
  | .powerOn => [.free, .inForce, .time, .sched, .node, .dict, .ring, .fwd, .sw, .integ, .fc, .chans, .cans, .fcLatch,
    .engs, .disc, .meas, .map, .fab, .lhp, .twin, .pwr, .mgmt, .test, .jtag]
  | .resetN _ _ => [.free, .inForce, .time, .sched, .node, .dict, .ring, .fwd, .sw, .integ, .fc, .chans, .cans, .fcLatch,
    .engs, .disc, .meas, .map, .fab, .lhp, .twin, .pwr, .mgmt, .test, .jtag]
  | .resetCmd _ => [.free, .inForce, .time, .sched, .node, .dict, .ring, .fwd, .sw, .integ, .fc, .chans, .cans, .fcLatch,
    .engs, .disc, .meas, .map, .fab, .lhp, .twin, .pwr, .mgmt, .test, .jtag]
  | .resetRelease => [.time, .node, .sw, .integ, .jtag]
  | .bootEnd _ => [.free, .inForce, .time, .sched, .node, .dict, .ring, .fwd, .sw, .integ, .fc, .chans, .cans, .fcLatch,
    .engs, .disc, .meas, .map, .fab, .lhp, .twin, .pwr, .mgmt, .test, .jtag]
  | .autoStart => [.free, .inForce, .time, .sched, .node, .dict, .ring, .fwd, .sw, .integ, .fc, .chans, .cans, .fcLatch,
    .engs, .disc, .meas, .map, .fab, .lhp, .twin, .pwr, .mgmt, .test, .jtag]
  | .cfgSave _ => [.node, .dict, .sw, .integ]
  | .cfgSaveDone _ => [.node]
  | .cfgErase _ => [.node, .dict, .sw, .integ]
  | .jtagBypass => [.jtag]
  | .jtagIdcode => [.jtag]
  | .jtagSample _ _ => [.jtag]
  | .jtagExtest => [.jtag]
  | .jtagClamp => [.jtag]
  | .jtagHighz => [.jtag]
  | .canRxError _ _ => [.cans]
  | .dictRspRx _ => [.free, .ring, .sw, .integ, .chans, .cans, .engs, .map, .fab, .lhp]
  | .heatherEccCorr _ => []
  | .lhpBclkReturn _ => [.lhp]

/-- The registers and OCTETS members that the command may change, beside those of `reportKeys`. -/
def written : Instr → List KeySet
  | .registerWrite _ _ _ _ => [.all]
  | .dictReqEnqueue _ => checkKeys ++ eccKeys ++ [.one Reg.CNT_LOCAL_FAIL, .one Reg.ERR_COMMAND, .one Reg.ERR_MEMBER, .one
    Reg.ERR_OBJECT, .one Reg.ERR_SOURCE, .one Reg.ERR_STATUS, .one Reg.ERR_TICK, .one Reg.JSEQ_LAST, .one Reg.STAT_BUSY, .one
    Reg.STAT_POSTED_ERR, .one Reg.STAT_REQ, .one Reg.STAT_RSP_ERR, .one Reg.STAT_RSP_OK, .one Reg.STAT_TOKEN_FAIL, .each2
    usedKey]
  | .dictRead => .acc .rc :: checkKeys ++ answerKeys ++ eccKeys ++ [.each2 usedKey]
  | .dictWrite => [.all]
  | .dictDescribe => checkKeys ++ answerKeys ++ eccKeys ++ [.each2 usedKey]
  | .dictOpen => checkKeys ++ answerKeys ++ eccKeys ++ [.each2 usedKey]
  | .dictClose => checkKeys ++ answerKeys ++ eccKeys ++ [.each Reg.BANK_OWNER, .one Reg.CNT_HANDOVER, .each2 usedKey]
  | .segRead => .acc .rc :: checkKeys ++ answerKeys ++ eccKeys ++ [.each Reg.BANK_OWNER, .one Reg.CNT_HANDOVER, .each2
    usedKey]
  | .segWrite => [.all]
  | .segAbort => checkKeys ++ answerKeys ++ eccKeys ++ [.each Reg.BANK_OWNER, .one Reg.CNT_HANDOVER, .each2 usedKey]
  | .rwtEffect => checkKeys ++ eccKeys ++ [.each Reg.DISC_OUT, .one Reg.ERR_COMMAND, .one Reg.ERR_MEMBER, .one
    Reg.ERR_OBJECT, .one Reg.ERR_SOURCE, .one Reg.ERR_STATUS, .one Reg.ERR_TICK, .each Reg.RAIL_CMD, .each2 usedKey]
  | .sessionIdleClose => checkKeys ++ eccKeys ++ [.each Reg.BANK_OWNER, .one Reg.CNT_HANDOVER, .each2 usedKey]
  | .lockoutEnd => checkKeys ++ packetKeys ++ eccKeys ++ moverKeys ++ remoteKeys ++ [.each Reg.CH_CNT_TX_DROP, .one
    Reg.CNT_EGRESS_ENGINE, .one Reg.CNT_EGRESS_HOST, .one Reg.CNT_EGRESS_SERIAL, .one Reg.CNT_LOCK_RETRY, .one
    Reg.CNT_MEM_WRITE_FAIL, .one Reg.CNT_OPS, .one Reg.CNT_SAT, .one Reg.CNT_TRUNK_FAIL, .each Reg.CNT_WRITE_CLASH, .each
    Reg.ENG_CNT_RX_EMPTY, .each Reg.ENG_CNT_TX_REFUSED, .each Reg.ENG_FLAGS, .one Reg.LC_BANK, .one Reg.LC_TICK, .one
    Reg.LC_WORD, .each Reg.LHP_SEM, .one Reg.LHP_SEM_HELD, .each Reg.TRUNK_CNT_DROP_CLASS, .each Reg.TRUNK_CNT_DROP_FULL, .each
    Reg.TRUNK_QUEUED, .one Reg.TRUNK_QUEUED_C3, .one Reg.TRUNK_QUEUED_C4, .one Reg.TRUNK_QUEUED_C6, .each2 usedKey]
  | .segTimeoutAbandon => checkKeys ++ eccKeys ++ [.each Reg.BANK_OWNER, .one Reg.CNT_HANDOVER, .one Reg.STAT_SEG_ABANDON,
    .each2 usedKey]
  | .tickArmPoint => [.one Reg.SCHED_PENDING]
  | .tickStrobe _ _ _ => [.all]
  | .postRegisterTake _ => checkKeys ++ eccKeys ++ [.each Reg.CAN_CNT_TX_DROP, .each Reg.CAN_CNT_TX_REPLACED, .each
    Reg.CAN_TXQ, .one Reg.CNT_EGRESS_CAN, .one Reg.CNT_EGRESS_HOST, .one Reg.CNT_SCHED_FULL, .one Reg.CNT_SCHED_LATE, .one
    Reg.CNT_SCHED_RANGE, .one Reg.SCHED_PENDING, .each2 usedKey]
  | .portModulePresent _ _ => checkKeys ++ modeKeys ++ eccKeys ++ [.one Reg.CENSUS_STATE, .one Reg.CNT_LONE, .each
    Reg.PD_DELAY_VALID, .one Reg.RING_STATE, .each Reg.RP_CNT_WRAP, .each Reg.RP_SFP_ID, .each Reg.RP_SFP_STATUS, .each
    Reg.RP_STATE, .each2 usedKey]
  | .portModuleAbsent _ => checkKeys ++ modeKeys ++ eccKeys ++ [.one Reg.CENSUS_STATE, .one Reg.CNT_LONE, .each
    Reg.PD_DELAY_VALID, .one Reg.RING_STATE, .each Reg.RP_CNT_WRAP, .each Reg.RP_SFP_DIAG, .each Reg.RP_SFP_ID, .each
    Reg.RP_STATE, .each2 usedKey]
  | .portLockGained _ => [.each Reg.RP_STATE]
  | .portLockLost _ _ => checkKeys ++ modeKeys ++ poisonKeys ++ eccKeys ++ [.one Reg.CENSUS_STATE, .one Reg.CNT_LONE, .each
    Reg.FW_CNT_CUT, .each Reg.FW_CNT_HOP_LIMIT, .each Reg.FW_CNT_POISON_RX, .each Reg.FW_CNT_POISON_TX, .each Reg.FW_CNT_TX,
    .each Reg.FW_HOLD_STATE, .each Reg.PD_DELAY_VALID, .one Reg.RING_STATE, .each Reg.RP_CNT_BAD_BLOCK, .each Reg.RP_CNT_HIBER,
    .each Reg.RP_CNT_LOCK_LOSS, .each Reg.RP_CNT_RF, .each Reg.RP_CNT_WRAP, .each Reg.RP_STATE, .each Reg.RX_CNT_RX_CHECK, .each
    Reg.RX_CNT_RX_CODE, .each Reg.RX_CNT_RX_LENGTH, .each Reg.RX_CNT_RX_LINK, .one Reg.SW_FREE, .each2 usedKey]
  | .linkQualExpiry _ => [.each Reg.RP_STATE]
  | .spliceReqSend _ => checkKeys ++ eccKeys ++ [.each Reg.FW_CNT_POISON_TX, .each Reg.FW_CNT_TX, .one Reg.LP_PORT, .each2
    usedKey]
  | .spliceReqRx _ _ => checkKeys ++ poisonKeys ++ eccKeys ++ [.each Reg.FW_CNT_BAD_HEADER, .each Reg.FW_CNT_HOP_CHECK,
    .each Reg.FW_CNT_POISON_RX, .each Reg.FW_CNT_POISON_TX, .each Reg.FW_CNT_RX, .each Reg.FW_CNT_TX, .each
    Reg.RP_CNT_BAD_BLOCK, .each Reg.RX_CNT_RX_CHECK, .each Reg.RX_CNT_RX_CODE, .each Reg.RX_CNT_RX_LENGTH, .each
    Reg.RX_CNT_RX_LINK, .each2 usedKey]
  | .spliceAckRx _ _ => checkKeys ++ modeKeys ++ poisonKeys ++ eccKeys ++ [.one Reg.CENSUS_STATE, .each
    Reg.FW_CNT_BAD_HEADER, .each Reg.FW_CNT_HOP_CHECK, .each Reg.FW_CNT_POISON_RX, .each Reg.FW_CNT_POISON_TX, .each
    Reg.FW_CNT_RX, .one Reg.RING_STATE, .each Reg.RP_CNT_BAD_BLOCK, .each Reg.RP_CNT_SPLICE_FAIL, .each Reg.RP_JOIN_TICK, .each
    Reg.RP_NEIGHBOUR, .each Reg.RP_NEIGHBOUR_PORT, .each Reg.RP_STATE, .each Reg.RX_CNT_RX_CHECK, .each Reg.RX_CNT_RX_CODE,
    .each Reg.RX_CNT_RX_LENGTH, .each Reg.RX_CNT_RX_LINK, .one Reg.TW_STATE, .one Reg.TW_TOKEN, .each2 usedKey]
  | .unwrapHoldExpiry _ => checkKeys ++ eccKeys ++ [.each Reg.FW_CNT_POISON_TX, .each Reg.FW_CNT_TX, .one Reg.LP_PORT,
    .each2 usedKey]
  | .unwrapComplete _ => [.one Reg.RING_STATE]
  | .linkFailureDetect _ _ => checkKeys ++ poisonKeys ++ eccKeys ++ [.each Reg.FW_CNT_CUT, .each Reg.FW_CNT_HOP_LIMIT, .each
    Reg.FW_CNT_POISON_RX, .each Reg.FW_CNT_POISON_TX, .each Reg.FW_CNT_TX, .each Reg.FW_HOLD_STATE, .each Reg.RP_CNT_BAD_BLOCK,
    .each Reg.RP_CNT_HIBER, .each Reg.RP_CNT_LOCK_LOSS, .each Reg.RP_CNT_RF, .each Reg.RX_CNT_RX_CHECK, .each
    Reg.RX_CNT_RX_CODE, .each Reg.RX_CNT_RX_LENGTH, .each Reg.RX_CNT_RX_LINK, .one Reg.SW_FREE, .each2 usedKey]
  | .linkFailureRecover _ => [.each Reg.FW_CNT_AGED, .each Reg.FW_HOLD_STATE, .each Reg.RP_CNT_GLITCH, .one Reg.SW_FREE,
    .each2 usedKey]
  | .wrapQualExpiry _ => checkKeys ++ modeKeys ++ eccKeys ++ [.one Reg.CENSUS_STATE, .one Reg.CNT_LONE, .each
    Reg.PD_DELAY_VALID, .one Reg.RING_STATE, .each Reg.RP_CNT_WRAP, .each Reg.RP_STATE, .each2 usedKey]
  | .wrapComplete _ => checkKeys ++ eccKeys ++ [.one Reg.CENSUS_STATE, .one Reg.RING_STATE, .each2 usedKey]
  | .linkWaitExpiry => checkKeys ++ modeKeys ++ eccKeys ++ [.one Reg.CENSUS_STATE, .one Reg.CNT_LONE, .one Reg.RING_STATE,
    .each2 usedKey]
  | .sfpDiagPoll _ _ _ => checkKeys ++ eccKeys ++ [.each Reg.RP_SFP_DIAG, .each Reg.RP_SFP_ID, .each Reg.RP_SFP_STATUS,
    .each Reg.SL_STATE, .each2 usedKey]
  | .censusStart _ => checkKeys ++ answerKeys ++ eccKeys ++ [.one Reg.CENSUS_STATE, .each2 usedKey]
  | .censusCollectRx _ _ => checkKeys ++ eccKeys ++ [.one Reg.CENSUS_STATE, .one Reg.CNT_CENSUS_SUPERSEDED, .one
    Reg.CNT_LOCAL_FAIL, .each2 usedKey]
  | .censusCloseReturn _ _ => checkKeys ++ eccKeys ++ [.one Reg.CENSUS_STATE, .one Reg.CNT_CENSUS_SUPERSEDED, .one
    Reg.CNT_LOCAL_FAIL, .each2 usedKey]
  | .censusFinalRx _ _ => checkKeys ++ modeKeys ++ eccKeys ++ [.one Reg.ADDR_STATE, .one Reg.BRANCH_ADDR, .one
    Reg.BRANCH_STATE, .one Reg.CENSUS_APPLY, .one Reg.CENSUS_GEN, .one Reg.CENSUS_MEMBERS, .one Reg.CENSUS_ORIGIN, .one
    Reg.CENSUS_STATE, .one Reg.CNT_ASSIGN_FAIL, .one Reg.CNT_CENSUS, .one Reg.CNT_CENSUS_LATE, .one Reg.CNT_CENSUS_SUPERSEDED,
    .one Reg.CNT_DUP_ADDR, .one Reg.CNT_LOCAL_FAIL, .one Reg.CNT_MASTER_CHANGE, .one Reg.MASTER_ADDR, .one Reg.MASTER_PRIORITY,
    .one Reg.NODE_ADDR, .each2 usedKey]
  | .censusApply _ => checkKeys ++ modeKeys ++ eccKeys ++ [.one Reg.ADDR_STATE, .one Reg.BRANCH_ADDR, .one Reg.BRANCH_STATE,
    .one Reg.CENSUS_APPLY, .one Reg.CENSUS_GEN, .one Reg.CENSUS_MEMBERS, .one Reg.CENSUS_ORIGIN, .one Reg.CENSUS_STATE, .one
    Reg.CNT_ASSIGN_FAIL, .one Reg.CNT_CENSUS, .one Reg.CNT_DUP_ADDR, .one Reg.CNT_MASTER_CHANGE, .one Reg.MASTER_ADDR, .one
    Reg.MASTER_PRIORITY, .one Reg.NODE_ADDR, .each2 usedKey]
  | .censusTimeout _ => checkKeys ++ eccKeys ++ [.one Reg.CENSUS_STATE, .one Reg.CNT_CENSUS_RESTART, .each2 usedKey]
  | .censusFinalTimeout _ => checkKeys ++ eccKeys ++ [.one Reg.CENSUS_STATE, .one Reg.CNT_CENSUS_RESTART, .each2 usedKey]
  | .trunkFrameEnqueue _ _ => checkKeys ++ [.one Reg.CNT_TRUNK_FAIL, .each Reg.TRUNK_CNT_DROP_CLASS, .each
    Reg.TRUNK_CNT_DROP_FULL, .each Reg.TRUNK_QUEUED, .one Reg.TRUNK_QUEUED_C3, .one Reg.TRUNK_QUEUED_C4, .one
    Reg.TRUNK_QUEUED_C6, .each2 usedKey]
  | .trunkSlot _ => checkKeys ++ eccKeys ++ [.each Reg.TRUNK_CNT_DROP_AGE, .each Reg.TRUNK_CNT_RETX, .each Reg.TRUNK_QUEUED,
    .one Reg.TRUNK_QUEUED_C3, .one Reg.TRUNK_QUEUED_C4, .one Reg.TRUNK_QUEUED_C6, .each2 usedKey]
  | .trunkBlockRx _ _ => checkKeys ++ eccKeys ++ [.one Reg.CNT_TRUNK_FAIL, .each Reg.TRUNK_CNT_BAD_BLOCK, .each
    Reg.TRUNK_CNT_DROP_AGE, .each Reg.TRUNK_CNT_RX, .each Reg.TRUNK_CNT_TX, .each Reg.TRUNK_QUEUED, .one Reg.TRUNK_QUEUED_C3,
    .one Reg.TRUNK_QUEUED_C4, .one Reg.TRUNK_QUEUED_C6, .each Reg.TRUNK_STATE, .each2 usedKey]
  | .trunkRtoExpiry _ _ => [.each Reg.TRUNK_CNT_DROP_AGE, .each Reg.TRUNK_CNT_DROP_RETRY, .each Reg.TRUNK_QUEUED, .one
    Reg.TRUNK_QUEUED_C3, .one Reg.TRUNK_QUEUED_C4, .one Reg.TRUNK_QUEUED_C6]
  | .trunkKeepalive _ _ => []
  | .trunkDeadExpiry _ => [.each Reg.TRUNK_STATE]
  | .frameRxHeader _ _ => checkKeys ++ eccKeys ++ [.each Reg.FW_CNT_AGED, .each Reg.FW_CNT_BAD_HEADER, .each
    Reg.FW_CNT_HOP_CHECK, .each Reg.FW_CNT_HOP_LIMIT, .each Reg.FW_CNT_ORPHAN, .each Reg.FW_CNT_RX, .each Reg.FW_CNT_STRIPPED,
    .each Reg.FW_CNT_UNDELIVERED, .each2 usedKey]
  | .frameRxEnd _ _ _ => checkKeys ++ poisonKeys ++ eccKeys ++ [.each Reg.FW_CNT_CUT, .each Reg.FW_CNT_HOP_LIMIT, .each
    Reg.FW_CNT_POISON_RX, .each Reg.FW_CNT_POISON_TX, .each Reg.FW_CNT_TX, .each Reg.RP_CNT_BAD_BLOCK, .each
    Reg.RX_CNT_RX_CHECK, .each Reg.RX_CNT_RX_CODE, .each Reg.RX_CNT_RX_LENGTH, .each Reg.RX_CNT_RX_LINK, .one Reg.SW_FREE,
    .each2 usedKey]
  | .cutThroughUnderrun _ => checkKeys ++ poisonKeys ++ eccKeys ++ [.each Reg.FW_CNT_CUT, .each Reg.FW_CNT_POISON_TX, .each
    Reg.FW_CNT_TX, .each2 usedKey]
  | .frameOriginate _ _ => [.each2 usedKey]
  | .trackAgeExpiry => [.one Reg.CNT_TRACK_EXPIRE]
  | .linkHoldExpiry _ => [.each Reg.FW_HOLD_STATE, .one Reg.SW_FREE, .each2 usedKey]
  | .holdResume _ => [.each Reg.FW_CNT_AGED, .each Reg.FW_HOLD_STATE, .one Reg.SW_FREE, .each2 usedKey]
  | .switchSlotSchedule => checkKeys ++ poisonKeys ++ eccKeys ++ [.each Reg.FW_CNT_AGED, .each Reg.FW_CNT_CUT, .each
    Reg.FW_CNT_HOLD_SENT, .each Reg.FW_CNT_POISON_FWD, .each Reg.FW_CNT_POISON_TX, .each Reg.FW_CNT_TX, .each Reg.SWO_CNT_CELLS,
    .each Reg.SWO_CNT_INSERT, .one Reg.SW_FREE, .each2 usedKey]
  | .frameAdmission => checkKeys ++ packetKeys ++ eccKeys ++ remoteKeys ++ [.each Reg.CH_CNT_TX_DROP, .one
    Reg.CNT_EGRESS_ENGINE, .one Reg.CNT_EGRESS_HOST, .one Reg.CNT_EGRESS_SERIAL, .one Reg.CNT_HOST_ERR, .one Reg.CNT_HOST_RD,
    .one Reg.CNT_HOST_WR, .one Reg.CNT_MEM_WRITE_FAIL, .one Reg.CNT_OPS, .one Reg.CNT_REISSUE_LOST, .one Reg.CNT_SAT, .one
    Reg.CNT_TRUNK_FAIL, .each Reg.CNT_WRITE_CLASH, .each Reg.ENG_CNT_RX_EMPTY, .each Reg.ENG_CNT_TX_REFUSED, .each
    Reg.ENG_FLAGS, .one Reg.FAB_TAGS_USED, .one Reg.FF_ADDRESS, .one Reg.FF_CAUSE, .one Reg.FF_MASTER, .one Reg.FF_STATUS, .one
    Reg.FF_TICK, .one Reg.HE_ADDR, .one Reg.HE_DIR, .one Reg.HE_STATUS, .one Reg.HE_TICK, .one Reg.LC_BANK, .one Reg.LC_TICK,
    .one Reg.LC_WORD, .one Reg.LHP_ERR_PENDING, .each Reg.SWO_CNT_DROP_LIMIT, .each Reg.SWO_USED_PEAK, .one Reg.SW_FREE, .each
    Reg.TRUNK_CNT_DROP_CLASS, .each Reg.TRUNK_CNT_DROP_FULL, .each Reg.TRUNK_QUEUED, .one Reg.TRUNK_QUEUED_C3, .one
    Reg.TRUNK_QUEUED_C4, .one Reg.TRUNK_QUEUED_C6, .each2 usedKey]
  | .heldFrameAdmit => checkKeys ++ packetKeys ++ eccKeys ++ remoteKeys ++ [.each Reg.CH_CNT_TX_DROP, .one
    Reg.CNT_EGRESS_ENGINE, .one Reg.CNT_EGRESS_HOST, .one Reg.CNT_EGRESS_SERIAL, .one Reg.CNT_HOST_ERR, .one Reg.CNT_HOST_RD,
    .one Reg.CNT_HOST_WR, .one Reg.CNT_MEM_WRITE_FAIL, .one Reg.CNT_OPS, .one Reg.CNT_REISSUE_LOST, .one Reg.CNT_SAT, .one
    Reg.CNT_TRUNK_FAIL, .each Reg.CNT_WRITE_CLASH, .each Reg.ENG_CNT_RX_EMPTY, .each Reg.ENG_CNT_TX_REFUSED, .each
    Reg.ENG_FLAGS, .one Reg.FAB_TAGS_USED, .one Reg.FF_ADDRESS, .one Reg.FF_CAUSE, .one Reg.FF_MASTER, .one Reg.FF_STATUS, .one
    Reg.FF_TICK, .one Reg.HE_ADDR, .one Reg.HE_DIR, .one Reg.HE_STATUS, .one Reg.HE_TICK, .one Reg.LC_BANK, .one Reg.LC_TICK,
    .one Reg.LC_WORD, .one Reg.LHP_ERR_PENDING, .each Reg.SWO_USED_PEAK, .one Reg.SW_FREE, .each Reg.TRUNK_CNT_DROP_CLASS, .each
    Reg.TRUNK_CNT_DROP_FULL, .each Reg.TRUNK_QUEUED, .one Reg.TRUNK_QUEUED_C3, .one Reg.TRUNK_QUEUED_C4, .one
    Reg.TRUNK_QUEUED_C6, .each2 usedKey]
  | .localWaitExpiry => checkKeys ++ packetKeys ++ eccKeys ++ remoteKeys ++ [.each Reg.CH_CNT_TX_DROP, .one
    Reg.CNT_EGRESS_ENGINE, .one Reg.CNT_EGRESS_HOST, .one Reg.CNT_EGRESS_SERIAL, .one Reg.CNT_HOST_ERR, .one Reg.CNT_HOST_RD,
    .one Reg.CNT_HOST_WR, .one Reg.CNT_MEM_WRITE_FAIL, .one Reg.CNT_OPS, .one Reg.CNT_REISSUE_LOST, .one Reg.CNT_SAT, .one
    Reg.CNT_TRUNK_FAIL, .each Reg.CNT_WRITE_CLASH, .each Reg.ENG_CNT_RX_EMPTY, .each Reg.ENG_CNT_TX_REFUSED, .each
    Reg.ENG_FLAGS, .one Reg.FAB_TAGS_USED, .one Reg.FF_ADDRESS, .one Reg.FF_CAUSE, .one Reg.FF_MASTER, .one Reg.FF_STATUS, .one
    Reg.FF_TICK, .one Reg.HE_ADDR, .one Reg.HE_DIR, .one Reg.HE_STATUS, .one Reg.HE_TICK, .one Reg.LC_BANK, .one Reg.LC_TICK,
    .one Reg.LC_WORD, .one Reg.LHP_ERR_PENDING, .each Reg.SWO_CNT_DROP_WAIT, .each Reg.SWO_USED_PEAK, .one Reg.SW_FREE, .each
    Reg.TRUNK_CNT_DROP_CLASS, .each Reg.TRUNK_CNT_DROP_FULL, .each Reg.TRUNK_QUEUED, .one Reg.TRUNK_QUEUED_C3, .one
    Reg.TRUNK_QUEUED_C4, .one Reg.TRUNK_QUEUED_C6, .each2 usedKey]
  | .fairWindowEnd => [.each2 activeKey]
  | .bufAccountCheck => [.one Reg.CNT_ACCOUNT]
  | .bufLimitWrite _ _ _ _ => checkKeys ++ answerKeys ++ eccKeys ++ [.one Reg.SW_LIMIT_SUM, .each2 limitKey, .each2 usedKey]
  | .injArm _ => checkKeys ++ answerKeys ++ eccKeys ++ [.each2 usedKey]
  | .injCancel _ => checkKeys ++ answerKeys ++ eccKeys ++ [.each2 usedKey]
  | .timeSyncSend => checkKeys ++ eccKeys ++ [.one Reg.CNT_SYNC_TX, .each Reg.FW_CNT_POISON_TX, .each Reg.FW_CNT_TX, .one
    Reg.LP_PORT, .each2 usedKey]
  | .timeSyncRx _ _ _ _ => checkKeys ++ poisonKeys ++ eccKeys ++ [.one Reg.CNT_MASTER_CHANGE, .one Reg.CNT_SYNC_LOSS, .one
    Reg.CNT_SYNC_NODELAY, .one Reg.CNT_SYNC_RX, .one Reg.CNT_TICK_MISMATCH, .one Reg.FREQ_ADJ, .each Reg.FW_CNT_BAD_HEADER,
    .each Reg.FW_CNT_CUT, .each Reg.FW_CNT_HOP_CHECK, .each Reg.FW_CNT_ORPHAN, .each Reg.FW_CNT_POISON_FWD, .each
    Reg.FW_CNT_POISON_RX, .each Reg.FW_CNT_POISON_TX, .each Reg.FW_CNT_RX, .each Reg.FW_CNT_STRIPPED, .each Reg.FW_CNT_TX, .each
    Reg.FW_CNT_UNDELIVERED, .one Reg.LAST_STEP, .one Reg.MASTER_ADDR, .one Reg.MASTER_PRIORITY, .each Reg.MEAS_CNT_SETS, .each
    Reg.MEAS_CNT_SETS_LOST, .each Reg.MEAS_SEQ, .one Reg.OFFSET, .each Reg.RP_CNT_BAD_BLOCK, .each Reg.RX_CNT_RX_CHECK, .each
    Reg.RX_CNT_RX_CODE, .each Reg.RX_CNT_RX_LENGTH, .each Reg.RX_CNT_RX_LINK, .one Reg.STEP_COUNT, .one Reg.TIME_STATE, .one
    Reg.TIME_VALID, .each2 usedKey]
  | .syncLossExpiry => [.one Reg.CNT_MASTER_CHANGE, .one Reg.CNT_SYNC_LOSS, .one Reg.CNT_TICK_MISMATCH, .one Reg.FREQ_ADJ,
    .one Reg.MASTER_ADDR, .one Reg.MASTER_PRIORITY, .one Reg.TIME_STATE]
  | .timeSet _ _ => checkKeys ++ answerKeys ++ eccKeys ++ [.one Reg.FREQ_ADJ, .one Reg.LAST_STEP, .each Reg.MEAS_CNT_SETS,
    .each Reg.MEAS_CNT_SETS_LOST, .each Reg.MEAS_SEQ, .one Reg.STEP_COUNT, .one Reg.TIME_SET, .one Reg.TIME_VALID, .each2
    usedKey]
  | .peerDelaySend _ => [.each Reg.FW_CNT_POISON_TX, .each Reg.FW_CNT_TX, .one Reg.LP_PORT, .each2 usedKey]
  | .peerDelayReqRx _ _ _ => checkKeys ++ poisonKeys ++ eccKeys ++ [.each Reg.FW_CNT_BAD_HEADER, .each Reg.FW_CNT_HOP_CHECK,
    .each Reg.FW_CNT_POISON_RX, .each Reg.FW_CNT_POISON_TX, .each Reg.FW_CNT_RX, .each Reg.FW_CNT_TX, .each
    Reg.RP_CNT_BAD_BLOCK, .each Reg.RX_CNT_RX_CHECK, .each Reg.RX_CNT_RX_CODE, .each Reg.RX_CNT_RX_LENGTH, .each
    Reg.RX_CNT_RX_LINK, .each2 usedKey]
  | .peerDelayRspRx _ _ => checkKeys ++ poisonKeys ++ eccKeys ++ [.each Reg.FW_CNT_BAD_HEADER, .each Reg.FW_CNT_HOP_CHECK,
    .each Reg.FW_CNT_POISON_RX, .each Reg.FW_CNT_POISON_TX, .each Reg.FW_CNT_RX, .each Reg.PD_CNT_PD_OUTLIER, .each
    Reg.PD_DELAY_VALID, .each Reg.PD_LINK_DELAY, .each Reg.RP_CNT_BAD_BLOCK, .each Reg.RX_CNT_RX_CHECK, .each
    Reg.RX_CNT_RX_CODE, .each Reg.RX_CNT_RX_LENGTH, .each Reg.RX_CNT_RX_LINK, .each2 usedKey]
  | .peerDelayTimeout _ => [.each Reg.PD_CNT_PD_TIMEOUT, .each Reg.PD_DELAY_VALID]
  | .ppsEdge => checkKeys ++ eccKeys ++ [.one Reg.CNT_PPS_REJECT, .one Reg.CNT_PPS_RX, .one Reg.FREQ_ADJ, .one
    Reg.LAST_STEP, .each Reg.MEAS_CNT_SETS, .each Reg.MEAS_CNT_SETS_LOST, .each Reg.MEAS_SEQ, .one Reg.OFFSET, .one
    Reg.PPS_OFFSET, .one Reg.PPS_STATE, .one Reg.STEP_COUNT, .one Reg.TIME_VALID, .each2 usedKey]
  | .ppsLossTimeout => [.one Reg.PPS_STATE]
  | .ppsOutRise => []
  | .ppsOutFall => []
  | .tickPeriodChange => [.all]
  | .eventRecordArrive _ _ _ _ _ _ => []
  | .eventCloseExpiry => [.all]
  | .evqMoveComplete => checkKeys ++ eccKeys ++ [.one Reg.EVQ_RD, .each2 usedKey]
  | .evqRdWrite _ _ => checkKeys ++ answerKeys ++ eccKeys ++ [.one Reg.EVQ_RD, .each2 usedKey]
  | .schedItemRx _ _ => checkKeys ++ eccKeys ++ [.one Reg.CNT_EGRESS_DISC, .one Reg.CNT_EGRESS_HOST, .one
    Reg.CNT_SCHED_FULL, .one Reg.CNT_SCHED_LATE, .one Reg.CNT_SCHED_RANGE, .each Reg.DISC_CNT_OUT_DROP, .each
    Reg.DISC_CNT_OUT_ITEMS, .one Reg.JSEQ_LAST, .one Reg.SCHED_PENDING, .each2 usedKey]
  | .schedPost _ _ => checkKeys ++ answerKeys ++ eccKeys ++ [.each2 usedKey]
  | .schedCancel _ => checkKeys ++ answerKeys ++ eccKeys ++ [.one Reg.SCHED_PENDING, .each2 usedKey]
  | .charRx _ _ _ _ => checkKeys ++ packetKeys ++ eccKeys ++ [.each Reg.CH_CNT_RX_OVERRUN, .each2 usedKey]
  | .chBreak _ => checkKeys ++ packetKeys ++ eccKeys ++ [.each2 usedKey]
  | .idleGapExpiry _ => checkKeys ++ packetKeys ++ eccKeys ++ [.each2 usedKey]
  | .modbusSilenceExpiry _ => checkKeys ++ packetKeys ++ eccKeys ++ [.each2 usedKey]
  | .flushAgeExpiry _ => checkKeys ++ packetKeys ++ eccKeys ++ [.each2 usedKey]
  | .chPtrMismatch _ _ => [.each Reg.CH_CNT_QUEUE_RESET, .each Reg.CH_CNT_RX_OVERRUN, .each Reg.CH_CNT_TX_DROP]
  | .chReset _ _ => checkKeys ++ answerKeys ++ eccKeys ++ [.each Reg.CH_CNT_RX_OVERRUN, .each Reg.CH_CNT_TX_DROP, .each2
    usedKey]
  | .scannerRxVisit _ => checkKeys ++ packetKeys ++ eccKeys ++ [.each Reg.CH_CNT_NOKEY, .one Reg.CNT_TRUNK_FAIL, .each
    Reg.TRUNK_CNT_BAD_BLOCK, .each Reg.TRUNK_CNT_DROP_AGE, .each Reg.TRUNK_CNT_RX, .each Reg.TRUNK_CNT_TX, .each
    Reg.TRUNK_QUEUED, .one Reg.TRUNK_QUEUED_C3, .one Reg.TRUNK_QUEUED_C4, .one Reg.TRUNK_QUEUED_C6, .each Reg.TRUNK_STATE,
    .each2 usedKey]
  | .scannerTxVisit _ => checkKeys ++ [.one Reg.CNT_EGRESS_HOST, .one Reg.CNT_EGRESS_SERIAL, .each2 usedKey]
  | .chTxItemArrive _ _ => checkKeys ++ [.each Reg.CH_CNT_TX_DROP, .one Reg.CNT_TRUNK_FAIL, .each Reg.TRUNK_CNT_DROP_CLASS,
    .each Reg.TRUNK_CNT_DROP_FULL, .each Reg.TRUNK_QUEUED, .one Reg.TRUNK_QUEUED_C3, .one Reg.TRUNK_QUEUED_C4, .one
    Reg.TRUNK_QUEUED_C6, .each2 usedKey]
  | .chTxRecordStart _ _ => checkKeys ++ eccKeys ++ [.each Reg.CH_CNT_LINE_ERR, .one Reg.JSEQ_LAST, .each2 usedKey]
  | .chTxRecordEnd _ => checkKeys ++ packetKeys ++ eccKeys ++ [.each Reg.CH_CNT_RX_OVERRUN, .each Reg.CH_CNT_TX_PKT, .one
    Reg.JSEQ_LAST, .each2 usedKey]
  | .spiTransactionDone _ _ => checkKeys ++ packetKeys ++ eccKeys ++ [.each Reg.CH_CNT_RX_OVERRUN, .each Reg.CH_CNT_TX_PKT,
    .one Reg.JSEQ_LAST, .each2 usedKey]
  | .i2cTransactionDone _ _ _ _ => checkKeys ++ packetKeys ++ eccKeys ++ [.each Reg.CH_CNT_RX_OVERRUN, .each
    Reg.CH_CNT_TX_PKT, .one Reg.JSEQ_LAST, .each2 usedKey]
  | .i2cArbRetry _ => []
  | .i2cTargetWrite _ _ => checkKeys ++ packetKeys ++ eccKeys ++ [.each Reg.CH_CNT_RX_OVERRUN, .each2 usedKey]
  | .i2cTargetRead _ _ => checkKeys ++ eccKeys ++ [.each Reg.CH_CNT_LINE_ERR, .each Reg.CH_CNT_TX_PKT, .one Reg.JSEQ_LAST,
    .each2 usedKey]
  | .busStuck _ _ => [.each Reg.CH_STATE]
  | .busStuckRetry _ _ => [.each Reg.CH_STATE]
  | .smbalert _ => []
  | .chRxPop _ _ => checkKeys ++ packetKeys ++ eccKeys ++ [.each2 usedKey]
  | .rxRelease _ _ => checkKeys ++ packetKeys ++ eccKeys ++ [.each2 usedKey]
  | .txWrite _ _ => checkKeys ++ [.each Reg.CH_CNT_TX_DROP, .one Reg.CNT_EGRESS_HOST, .one Reg.CNT_EGRESS_SERIAL, .one
    Reg.CNT_TRUNK_FAIL, .each Reg.TRUNK_CNT_DROP_CLASS, .each Reg.TRUNK_CNT_DROP_FULL, .each Reg.TRUNK_QUEUED, .one
    Reg.TRUNK_QUEUED_C3, .one Reg.TRUNK_QUEUED_C4, .one Reg.TRUNK_QUEUED_C6, .each2 usedKey]
  | .rxSilent _ => []
  | .canTxPost _ _ _ => checkKeys ++ answerKeys ++ eccKeys ++ [.each2 usedKey]
  | .canTxItemArrive _ _ => checkKeys ++ eccKeys ++ [.each Reg.CAN_CNT_TX_DROP, .each Reg.CAN_CNT_TX_REPLACED, .each
    Reg.CAN_TXQ, .one Reg.CNT_EGRESS_CAN, .one Reg.CNT_EGRESS_HOST, .each2 usedKey]
  | .canFrameSelect _ => checkKeys ++ eccKeys ++ [.each Reg.CAN_TXQ, .each2 usedKey]
  | .canSof _ => checkKeys ++ eccKeys ++ [.each Reg.CAN_TXQ, .each2 usedKey]
  | .canTxSent _ _ => [.each Reg.CAN_ACK_RUN, .each Reg.CAN_CNT_ABORT_LATE, .each Reg.CAN_CNT_BUS_OFF, .each Reg.CAN_CNT_TX,
    .each Reg.CAN_ERRCNT, .each Reg.CAN_STATE, .each Reg.CAN_STATUS, .each Reg.CAN_TXQ, .one Reg.JSEQ_LAST]
  | .canArbLost _ => [.each Reg.CAN_CNT_ARB_LOST, .each Reg.CAN_STATUS, .each Reg.CAN_TXQ]
  | .canTxError _ _ => [.each Reg.CAN_ACK_RUN, .each Reg.CAN_CNT_BUS_ERR, .each Reg.CAN_CNT_BUS_OFF, .each Reg.CAN_CNT_LONE,
    .each Reg.CAN_ERRCNT, .each Reg.CAN_STATE, .each Reg.CAN_STATUS, .each Reg.CAN_TXQ, .each2 usedKey]
  | .canAbort _ _ _ => checkKeys ++ answerKeys ++ eccKeys ++ [.each Reg.CAN_STATUS, .each Reg.CAN_TXQ, .each2 usedKey]
  | .canAbortAll _ _ => checkKeys ++ answerKeys ++ eccKeys ++ [.each Reg.CAN_STATE, .each Reg.CAN_STATUS, .each Reg.CAN_TXQ,
    .each2 usedKey]
  | .canRecover _ _ => checkKeys ++ answerKeys ++ eccKeys ++ [.each Reg.CAN_STATE, .each Reg.CAN_STATUS, .each Reg.CAN_TXQ,
    .each2 usedKey]
  | .canRecovered _ => [.each Reg.CAN_ERRCNT, .each Reg.CAN_STATE, .each Reg.CAN_STATUS]
  | .canFrameRxComplete _ _ _ _ _ => checkKeys ++ eccKeys ++ [.each Reg.CAN_CNT_BUS_ERR, .each Reg.CAN_CNT_BUS_OFF, .each
    Reg.CAN_CNT_RX, .each Reg.CAN_CNT_RX_NOMATCH, .each Reg.CAN_CNT_RX_OVERRUN, .each Reg.CAN_ERRCNT, .each Reg.CAN_RX_COUNT,
    .each Reg.CAN_RX_WR, .each Reg.CAN_STATE, .each Reg.CAN_STATUS, .each Reg.CAN_TXQ, .each2 usedKey]
  | .rxRdWrite _ _ _ => checkKeys ++ answerKeys ++ eccKeys ++ [.each Reg.CAN_RX_COUNT, .each Reg.CAN_RX_RD, .each2 usedKey]
  | .engStart _ _ => checkKeys ++ answerKeys ++ packetKeys ++ eccKeys ++ [.each Reg.CH_CNT_TX_DROP, .each Reg.CH_STATE,
    .each Reg.ENG_DIV, .each Reg.ENG_PROG, .each Reg.ENG_STATE, .each Reg.ENG_WRAP, .each2 usedKey]
  | .engStop _ _ => checkKeys ++ answerKeys ++ packetKeys ++ eccKeys ++ [.each Reg.CH_CNT_TX_DROP, .each Reg.CH_STATE, .each
    Reg.ENG_DIV, .each Reg.ENG_PROG, .each Reg.ENG_STATE, .each Reg.ENG_WRAP, .each2 usedKey]
  | .stopAtWrap _ _ => checkKeys ++ answerKeys ++ packetKeys ++ eccKeys ++ [.each Reg.CH_CNT_TX_DROP, .each Reg.CH_STATE,
    .each Reg.ENG_DIV, .each Reg.ENG_PROG, .each Reg.ENG_STATE, .each Reg.ENG_WRAP, .each2 usedKey]
  | .engFlush _ _ => checkKeys ++ answerKeys ++ packetKeys ++ eccKeys ++ [.each Reg.CH_CNT_TX_DROP, .each Reg.CH_STATE,
    .each Reg.ENG_DIV, .each Reg.ENG_PROG, .each Reg.ENG_STATE, .each Reg.ENG_WRAP, .each2 usedKey]
  | .shiftOut _ => checkKeys ++ eccKeys ++ [.each Reg.CH_STATE, .each Reg.ENG_CNT_OVERRUN, .each Reg.ENG_CNT_UNDERRUN, .each
    Reg.ENG_DIV, .each Reg.ENG_FLAGS, .each Reg.ENG_PROG, .each Reg.ENG_STATE, .each Reg.ENG_WRAP, .each2 usedKey]
  | .shiftIn _ _ => checkKeys ++ eccKeys ++ [.each Reg.CH_STATE, .each Reg.ENG_CNT_OVERRUN, .each Reg.ENG_CNT_UNDERRUN,
    .each Reg.ENG_DIV, .each Reg.ENG_FLAGS, .each Reg.ENG_PROG, .each Reg.ENG_STATE, .each Reg.ENG_WRAP, .each2 usedKey]
  | .engDelay _ => checkKeys ++ eccKeys ++ [.each Reg.CH_STATE, .each Reg.ENG_DIV, .each Reg.ENG_PROG, .each Reg.ENG_STATE,
    .each Reg.ENG_WRAP, .each2 usedKey]
  | .engWait _ _ _ => checkKeys ++ eccKeys ++ [.each Reg.CH_STATE, .each Reg.ENG_DIV, .each Reg.ENG_PROG, .each
    Reg.ENG_STATE, .each Reg.ENG_WRAP, .each2 usedKey]
  | .engSet _ => checkKeys ++ eccKeys ++ [.each Reg.CH_STATE, .each Reg.ENG_DIV, .each Reg.ENG_PROG, .each Reg.ENG_STATE,
    .each Reg.ENG_WRAP, .each2 usedKey]
  | .engMove _ => checkKeys ++ eccKeys ++ [.each Reg.CH_STATE, .each Reg.ENG_CMPR, .each Reg.ENG_CNT_OVERRUN, .each
    Reg.ENG_CNT_UNDERRUN, .each Reg.ENG_DIV, .each Reg.ENG_FLAGS, .each Reg.ENG_PROG, .each Reg.ENG_STATE, .each Reg.ENG_WRAP,
    .each2 usedKey]
  | .engCmp _ _ => checkKeys ++ eccKeys ++ [.each Reg.CH_STATE, .each Reg.ENG_DIV, .each Reg.ENG_PROG, .each Reg.ENG_STATE,
    .each Reg.ENG_WRAP, .each2 usedKey]
  | .engEvent _ => checkKeys ++ eccKeys ++ [.each Reg.CH_STATE, .each Reg.ENG_CNT_EV_DROP, .each Reg.ENG_DIV, .each
    Reg.ENG_FLAGS, .each Reg.ENG_PROG, .each Reg.ENG_STATE, .each Reg.ENG_WRAP, .each2 usedKey]
  | .engStallEnd _ _ _ => checkKeys ++ eccKeys ++ [.each Reg.CH_STATE, .each Reg.ENG_CMPR, .each Reg.ENG_CNT_OVERRUN, .each
    Reg.ENG_CNT_UNDERRUN, .each Reg.ENG_DIV, .each Reg.ENG_FLAGS, .each Reg.ENG_PROG, .each Reg.ENG_STATE, .each Reg.ENG_WRAP,
    .each2 usedKey]
  | .txData _ _ => checkKeys ++ eccKeys ++ [.one Reg.CNT_EGRESS_ENGINE, .one Reg.CNT_EGRESS_HOST, .each
    Reg.ENG_CNT_TX_REFUSED, .each Reg.ENG_FLAGS, .each2 usedKey]
  | .engRxPop _ => [.each Reg.ENG_CNT_RX_EMPTY]
  | .rxPeek _ => [.each Reg.ENG_CNT_RX_EMPTY]
  | .engProgWrite _ _ _ => checkKeys ++ answerKeys ++ eccKeys ++ [.each Reg.ENG_PROG, .each2 usedKey]
  | .engWrapWrite _ _ _ => checkKeys ++ answerKeys ++ eccKeys ++ [.each Reg.ENG_WRAP, .each2 usedKey]
  | .engDivWrite _ _ _ => checkKeys ++ answerKeys ++ eccKeys ++ [.each Reg.ENG_DIV, .each2 usedKey]
  | .engProgForce _ _ _ => checkKeys ++ answerKeys ++ eccKeys ++ [.each Reg.ENG_CNT_FORCE, .each Reg.ENG_DIV, .each
    Reg.ENG_FLAGS, .each Reg.ENG_PROG, .each Reg.ENG_STATE, .each Reg.ENG_WRAP, .each2 usedKey]
  | .discOutputItem _ _ => checkKeys ++ eccKeys ++ [.one Reg.CNT_EGRESS_DISC, .one Reg.CNT_EGRESS_HOST, .one
    Reg.CNT_SCHED_FULL, .one Reg.CNT_SCHED_LATE, .one Reg.CNT_SCHED_RANGE, .each Reg.DISC_CNT_OUT_DROP, .each
    Reg.DISC_CNT_OUT_ITEMS, .one Reg.JSEQ_LAST, .one Reg.SCHED_PENDING, .each2 usedKey]
  | .discSafeWrite _ _ _ => checkKeys ++ answerKeys ++ eccKeys ++ [.each Reg.DISC_SAFE, .each2 usedKey]
  | .discVioSense _ _ => [.each Reg.DISC_VIO]
  | .measSampleDeliver _ _ => checkKeys ++ eccKeys ++ [.each Reg.MEAS_CNT_OVER, .each Reg.MEAS_CNT_SETS, .each
    Reg.MEAS_CNT_SETS_LOST, .each Reg.MEAS_CNT_THR, .each Reg.MEAS_LAST, .each Reg.MEAS_LAST_TIME, .each Reg.MEAS_SEQ, .each
    Reg.MEAS_STATE, .each2 usedKey]
  | .measOpenEnter _ => [.each Reg.MEAS_CNT_OPEN, .each Reg.MEAS_STATE]
  | .measOpenLeave _ => [.each Reg.MEAS_STATE]
  | .mapperInputItem _ => checkKeys ++ eccKeys ++ [.one Reg.CNT_BRIDGE_FAIL, .one Reg.CNT_IN, .one Reg.CNT_NO_ROUTE, .one
    Reg.CNT_OPS, .one Reg.CNT_ORIGIN_MISMATCH, .one Reg.CNT_SAT, .each2 usedKey]
  | .mapperRelease => checkKeys ++ eccKeys ++ [.one Reg.CNT_BRIDGE_FAIL, .one Reg.CNT_HOLD_DROP, .one Reg.CNT_MAP_FAULT,
    .one Reg.CNT_OPS, .one Reg.CNT_OUT, .one Reg.CNT_PAIR_MATCH, .one Reg.CNT_PAIR_MISMATCH, .one Reg.CNT_SAT, .one
    Reg.MF_CAUSE, .one Reg.MF_ENTRY, .one Reg.MF_ROUTE, .one Reg.MF_SEQUENCE, .one Reg.MF_SOURCE, .one Reg.MF_TICK, .each
    Reg.SIG_FLAGS, .each Reg.SIG_ROUTE, .each Reg.SIG_TICK, .each Reg.SIG_VALUE, .each2 usedKey]
  | .routeTableWrite _ _ => checkKeys ++ packetKeys ++ eccKeys ++ [.each Reg.CH_CNT_TX_DROP, .one Reg.CNT_EGRESS_ENGINE,
    .one Reg.CNT_EGRESS_HOST, .one Reg.CNT_EGRESS_SERIAL, .one Reg.CNT_MEM_WRITE_FAIL, .one Reg.CNT_OPS, .one Reg.CNT_SAT, .one
    Reg.CNT_TRUNK_FAIL, .each Reg.CNT_WRITE_CLASH, .each Reg.ENG_CNT_TX_REFUSED, .each Reg.ENG_FLAGS, .one Reg.LC_BANK, .one
    Reg.LC_TICK, .one Reg.LC_WORD, .each Reg.TRUNK_CNT_DROP_CLASS, .each Reg.TRUNK_CNT_DROP_FULL, .each Reg.TRUNK_QUEUED, .one
    Reg.TRUNK_QUEUED_C3, .one Reg.TRUNK_QUEUED_C4, .one Reg.TRUNK_QUEUED_C6, .each2 usedKey]
  | .mappingEntryWrite _ _ => checkKeys ++ packetKeys ++ eccKeys ++ [.each Reg.CH_CNT_TX_DROP, .one Reg.CNT_EGRESS_ENGINE,
    .one Reg.CNT_EGRESS_HOST, .one Reg.CNT_EGRESS_SERIAL, .one Reg.CNT_MEM_WRITE_FAIL, .one Reg.CNT_OPS, .one Reg.CNT_SAT, .one
    Reg.CNT_TRUNK_FAIL, .each Reg.CNT_WRITE_CLASH, .each Reg.ENG_CNT_TX_REFUSED, .each Reg.ENG_FLAGS, .one Reg.LC_BANK, .one
    Reg.LC_TICK, .one Reg.LC_WORD, .each Reg.TRUNK_CNT_DROP_CLASS, .each Reg.TRUNK_CNT_DROP_FULL, .each Reg.TRUNK_QUEUED, .one
    Reg.TRUNK_QUEUED_C3, .one Reg.TRUNK_QUEUED_C4, .one Reg.TRUNK_QUEUED_C6, .each2 usedKey]
  | .rulePass => [.one Reg.CNT_RULE_TRIPS, .each Reg.RULE_STATE, .each Reg.RULE_TRIPS]
  | .ruleReset _ _ => checkKeys ++ answerKeys ++ eccKeys ++ [.each Reg.RULE_RESET, .each Reg.RULE_STATE, .each2 usedKey]
  | .mapLoadWindowEnd => checkKeys ++ eccKeys ++ [.one Reg.CNT_OPS, .one Reg.CNT_SAT, .one Reg.MAP_LOAD, .one
    Reg.MAP_LOAD_PEAK, .each2 usedKey]
  | .fabricRead _ => checkKeys ++ packetKeys ++ eccKeys ++ [.each Reg.CH_CNT_TX_DROP, .one Reg.CNT_EGRESS_ENGINE, .one
    Reg.CNT_EGRESS_HOST, .one Reg.CNT_EGRESS_SERIAL, .one Reg.CNT_LOCK_RETRY, .one Reg.CNT_MEM_WRITE_FAIL, .one Reg.CNT_OPS,
    .one Reg.CNT_SAT, .one Reg.CNT_TRUNK_FAIL, .each Reg.CNT_WRITE_CLASH, .each Reg.ENG_CNT_RX_EMPTY, .each
    Reg.ENG_CNT_TX_REFUSED, .each Reg.ENG_FLAGS, .one Reg.LC_BANK, .one Reg.LC_TICK, .one Reg.LC_WORD, .each
    Reg.TRUNK_CNT_DROP_CLASS, .each Reg.TRUNK_CNT_DROP_FULL, .each Reg.TRUNK_QUEUED, .one Reg.TRUNK_QUEUED_C3, .one
    Reg.TRUNK_QUEUED_C4, .one Reg.TRUNK_QUEUED_C6, .each2 usedKey]
  | .fabricWrite _ _ => checkKeys ++ packetKeys ++ eccKeys ++ [.each Reg.CH_CNT_TX_DROP, .one Reg.CNT_EGRESS_ENGINE, .one
    Reg.CNT_EGRESS_HOST, .one Reg.CNT_EGRESS_SERIAL, .one Reg.CNT_LOCK_RETRY, .one Reg.CNT_MEM_WRITE_FAIL, .one Reg.CNT_OPS,
    .one Reg.CNT_SAT, .one Reg.CNT_TRUNK_FAIL, .each Reg.CNT_WRITE_CLASH, .each Reg.ENG_CNT_RX_EMPTY, .each
    Reg.ENG_CNT_TX_REFUSED, .each Reg.ENG_FLAGS, .one Reg.LC_BANK, .one Reg.LC_TICK, .one Reg.LC_WORD, .each
    Reg.TRUNK_CNT_DROP_CLASS, .each Reg.TRUNK_CNT_DROP_FULL, .each Reg.TRUNK_QUEUED, .one Reg.TRUNK_QUEUED_C3, .one
    Reg.TRUNK_QUEUED_C4, .one Reg.TRUNK_QUEUED_C6, .each2 usedKey]
  | .writePosted _ _ => checkKeys ++ packetKeys ++ eccKeys ++ [.each Reg.CH_CNT_TX_DROP, .one Reg.CNT_EGRESS_ENGINE, .one
    Reg.CNT_EGRESS_HOST, .one Reg.CNT_EGRESS_SERIAL, .one Reg.CNT_LOCK_RETRY, .one Reg.CNT_MEM_WRITE_FAIL, .one Reg.CNT_OPS,
    .one Reg.CNT_SAT, .one Reg.CNT_TRUNK_FAIL, .each Reg.CNT_WRITE_CLASH, .each Reg.ENG_CNT_RX_EMPTY, .each
    Reg.ENG_CNT_TX_REFUSED, .each Reg.ENG_FLAGS, .one Reg.LC_BANK, .one Reg.LC_TICK, .one Reg.LC_WORD, .each
    Reg.TRUNK_CNT_DROP_CLASS, .each Reg.TRUNK_CNT_DROP_FULL, .each Reg.TRUNK_QUEUED, .one Reg.TRUNK_QUEUED_C3, .one
    Reg.TRUNK_QUEUED_C4, .one Reg.TRUNK_QUEUED_C6, .each2 usedKey]
  | .c7RuntDiscard _ => [.one Reg.CNT_FAB_FORMAT]
  | .readData _ => checkKeys ++ packetKeys ++ eccKeys ++ moverKeys ++ remoteKeys ++ [.each Reg.CH_CNT_TX_DROP, .one
    Reg.CNT_EGRESS_ENGINE, .one Reg.CNT_EGRESS_HOST, .one Reg.CNT_EGRESS_SERIAL, .one Reg.CNT_FAB_TIMEOUT, .one
    Reg.CNT_HOST_ERR, .one Reg.CNT_HOST_RD, .one Reg.CNT_HOST_WR, .one Reg.CNT_LATE_RSP, .one Reg.CNT_LOCK_RETRY, .one
    Reg.CNT_MEM_WRITE_FAIL, .one Reg.CNT_OPS, .one Reg.CNT_REISSUE_LOST, .one Reg.CNT_SAT, .one Reg.CNT_TRUNK_FAIL, .each
    Reg.CNT_WRITE_CLASH, .each Reg.ENG_CNT_RX_EMPTY, .each Reg.ENG_CNT_TX_REFUSED, .each Reg.ENG_FLAGS, .one Reg.FO_SESSION,
    .one Reg.FO_STATUS, .one Reg.HE_ADDR, .one Reg.HE_DIR, .one Reg.HE_STATUS, .one Reg.HE_TICK, .one Reg.LC_BANK, .one
    Reg.LC_TICK, .one Reg.LC_WORD, .one Reg.LHP_ERR_PENDING, .each Reg.TRUNK_CNT_DROP_CLASS, .each Reg.TRUNK_CNT_DROP_FULL,
    .each Reg.TRUNK_QUEUED, .one Reg.TRUNK_QUEUED_C3, .one Reg.TRUNK_QUEUED_C4, .one Reg.TRUNK_QUEUED_C6, .each2 usedKey]
  | .writeDone _ => checkKeys ++ packetKeys ++ eccKeys ++ moverKeys ++ remoteKeys ++ [.each Reg.CH_CNT_TX_DROP, .one
    Reg.CNT_EGRESS_ENGINE, .one Reg.CNT_EGRESS_HOST, .one Reg.CNT_EGRESS_SERIAL, .one Reg.CNT_FAB_TIMEOUT, .one
    Reg.CNT_HOST_ERR, .one Reg.CNT_HOST_RD, .one Reg.CNT_HOST_WR, .one Reg.CNT_LATE_RSP, .one Reg.CNT_LOCK_RETRY, .one
    Reg.CNT_MEM_WRITE_FAIL, .one Reg.CNT_OPS, .one Reg.CNT_REISSUE_LOST, .one Reg.CNT_SAT, .one Reg.CNT_TRUNK_FAIL, .each
    Reg.CNT_WRITE_CLASH, .each Reg.ENG_CNT_RX_EMPTY, .each Reg.ENG_CNT_TX_REFUSED, .each Reg.ENG_FLAGS, .one Reg.FO_SESSION,
    .one Reg.FO_STATUS, .one Reg.HE_ADDR, .one Reg.HE_DIR, .one Reg.HE_STATUS, .one Reg.HE_TICK, .one Reg.LC_BANK, .one
    Reg.LC_TICK, .one Reg.LC_WORD, .one Reg.LHP_ERR_PENDING, .each Reg.TRUNK_CNT_DROP_CLASS, .each Reg.TRUNK_CNT_DROP_FULL,
    .each Reg.TRUNK_QUEUED, .one Reg.TRUNK_QUEUED_C3, .one Reg.TRUNK_QUEUED_C4, .one Reg.TRUNK_QUEUED_C6, .each2 usedKey]
  | .fabricErrorRx _ => checkKeys ++ packetKeys ++ eccKeys ++ moverKeys ++ remoteKeys ++ [.each Reg.CH_CNT_TX_DROP, .one
    Reg.CNT_EGRESS_ENGINE, .one Reg.CNT_EGRESS_HOST, .one Reg.CNT_EGRESS_SERIAL, .one Reg.CNT_FAB_TIMEOUT, .one
    Reg.CNT_HOST_ERR, .one Reg.CNT_HOST_RD, .one Reg.CNT_HOST_WR, .one Reg.CNT_LATE_RSP, .one Reg.CNT_LOCK_RETRY, .one
    Reg.CNT_MEM_WRITE_FAIL, .one Reg.CNT_OPS, .one Reg.CNT_REISSUE_LOST, .one Reg.CNT_SAT, .one Reg.CNT_TRUNK_FAIL, .each
    Reg.CNT_WRITE_CLASH, .each Reg.ENG_CNT_RX_EMPTY, .each Reg.ENG_CNT_TX_REFUSED, .each Reg.ENG_FLAGS, .one Reg.FO_SESSION,
    .one Reg.FO_STATUS, .one Reg.HE_ADDR, .one Reg.HE_DIR, .one Reg.HE_STATUS, .one Reg.HE_TICK, .one Reg.LC_BANK, .one
    Reg.LC_TICK, .one Reg.LC_WORD, .one Reg.LHP_ERR_PENDING, .each Reg.TRUNK_CNT_DROP_CLASS, .each Reg.TRUNK_CNT_DROP_FULL,
    .each Reg.TRUNK_QUEUED, .one Reg.TRUNK_QUEUED_C3, .one Reg.TRUNK_QUEUED_C4, .one Reg.TRUNK_QUEUED_C6, .each2 usedKey]
  | .fabTimeoutExpiry => checkKeys ++ packetKeys ++ eccKeys ++ moverKeys ++ remoteKeys ++ [.each Reg.CH_CNT_TX_DROP, .one
    Reg.CNT_EGRESS_ENGINE, .one Reg.CNT_EGRESS_HOST, .one Reg.CNT_EGRESS_SERIAL, .one Reg.CNT_FAB_TIMEOUT, .one
    Reg.CNT_HOST_ERR, .one Reg.CNT_HOST_RD, .one Reg.CNT_HOST_WR, .one Reg.CNT_LOCK_RETRY, .one Reg.CNT_MEM_WRITE_FAIL, .one
    Reg.CNT_OPS, .one Reg.CNT_REISSUE_LOST, .one Reg.CNT_SAT, .one Reg.CNT_TRUNK_FAIL, .each Reg.CNT_WRITE_CLASH, .each
    Reg.ENG_CNT_RX_EMPTY, .each Reg.ENG_CNT_TX_REFUSED, .each Reg.ENG_FLAGS, .one Reg.FO_SESSION, .one Reg.FO_STATUS, .one
    Reg.HE_ADDR, .one Reg.HE_DIR, .one Reg.HE_STATUS, .one Reg.HE_TICK, .one Reg.LC_BANK, .one Reg.LC_TICK, .one Reg.LC_WORD,
    .one Reg.LHP_ERR_PENDING, .each Reg.TRUNK_CNT_DROP_CLASS, .each Reg.TRUNK_CNT_DROP_FULL, .each Reg.TRUNK_QUEUED, .one
    Reg.TRUNK_QUEUED_C3, .one Reg.TRUNK_QUEUED_C4, .one Reg.TRUNK_QUEUED_C6, .each2 usedKey]
  | .windowAccess _ _ _ _ => checkKeys ++ packetKeys ++ eccKeys ++ [.each Reg.CH_CNT_TX_DROP, .one Reg.CNT_EGRESS_ENGINE,
    .one Reg.CNT_EGRESS_HOST, .one Reg.CNT_EGRESS_SERIAL, .one Reg.CNT_LOCK_RETRY, .one Reg.CNT_MEM_WRITE_FAIL, .one
    Reg.CNT_OPS, .one Reg.CNT_SAT, .one Reg.CNT_TRUNK_FAIL, .one Reg.CNT_WIN_MISS, .each Reg.CNT_WRITE_CLASH, .each
    Reg.ENG_CNT_RX_EMPTY, .each Reg.ENG_CNT_TX_REFUSED, .each Reg.ENG_FLAGS, .one Reg.FAB_TAGS_USED, .one Reg.FF_ADDRESS, .one
    Reg.FF_CAUSE, .one Reg.FF_MASTER, .one Reg.FF_STATUS, .one Reg.FF_TICK, .one Reg.LC_BANK, .one Reg.LC_TICK, .one
    Reg.LC_WORD, .each Reg.TRUNK_CNT_DROP_CLASS, .each Reg.TRUNK_CNT_DROP_FULL, .each Reg.TRUNK_QUEUED, .one
    Reg.TRUNK_QUEUED_C3, .one Reg.TRUNK_QUEUED_C4, .one Reg.TRUNK_QUEUED_C6, .each Reg.WIN_CNT_PF_SUPPRESSED, .each
    Reg.WIN_CNT_WIN_ACC, .each Reg.WIN_CNT_WIN_FAULT, .each Reg.WIN_FLAGS, .each2 usedKey]
  | .winCtrlWrite _ _ _ => checkKeys ++ answerKeys ++ eccKeys ++ [.each Reg.WIN_CTRL, .each Reg.WIN_FLAGS, .each2 usedKey]
  | .foTokenWrite _ _ => checkKeys ++ answerKeys ++ eccKeys ++ [.one Reg.FAB_TAGS_USED, .one Reg.FO_STATUS, .each2 usedKey]
  | .fabOpenAnswer _ => checkKeys ++ packetKeys ++ eccKeys ++ moverKeys ++ [.each Reg.CH_CNT_TX_DROP, .one
    Reg.CNT_EGRESS_ENGINE, .one Reg.CNT_EGRESS_HOST, .one Reg.CNT_EGRESS_SERIAL, .one Reg.CNT_FAB_TIMEOUT, .one
    Reg.CNT_LATE_RSP, .one Reg.CNT_LOCAL_FAIL, .one Reg.CNT_LOCK_RETRY, .one Reg.CNT_MEM_WRITE_FAIL, .one Reg.CNT_OPS, .one
    Reg.CNT_SAT, .one Reg.CNT_TRUNK_FAIL, .each Reg.CNT_WRITE_CLASH, .each Reg.ENG_CNT_RX_EMPTY, .each Reg.ENG_CNT_TX_REFUSED,
    .each Reg.ENG_FLAGS, .one Reg.FO_SESSION, .one Reg.FO_STATUS, .one Reg.LC_BANK, .one Reg.LC_TICK, .one Reg.LC_WORD, .each
    Reg.TRUNK_CNT_DROP_CLASS, .each Reg.TRUNK_CNT_DROP_FULL, .each Reg.TRUNK_QUEUED, .one Reg.TRUNK_QUEUED_C3, .one
    Reg.TRUNK_QUEUED_C4, .one Reg.TRUNK_QUEUED_C6, .each Reg.WIN_CNT_WIN_FAULT, .each2 usedKey]
  | .qTailWrite _ _ _ _ => checkKeys ++ answerKeys ++ packetKeys ++ eccKeys ++ moverKeys ++ [.each Reg.CH_CNT_TX_DROP, .one
    Reg.CNT_EGRESS_ENGINE, .one Reg.CNT_EGRESS_HOST, .one Reg.CNT_EGRESS_SERIAL, .one Reg.CNT_LOCK_RETRY, .one
    Reg.CNT_MEM_WRITE_FAIL, .one Reg.CNT_OPS, .one Reg.CNT_SAT, .one Reg.CNT_TRUNK_FAIL, .each Reg.CNT_WRITE_CLASH, .each
    Reg.ENG_CNT_RX_EMPTY, .each Reg.ENG_CNT_TX_REFUSED, .each Reg.ENG_FLAGS, .one Reg.LC_BANK, .one Reg.LC_TICK, .one
    Reg.LC_WORD, .each2 Reg.Q_TAIL, .each Reg.TRUNK_CNT_DROP_CLASS, .each Reg.TRUNK_CNT_DROP_FULL, .each Reg.TRUNK_QUEUED, .one
    Reg.TRUNK_QUEUED_C3, .one Reg.TRUNK_QUEUED_C4, .one Reg.TRUNK_QUEUED_C6, .each2 usedKey]
  | .mvDescStart _ => checkKeys ++ packetKeys ++ eccKeys ++ moverKeys ++ [.each Reg.CH_CNT_TX_DROP, .one
    Reg.CNT_EGRESS_ENGINE, .one Reg.CNT_EGRESS_HOST, .one Reg.CNT_EGRESS_SERIAL, .one Reg.CNT_LOCK_RETRY, .one
    Reg.CNT_MEM_WRITE_FAIL, .one Reg.CNT_OPS, .one Reg.CNT_SAT, .one Reg.CNT_TRUNK_FAIL, .each Reg.CNT_WRITE_CLASH, .each
    Reg.ENG_CNT_RX_EMPTY, .each Reg.ENG_CNT_TX_REFUSED, .each Reg.ENG_FLAGS, .one Reg.LC_BANK, .one Reg.LC_TICK, .one
    Reg.LC_WORD, .each Reg.TRUNK_CNT_DROP_CLASS, .each Reg.TRUNK_CNT_DROP_FULL, .each Reg.TRUNK_QUEUED, .one
    Reg.TRUNK_QUEUED_C3, .one Reg.TRUNK_QUEUED_C4, .one Reg.TRUNK_QUEUED_C6, .each2 usedKey]
  | .mvPreempt _ => checkKeys ++ packetKeys ++ eccKeys ++ moverKeys ++ [.each Reg.CH_CNT_TX_DROP, .one
    Reg.CNT_EGRESS_ENGINE, .one Reg.CNT_EGRESS_HOST, .one Reg.CNT_EGRESS_SERIAL, .one Reg.CNT_LOCK_RETRY, .one
    Reg.CNT_MEM_WRITE_FAIL, .one Reg.CNT_OPS, .one Reg.CNT_SAT, .one Reg.CNT_TRUNK_FAIL, .each Reg.CNT_WRITE_CLASH, .each
    Reg.ENG_CNT_RX_EMPTY, .each Reg.ENG_CNT_TX_REFUSED, .each Reg.ENG_FLAGS, .one Reg.LC_BANK, .one Reg.LC_TICK, .one
    Reg.LC_WORD, .each Reg.TRUNK_CNT_DROP_CLASS, .each Reg.TRUNK_CNT_DROP_FULL, .each Reg.TRUNK_QUEUED, .one
    Reg.TRUNK_QUEUED_C3, .one Reg.TRUNK_QUEUED_C4, .one Reg.TRUNK_QUEUED_C6, .each2 usedKey]
  | .mvDescEnd _ => checkKeys ++ eccKeys ++ [.each Reg.MV_CLASS, .each Reg.MV_CNT_MV_BYTES, .each Reg.MV_CNT_MV_DESC, .each
    Reg.MV_DESC, .each Reg.MV_MODE, .each2 Reg.Q_HEAD, .each2 usedKey]
  | .mvEnable _ _ => checkKeys ++ answerKeys ++ packetKeys ++ eccKeys ++ moverKeys ++ [.each Reg.CH_CNT_TX_DROP, .one
    Reg.CNT_EGRESS_ENGINE, .one Reg.CNT_EGRESS_HOST, .one Reg.CNT_EGRESS_SERIAL, .one Reg.CNT_LOCK_RETRY, .one
    Reg.CNT_MEM_WRITE_FAIL, .one Reg.CNT_OPS, .one Reg.CNT_SAT, .one Reg.CNT_TRUNK_FAIL, .each Reg.CNT_WRITE_CLASH, .each
    Reg.ENG_CNT_RX_EMPTY, .each Reg.ENG_CNT_TX_REFUSED, .each Reg.ENG_FLAGS, .one Reg.LC_BANK, .one Reg.LC_TICK, .one
    Reg.LC_WORD, .each Reg.TRUNK_CNT_DROP_CLASS, .each Reg.TRUNK_CNT_DROP_FULL, .each Reg.TRUNK_QUEUED, .one
    Reg.TRUNK_QUEUED_C3, .one Reg.TRUNK_QUEUED_C4, .one Reg.TRUNK_QUEUED_C6, .each2 usedKey]
  | .mvDisable _ _ => checkKeys ++ answerKeys ++ packetKeys ++ eccKeys ++ moverKeys ++ [.each Reg.CH_CNT_TX_DROP, .one
    Reg.CNT_EGRESS_ENGINE, .one Reg.CNT_EGRESS_HOST, .one Reg.CNT_EGRESS_SERIAL, .one Reg.CNT_LOCK_RETRY, .one
    Reg.CNT_MEM_WRITE_FAIL, .one Reg.CNT_OPS, .one Reg.CNT_SAT, .one Reg.CNT_TRUNK_FAIL, .each Reg.CNT_WRITE_CLASH, .each
    Reg.ENG_CNT_RX_EMPTY, .each Reg.ENG_CNT_TX_REFUSED, .each Reg.ENG_FLAGS, .one Reg.LC_BANK, .one Reg.LC_TICK, .one
    Reg.LC_WORD, .each Reg.TRUNK_CNT_DROP_CLASS, .each Reg.TRUNK_CNT_DROP_FULL, .each Reg.TRUNK_QUEUED, .one
    Reg.TRUNK_QUEUED_C3, .one Reg.TRUNK_QUEUED_C4, .one Reg.TRUNK_QUEUED_C6, .each2 usedKey]
  | .mvResume _ _ => checkKeys ++ answerKeys ++ packetKeys ++ eccKeys ++ moverKeys ++ [.each Reg.CH_CNT_TX_DROP, .one
    Reg.CNT_EGRESS_ENGINE, .one Reg.CNT_EGRESS_HOST, .one Reg.CNT_EGRESS_SERIAL, .one Reg.CNT_LOCK_RETRY, .one
    Reg.CNT_MEM_WRITE_FAIL, .one Reg.CNT_OPS, .one Reg.CNT_SAT, .one Reg.CNT_TRUNK_FAIL, .each Reg.CNT_WRITE_CLASH, .each
    Reg.ENG_CNT_RX_EMPTY, .each Reg.ENG_CNT_TX_REFUSED, .each Reg.ENG_FLAGS, .one Reg.LC_BANK, .one Reg.LC_TICK, .one
    Reg.LC_WORD, .each Reg.TRUNK_CNT_DROP_CLASS, .each Reg.TRUNK_CNT_DROP_FULL, .each Reg.TRUNK_QUEUED, .one
    Reg.TRUNK_QUEUED_C3, .one Reg.TRUNK_QUEUED_C4, .one Reg.TRUNK_QUEUED_C6, .each2 usedKey]
  | .mvSkip _ _ => checkKeys ++ answerKeys ++ packetKeys ++ eccKeys ++ moverKeys ++ [.each Reg.CH_CNT_TX_DROP, .one
    Reg.CNT_EGRESS_ENGINE, .one Reg.CNT_EGRESS_HOST, .one Reg.CNT_EGRESS_SERIAL, .one Reg.CNT_LOCK_RETRY, .one
    Reg.CNT_MEM_WRITE_FAIL, .one Reg.CNT_OPS, .one Reg.CNT_SAT, .one Reg.CNT_TRUNK_FAIL, .each Reg.CNT_WRITE_CLASH, .each
    Reg.ENG_CNT_RX_EMPTY, .each Reg.ENG_CNT_TX_REFUSED, .each Reg.ENG_FLAGS, .one Reg.LC_BANK, .one Reg.LC_TICK, .one
    Reg.LC_WORD, .each Reg.TRUNK_CNT_DROP_CLASS, .each Reg.TRUNK_CNT_DROP_FULL, .each Reg.TRUNK_QUEUED, .one
    Reg.TRUNK_QUEUED_C3, .one Reg.TRUNK_QUEUED_C4, .one Reg.TRUNK_QUEUED_C6, .each2 usedKey]
  | .mvAbort _ _ => checkKeys ++ answerKeys ++ packetKeys ++ eccKeys ++ moverKeys ++ [.each Reg.CH_CNT_TX_DROP, .one
    Reg.CNT_EGRESS_ENGINE, .one Reg.CNT_EGRESS_HOST, .one Reg.CNT_EGRESS_SERIAL, .one Reg.CNT_LOCK_RETRY, .one
    Reg.CNT_MEM_WRITE_FAIL, .one Reg.CNT_OPS, .one Reg.CNT_SAT, .one Reg.CNT_TRUNK_FAIL, .each Reg.CNT_WRITE_CLASH, .each
    Reg.ENG_CNT_RX_EMPTY, .each Reg.ENG_CNT_TX_REFUSED, .each Reg.ENG_FLAGS, .one Reg.LC_BANK, .one Reg.LC_TICK, .one
    Reg.LC_WORD, .each Reg.TRUNK_CNT_DROP_CLASS, .each Reg.TRUNK_CNT_DROP_FULL, .each Reg.TRUNK_QUEUED, .one
    Reg.TRUNK_QUEUED_C3, .one Reg.TRUNK_QUEUED_C4, .one Reg.TRUNK_QUEUED_C6, .each2 usedKey]
  | .bankOwnerWrite _ _ _ => checkKeys ++ answerKeys ++ eccKeys ++ [.each Reg.BANK_STATE, .each2 usedKey]
  | .handoverComplete => [.all]
  | .handoverRefused => [.all]
  | .copyInDone _ => checkKeys ++ eccKeys ++ [.each Reg.BANK_STATE, .each Reg.SWAP_PHASE, .one Reg.SWEEP_BANKS, .each2
    usedKey]
  | .copyInAbandon _ => checkKeys ++ resultKeys ++ eccKeys ++ [.each Reg.BANK_OWNER, .each Reg.BANK_STATE, .one
    Reg.CNT_ST_SKIP, .each Reg.CNT_SWAP_ABANDON, .one Reg.RUN_STATE, .each Reg.SWAP_FOR, .each Reg.SWAP_PHASE, .one
    Reg.SWEEP_BANKS, .one Reg.SW_FAILED, .one Reg.SW_FREE, .one Reg.SW_POOL, .one Reg.SW_SKIPPED, .each2 usedKey]
  | .aliasedTestDone _ _ _ => checkKeys ++ resultKeys ++ eccKeys ++ [.each Reg.BANK_OWNER, .each Reg.BANK_STATE, .one
    Reg.RUN_STATE, .each Reg.SWAP_PHASE, .one Reg.SWEEP_BANKS, .one Reg.SW_COUNT, .one Reg.SW_FAILED, .one Reg.SW_FREE, .one
    Reg.SW_LAST_END, .one Reg.SW_POOL, .one Reg.SW_SKIPPED, .each2 usedKey]
  | .copyBackDone _ => checkKeys ++ resultKeys ++ eccKeys ++ [.each Reg.BANK_OWNER, .each Reg.BANK_STATE, .one
    Reg.RUN_STATE, .each Reg.SWAP_FOR, .each Reg.SWAP_PHASE, .one Reg.SWEEP_BANKS, .one Reg.SW_FREE, .one Reg.SW_POOL, .each2
    usedKey]
  | .hostReadCycle _ _ => checkKeys ++ packetKeys ++ eccKeys ++ moverKeys ++ remoteKeys ++ [.each Reg.CH_CNT_TX_DROP, .one
    Reg.CNT_EGRESS_ENGINE, .one Reg.CNT_EGRESS_HOST, .one Reg.CNT_EGRESS_SERIAL, .one Reg.CNT_HOST_ERR, .one Reg.CNT_HOST_MISS,
    .one Reg.CNT_HOST_RD, .one Reg.CNT_HOST_WR, .one Reg.CNT_LOCK_BROKEN, .one Reg.CNT_LOCK_RETRY, .one Reg.CNT_MEM_WRITE_FAIL,
    .one Reg.CNT_OPS, .one Reg.CNT_REISSUE_JOIN, .one Reg.CNT_SAT, .one Reg.CNT_TRUNK_FAIL, .each Reg.CNT_WRITE_CLASH, .each
    Reg.ENG_CNT_RX_EMPTY, .each Reg.ENG_CNT_TX_REFUSED, .each Reg.ENG_FLAGS, .one Reg.HE_ADDR, .one Reg.HE_DIR, .one
    Reg.HE_STATUS, .one Reg.HE_TICK, .one Reg.LC_BANK, .one Reg.LC_TICK, .one Reg.LC_WORD, .one Reg.LHP_ERR_PENDING, .each
    Reg.LHP_SEM, .one Reg.LHP_SEM_HELD, .each Reg.TRUNK_CNT_DROP_CLASS, .each Reg.TRUNK_CNT_DROP_FULL, .each Reg.TRUNK_QUEUED,
    .one Reg.TRUNK_QUEUED_C3, .one Reg.TRUNK_QUEUED_C4, .one Reg.TRUNK_QUEUED_C6, .each2 usedKey]
  | .hostWriteCycle _ _ => checkKeys ++ packetKeys ++ eccKeys ++ moverKeys ++ remoteKeys ++ [.each Reg.CH_CNT_TX_DROP, .one
    Reg.CNT_EGRESS_ENGINE, .one Reg.CNT_EGRESS_HOST, .one Reg.CNT_EGRESS_SERIAL, .one Reg.CNT_HOST_ERR, .one Reg.CNT_HOST_MISS,
    .one Reg.CNT_HOST_RD, .one Reg.CNT_HOST_WR, .one Reg.CNT_LOCK_BROKEN, .one Reg.CNT_LOCK_RETRY, .one Reg.CNT_MEM_WRITE_FAIL,
    .one Reg.CNT_OPS, .one Reg.CNT_REISSUE_JOIN, .one Reg.CNT_SAT, .one Reg.CNT_TRUNK_FAIL, .each Reg.CNT_WRITE_CLASH, .each
    Reg.ENG_CNT_RX_EMPTY, .each Reg.ENG_CNT_TX_REFUSED, .each Reg.ENG_FLAGS, .one Reg.HE_ADDR, .one Reg.HE_DIR, .one
    Reg.HE_STATUS, .one Reg.HE_TICK, .one Reg.LC_BANK, .one Reg.LC_TICK, .one Reg.LC_WORD, .one Reg.LHP_ERR_PENDING, .each
    Reg.LHP_SEM, .one Reg.LHP_SEM_HELD, .each Reg.TRUNK_CNT_DROP_CLASS, .each Reg.TRUNK_CNT_DROP_FULL, .each Reg.TRUNK_QUEUED,
    .one Reg.TRUNK_QUEUED_C3, .one Reg.TRUNK_QUEUED_C4, .one Reg.TRUNK_QUEUED_C6, .each2 usedKey]
  | .lhpNoClock => [.one Reg.LHP_STATE]
  | .hostRetryDeadlock => [.one Reg.CNT_RETRY, .one Reg.LHP_STATE]
  | .reissueExpiry => [.one Reg.CNT_REISSUE_LOST]
  | .lockSequenceBegin => [.one Reg.CNT_LOCK, .one Reg.LHP_STATE]
  | .lockSequenceEnd => checkKeys ++ packetKeys ++ eccKeys ++ moverKeys ++ remoteKeys ++ [.each Reg.CH_CNT_TX_DROP, .one
    Reg.CNT_EGRESS_ENGINE, .one Reg.CNT_EGRESS_HOST, .one Reg.CNT_EGRESS_SERIAL, .one Reg.CNT_LOCK_RETRY, .one
    Reg.CNT_MEM_WRITE_FAIL, .one Reg.CNT_OPS, .one Reg.CNT_SAT, .one Reg.CNT_TRUNK_FAIL, .each Reg.CNT_WRITE_CLASH, .each
    Reg.ENG_CNT_RX_EMPTY, .each Reg.ENG_CNT_TX_REFUSED, .each Reg.ENG_FLAGS, .one Reg.LC_BANK, .one Reg.LC_TICK, .one
    Reg.LC_WORD, .each Reg.LHP_SEM, .one Reg.LHP_SEM_HELD, .each Reg.TRUNK_CNT_DROP_CLASS, .each Reg.TRUNK_CNT_DROP_FULL, .each
    Reg.TRUNK_QUEUED, .one Reg.TRUNK_QUEUED_C3, .one Reg.TRUNK_QUEUED_C4, .one Reg.TRUNK_QUEUED_C6, .each2 usedKey]
  | .lockBroken => checkKeys ++ packetKeys ++ eccKeys ++ moverKeys ++ remoteKeys ++ [.each Reg.CH_CNT_TX_DROP, .one
    Reg.CNT_EGRESS_ENGINE, .one Reg.CNT_EGRESS_HOST, .one Reg.CNT_EGRESS_SERIAL, .one Reg.CNT_HOST_ERR, .one Reg.CNT_HOST_RD,
    .one Reg.CNT_HOST_WR, .one Reg.CNT_LOCK_BROKEN, .one Reg.CNT_LOCK_RETRY, .one Reg.CNT_MEM_WRITE_FAIL, .one Reg.CNT_OPS, .one
    Reg.CNT_SAT, .one Reg.CNT_TRUNK_FAIL, .each Reg.CNT_WRITE_CLASH, .each Reg.ENG_CNT_RX_EMPTY, .each Reg.ENG_CNT_TX_REFUSED,
    .each Reg.ENG_FLAGS, .one Reg.HE_ADDR, .one Reg.HE_DIR, .one Reg.HE_STATUS, .one Reg.HE_TICK, .one Reg.LC_BANK, .one
    Reg.LC_TICK, .one Reg.LC_WORD, .one Reg.LHP_ERR_PENDING, .each Reg.LHP_SEM, .one Reg.LHP_SEM_HELD, .each
    Reg.TRUNK_CNT_DROP_CLASS, .each Reg.TRUNK_CNT_DROP_FULL, .each Reg.TRUNK_QUEUED, .one Reg.TRUNK_QUEUED_C3, .one
    Reg.TRUNK_QUEUED_C4, .one Reg.TRUNK_QUEUED_C6, .each2 usedKey]
  | .xqTailWrite _ _ => checkKeys ++ answerKeys ++ eccKeys ++ [.one Reg.CNT_XFER, .one Reg.CNT_XFER_ERR, .one Reg.LHP_STATE,
    .one Reg.XQ_ERR, .one Reg.XQ_HEAD, .one Reg.XQ_NOTIFY, .one Reg.XQ_TAIL, .each2 usedKey]
  | .deviceMasterCycle _ _ => checkKeys ++ eccKeys ++ [.one Reg.CNT_EGRESS_HOST, .one Reg.CNT_XFER, .one Reg.CNT_XFER_ERR,
    .one Reg.LHP_STATE, .one Reg.XQ_ERR, .one Reg.XQ_HEAD, .one Reg.XQ_NOTIFY, .each2 usedKey]
  | .deviceRetryReissue _ _ => checkKeys ++ eccKeys ++ [.one Reg.CNT_EGRESS_HOST, .one Reg.CNT_XFER, .one Reg.CNT_XFER_ERR,
    .one Reg.LHP_STATE, .one Reg.XQ_ERR, .one Reg.XQ_HEAD, .one Reg.XQ_NOTIFY, .each2 usedKey]
  | .sidebandEdge _ _ => [.one Reg.LHP_SB_STATE]
  | .heartbeatToggle => []
  | .statusSend => []
  | .heartbeatSign => checkKeys ++ modeKeys ++ eccKeys ++ [.one Reg.CENSUS_STATE, .one Reg.EPOCH_PENDING, .one
    Reg.JOURNAL_USED, .one Reg.LS_CAUSE, .one Reg.LS_FROM, .one Reg.LS_RESULT, .one Reg.LS_TICK, .one Reg.TW_PATHS, .one
    Reg.TW_READY, .one Reg.TW_STATE, .one Reg.TW_TOKEN, .each2 usedKey]
  | .hbWireBroken => [.one Reg.CNT_HB_WIRE, .one Reg.TW_PATHS]
  | .twLinkRetx _ => [.one Reg.CNT_LINK_RETX]
  | .twLinkDown => checkKeys ++ offerKeys ++ eccKeys ++ [.one Reg.CNT_LINK_DOWN, .one Reg.TW_PATHS, .each2 usedKey]
  | .twStatus _ _ _ _ => checkKeys ++ modeKeys ++ eccKeys ++ [.one Reg.CENSUS_STATE, .one Reg.CNT_LINK_BAD, .one
    Reg.EPOCH_COMMITTED, .one Reg.EPOCH_PENDING, .one Reg.JOURNAL_USED, .one Reg.JSEQ_LAST, .one Reg.LS_CAUSE, .one Reg.LS_FROM,
    .one Reg.LS_RESULT, .one Reg.LS_TICK, .one Reg.TW_PATHS, .one Reg.TW_PEER_ADDR, .one Reg.TW_READY, .one Reg.TW_STATE, .one
    Reg.TW_TOKEN, .each2 usedKey]
  | .twImage _ _ _ _ => checkKeys ++ offerKeys ++ eccKeys ++ [.one Reg.CNT_IMAGE_DIFF, .one Reg.CNT_LINK_BAD, .one
    Reg.TW_PATHS, .each2 usedKey]
  | .twOffer _ _ _ _ => [.all]
  | .twAccept _ _ _ _ => checkKeys ++ eccKeys ++ [.one Reg.CNT_LINK_BAD, .one Reg.TW_PATHS, .each2 usedKey]
  | .twReleased _ _ _ _ _ _ => checkKeys ++ eccKeys ++ [.one Reg.CNT_LINK_BAD, .one Reg.TW_PATHS, .each2 usedKey]
  | .twAbort _ _ _ => checkKeys ++ offerKeys ++ eccKeys ++ [.one Reg.CNT_LINK_BAD, .one Reg.TW_PATHS, .each2 usedKey]
  | .twGrant _ _ _ _ _ => checkKeys ++ eccKeys ++ [.one Reg.CNT_LINK_BAD, .one Reg.CNT_PAIR_LATE, .one Reg.CNT_PAIR_MATCH,
    .one Reg.CNT_PAIR_MISMATCH, .one Reg.TW_PATHS, .each2 usedKey]
  | .twNumber _ _ _ _ _ _ _ _ _ => checkKeys ++ eccKeys ++ [.one Reg.CNT_LINK_BAD, .one Reg.TW_PATHS, .each2 usedKey]
  | .twSent _ _ _ _ _ _ _ _ _ => checkKeys ++ eccKeys ++ [.each Reg.CAN_TXQ, .one Reg.CNT_LINK_BAD, .one Reg.JSEQ_LAST, .one
    Reg.SCHED_PENDING, .one Reg.TW_PATHS, .one Reg.TW_READY, .each2 usedKey]
  | .twJournal _ _ _ _ _ => [.all]
  | .twMark _ _ _ _ _ _ => checkKeys ++ eccKeys ++ [.one Reg.CNT_LINK_BAD, .one Reg.CNT_SNAP_DISCARD, .one
    Reg.EPOCH_PENDING, .one Reg.TW_PATHS, .each2 usedKey]
  | .twChunk _ _ _ _ _ _ => checkKeys ++ eccKeys ++ [.one Reg.CNT_LINK_BAD, .one Reg.TW_PATHS, .each2 usedKey]
  | .twCommit _ _ _ _ _ _ => checkKeys ++ eccKeys ++ [.one Reg.CNT_LINK_BAD, .one Reg.CNT_SNAP_COMMIT, .one
    Reg.CNT_SNAP_DISCARD, .one Reg.EPOCH_COMMITTED, .one Reg.EPOCH_PENDING, .one Reg.JOURNAL_USED, .one Reg.TW_PATHS, .one
    Reg.TW_READY, .each2 usedKey]
  | .pairWaitExpiry => checkKeys ++ eccKeys ++ [.one Reg.CNT_PAIR_LATE, .each2 usedKey]
  | .peerSilence => offerKeys
  | .witnessSettleEnd => [.all]
  | .contestHoldEnd => [.all]
  | .joinWaitExpiry => checkKeys ++ modeKeys ++ eccKeys ++ [.one Reg.CENSUS_STATE, .one Reg.LS_CAUSE, .one Reg.LS_FROM, .one
    Reg.LS_RESULT, .one Reg.LS_TICK, .one Reg.TW_READY, .one Reg.TW_STATE, .one Reg.TW_TOKEN, .each2 usedKey]
  | .twCmdOffer _ => checkKeys ++ offerKeys ++ answerKeys ++ eccKeys ++ [.one Reg.EPOCH_PENDING, .each2 usedKey]
  | .twCmdSnapshot _ => checkKeys ++ offerKeys ++ answerKeys ++ eccKeys ++ [.one Reg.EPOCH_PENDING, .each2 usedKey]
  | .snapshotStart => [.one Reg.EPOCH_PENDING]
  | .snapshotSent => [.one Reg.EPOCH_PENDING, .one Reg.SWITCH_STATE]
  | .switchStrobeT => offerKeys ++ [.one Reg.CNT_IMAGE_DIFF, .each Reg.DISC_HOLD, .each Reg.DISC_PIN, .each2 usedKey]
  | .tokenPass => checkKeys ++ modeKeys ++ offerKeys ++ eccKeys ++ [.each Reg.BANK_OWNER, .each Reg.CAN_STATUS, .each
    Reg.CAN_TXQ, .one Reg.CENSUS_STATE, .each Reg.CH_CNT_TX_DROP, .each Reg.CH_STATE, .one Reg.CNT_IMAGE_DIFF, .one
    Reg.CNT_LONE, .one Reg.CNT_SAFE, .one Reg.CNT_SCHED_DONE, .one Reg.CNT_SCHED_SKIPPED, .one Reg.CNT_SWITCH, .each
    Reg.DISC_CNT_CHANGES, .each Reg.DISC_CNT_READBACK, .each Reg.DISC_CNT_REC_LOST, .each Reg.DISC_HOLD, .each Reg.DISC_IN,
    .each Reg.DISC_OUT, .each Reg.DISC_PIN, .each Reg.DISC_RAW, .each Reg.DISC_SEQ, .each Reg.ENG_STATE, .one Reg.EPOCH_PENDING,
    .one Reg.ERR_COMMAND, .one Reg.ERR_MEMBER, .one Reg.ERR_OBJECT, .one Reg.ERR_SOURCE, .one Reg.ERR_STATUS, .one Reg.ERR_TICK,
    .one Reg.FCINJ_BUSY, .one Reg.FC_SAFE_CAUSE, .one Reg.FC_SAFE_TICK, .one Reg.FC_STATE, .each Reg.FI_STATE, .one
    Reg.HEATHER_STATE, .one Reg.JOURNAL_USED, .one Reg.JSEQ_LAST, .each Reg.MEAS_STATE, .each Reg.PD_DELAY_VALID, .each
    Reg.RAIL_CMD, .each Reg.RAIL_CNT_RETRY, .each Reg.RAIL_RETRIES, .each Reg.RAIL_STATE, .one Reg.RING_STATE, .each
    Reg.RP_CNT_WRAP, .each Reg.RP_STATE, .one Reg.SCHED_PENDING, .one Reg.SLOT_STATE_A, .one Reg.SLOT_STATE_B, .one Reg.SW_FREE,
    .one Reg.SW_POOL, .one Reg.TW_PEER_ADDR, .one Reg.TW_READY, .one Reg.TW_STATE, .one Reg.TW_TOKEN, .each2 usedKey]
  | .instanceRelease _ _ => [.each Reg.CAN_TXQ]
  | .instanceReleaseTimeout => [.each Reg.CAN_TXQ, .each Reg.CH_CNT_TX_DROP]
  | .safeTokenRelease => checkKeys ++ modeKeys ++ eccKeys ++ [.one Reg.CENSUS_STATE, .one Reg.EPOCH_PENDING, .one
    Reg.JOURNAL_USED, .one Reg.LS_CAUSE, .one Reg.LS_FROM, .one Reg.LS_RESULT, .one Reg.LS_TICK, .one Reg.TW_READY, .one
    Reg.TW_STATE, .one Reg.TW_TOKEN, .each2 usedKey]
  | .supplyReset _ _ => [.all]
  | .dipStart _ => [.one Reg.PWR_STATE, .one Reg.VIN_MV]
  | .dipEnd _ _ => checkKeys ++ modeKeys ++ offerKeys ++ eccKeys ++ [.one Reg.CNT_DIP, .one Reg.EPOCH_PENDING, .one
    Reg.HEATHER_STATE, .one Reg.LD_DURATION, .one Reg.LD_MIN_MV, .one Reg.LD_TICK, .one Reg.LOG_FLASH_NEWEST, .one
    Reg.LOG_FLASH_OLDEST, .one Reg.PL_LOG, .one Reg.PL_NEXT, .one Reg.PWR_STATE, .one Reg.ROLLBACK_FUSE, .one Reg.SLOT_STATE_A,
    .one Reg.SLOT_STATE_B, .one Reg.VIN_MV, .each2 usedKey]
  | .powerDegraded => checkKeys ++ offerKeys ++ eccKeys ++ [.one Reg.CNT_DEGRADED, .one Reg.EPOCH_PENDING, .one Reg.PL_LOG,
    .one Reg.PL_NEXT, .one Reg.PWR_STATE, .each2 usedKey]
  | .degradedClear _ => checkKeys ++ eccKeys ++ [.one Reg.PL_LOG, .one Reg.PL_NEXT, .one Reg.PWR_STATE, .one Reg.VIN_MV,
    .each2 usedKey]
  | .supplyRangeChange _ _ => checkKeys ++ modeKeys ++ offerKeys ++ eccKeys ++ [.one Reg.CENSUS_STATE, .one
    Reg.CNT_LINK_DOWN, .one Reg.CNT_LONE, .each Reg.PD_DELAY_VALID, .one Reg.RING_STATE, .each Reg.RP_CNT_WRAP, .each
    Reg.RP_STATE, .one Reg.SUPPLY_FLAGS, .one Reg.TW_PATHS, .each2 usedKey]
  | .vbatSense _ => checkKeys ++ eccKeys ++ [.one Reg.BK_VBAT_MV, .one Reg.PL_LOG, .one Reg.PL_NEXT, .one Reg.SUPPLY_FLAGS,
    .each2 usedKey]
  | .rtcLoad => [.one Reg.BK_VALID]
  | .backupBrownOut => checkKeys ++ eccKeys ++ [.one Reg.BK_CNT_POWER_FAIL, .one Reg.BK_VALID, .one Reg.PL_LOG, .one
    Reg.PL_NEXT, .one Reg.SUPPLY_FLAGS, .each2 usedKey]
  | .vbatRise => checkKeys ++ eccKeys ++ [.each2 usedKey]
  | .feedReverse _ _ => checkKeys ++ eccKeys ++ [.each Reg.CNT_FEED_REVERSE, .each Reg.FEED_MV, .each Reg.FEED_STATE, .one
    Reg.PL_LOG, .one Reg.PL_NEXT, .each2 usedKey]
  | .feedUnblock _ _ => [.each Reg.FEED_MV, .each Reg.FEED_STATE]
  | .feedLost _ _ => checkKeys ++ eccKeys ++ [.each Reg.CNT_FEED_LOST, .each Reg.FEED_MV, .each Reg.FEED_STATE, .one
    Reg.PL_LOG, .one Reg.PL_NEXT, .each2 usedKey]
  | .feedRestored _ _ => [.each Reg.FEED_MV, .each Reg.FEED_STATE]
  | .railTurnOn _ => [.each Reg.RAIL_CMD, .each Reg.RAIL_CNT_RETRY, .each Reg.RAIL_RETRIES, .each Reg.RAIL_STATE]
  | .railTurnOff _ => [.each Reg.RAIL_CMD, .each Reg.RAIL_CNT_RETRY, .each Reg.RAIL_RETRIES, .each Reg.RAIL_STATE]
  | .inrushEnd _ => [.each Reg.RAIL_STATE]
  | .railSample _ _ _ => checkKeys ++ modeKeys ++ offerKeys ++ tripKeys ++ eccKeys ++ [.each Reg.CAN_STATUS, .each
    Reg.CAN_TXQ, .each Reg.CH_CNT_TX_DROP, .each Reg.CH_STATE, .one Reg.CNT_ISO_FULL, .one Reg.CNT_SAFE, .one Reg.CNT_STEP_ISO,
    .one Reg.CNT_STEP_RESET, .one Reg.CNT_STEP_SAFE, .each Reg.ENG_STATE, .one Reg.ESC_USED, .one Reg.FC_RESET_CAUSE, .one
    Reg.FC_SAFE_CAUSE, .one Reg.FC_SAFE_TICK, .one Reg.FC_STATE, .one Reg.ISO_COUNT, .each Reg.MV_MODE, .each
    Reg.RAIL_CNT_LOCKOUT, .each Reg.RAIL_HEAT, .each Reg.RAIL_I_MA, .each2 usedKey]
  | .settleWindowExpiry _ => checkKeys ++ modeKeys ++ offerKeys ++ tripKeys ++ eccKeys ++ [.each Reg.CAN_STATUS, .each
    Reg.CAN_TXQ, .each Reg.CH_CNT_TX_DROP, .each Reg.CH_STATE, .one Reg.CNT_ISO_FULL, .one Reg.CNT_SAFE, .one Reg.CNT_STEP_ISO,
    .one Reg.CNT_STEP_RESET, .one Reg.CNT_STEP_SAFE, .each Reg.ENG_STATE, .one Reg.ESC_USED, .one Reg.FC_RESET_CAUSE, .one
    Reg.FC_SAFE_CAUSE, .one Reg.FC_SAFE_TICK, .one Reg.FC_STATE, .one Reg.ISO_COUNT, .each Reg.MV_MODE, .each
    Reg.RAIL_CNT_LOCKOUT, .each2 usedKey]
  | .powerGood _ => [.each Reg.RAIL_CMD, .each Reg.RAIL_CNT_RETRY, .each Reg.RAIL_RETRIES, .each Reg.RAIL_STATE]
  | .pgLost _ => checkKeys ++ modeKeys ++ offerKeys ++ tripKeys ++ eccKeys ++ [.each Reg.CAN_STATUS, .each Reg.CAN_TXQ,
    .each Reg.CH_CNT_TX_DROP, .each Reg.CH_STATE, .one Reg.CNT_ISO_FULL, .one Reg.CNT_SAFE, .one Reg.CNT_STEP_ISO, .one
    Reg.CNT_STEP_RESET, .one Reg.CNT_STEP_SAFE, .each Reg.ENG_STATE, .one Reg.ESC_USED, .one Reg.FC_RESET_CAUSE, .one
    Reg.FC_SAFE_CAUSE, .one Reg.FC_SAFE_TICK, .one Reg.FC_STATE, .one Reg.ISO_COUNT, .each Reg.MV_MODE, .each
    Reg.RAIL_CNT_LOCKOUT, .each2 usedKey]
  | .retryIntervalExpiry _ => [.each Reg.RAIL_CMD, .each Reg.RAIL_CNT_RETRY, .each Reg.RAIL_RETRIES, .each Reg.RAIL_STATE]
  | .retryClearExpiry _ => checkKeys ++ eccKeys ++ [.each Reg.RAIL_RETRIES, .each2 usedKey]
  | .presenceLost _ => tripKeys
  | .railBounce _ => [.each Reg.RAIL_CNT_BOUNCE, .each Reg.RAIL_FLAGS, .each Reg.RAIL_STATE]
  | .railAbsent _ => [.each Reg.RAIL_RETRIES, .each Reg.RAIL_STATE]
  | .railInserted _ => [.each Reg.RAIL_CNT_RETRY, .each Reg.RAIL_RETRIES, .each Reg.RAIL_STATE]
  | .plClear _ => checkKeys ++ answerKeys ++ eccKeys ++ [.one Reg.PL_LOG, .one Reg.PL_NEXT, .each2 usedKey]
  | .faultReport _ _ _ _ _ => []
  | .faultClose => [.all]
  | .ffRecord _ => checkKeys ++ answerKeys ++ eccKeys ++ [.each2 usedKey]
  | .fqPop _ => checkKeys ++ answerKeys ++ eccKeys ++ [.each2 usedKey]
  | .faultFrameRx _ => checkKeys ++ eccKeys ++ [.one Reg.CNT_FAULT_RX, .one Reg.CNT_LOCAL_FAIL, .each2 usedKey]
  | .escalationTimerExpiry => [.all]
  | .escalationReset => [.all]
  | .fcAck _ _ => checkKeys ++ answerKeys ++ eccKeys ++ [.one Reg.ESC_USED, .one Reg.FC_STATE, .each2 usedKey]
  | .fcUnisolate _ _ => checkKeys ++ answerKeys ++ eccKeys ++ [.one Reg.ISO_COUNT, .each2 usedKey]
  | .fcSelfCheck => checkKeys ++ modeKeys ++ offerKeys ++ eccKeys ++ [.each Reg.CAN_STATUS, .each Reg.CAN_TXQ, .each
    Reg.CH_CNT_TX_DROP, .one Reg.CNT_SAFE, .one Reg.CNT_SELF_CHECK, .each Reg.ENG_STATE, .one Reg.FC_SAFE_CAUSE, .one
    Reg.FC_SAFE_TICK, .one Reg.FC_STATE, .each2 usedKey]
  | .safeEntry _ => checkKeys ++ modeKeys ++ offerKeys ++ eccKeys ++ [.each Reg.CAN_STATUS, .each Reg.CAN_TXQ, .each
    Reg.CH_CNT_TX_DROP, .one Reg.CNT_SAFE, .each Reg.ENG_STATE, .one Reg.FC_SAFE_CAUSE, .one Reg.FC_SAFE_TICK, .one
    Reg.FC_STATE, .each2 usedKey]
  | .fcSafeEnter _ => checkKeys ++ modeKeys ++ offerKeys ++ answerKeys ++ eccKeys ++ [.each Reg.CAN_STATUS, .each
    Reg.CAN_TXQ, .each Reg.CH_CNT_TX_DROP, .one Reg.CNT_SAFE, .each Reg.ENG_STATE, .one Reg.FC_SAFE_CAUSE, .one
    Reg.FC_SAFE_TICK, .one Reg.FC_STATE, .each2 usedKey]
  | .fcSafeExit _ => checkKeys ++ modeKeys ++ offerKeys ++ answerKeys ++ eccKeys ++ [.each Reg.CAN_STATUS, .each
    Reg.CAN_TXQ, .each Reg.CH_CNT_TX_DROP, .one Reg.CNT_SAFE, .each Reg.ENG_STATE, .one Reg.FC_SAFE_CAUSE, .one
    Reg.FC_SAFE_TICK, .one Reg.FC_STATE, .each2 usedKey]
  | .safeExit => checkKeys ++ modeKeys ++ eccKeys ++ [.each Reg.DISC_OUT, .one Reg.ERR_COMMAND, .one Reg.ERR_MEMBER, .one
    Reg.ERR_OBJECT, .one Reg.ERR_SOURCE, .one Reg.ERR_STATUS, .one Reg.ERR_TICK, .one Reg.FC_STATE, .each2 usedKey]
  | .fcInjectReport _ => checkKeys ++ modeKeys ++ offerKeys ++ answerKeys ++ eccKeys ++ [.each Reg.CAN_STATUS, .each
    Reg.CAN_TXQ, .each Reg.CH_CNT_TX_DROP, .one Reg.CNT_SAFE, .one Reg.CNT_SELF_CHECK, .each Reg.ENG_STATE, .one Reg.FCINJ_BUSY,
    .one Reg.FCINJ_KIND, .one Reg.FC_SAFE_CAUSE, .one Reg.FC_SAFE_TICK, .one Reg.FC_STATE, .each2 usedKey]
  | .fcInjectPair _ => checkKeys ++ modeKeys ++ offerKeys ++ answerKeys ++ eccKeys ++ [.each Reg.CAN_STATUS, .each
    Reg.CAN_TXQ, .each Reg.CH_CNT_TX_DROP, .one Reg.CNT_SAFE, .one Reg.CNT_SELF_CHECK, .each Reg.ENG_STATE, .one Reg.FCINJ_BUSY,
    .one Reg.FCINJ_KIND, .one Reg.FC_SAFE_CAUSE, .one Reg.FC_SAFE_TICK, .one Reg.FC_STATE, .each2 usedKey]
  | .fcInjectSafeFlag _ => checkKeys ++ modeKeys ++ offerKeys ++ answerKeys ++ eccKeys ++ [.each Reg.CAN_STATUS, .each
    Reg.CAN_TXQ, .each Reg.CH_CNT_TX_DROP, .one Reg.CNT_SAFE, .one Reg.CNT_SELF_CHECK, .each Reg.ENG_STATE, .one Reg.FCINJ_BUSY,
    .one Reg.FCINJ_KIND, .one Reg.FC_SAFE_CAUSE, .one Reg.FC_SAFE_TICK, .one Reg.FC_STATE, .each2 usedKey]
  | .heatherWdt => checkKeys ++ modeKeys ++ eccKeys ++ [.one Reg.CNT_REVERT, .one Reg.CNT_WDT, .one Reg.CONFIRM_LEFT, .one
    Reg.HEATHER_STATE, .one Reg.SLOT_STATE_A, .one Reg.SLOT_STATE_B, .each2 usedKey]
  | .heatherEccUncorr _ => checkKeys ++ modeKeys ++ eccKeys ++ [.one Reg.CNT_HTR_UNCORR, .one Reg.CNT_REVERT, .one
    Reg.CONFIRM_LEFT, .one Reg.HEATHER_STATE, .one Reg.SLOT_STATE_A, .one Reg.SLOT_STATE_B, .each2 usedKey]
  | .heatherRestartDone => checkKeys ++ modeKeys ++ eccKeys ++ [.one Reg.CNT_REVERT, .one Reg.CONFIRM_LEFT, .one
    Reg.FW_RUNNING, .one Reg.HEATHER_STATE, .one Reg.LOG_FLASH_NEWEST, .one Reg.LOG_FLASH_OLDEST, .one Reg.SLOT_STATE_A, .one
    Reg.SLOT_STATE_B, .each2 usedKey]
  | .sensorRead _ _ _ _ _ _ _ _ _ _ _ _ _ _ => [.each Reg.TEMP, .one Reg.TEMP_MAX, .each Reg.VM_MV]
  | .logFlashCopy _ => checkKeys ++ eccKeys ++ [.one Reg.CNT_LOG_PAGES, .one Reg.LOG_FLASH_NEWEST, .one
    Reg.LOG_FLASH_OLDEST, .each2 usedKey]
  | .logErase _ => checkKeys ++ answerKeys ++ eccKeys ++ [.one Reg.LOG_FLASH_NEWEST, .one Reg.LOG_FLASH_OLDEST, .each2
    usedKey]
  | .lcToFieldOpen _ => checkKeys ++ answerKeys ++ eccKeys ++ [.one Reg.LC_STATE, .each2 usedKey]
  | .lcToFieldSealed _ => checkKeys ++ answerKeys ++ eccKeys ++ [.one Reg.LC_STATE, .each2 usedKey]
  | .lcReturn _ _ => checkKeys ++ answerKeys ++ eccKeys ++ [.one Reg.LC_RETURNS, .one Reg.LC_STATE, .one Reg.TOKEN_L1, .one
    Reg.TOKEN_L2, .each2 usedKey]
  | .updBegin _ => checkKeys ++ modeKeys ++ offerKeys ++ transferKeys ++ eccKeys ++ [.one Reg.CNT_LOCAL_FAIL, .one
    Reg.CNT_UPD_REFUSED, .one Reg.EPOCH_PENDING, .one Reg.FW_VERSION_A, .one Reg.FW_VERSION_B, .one Reg.HEATHER_STATE, .one
    Reg.SLOT_STATE_A, .one Reg.SLOT_STATE_B, .one Reg.UT_RESULT, .each2 usedKey]
  | .updateEraseDone _ => checkKeys ++ transferKeys ++ eccKeys ++ [.one Reg.CNT_UPD_REFUSED, .one Reg.SLOT_STATE_A, .one
    Reg.SLOT_STATE_B, .one Reg.UT_RESULT, .each2 usedKey]
  | .updateChunk _ _ => checkKeys ++ transferKeys ++ eccKeys ++ [.one Reg.CNT_LOCAL_FAIL, .one Reg.CNT_UPD_CHUNK, .one
    Reg.FW_VERSION_A, .one Reg.FW_VERSION_B, .one Reg.UT_RESULT, .each2 usedKey]
  | .updQuery _ => checkKeys ++ eccKeys ++ [.one Reg.CNT_LOCAL_FAIL, .each2 usedKey]
  | .updEnd _ => checkKeys ++ transferKeys ++ eccKeys ++ [.one Reg.CNT_LOCAL_FAIL, .one Reg.CNT_UPD_REFUSED, .one
    Reg.SLOT_STATE_A, .one Reg.SLOT_STATE_B, .each2 usedKey]
  | .updateCheckDone _ => checkKeys ++ eccKeys ++ [.one Reg.CNT_UPD_REFUSED, .one Reg.SLOT_STATE_A, .one Reg.SLOT_STATE_B,
    .one Reg.UT_RESULT, .each2 usedKey]
  | .updActivate _ => checkKeys ++ modeKeys ++ offerKeys ++ answerKeys ++ eccKeys ++ [.one Reg.EPOCH_PENDING, .one
    Reg.HEATHER_STATE, .one Reg.SLOT_STATE_A, .one Reg.SLOT_STATE_B, .each2 usedKey]
  | .updConfirm _ => checkKeys ++ modeKeys ++ answerKeys ++ eccKeys ++ [.one Reg.CNT_REVERT, .one Reg.CONFIRM_LEFT, .one
    Reg.HEATHER_STATE, .one Reg.ROLLBACK_FUSE, .one Reg.SLOT_STATE_A, .one Reg.SLOT_STATE_B, .each2 usedKey]
  | .updRevert _ => checkKeys ++ modeKeys ++ answerKeys ++ eccKeys ++ [.one Reg.CNT_REVERT, .one Reg.CONFIRM_LEFT, .one
    Reg.HEATHER_STATE, .one Reg.SLOT_STATE_A, .one Reg.SLOT_STATE_B, .each2 usedKey]
  | .updDiscard _ => checkKeys ++ modeKeys ++ offerKeys ++ answerKeys ++ eccKeys ++ [.one Reg.EPOCH_PENDING, .one
    Reg.FW_VERSION_A, .one Reg.FW_VERSION_B, .one Reg.HEATHER_STATE, .one Reg.SLOT_STATE_A, .one Reg.SLOT_STATE_B, .each2
    usedKey]
  | .confirmLeftExpiry => checkKeys ++ modeKeys ++ eccKeys ++ [.one Reg.CNT_REVERT, .one Reg.CONFIRM_LEFT, .one
    Reg.HEATHER_STATE, .one Reg.SLOT_STATE_A, .one Reg.SLOT_STATE_B, .each2 usedKey]
  | .stSweepStep _ => checkKeys ++ eccKeys ++ [.each Reg.BANK_STATE, .one Reg.CNT_ST_SKIP, .each Reg.SWAP_FOR, .each
    Reg.SWAP_PHASE, .one Reg.SWEEP_BANKS, .one Reg.SW_FAILED, .one Reg.SW_SKIPPED, .each2 usedKey]
  | .runStart _ => checkKeys ++ answerKeys ++ resultKeys ++ eccKeys ++ [.each Reg.BANK_OWNER, .each Reg.BANK_STATE, .one
    Reg.RUN_STATE, .one Reg.SWEEP_BANKS, .one Reg.SW_FREE, .one Reg.SW_POOL, .each2 usedKey]
  | .runStop _ => checkKeys ++ answerKeys ++ resultKeys ++ eccKeys ++ [.one Reg.RUN_STATE, .one Reg.SWEEP_BANKS, .each2
    usedKey]
  | .runBankDone _ _ _ => checkKeys ++ resultKeys ++ eccKeys ++ [.each Reg.BANK_OWNER, .each Reg.BANK_STATE, .one
    Reg.RUN_STATE, .one Reg.SWEEP_BANKS, .one Reg.SW_FREE, .one Reg.SW_POOL, .each2 usedKey]
  | .enterConfig _ => checkKeys ++ answerKeys ++ eccKeys ++ [.each2 usedKey]
  | .leaveConfig _ => [.all]
  | .enterSelfTest _ => checkKeys ++ modeKeys ++ answerKeys ++ eccKeys ++ [.each2 usedKey]
  | .leaveSelfTest _ => checkKeys ++ modeKeys ++ answerKeys ++ eccKeys ++ [.each2 usedKey]
  | .setQuiescent _ => checkKeys ++ answerKeys ++ eccKeys ++ [.each2 usedKey]
  | .clearQuiescent _ => checkKeys ++ answerKeys ++ eccKeys ++ [.each2 usedKey]
  | .modeChangeAtStrobe => checkKeys ++ modeKeys ++ offerKeys ++ eccKeys ++ [.each Reg.BANK_OWNER, .each Reg.CAN_STATUS,
    .each Reg.CAN_TXQ, .one Reg.CENSUS_STATE, .each Reg.CH_CNT_TX_DROP, .each Reg.CH_STATE, .one Reg.CNT_LONE, .each
    Reg.ENG_STATE, .one Reg.EPOCH_PENDING, .one Reg.HEATHER_STATE, .one Reg.JOURNAL_USED, .one Reg.JSEQ_LAST, .each
    Reg.MEAS_STATE, .each Reg.PD_DELAY_VALID, .one Reg.RING_STATE, .each Reg.RP_CNT_WRAP, .each Reg.RP_STATE, .one
    Reg.SLOT_STATE_A, .one Reg.SLOT_STATE_B, .one Reg.SW_FREE, .one Reg.SW_POOL, .one Reg.TW_PEER_ADDR, .one Reg.TW_READY, .one
    Reg.TW_STATE, .one Reg.TW_TOKEN, .each2 usedKey]
  | .powerOn => [.all]
  | .resetN _ _ => [.all]
  | .resetCmd _ => [.all]
  | .resetRelease => checkKeys ++ modeKeys ++ eccKeys ++ [.each Reg.FEED_STATE, .each2 usedKey]
  | .bootEnd _ => [.all]
  | .autoStart => [.all]
  | .cfgSave _ => checkKeys ++ answerKeys ++ eccKeys ++ [.one Reg.CFG_SAVE_STATE, .each2 usedKey]
  | .cfgSaveDone _ => [.one Reg.CFG_GENERATION, .one Reg.CFG_SAVE_STATE]
  | .cfgErase _ => checkKeys ++ answerKeys ++ eccKeys ++ [.each2 usedKey]
  | .jtagBypass => []
  | .jtagIdcode => []
  | .jtagSample _ _ => []
  | .jtagExtest => []
  | .jtagClamp => []
  | .jtagHighz => []
  | .canRxError _ _ => [.each Reg.CAN_CNT_BUS_ERR, .each Reg.CAN_CNT_BUS_OFF, .each Reg.CAN_ERRCNT, .each Reg.CAN_STATE,
    .each Reg.CAN_STATUS, .each Reg.CAN_TXQ]
  | .dictRspRx _ => checkKeys ++ packetKeys ++ eccKeys ++ moverKeys ++ remoteKeys ++ [.each Reg.CH_CNT_TX_DROP, .one
    Reg.CNT_EGRESS_ENGINE, .one Reg.CNT_EGRESS_HOST, .one Reg.CNT_EGRESS_SERIAL, .one Reg.CNT_FAB_TIMEOUT, .one
    Reg.CNT_HOST_ERR, .one Reg.CNT_HOST_RD, .one Reg.CNT_HOST_WR, .one Reg.CNT_LATE_RSP, .one Reg.CNT_LOCAL_FAIL, .one
    Reg.CNT_LOCK_RETRY, .one Reg.CNT_MEM_WRITE_FAIL, .one Reg.CNT_OPS, .one Reg.CNT_REISSUE_LOST, .one Reg.CNT_SAT, .one
    Reg.CNT_TRUNK_FAIL, .each Reg.CNT_WRITE_CLASH, .each Reg.ENG_CNT_RX_EMPTY, .each Reg.ENG_CNT_TX_REFUSED, .each
    Reg.ENG_FLAGS, .one Reg.FO_SESSION, .one Reg.FO_STATUS, .one Reg.HE_ADDR, .one Reg.HE_DIR, .one Reg.HE_STATUS, .one
    Reg.HE_TICK, .one Reg.LC_BANK, .one Reg.LC_TICK, .one Reg.LC_WORD, .one Reg.LHP_ERR_PENDING, .each Reg.TRUNK_CNT_DROP_CLASS,
    .each Reg.TRUNK_CNT_DROP_FULL, .each Reg.TRUNK_QUEUED, .one Reg.TRUNK_QUEUED_C3, .one Reg.TRUNK_QUEUED_C4, .one
    Reg.TRUNK_QUEUED_C6, .each2 usedKey]
  | .heatherEccCorr _ => [.one Reg.CNT_HTR_CORR]
  | .lhpBclkReturn _ => [.one Reg.LHP_BCLK_KHZ, .one Reg.LHP_STATE]

/-- The command left every part, register and OCTETS member as it was that it may not change. -/
def Unchanged (i : Instr) (s t : State) : Prop :=
  (∀ p : CorePart, p ∉ touched i → p.same s.core t.core) ∧
    ∀ k, k ∉ reportKeys → (∀ x ∈ written i, ¬ x.has k) → t.core.reg k = s.core.reg k ∧ t.core.blob k = s.core.blob k

/-- Families of commands by what they act on; `wide` are those that run others inside them, or reset the node. -/
inductive Family where
  | link
  | field
  | fabric
  | plant
  | register
  | wide
  deriving DecidableEq, Repr

/-- The family of a command. -/
def family : Instr → Family
  | .registerWrite _ _ _ _ => .wide
  | .dictReqEnqueue _ => .plant
  | .dictRead => .register
  | .dictWrite => .wide
  | .dictDescribe => .register
  | .dictOpen => .register
  | .dictClose => .register
  | .segRead => .register
  | .segWrite => .wide
  | .segAbort => .register
  | .rwtEffect => .plant
  | .sessionIdleClose => .plant
  | .lockoutEnd => .plant
  | .segTimeoutAbandon => .plant
  | .tickArmPoint => .link
  | .tickStrobe _ _ _ => .wide
  | .postRegisterTake _ => .plant
  | .portModulePresent _ _ => .link
  | .portModuleAbsent _ => .link
  | .portLockGained _ => .link
  | .portLockLost _ _ => .link
  | .linkQualExpiry _ => .link
  | .spliceReqSend _ => .link
  | .spliceReqRx _ _ => .link
  | .spliceAckRx _ _ => .link
  | .unwrapHoldExpiry _ => .link
  | .unwrapComplete _ => .link
  | .linkFailureDetect _ _ => .link
  | .linkFailureRecover _ => .link
  | .wrapQualExpiry _ => .link
  | .wrapComplete _ => .link
  | .linkWaitExpiry => .link
  | .sfpDiagPoll _ _ _ => .link
  | .censusStart _ => .register
  | .censusCollectRx _ _ => .link
  | .censusCloseReturn _ _ => .link
  | .censusFinalRx _ _ => .link
  | .censusApply _ => .link
  | .censusTimeout _ => .link
  | .censusFinalTimeout _ => .link
  | .trunkFrameEnqueue _ _ => .link
  | .trunkSlot _ => .link
  | .trunkBlockRx _ _ => .link
  | .trunkRtoExpiry _ _ => .link
  | .trunkKeepalive _ _ => .link
  | .trunkDeadExpiry _ => .link
  | .frameRxHeader _ _ => .link
  | .frameRxEnd _ _ _ => .link
  | .cutThroughUnderrun _ => .link
  | .frameOriginate _ _ => .link
  | .trackAgeExpiry => .link
  | .linkHoldExpiry _ => .link
  | .holdResume _ => .link
  | .switchSlotSchedule => .link
  | .frameAdmission => .link
  | .heldFrameAdmit => .link
  | .localWaitExpiry => .link
  | .fairWindowEnd => .link
  | .bufAccountCheck => .link
  | .bufLimitWrite _ _ _ _ => .register
  | .injArm _ => .register
  | .injCancel _ => .register
  | .timeSyncSend => .link
  | .timeSyncRx _ _ _ _ => .link
  | .syncLossExpiry => .link
  | .timeSet _ _ => .register
  | .peerDelaySend _ => .link
  | .peerDelayReqRx _ _ _ => .link
  | .peerDelayRspRx _ _ => .link
  | .peerDelayTimeout _ => .link
  | .ppsEdge => .link
  | .ppsLossTimeout => .link
  | .ppsOutRise => .link
  | .ppsOutFall => .link
  | .tickPeriodChange => .wide
  | .eventRecordArrive _ _ _ _ _ _ => .register
  | .eventCloseExpiry => .wide
  | .evqMoveComplete => .link
  | .evqRdWrite _ _ => .register
  | .schedItemRx _ _ => .field
  | .schedPost _ _ => .register
  | .schedCancel _ => .register
  | .charRx _ _ _ _ => .field
  | .chBreak _ => .field
  | .idleGapExpiry _ => .field
  | .modbusSilenceExpiry _ => .field
  | .flushAgeExpiry _ => .field
  | .chPtrMismatch _ _ => .field
  | .chReset _ _ => .register
  | .scannerRxVisit _ => .field
  | .scannerTxVisit _ => .field
  | .chTxItemArrive _ _ => .field
  | .chTxRecordStart _ _ => .field
  | .chTxRecordEnd _ => .field
  | .spiTransactionDone _ _ => .field
  | .i2cTransactionDone _ _ _ _ => .field
  | .i2cArbRetry _ => .field
  | .i2cTargetWrite _ _ => .field
  | .i2cTargetRead _ _ => .field
  | .busStuck _ _ => .field
  | .busStuckRetry _ _ => .field
  | .smbalert _ => .field
  | .chRxPop _ _ => .field
  | .rxRelease _ _ => .field
  | .txWrite _ _ => .field
  | .rxSilent _ => .field
  | .canTxPost _ _ _ => .register
  | .canTxItemArrive _ _ => .field
  | .canFrameSelect _ => .field
  | .canSof _ => .field
  | .canTxSent _ _ => .field
  | .canArbLost _ => .field
  | .canTxError _ _ => .field
  | .canAbort _ _ _ => .register
  | .canAbortAll _ _ => .register
  | .canRecover _ _ => .register
  | .canRecovered _ => .field
  | .canFrameRxComplete _ _ _ _ _ => .field
  | .rxRdWrite _ _ _ => .register
  | .engStart _ _ => .register
  | .engStop _ _ => .register
  | .stopAtWrap _ _ => .register
  | .engFlush _ _ => .register
  | .shiftOut _ => .field
  | .shiftIn _ _ => .field
  | .engDelay _ => .field
  | .engWait _ _ _ => .field
  | .engSet _ => .field
  | .engMove _ => .field
  | .engCmp _ _ => .field
  | .engEvent _ => .field
  | .engStallEnd _ _ _ => .field
  | .txData _ _ => .field
  | .engRxPop _ => .field
  | .rxPeek _ => .field
  | .engProgWrite _ _ _ => .register
  | .engWrapWrite _ _ _ => .register
  | .engDivWrite _ _ _ => .register
  | .engProgForce _ _ _ => .register
  | .discOutputItem _ _ => .field
  | .discSafeWrite _ _ _ => .register
  | .discVioSense _ _ => .field
  | .measSampleDeliver _ _ => .field
  | .measOpenEnter _ => .field
  | .measOpenLeave _ => .field
  | .mapperInputItem _ => .field
  | .mapperRelease => .field
  | .routeTableWrite _ _ => .register
  | .mappingEntryWrite _ _ => .register
  | .rulePass => .field
  | .ruleReset _ _ => .register
  | .mapLoadWindowEnd => .field
  | .fabricRead _ => .fabric
  | .fabricWrite _ _ => .fabric
  | .writePosted _ _ => .fabric
  | .c7RuntDiscard _ => .fabric
  | .readData _ => .fabric
  | .writeDone _ => .fabric
  | .fabricErrorRx _ => .fabric
  | .fabTimeoutExpiry => .fabric
  | .windowAccess _ _ _ _ => .fabric
  | .winCtrlWrite _ _ _ => .register
  | .foTokenWrite _ _ => .register
  | .fabOpenAnswer _ => .fabric
  | .qTailWrite _ _ _ _ => .register
  | .mvDescStart _ => .fabric
  | .mvPreempt _ => .fabric
  | .mvDescEnd _ => .fabric
  | .mvEnable _ _ => .register
  | .mvDisable _ _ => .register
  | .mvResume _ _ => .register
  | .mvSkip _ _ => .register
  | .mvAbort _ _ => .register
  | .bankOwnerWrite _ _ _ => .register
  | .handoverComplete => .wide
  | .handoverRefused => .wide
  | .copyInDone _ => .plant
  | .copyInAbandon _ => .plant
  | .aliasedTestDone _ _ _ => .plant
  | .copyBackDone _ => .plant
  | .hostReadCycle _ _ => .fabric
  | .hostWriteCycle _ _ => .fabric
  | .lhpNoClock => .fabric
  | .hostRetryDeadlock => .fabric
  | .reissueExpiry => .fabric
  | .lockSequenceBegin => .fabric
  | .lockSequenceEnd => .fabric
  | .lockBroken => .fabric
  | .xqTailWrite _ _ => .register
  | .deviceMasterCycle _ _ => .fabric
  | .deviceRetryReissue _ _ => .fabric
  | .sidebandEdge _ _ => .fabric
  | .heartbeatToggle => .plant
  | .statusSend => .plant
  | .heartbeatSign => .plant
  | .hbWireBroken => .plant
  | .twLinkRetx _ => .plant
  | .twLinkDown => .plant
  | .twStatus _ _ _ _ => .plant
  | .twImage _ _ _ _ => .plant
  | .twOffer _ _ _ _ => .wide
  | .twAccept _ _ _ _ => .plant
  | .twReleased _ _ _ _ _ _ => .plant
  | .twAbort _ _ _ => .plant
  | .twGrant _ _ _ _ _ => .plant
  | .twNumber _ _ _ _ _ _ _ _ _ => .plant
  | .twSent _ _ _ _ _ _ _ _ _ => .plant
  | .twJournal _ _ _ _ _ => .wide
  | .twMark _ _ _ _ _ _ => .plant
  | .twChunk _ _ _ _ _ _ => .plant
  | .twCommit _ _ _ _ _ _ => .plant
  | .pairWaitExpiry => .plant
  | .peerSilence => .plant
  | .witnessSettleEnd => .wide
  | .contestHoldEnd => .wide
  | .joinWaitExpiry => .plant
  | .twCmdOffer _ => .register
  | .twCmdSnapshot _ => .register
  | .snapshotStart => .plant
  | .snapshotSent => .plant
  | .switchStrobeT => .plant
  | .tokenPass => .plant
  | .instanceRelease _ _ => .plant
  | .instanceReleaseTimeout => .plant
  | .safeTokenRelease => .plant
  | .supplyReset _ _ => .wide
  | .dipStart _ => .plant
  | .dipEnd _ _ => .plant
  | .powerDegraded => .plant
  | .degradedClear _ => .plant
  | .supplyRangeChange _ _ => .plant
  | .vbatSense _ => .plant
  | .rtcLoad => .plant
  | .backupBrownOut => .plant
  | .vbatRise => .plant
  | .feedReverse _ _ => .plant
  | .feedUnblock _ _ => .plant
  | .feedLost _ _ => .plant
  | .feedRestored _ _ => .plant
  | .railTurnOn _ => .plant
  | .railTurnOff _ => .plant
  | .inrushEnd _ => .plant
  | .railSample _ _ _ => .plant
  | .settleWindowExpiry _ => .plant
  | .powerGood _ => .plant
  | .pgLost _ => .plant
  | .retryIntervalExpiry _ => .plant
  | .retryClearExpiry _ => .plant
  | .presenceLost _ => .plant
  | .railBounce _ => .plant
  | .railAbsent _ => .plant
  | .railInserted _ => .plant
  | .plClear _ => .register
  | .faultReport _ _ _ _ _ => .plant
  | .faultClose => .wide
  | .ffRecord _ => .register
  | .fqPop _ => .register
  | .faultFrameRx _ => .plant
  | .escalationTimerExpiry => .wide
  | .escalationReset => .wide
  | .fcAck _ _ => .register
  | .fcUnisolate _ _ => .register
  | .fcSelfCheck => .plant
  | .safeEntry _ => .plant
  | .fcSafeEnter _ => .register
  | .fcSafeExit _ => .register
  | .safeExit => .plant
  | .fcInjectReport _ => .register
  | .fcInjectPair _ => .register
  | .fcInjectSafeFlag _ => .register
  | .heatherWdt => .plant
  | .heatherEccUncorr _ => .plant
  | .heatherRestartDone => .plant
  | .sensorRead _ _ _ _ _ _ _ _ _ _ _ _ _ _ => .plant
  | .logFlashCopy _ => .plant
  | .logErase _ => .register
  | .lcToFieldOpen _ => .register
  | .lcToFieldSealed _ => .register
  | .lcReturn _ _ => .register
  | .updBegin _ => .plant
  | .updateEraseDone _ => .plant
  | .updateChunk _ _ => .plant
  | .updQuery _ => .plant
  | .updEnd _ => .plant
  | .updateCheckDone _ => .plant
  | .updActivate _ => .register
  | .updConfirm _ => .register
  | .updRevert _ => .register
  | .updDiscard _ => .register
  | .confirmLeftExpiry => .plant
  | .stSweepStep _ => .plant
  | .runStart _ => .register
  | .runStop _ => .register
  | .runBankDone _ _ _ => .plant
  | .enterConfig _ => .register
  | .leaveConfig _ => .wide
  | .enterSelfTest _ => .register
  | .leaveSelfTest _ => .register
  | .setQuiescent _ => .register
  | .clearQuiescent _ => .register
  | .modeChangeAtStrobe => .plant
  | .powerOn => .wide
  | .resetN _ _ => .wide
  | .resetCmd _ => .wide
  | .resetRelease => .plant
  | .bootEnd _ => .wide
  | .autoStart => .wide
  | .cfgSave _ => .register
  | .cfgSaveDone _ => .plant
  | .cfgErase _ => .register
  | .jtagBypass => .plant
  | .jtagIdcode => .plant
  | .jtagSample _ _ => .plant
  | .jtagExtest => .plant
  | .jtagClamp => .plant
  | .jtagHighz => .plant
  | .canRxError _ _ => .field
  | .dictRspRx _ => .fabric
  | .heatherEccCorr _ => .plant
  | .lhpBclkReturn _ => .fabric

/-- The serial channel that a command acts on. -/
def chanOf : Instr → Option Nat
  | .charRx n _ _ _ => some n.val
  | .chBreak n => some n.val
  | .idleGapExpiry n => some n.val
  | .modbusSilenceExpiry n => some n.val
  | .flushAgeExpiry n => some n.val
  | .chPtrMismatch n _ => some n.val
  | .chReset _ n => some n.val
  | .scannerRxVisit n => some n.val
  | .scannerTxVisit n => some n.val
  | .chTxItemArrive n _ => some n.val
  | .chTxRecordStart n _ => some n.val
  | .spiTransactionDone n _ => some n.val
  | .i2cTransactionDone n _ _ _ => some n.val
  | .i2cArbRetry n => some n.val
  | .i2cTargetWrite n _ => some n.val
  | .i2cTargetRead n _ => some n.val
  | .busStuck n _ => some n.val
  | .busStuckRetry n _ => some n.val
  | .smbalert n => some n.val
  | .chRxPop n _ => some n.val
  | .rxRelease n _ => some n.val
  | .txWrite n _ => some n.val
  | .rxSilent n => some n.val
  | .chTxRecordEnd e => some e.chan.val
  | _ => none

/-- The CAN controller that a command acts on. -/
def canOf : Instr → Option Nat
  | .canTxPost _ n _ => some n.val
  | .canTxItemArrive n _ => some n.val
  | .canFrameSelect n => some n.val
  | .canSof n => some n.val
  | .canTxSent n _ => some n.val
  | .canArbLost n => some n.val
  | .canTxError n _ => some n.val
  | .canAbort _ n _ => some n.val
  | .canAbortAll _ n => some n.val
  | .canRecover _ n => some n.val
  | .canRecovered n => some n.val
  | .canFrameRxComplete n _ _ _ _ => some n.val
  | .rxRdWrite _ n _ => some n.val
  | .canRxError n _ => some n.val
  | _ => none

/-- The pin engine that a command acts on. -/
def engOf : Instr → Option Nat
  | .engStart _ n => some n.val
  | .engStop _ n => some n.val
  | .stopAtWrap _ n => some n.val
  | .engFlush _ n => some n.val
  | .shiftOut n => some n.val
  | .shiftIn n _ => some n.val
  | .engDelay n => some n.val
  | .engWait n _ _ => some n.val
  | .engSet n => some n.val
  | .engMove n => some n.val
  | .engCmp n _ => some n.val
  | .engEvent n => some n.val
  | .engStallEnd n _ _ => some n.val
  | .txData n _ => some n.val
  | .engRxPop n => some n.val
  | .rxPeek n => some n.val
  | .engProgWrite _ n _ => some n.val
  | .engWrapWrite _ n _ => some n.val
  | .engDivWrite _ n _ => some n.val
  | .engProgForce _ n _ => some n.val
  | _ => none

/-- The rail that a command acts on. -/
def railOf : Instr → Option Nat
  | .railTurnOn n => some n.val
  | .railTurnOff n => some n.val
  | .inrushEnd n => some n.val
  | .railSample n _ _ => some n.val
  | .settleWindowExpiry n => some n.val
  | .powerGood n => some n.val
  | .pgLost n => some n.val
  | .retryIntervalExpiry n => some n.val
  | .retryClearExpiry n => some n.val
  | .presenceLost n => some n.val
  | .railBounce n => some n.val
  | .railAbsent n => some n.val
  | .railInserted n => some n.val
  | _ => none

/-- An object whose members of fixed width only take the value that is written: no command, setting with a check of its owner or
other effect hangs on the write. -/
def plainObject (o : Nat) : Bool :=
  if o < 0x2000 then
    !([0x0102, 0x0111, 0x0131, 0x0140, 0x0222, 0x1117, 0x1134, 0x1135, Reg.INJ_ARM / 256, Reg.EGRESS_BURST_LIMIT / 256].contains o)
      && !(Nat.ble 0x1310 o && Nat.blt o 0x1320)
  else if o < 0x3000 then !([0xD, 0xE, 0xF, 0x17].contains (o % 0x20))
  else if o < 0x3200 then !([6, 7, 0xB].contains (o % 0x10))
  else if o < 0x3800 then !([0, 2, 3, 4, 5, 6, 7].contains (o % 0x10))
  else if o < 0x4100 then o % 8 != 1 && o % 8 != 4
  else if o < 0x6000 then !([0x5005, 0x5063, 0x5083].contains o) && !(Nat.ble 0x4400 o && Nat.blt o 0x4600 && [7, 8].contains (o % 0x10))
  else if o < 0x8000 then
    o != 0x6001 && o != 0x7850 && !(Nat.ble 0x6400 o && Nat.blt o 0x6800) && !(Nat.ble 0x7000 o && Nat.blt o 0x7480)
      && !(Nat.ble 0x7800 o && Nat.blt o 0x7840) && !(Nat.ble 0x7C20 o && Nat.blt o 0x7C30)
      && !([Reg.XQ_TAIL / 256, Reg.XQ_BASE / 256, Reg.XQ_SIZE / 256].contains o)
  else
    !([0x800C, 0x9016, 0xA001, 0xA004, 0xA005, Reg.FCINJ_ARM / 256, 0xB005, 0xB006, 0xB10B, 0xB208, Reg.RUN_BG / 256, Reg.RUN_CMD / 256].contains o)
      && !(Nat.ble 0x9020 o && Nat.blt o 0x9030) && !(Nat.ble 0x9100 o && Nat.blt o 0x9200)
      && !(Nat.ble 0xB010 o && Nat.blt o 0xB01A)

end Sys2Proof.Machine
end

