-- ==== Sys2Proof/Certificates/Slice0/Obligations.lean ====
section
/-! DEFINITION. The statements for the provers. A clause about a command says under which conditions on the state and the operands it
answers a next state, and what then holds; `touched` and `written` (Sys2Proof/Safety.lean) give the frames. -/

open Sys2Proof Sys2Proof.Machine

/-- A ring port goes from ABSENT to UP as its module, its lock and LINK_QUAL say,
and the SPLICE handshake leads it to JOINED (R97, R99, R100, R105). a module takes an enabled port from ABSENT to DOWN; its
removal takes it to ABSENT and disables the transmitter; lock takes DOWN to QUALIFYING and starts LINK_QUAL; a lost
condition takes QUALIFYING, UP and MISWIRED to DOWN; the end of LINK_QUAL takes QUALIFYING to UP; a poll of a module with
diagnostics stores them and sets the next poll; UP sends a SPLICE_REQ every 100 µs; a SPLICE_REQ is answered with a
SPLICE_ACK; an accepted SPLICE_ACK takes UP to JOINED and names the neighbour; the end of UNWRAP_HOLD sends the first
SPLICE_REQ; a side that has joined again is no longer wrapped. That the end of an interval moves the clock to its instant is
the model's (log entry 3). -/
def Obligations.RingPortsQualifyAndJoin : Prop :=
  (∀ (p : Fin 4) (id : Option Bytes) (s : State), s.core.portOn p = true → s.core.reg (Reg.RP_STATE p) = 1 →
      Answers (.portModulePresent p id) s (fun s' => s'.core.reg (Reg.RP_STATE p) = 2 ∧ (s'.core.port p).present = true)) ∧
  (∀ (p : Fin 4) (s : State), s.core.portOn p = true → 2 ≤ s.core.reg (Reg.RP_STATE p) → s.core.reg (Reg.RP_STATE p) ≠ 5 →
      Answers (.portModuleAbsent p) s (fun s' => s'.core.reg (Reg.RP_STATE p) = 1 ∧ (s'.core.port p).present = false ∧
      (s'.core.port p).txDis = true)) ∧
  (∀ (p : LinkLock) (s : State), s.core.reg (Reg.RP_STATE p.port) = 2 → bit (s.core.reg Reg.SUPPLY_FLAGS) 0 = false →
      p.still = none → s.core.linkPartner p.port p.sets = true →
      Answers (.portLockGained p) s (fun s' => s'.core.reg (Reg.RP_STATE p.port) = 3 ∧
      (s'.core.port p.port).qualEnd = some (s.core.now + 1000000 * s.core.reg Reg.LINK_QUAL))) ∧
  (∀ (p : Fin 4) (cause : LinkLoss) (s : State), (s.core.reg (Reg.RP_STATE p) = 3 ∨ s.core.reg (Reg.RP_STATE p) = 4 ∨
      s.core.reg (Reg.RP_STATE p) = 6) →
      Answers (.portLockLost p cause) s (fun s' => s'.core.reg (Reg.RP_STATE p) = 2 ∧ (s'.core.port p).qualEnd = none)) ∧
  (∀ (p : Fin 4) (e : Nat) (s : State), s.core.reg (Reg.RP_STATE p) = 3 → (s.core.port p).qualEnd = some e →
      Answers (.linkQualExpiry p) s (fun s' => s'.core.reg (Reg.RP_STATE p) = 4 ∧ (s'.core.port p).qualEnd = none ∧
      s'.core.now = max s.core.now e)) ∧
  (∀ (p : Fin 4) (id : Option Bytes) (diag : Option Bytes) (e : Nat) (x : Bytes) (s : State), (s.core.port p).sfpNext = some e →
      (s.core.port p).present = true → s.core.firmware = true → bit (fieldAt (s.core.blob (Reg.RP_SFP_ID p)) 92 1) 6 = true →
      diag = some x → s.core.tickOpen = true →
      Answers (.sfpDiagPoll p id diag) s (fun s' => s'.core.blob (Reg.RP_SFP_DIAG p) = padTo 22 x ∧
      (s'.core.port p).sfpNext = some (max s.core.now e + 1000000 * s.core.reg Reg.SFP_POLL))) ∧
  (∀ (p : Fin 4) (e : Nat) (s : State), s.core.reg (Reg.RP_STATE p) = 4 → (s.core.port p).reqNext = some e →
      Answers (.spliceReqSend p) s (fun s' => (s'.core.port p).reqSent = true ∧
      (s'.core.port p).reqNext = some (max s.core.now e + 100000) ∧ (headOf (mapGet {} p
      s'.core.ring.sent).frame.payload).phase = 2)) ∧
  (∀ (p : Fin 4) (f : Frame) (s : State), (s.core.reg (Reg.RP_STATE p) = 4 ∨ s.core.reg (Reg.RP_STATE p) = 5) →
      s.core.reg Reg.INJ_LEFT = 0 → f.hopCheck = f.hopCrc → f.badHeader = false → f.check = f.transitCrc → f.kind = 8 →
      (headOf f.payload).phase = 2 →
      Answers (.spliceReqRx p f) s (fun s' => (mapGet {} p s'.core.ring.sent).frame = (s.core.spliceFrame p 3).1)) ∧
  (∀ (p : Fin 4) (f : Frame) (s : State), s.core.reg (Reg.RP_STATE p) = 4 → (s.core.port p).reqSent = true →
      s.core.reg Reg.INJ_LEFT = 0 → f.hopCheck = f.hopCrc → f.badHeader = false → f.check = f.transitCrc → f.kind = 8 →
      (headOf f.payload).phase = 3 → s.core.spliceAccepts p (memberOfBytes (slice f.payload 16 32)) = true →
      Answers (.spliceAckRx p f) s (fun s' => s'.core.reg (Reg.RP_STATE p) = 5 ∧
      s'.core.reg (Reg.RP_NEIGHBOUR p) = (memberOfBytes (slice f.payload 16 32)).addr ∧ (s'.core.port p).reqNext = none)) ∧
  (∀ (p : Fin 4) (e : Nat) (s : State), s.core.reg (Reg.RP_STATE p) = 4 → (s.core.port p).holdEnd = some e →
      Answers (.unwrapHoldExpiry p) s (fun s' => (s'.core.port p).holdEnd = none ∧ (s'.core.port p).reqSent = true)) ∧
  (∀ (p : Fin 4) (s : State), s.core.joined p = true → (s.core.port p).wrapped = true →
      Answers (.unwrapComplete p) s (fun s' => (s'.core.port p).wrapped = false))

/-- A link failure of a JOINED port starts WRAP_QUAL; a glitch ends it,
its expiry drops the port to DOWN and the ring wraps (R102, R103, R104, R106). the failure is qualified,
remote fault is sent, the output queue freezes; a recovery within WRAP_QUAL counts a glitch; the end of WRAP_QUAL takes the
port to DOWN; the completed wrap originates a census with CAUSE 2; with no home port joined by LINK_WAIT the node is lone;
the end of LINK_HOLD flushes the queue and releases it; a port that carries traffic again resumes its queue. That the end of
an interval moves the clock to its instant is the model's (log entry 3). -/
def Obligations.LinkFailureWrapsTheRing : Prop :=
  (∀ (p : Fin 4) (cause : LinkLoss) (s : State), s.core.joined p = true → (s.core.port p).failing = false →
      s.core.tickOpen = true →
      Answers (.linkFailureDetect p cause) s (fun s' => s'.core.reg (Reg.RP_STATE p) = 5 ∧ (s'.core.port p).failing = true ∧
      (s'.core.port p).sendFault = !(s.core.sending p) ∧ (s'.core.port p).faultDue = s.core.sending p ∧
      (s'.core.port p).wrapEnd = some (s.core.now + 1000 * s.core.reg Reg.WRAP_QUAL) ∧ s'.core.reg (Reg.FW_HOLD_STATE p) = 1)) ∧
  (∀ (p : Fin 4) (e : Nat) (s : State), s.core.joined p = true → (s.core.port p).wrapEnd = some e → s.core.now < e →
      Answers (.linkFailureRecover p) s (fun s' => s'.core.reg (Reg.RP_STATE p) = 5 ∧ (s'.core.port p).failing = false ∧
      (s'.core.port p).wrapEnd = none ∧ s'.core.reg (Reg.RP_CNT_GLITCH p) = satAdd32 (s.core.reg (Reg.RP_CNT_GLITCH p)) 1)) ∧
  (∀ (p : Fin 4) (e : Nat) (s : State), s.core.joined p = true → s.core.joined (otherPort p) = true →
      (s.core.port p).wrapEnd = some e →
      Answers (.wrapQualExpiry p) s (fun s' => s'.core.reg (Reg.RP_STATE p) = 2 ∧ (s'.core.port p).wrapDue = true ∧
      s'.core.reg (Reg.RP_CNT_WRAP p) = satAdd32 (s.core.reg (Reg.RP_CNT_WRAP p)) 1)) ∧
  (∀ (p : Fin 4) (s : State), (s.core.port p).wrapDue = true → s.core.joined (otherPort p) = true → s.core.tickOpen = true →
      s.core.up = true → s.core.addrOn (pairOf p) ≠ 0xFFFF → s.core.ring.lone = false →
      Answers (.wrapComplete p) s (fun s' => (s'.core.port p).wrapped = true ∧ (s'.core.port p).wrapDue = false ∧
      (s'.core.census (pairOf p)).own = true ∧ (s'.core.census (pairOf p)).cause = 2)) ∧
  (∀ (e : Nat) (s : State), s.core.ring.linkWaitEnd = some e → s.core.joined 0 = false → s.core.joined 1 = false →
      s.core.ring.lone = false → s.core.tickOpen = true →
      Answers .linkWaitExpiry s (fun s' => s'.core.ring.lone = true ∧ s'.core.node.degraded = true ∧
      s'.core.reg Reg.RING_STATE = 3)) ∧
  (∀ (p : Fin 4) (h : Hold) (s : State), s.core.fwd.holds.find? (fun x => x.1 == p.val) = some (p.val, h) →
      Answers (.linkHoldExpiry p) s (fun s' => s'.core.reg (Reg.FW_HOLD_STATE p) = 0 ∧
      s'.core.fwd.holds.find? (fun x => x.1 == p.val) = none ∧ s'.core.now = max s.core.now h.ends)) ∧
  (∀ (p : Fin 4) (h : Hold) (s : State), s.core.fwd.holds.find? (fun x => x.1 == p.val) = some (p.val, h) →
      s.core.joined p = true → (s.core.port p).failing = false → s.core.now ≤ h.ends →
      Answers (.holdResume p) s (fun s' => s'.core.reg (Reg.FW_HOLD_STATE p) = 0 ∧
      s'.core.fwd.holds.find? (fun x => x.1 == p.val) = none ∧ s'.core.now = s.core.now))

/-- A census is originated, collected, closed, distributed and applied, and restarted when it stalls (R113, R117, R118,
R120, R121). a write of 1 to CENSUS_START originates a census with CAUSE 0; a COLLECT batch of a new census is taken and the
own record appended; at its return the originator builds the table from the records; the LAST FINAL batch completes the
table and schedules it for its apply tick; at the apply tick the table comes into force; a closing batch that does not
return restarts the census with CAUSE 5; so does a FINAL that stays away. That the end of an interval moves the clock to its
instant is the model's (log entry 3). That a register row acts at once, as a request at the head of the engine's queue,
is the model's reading (log entry 4). -/
def Obligations.CensusBuildsTheSegmentTable : Prop :=
  (∀ (lvl : Fin 4) (s : State), s.core.takes lvl Reg.CENSUS_START = true → s.core.addrOn 0 ≠ 0xFFFF →
      (s.core.turn 0).isSome = true → s.core.ring.lone = false →
      Answers (.censusStart lvl) s (fun s' => (s'.core.census 0).own = true ∧ (s'.core.census 0).cause = 0 ∧
      (s'.core.census 0).newest = ((s.core.census 0).newest + 1) % 65536 ∧ s'.core.wroteOk Reg.CENSUS_START = true)) ∧
  (∀ (p : Fin 4) (f : Frame) (s : State), s.core.up = true → s.core.joined p = true → s.core.reg Reg.INJ_LEFT = 0 →
      f.check = f.transitCrc → s.core.censusStale (pairOf p) f = false → (headOf f.payload).phase = 0 → f.last = false →
      (s.core.census (pairOf p)).handled ≠ some ((headOf f.payload).gen, (headOf f.payload).origin) →
      Answers (.censusCollectRx p f) s (fun s' => (s'.core.census (pairOf p)).appended = true ∧
      (s'.core.census (pairOf p)).handled = some ((headOf f.payload).gen, (headOf f.payload).origin) ∧
      (s'.core.census (pairOf p)).finalEnd = some (s.core.now + 2000000 * s.core.reg Reg.CENSUS_TIMEOUT))) ∧
  (∀ (p : Fin 4) (f : Frame) (s : State), s.core.up = true → s.core.joined p = true → s.core.reg Reg.INJ_LEFT = 0 →
      f.check = f.transitCrc → s.core.censusStale (pairOf p) f = false → s.core.leavesAsOwn p f = true →
      (headOf f.payload).phase = 0 → f.last = true → (s.core.census (pairOf p)).own = true →
      (s.core.census (pairOf p)).handled = some ((headOf f.payload).gen, (headOf f.payload).origin) →
      Answers (.censusCloseReturn p f) s (fun s' => (s'.core.census (pairOf p)).own = false ∧
      (s'.core.census (pairOf p)).pending.map (fun x => x.members) = some (buildTable (s.core.segmentOn (pairOf p))
      (s.core.reg Reg.ASSIGN_BASE) (s.core.census (pairOf p)).returned))) ∧
  (∀ (p : Fin 4) (f : Frame) (s : State), s.core.up = true → s.core.joined p = true → s.core.reg Reg.INJ_LEFT = 0 →
      f.check = f.transitCrc → s.core.censusStale (pairOf p) f = false → (headOf f.payload).phase = 1 → f.last = true →
      (headOf f.payload).batch = 0 → f.src ≠ s.core.addrOn (pairOf p) →
      (s.core.census (pairOf p)).handled = some ((headOf f.payload).gen, (headOf f.payload).origin) →
      (s.core.census (pairOf p)).pending = none → (s.core.census (pairOf p)).finals = [] →
      tickAhead (headOf f.payload).apply s.core.tickNow = true →
      Answers (.censusFinalRx p f) s (fun s' => (s'.core.census (pairOf p)).finalEnd = none ∧
      (s'.core.census (pairOf p)).pending = some
      { tick := (headOf f.payload).apply, gen := (headOf f.payload).gen, origin := (headOf f.payload).origin, members := recordsOf f.payload })) ∧
  (∀ (pair : Fin 2) (x : PendTable) (s : State), (s.core.census pair).pending = some x → s.core.tickOpen = true →
      Answers (.censusApply pair) s (fun s' => (s'.core.census pair).table = x.members ∧
      s'.core.reg Reg.CNT_CENSUS = satAdd32 (s.core.reg Reg.CNT_CENSUS) 1)) ∧
  (∀ (pair : Fin 2) (e : Nat) (s : State), s.core.up = true → s.core.addrOn pair ≠ 0xFFFF →
      (s.core.turn (2 * pair.val)).isSome = true → s.core.ring.lone = false → (s.core.census pair).deadline = some e →
      Answers (.censusTimeout pair) s (fun s' => s'.core.reg Reg.CNT_CENSUS_RESTART = satAdd32 (s.core.reg
      Reg.CNT_CENSUS_RESTART) 1 ∧ (s'.core.census pair).own = true ∧ (s'.core.census pair).cause = 5 ∧
      s'.core.now = max s.core.now e)) ∧
  (∀ (pair : Fin 2) (e : Nat) (s : State), s.core.up = true → s.core.addrOn pair ≠ 0xFFFF →
      (s.core.turn (2 * pair.val)).isSome = true → s.core.ring.lone = false → (s.core.census pair).finalEnd = some e →
      Answers (.censusFinalTimeout pair) s (fun s' => s'.core.reg Reg.CNT_CENSUS_RESTART = satAdd32 (s.core.reg
      Reg.CNT_CENSUS_RESTART) 1 ∧ (s'.core.census pair).own = true ∧ (s'.core.census pair).cause = 5 ∧
      s'.core.now = max s.core.now e))

/-- A trunk queues frames, sends a block a slot, acknowledges, resends, keeps alive, and goes DOWN in silence (R129, R130,
R131, R132). a frame of a carried class joins the queue behind the others; slot 0 sends a link reset that is due; a good
block between its flags takes the trunk UP; every unacknowledged block of the plane is sent again; an idle plane owes an
acknowledgement block; silence for TRUNK_DEAD takes the trunk DOWN, which asks for a reset. That the end of an interval
moves the clock to its instant is the model's (log entry 3). -/
def Obligations.TrunksCarryFramesInBlocks : Prop :=
  (∀ (t : Fin 8) (f : Frame) (s : State), s.core.up = true → s.core.trunkActive t = true → (f.cls = 3 ∨ f.cls = 4 ∨ f.cls = 6) →
      s.core.reg Reg.INJ_LEFT = 0 → f.check = f.transitCrc → s.core.classQueued f.cls + f.queueBytes ≤ trunkPart f.cls →
      Answers (.trunkFrameEnqueue t f) s (fun s' => (s'.core.trunk t).queue = (s.core.trunk t).queue ++
      [{ frame := f, entered := s.core.sysNs }])) ∧
  (∀ (t : Fin 8) (s : State), s.core.up = true → s.core.trunkActive t = true → (s.core.trunk t).slot = 3 →
      (s.core.trunk t).resetDue = true →
      Answers (.trunkSlot t) s (fun s' => (s'.core.trunk t).slot = 0 ∧ (s'.core.trunk t).resetDue = false ∧
      (s'.core.trunk t).line = ({ kind := 3, format := 1, body := leBytes 2 s.core.homeAddr } : TrunkBlock).line ++ flags (280
      - ({ kind := 3, format := 1, body := leBytes 2 s.core.homeAddr } : TrunkBlock).line.length))) ∧
  (∀ (t : Fin 8) (chars : Bytes) (octets : Bytes) (s : State), s.core.up = true → s.core.trunkActive t = true →
      (s.core.trunk t).rx = [] → chars = 0x7E :: octets.flatMap escape ++ [0x7E] → 6 ≤ octets.length →
      fieldAt octets (octets.length - 2) 2 = fcs16 (octets.take (octets.length - 2)) → fieldAt octets 2 1 ≠ 3 →
      s.core.tickOpen = true →
      Answers (.trunkBlockRx t chars) s (fun s' => s'.core.reg (Reg.TRUNK_STATE t) = 2 ∧
      (s'.core.trunk t).lastGood = s.core.now)) ∧
  (∀ (t : Fin 8) (plane : Fin 2) (x : TrunkSent) (xs : List TrunkSent) (s : State),
      ((s.core.trunk t).plane plane).unacked = x :: xs → ((((s.core.trunk t).plane plane).frames.find? (fun g => g.fid ==
      x.fid)).map (fun g => g.retries)).getD 0 ≥ x.times →
      Answers (.trunkRtoExpiry t plane) s (fun s' => ((s'.core.trunk t).plane plane).again = xs.length + 1)) ∧
  (∀ (t : Fin 8) (plane : Fin 2) (s : State), s.core.up = true → s.core.trunkActive t = true →
      s.core.reg (Reg.TRUNK_STATE t) = 2 → (s.core.trunk t).resetWait = false →
      Answers (.trunkKeepalive t plane) s (fun s' => ((s'.core.trunk t).plane plane).ackDue = true)) ∧
  (∀ (t : Fin 8) (s : State), s.core.up = true → s.core.trunkActive t = true → s.core.tickOpen = true →
      Answers (.trunkDeadExpiry t) s (fun s' => s'.core.reg (Reg.TRUNK_STATE t) = 1 ∧ (s'.core.trunk t).resetWait = true))

/-- A frame for the node is delivered once its end proves good; frames leave as the node originates them; streams age out
(R149, R150, R151, R159, R162). a frame for the node enters the switch for its consumer; a good end makes the entry of its
stream; an output without its next block ends the frame poisoned with cause 5; a frame of a subsystem seeks its way to the
ring with the node as SOURCE; the entry longest unused is freed. That the end of an interval moves the clock to its instant
is the model's (log entry 3). -/
def Obligations.FramesAreReceivedAndOriginated : Prop :=
  (∀ (p : Fin 4) (f : Frame) (s : State), s.core.up = true → s.core.reg (Reg.RP_STATE p) = 5 → s.core.reg Reg.INJ_LEFT = 0 →
      f.hopCheck = f.hopCrc → f.badHeader = false → s.core.consumed p f = false → s.core.ownFrame (pairOf p) f = false →
      isMember (s.core.census (pairOf p)).table f.src = true → s.core.aged f = false → f.kind ≠ 8 →
      f.dst = s.core.addrOn (pairOf p) → f.dst ≠ 0xFFFF → isMcast f.dst = false →
      Answers (.frameRxHeader p f) s (fun s' => s'.core.fwd.arriving.find? (fun x => x.1 == p.val) = some (p.val,
      { frame := f, since := s.core.now, entry := some s.core.sw.nextId, deliver := true }) ∧
      s'.core.reg (Reg.FW_CNT_RX p) = satAdd32 (s.core.reg (Reg.FW_CNT_RX p)) 1)) ∧
  (∀ (p : Fin 4) (f : Frame) (e : EndKind) (a : Arriving) (s : State), s.core.fwd.arriving.find? (fun x => x.1 == p.val) = some
      (p.val, a) → e = .good → f.payload.length = a.frame.len → s.core.reg Reg.INJ_LEFT = 0 →
      f.check = ({ a.frame with payload := f.payload } : Frame).transitCrc → a.deliver = true → s.core.fwd.tracker = [] →
      Answers (.frameRxEnd p f e) s (fun s' => s'.core.fwd.arriving.find? (fun x => x.1 == p.val) = none ∧
      s'.core.fwd.tracker =
      [{ okey := a.frame.okey, cls := a.frame.cls, stream := a.frame.stream, last := a.frame.seq, used := s.core.now }])) ∧
  (∀ (o : Fin 4) (s : State), s.core.sw.entries.any (fun e => e.ended.isNone && e.outs.any (fun x => x.out == o.val && !x.done
      && Nat.blt 0 x.gone)) = true → s.core.tickOpen = true →
      Answers (.cutThroughUnderrun o) s (fun s' => s'.core.reg Reg.LP_PORT = o ∧ s'.core.reg Reg.LP_CAUSE = 5 ∧
      s'.core.reg (Reg.FW_CNT_POISON_TX o) = satAdd32 (s.core.reg (Reg.FW_CNT_POISON_TX o)) 1)) ∧
  (∀ (sp : Fin 12) (f : Frame) (g : Frame) (s : State), s.core.up = true → s.core.mayOriginate f = true →
      s.core.standby = false → s.core.fwd.seqs = [] → s.core.ownAddress f.dst = false → isMcast f.dst = false →
      segOf f.dst = s.core.segmentOn 0 → s.core.ring.lone = false → f.kind ≠ 6 → f.kind ≠ 7 →
      (s.core.make f.kind f.cls f.dst f.stream f.tick f.urgent f.segm f.last f.payload).1 = g → g.badHeader = false →
      (s.core.ringOuts 0 g).any (fun q => ! s.core.discarding q) = true →
      Answers (.frameOriginate sp f) s (fun s' => (∃ e ∈ s'.core.sw.seeking, e.inp = 4 + sp.val ∧ e.frame = g) ∧
      g.dst = f.dst ∧ g.src = s.core.homeAddr ∧ g.seq = 0 ∧ g.payload = f.payload)) ∧
  (∀ (s : State), s.core.fwd.tracker ≠ [] →
      Answers .trackAgeExpiry s (fun s' => s'.core.fwd.tracker.length + 1 = s.core.fwd.tracker.length ∧
      s'.core.reg Reg.CNT_TRACK_EXPIRE = satAdd32 (s.core.reg Reg.CNT_TRACK_EXPIRE) 1 ∧
      s'.core.reg Reg.TRACK_USED = s'.core.fwd.tracker.length))

/-- The engine queues a request and executes READ, WRITE, DESCRIBE, OPEN and CLOSE at the head of its queue (R42, R43, R56,
R60, R63, R90). a DICT_REQ joins the queue and is counted; READ answers the value and clears an RC member; WRITE of an RWT
member holds the value pending to its effect tick; WRITE of an RW member, here a forwarding setting,
takes effect at once; DESCRIBE answers the member descriptor; OPEN with the right token opens a session under a free number;
CLOSE closes the session of its requester. That the end of an interval moves the clock to its instant is the model's (log
entry 3). -/
def Obligations.DictionaryExecutesRequests : Prop :=
  (∀ (f : Frame) (s : State), s.core.up = true → f.kind = 4 → s.core.reg Reg.INJ_LEFT = 0 → f.check = f.transitCrc →
      16 ≤ f.payload.length → s.core.dict.queue.length < 64 →
      Answers (.dictReqEnqueue f) s (fun s' => s'.core.dict.queue = s.core.dict.queue ++ [{ f := f }] ∧
      s'.core.reg Reg.STAT_REQ = satAdd32 (s.core.reg Reg.STAT_REQ) 1)) ∧
  (∀ (r : Req) (rest : List Req) (l : Nat) (x : MemRow) (s : State), s.core.dict.queue = r :: rest → s.core.up = true →
      s.core.engineHeld = false → r.cmd = 1 → r.mcast = false → s.core.reqLevel r = some l → s.core.keptReq r = none →
      findMember r.obj r.mem l = (0, x) → s.core.accessStatus r.obj l x false = 0 →
      (s.core.readValue r.obj r.mem x).length ≤ 1008 → s.core.ownerPaused r.obj = false →
      Answers .dictRead s (fun s' => s'.core.dict.queue = rest ∧ s'.core.reg Reg.STAT_RSP_OK = satAdd32 (s.core.reg
      Reg.STAT_RSP_OK) 1 ∧ (r.lvl.isSome = true → s'.core.dict.answer = some
      { cmd := 1, key := r.key, status := 0, data := s.core.readValue r.obj r.mem x } ∧ (x.acc = .rc → x.isBytes = false →
      r.key ≠ Reg.STAT_RSP_OK → s'.core.reg r.key = 0)))) ∧
  (∀ (r : Req) (rest : List Req) (l : Nat) (x : MemRow) (s : State), s.core.dict.queue = r :: rest → s.core.up = true →
      s.core.engineHeld = false → r.cmd = 2 → r.mcast = false → s.core.reqLevel r = some l → s.core.keptReq r = none →
      findMember r.obj r.mem l = (0, x) → s.core.accessStatus r.obj l x true = 0 → x.valueStatus r.obj r.data = 0 →
      s.core.ownerPaused r.obj = false → x.acc = .rwt → s.core.rwtRefused r.obj = false →
      Answers .dictWrite s (fun s' => s'.core.dict.queue = rest ∧ s'.core.reg Reg.STAT_RSP_OK = satAdd32 (s.core.reg
      Reg.STAT_RSP_OK) 1 ∧ s'.core.dict.rwt = s.core.dict.rwt ++
      [{ key := r.key, value := x.number r.data, tick := s.core.effectTick, done := s.core.now, src := s.core.reqSource r }])) ∧
  (∀ (r : Req) (rest : List Req) (l : Nat) (x : MemRow) (s : State), s.core.dict.queue = r :: rest → s.core.up = true →
      s.core.engineHeld = false → r.cmd = 2 → r.mcast = false → s.core.reqLevel r = some l → s.core.keptReq r = none →
      findMember r.obj r.mem l = (0, x) → s.core.accessStatus r.obj l x true = 0 → x.valueStatus r.obj r.data = 0 →
      x.acc = .rw → 0x1201 ≤ r.obj → r.obj ≤ 0x120F →
      Answers .dictWrite s (fun s' => s'.core.dict.queue = rest ∧ s'.core.reg Reg.STAT_RSP_OK = satAdd32 (s.core.reg
      Reg.STAT_RSP_OK) 1 ∧ s'.core.reg r.key = x.number r.data)) ∧
  (∀ (r : Req) (rest : List Req) (l : Nat) (x : MemRow) (s : State), s.core.dict.queue = r :: rest → s.core.up = true →
      s.core.engineHeld = false → r.cmd = 3 → r.mcast = false → s.core.reqLevel r = some l → s.core.keptReq r = none →
      findMember r.obj r.mem l = (0, x) →
      Answers .dictDescribe s (fun s' => s'.core.dict.queue = rest ∧ s'.core.reg Reg.STAT_RSP_OK = satAdd32 (s.core.reg
      Reg.STAT_RSP_OK) 1 ∧ (r.lvl.isSome = true → s'.core.dict.answer = some
      { cmd := 3, key := r.key, status := 0, data := leBytes 4 x.descriptor }))) ∧
  (∀ (r : Req) (rest : List Req) (l : Nat) (s : State), s.core.dict.queue = r :: rest → s.core.up = true →
      s.core.engineHeld = false → r.cmd = 4 → r.mcast = false → s.core.reqLevel r = some l → s.core.keptReq r = none →
      s.core.dict.lockEnd = none → (r.mem = 1 ∨ r.mem = 2) → s.core.tokenOpens r.mem r.data = true → s.core.freeNumbers ≠ [] →
      s.core.silentUnit r = false →
      Answers .dictOpen s (fun s' => s'.core.dict.queue = rest ∧ s'.core.dict.fails = 0 ∧ ∃ n ∈ s.core.freeNumbers,
      (s'.core.session n).map (fun y => (y.level, y.src)) = some (r.mem, r.f.src))) ∧
  (∀ (r : Req) (rest : List Req) (l : Nat) (s : State), s.core.dict.queue = r :: rest → s.core.up = true →
      s.core.engineHeld = false → r.cmd = 5 → r.mcast = false → s.core.reqLevel r = some l → s.core.keptReq r = none →
      s.core.inSession r = true →
      Answers .dictClose s (fun s' => s'.core.dict.queue = rest ∧ s'.core.session r.sess = none ∧
      s'.core.reg Reg.STAT_RSP_OK = satAdd32 (s.core.reg Reg.STAT_RSP_OK) 1))

/-- Segmented transfers are read, staged, aborted and abandoned; sessions idle out, a lockout ends,
pending RWT values take effect (R43, R54, R56, R73, R75, R78, R80). SEG_READ at OFFSET 0 copies the member and serves its
first 1,008 bytes; SEG_WRITE at OFFSET 0 stages its data, the member unchanged until LAST; SEG_ABORT ends the open transfer
and frees its bank; a transfer without its next segment is abandoned; an idle session is closed; at the end of a lockout the
failure count is 0; a pending value whose tick has come takes effect. That the end of an interval moves the clock to its
instant is the model's (log entry 3). -/
def Obligations.DictionaryMovesSegmentsAndTimers : Prop :=
  (∀ (r : Req) (rest : List Req) (l : Nat) (x : MemRow) (s : State), s.core.dict.queue = r :: rest → s.core.up = true →
      s.core.engineHeld = false → r.cmd = 6 → r.mcast = false → s.core.reqLevel r = some l → s.core.keptReq r = none →
      findMember r.obj r.mem l = (0, x) → s.core.accessStatus r.obj l x false = 0 → s.core.ownerPaused r.obj = false →
      s.core.segOf r.owner = none → r.off = 0 → s.core.dict.xfers.length < 4 → s.core.idleStage.isSome = true →
      1008 < (s.core.readValue r.obj r.mem x).length →
      Answers .segRead s (fun s' => s'.core.dict.queue = rest ∧ s'.core.reg Reg.STAT_RSP_OK = satAdd32 (s.core.reg
      Reg.STAT_RSP_OK) 1 ∧ (s'.core.segOf r.owner).map (fun y => (y.buf, y.next)) = some (s.core.readValue r.obj r.mem x,
      1008))) ∧
  (∀ (r : Req) (rest : List Req) (l : Nat) (x : MemRow) (s : State), s.core.dict.queue = r :: rest → s.core.up = true →
      s.core.engineHeld = false → r.cmd = 7 → r.mcast = false → s.core.reqLevel r = some l → s.core.keptReq r = none →
      findMember r.obj r.mem l = (0, x) → s.core.accessStatus r.obj l x true = 0 → s.core.ownerPaused r.obj = false →
      s.core.segOf r.owner = none → s.core.dict.xfers.any (fun y => y.write && y.key == r.key && y.owner != r.owner) = false →
      r.off = 0 → 1 ≤ r.tot → r.tot ≤ x.span → s.core.dict.xfers.length < 4 → s.core.idleStage.isSome = true →
      r.f.last = false → r.data.length ≤ r.tot →
      Answers .segWrite s (fun s' => s'.core.dict.queue = rest ∧ s'.core.reg Reg.STAT_RSP_OK = satAdd32 (s.core.reg
      Reg.STAT_RSP_OK) 1 ∧ (s'.core.segOf r.owner).map (fun y => (y.buf, y.next, y.total)) = some (r.data, r.data.length,
      r.tot))) ∧
  (∀ (r : Req) (rest : List Req) (l : Nat) (y : SegXfer) (s : State), s.core.dict.queue = r :: rest → s.core.up = true →
      s.core.engineHeld = false → r.cmd = 8 → r.mcast = false → s.core.reqLevel r = some l → s.core.keptReq r = none →
      s.core.segOf r.owner = some y →
      Answers .segAbort s (fun s' => s'.core.dict.queue = rest ∧ s'.core.reg Reg.STAT_RSP_OK = satAdd32 (s.core.reg
      Reg.STAT_RSP_OK) 1 ∧ s'.core.segOf r.owner = none ∧ s'.core.reg (Reg.BANK_OWNER y.bank) = 1)) ∧
  (∀ (y : SegXfer) (s : State), s.core.dict.xfers = [y] →
      Answers .segTimeoutAbandon s (fun s' => s'.core.dict.xfers = [] ∧
      s'.core.reg Reg.STAT_SEG_ABANDON = satAdd32 (s.core.reg Reg.STAT_SEG_ABANDON) 1 ∧
      s'.core.reg (Reg.BANK_OWNER y.bank) = 1 ∧ s'.core.now = max s.core.now (y.lastAt + y.timeout))) ∧
  (∀ (n : Nat) (y : Session) (s : State), s.core.dict.sessions = [(n, y)] →
      Answers .sessionIdleClose s (fun s' => s'.core.dict.sessions = [] ∧
      s'.core.now = max s.core.now (y.lastReq + s.core.reg Reg.SESSION_IDLE * 1000000000))) ∧
  (∀ (e : Nat) (s : State), s.core.dict.lockEnd = some e →
      Answers .lockoutEnd s (fun s' => s'.core.dict.lockEnd = none ∧ s'.core.dict.fails = 0 ∧ s'.core.now = max s.core.now e)) ∧
  (∀ (b : Nat) (w : PendRwt) (s : State), s.core.up = true → s.core.dict.rwt = [w] → w.key / 256 < 0x4100 →
      0x4000 ≤ w.key / 256 → w.key = Reg.DISC_OUT b → b < 32 → w.value < 256 → w.done + 10 ≤ s.core.now →
      tickAhead w.tick s.core.tickNow = false → tickDiff w.tick s.core.tickNow = 0 →
      Answers .rwtEffect s (fun s' => s'.core.dict.rwt = [] ∧ s'.core.reg (Reg.DISC_OUT b) = w.value))

/-- Frames are admitted within the buffer limits, held or dropped; a slot moves a cell to its consumer; fair windows and
accounts close each millisecond (R175, R184, R186, R189, R192, R194). in one slot the only cell waiting,
of a frame of one cell for a local consumer, is matched and on its way to the output stage; a frame with room at its outputs
is admitted and takes its cells from the pool; a held frame is admitted when room appears; at the end of LOCAL_WAIT it is
dropped and counted; the distinct sources of the window become ACTIVE_SRC; a mismatch of free and used cells is counted; a
limit within the pool applies at once. That the end of an interval moves the clock to its instant is the model's (log entry
3). That a register row acts at once, as a request at the head of the engine's queue,
is the model's reading (log entry 4). -/
def Obligations.SwitchAdmitsAndMovesFrames : Prop :=
  (∀ (e : SwEntry) (o : Fin 16) (s : State), s.core.up = true → s.core.sw.entries = [e] → s.core.sw.outs = [] → e.cells = 1 →
      e.freed = 0 → e.ended = some true → e.outs = [{ out := o.val }] → 4 ≤ o.val → e.inp < 16 →
      (s.core.advance 8).aged e.frame = false → s.core.sw.pipe = [] → e.frame.kind ≠ 8 → s.core.integ.armed.1 < 0x0D →
      Answers .switchSlotSchedule s (fun s' => s'.core.sw.pipe = [{ out := o.val, id := e.id, wait := 1 }] ∧
      s'.core.sw.entries = [{ e with outs := [{ out := o.val, sent := 1 }] }] ∧
      s'.core.reg (Reg.SWO_CNT_CELLS o) = satAdd32 (s.core.reg (Reg.SWO_CNT_CELLS o)) 1 ∧ s'.core.now = s.core.now + 8)) ∧
  (∀ (e : SwEntry) (s : State), s.core.sw.seeking = [e] → e.waitEnd = none → e.outs ≠ [] → (∀ x ∈ e.outs,
      s.core.fits x.out e.frame.cls e.cells = true) →
      Answers .frameAdmission s (fun s' => s'.core.sw.seeking = [] ∧ s'.core.sw.entries = s.core.sw.entries ++
      [{ e with banks := s.core.cellPlaces e.cells }] ∧ s'.core.reg Reg.SW_FREE = s.core.reg Reg.SW_FREE - e.cells)) ∧
  (∀ (e : SwEntry) (s : State), s.core.sw.seeking = [e] → e.waitEnd.isSome = true → e.outs ≠ [] → (∀ x ∈ e.outs,
      s.core.fits x.out e.frame.cls e.cells = true) →
      Answers .heldFrameAdmit s (fun s' => s'.core.sw.seeking = [] ∧ s'.core.sw.entries = s.core.sw.entries ++
      [{ e with banks := s.core.cellPlaces e.cells, waitEnd := none }] ∧
      s'.core.reg Reg.SW_FREE = s.core.reg Reg.SW_FREE - e.cells)) ∧
  (∀ (e : SwEntry) (o : Fin 16) (w : Nat) (s : State), s.core.sw.seeking = [e] → e.waitEnd = some w →
      e.outs = [{ out := o.val }] → s.core.tickOpen = true →
      Answers .localWaitExpiry s (fun s' => s'.core.sw.seeking = [] ∧ s'.core.reg (Reg.SWO_CNT_DROP_WAIT o) = satAdd32
      (s.core.reg (Reg.SWO_CNT_DROP_WAIT o)) 1 ∧ s'.core.now = max s.core.now w)) ∧
  (∀ (p : Nat) (k : Nat) (s : State), s.core.up = true → p < 16 → 1 ≤ k → k < 8 →
      Answers .fairWindowEnd s (fun s' => s'.core.reg (activeKey p k) = max 1 (min 1023 (s.core.sw.srcKeys.filter (fun y =>
      y.1 == p && y.2.1 == k)).length) ∧ s'.core.sw.srcKeys = [])) ∧
  (∀ (s : State), s.core.up = true → s.core.tickOpen = true → s.core.reg Reg.SW_FREE + s.core.sw.entries.foldl (fun a e => a +
      (e.cells - e.freed)) 0 ≠ s.core.reg Reg.SW_POOL →
      Answers .bufAccountCheck s (fun s' => s'.core.reg Reg.CNT_ACCOUNT = satAdd32 (s.core.reg Reg.CNT_ACCOUNT) 1)) ∧
  (∀ (lvl : Fin 4) (out : Fin 16) (cls : Fin 8) (v : BitVec 32) (s : State), s.core.takes lvl (limitKey out cls) = true →
      v.toNat ≤ 32768 → v.toNat ≤ s.core.reg Reg.SW_POOL → s.core.limitSum out cls v.toNat ≤ s.core.reg Reg.SW_POOL →
      Answers (.bufLimitWrite lvl out cls v) s (fun s' => s'.core.reg (limitKey out cls) = v.toNat ∧
      s'.core.reg Reg.SW_LIMIT_SUM = s.core.limitSum out cls v.toNat ∧ s'.core.wroteOk (limitKey out cls) = true))

/-- TIME_SYNC is originated, accepted and forwarded; its loss leads to HOLDOVER; TIME_SET steps; a new tick period applies
at a whole second (R233, R234, R238, R242, R249). a master originates a TIME_SYNC and sets the time of the next; a TIME_SYNC
of the best master at the sync port is accepted; one at another port is forwarded with residence and ingress delay added to
CORRECTION, and not used; without a TIME_SYNC within SYNC_LOSS a node that is never master enters HOLDOVER with a = f;
TIME_SET written in CONFIG steps the time base; a new TICK_PERIOD comes into force at a whole second. That the end of an
interval moves the clock to its instant is the model's (log entry 3). That a register row acts at once,
as a request at the head of the engine's queue, is the model's reading (log entry 4). -/
def Obligations.TimeBaseFollowsItsMaster : Prop :=
  (∀ (s : State), s.core.up = true → s.core.mayOriginate { kind := 6 } = true → s.core.reg Reg.TIME_STATE = 1 →
      s.core.time.bridgeInForce = 0 →
      Answers .timeSyncSend s (fun s' => s'.core.reg Reg.CNT_SYNC_TX = satAdd32 (s.core.reg Reg.CNT_SYNC_TX) 1 ∧
      s'.core.time.nextSync = max s.core.now s.core.time.nextSync + 1000000 * s.core.reg Reg.SYNC_PERIOD)) ∧
  (∀ (p : Fin 4) (f : Frame) (e : EndKind) (residence : Nat) (q : Nat) (s : State), s.core.up = true → s.core.joined p = true →
      s.core.reg (Reg.PD_DELAY_VALID p) = 1 → e = .good → pairOf p = s.core.timePair → s.core.addrOn (pairOf p) ≠ 0xFFFF →
      s.core.reg Reg.INJ_LEFT = 0 → f.hopCheck = f.hopCrc → f.badHeader = false → f.check = f.transitCrc →
      f.payload.length = f.len → f.src ≠ s.core.addrOn (pairOf p) → isMember (s.core.census (pairOf p)).table f.src = true →
      s.core.syncPort (syncMsg f).master = some p.val → (s.core.dedup f).1 = true → (syncMsg f).master ≠ 0xFFFF →
      s.core.reg Reg.TIME_STATE ≠ 1 → s.core.bestHeard (syncMsg f).master (syncMsg f).prio = true →
      (syncMsg f).code = s.core.time.periodCode → s.core.turn (otherPort p) = some q → s.core.tickOpen = true →
      Answers (.timeSyncRx p f e residence) s (fun s' => s'.core.reg Reg.MASTER_ADDR = (syncMsg f).master ∧
      s'.core.syncPortRead = p ∧ s'.core.reg Reg.CNT_SYNC_RX = satAdd32 (s.core.reg Reg.CNT_SYNC_RX) 1 ∧
      s'.core.time.lastAccept = s.core.now ∧ (bit (syncMsg f).quality 3 = true → s'.core.reg Reg.TIME_VALID = 1))) ∧
  (∀ (p : Fin 4) (f : Frame) (e : EndKind) (residence : Nat) (q : Nat) (s : State), s.core.up = true → s.core.joined p = true →
      s.core.reg (Reg.PD_DELAY_VALID p) = 1 → e = .good → s.core.reg Reg.INJ_LEFT = 0 → f.hopCheck = f.hopCrc →
      f.badHeader = false → f.check = f.transitCrc → f.payload.length = f.len → f.src ≠ s.core.addrOn (pairOf p) →
      isMember (s.core.census (pairOf p)).table f.src = true → s.core.syncPort (syncMsg f).master ≠ some p.val →
      s.core.turn (otherPort p) = some q → s.core.frozenPort q = false →
      Answers (.timeSyncRx p f e residence) s (fun s' => (mapGet {} q s'.core.ring.sent).frame.corr = ofInt 64 (toInt 64
      f.corr + residence * 2 ^ 9 + s.core.ingress p / 2 ^ 16) ∧ s'.core.reg Reg.CNT_SYNC_RX = s.core.reg Reg.CNT_SYNC_RX ∧
      s'.core.time = s.core.time)) ∧
  (∀ (s : State), s.core.up = true → (s.core.reg Reg.TIME_STATE = 2 ∨ s.core.reg Reg.TIME_STATE = 3) →
      s.core.time.prioInForce = 255 → s.core.tickOpen = true →
      Answers .syncLossExpiry s (fun s' => s'.core.reg Reg.TIME_STATE = 4 ∧
      s'.core.reg Reg.CNT_SYNC_LOSS = satAdd32 (s.core.reg Reg.CNT_SYNC_LOSS) 1 ∧ s'.core.time.a = s.core.time.f ∧
      s'.core.now = max s.core.now (s.core.time.lastAccept + s.core.syncLoss))) ∧
  (∀ (lvl : Fin 4) (v : BitVec 64) (s : State), s.core.takes lvl Reg.TIME_SET = true →
      Answers (.timeSet lvl v) s (fun s' => s'.core.time.sys = v.toNat * 2 ^ 32 ∧ s'.core.reg Reg.TIME_VALID = 1 ∧
      s'.core.time.f = 0 ∧ s'.core.time.a = 0 ∧ s'.core.reg Reg.STEP_COUNT = (s.core.reg Reg.STEP_COUNT + 1) % 65536 ∧
      s'.core.wroteOk Reg.TIME_SET = true)) ∧
  (∀ (x : Nat) (s : State), s.core.time.newPeriod = some x →
      Answers .tickPeriodChange s (fun s' => s'.core.time.periodCode = x ∧ s'.core.time.newPeriod = none ∧
      s'.core.sysNs % 1000000000 = 0))

/-- PEER_DELAY measures LINK_DELAY; the 1PPS edges lock, are lost, and TB_PPS_OUT marks the second (R243, R244, R253,
R255). a JOINED port sends its request when it is due; a request is answered with the turnaround in CORRECTION and the
exchange echoed; the eighth result makes the delay valid, their mean; the third timeout in a row discards the results and
starts 8 exchanges; the fourth valid edge locks; 3 s without a valid edge is holdover; the whole second drives TB_PPS_OUT
high when it is enabled; 1 ms later it is low. That the end of an interval moves the clock to its instant is the model's
(log entry 3). -/
def Obligations.LinkDelayAnd1PPS : Prop :=
  (∀ (p : Fin 4) (e : Nat) (s : State), s.core.up = true → s.core.joined p = true → s.core.addrOn (pairOf p) ≠ 0xFFFF →
      (s.core.peer p).nextAt = some e → s.core.frozenPort p = false →
      Answers (.peerDelaySend p) s (fun s' => (mapGet {} p s'.core.ring.sent).frame = ((if s.core.now < e then s.core.advance
      (e - s.core.now) else s.core).peerFrame p 0 (s.core.peer p).nextExchange).1 ∧
      (s'.core.peer p).nextExchange = ((s.core.peer p).nextExchange + 1) % 65536 ∧
      (s'.core.peer p).waiting.map (fun w => w.1) = (s.core.peer p).waiting.map (fun w => w.1) ++ [(s.core.peer
      p).nextExchange])) ∧
  (∀ (p : Fin 4) (f : Frame) (turnaround : Nat) (s : State), s.core.up = true → s.core.joined p = true →
      s.core.addrOn (pairOf p) ≠ 0xFFFF → s.core.reg Reg.INJ_LEFT = 0 → f.hopCheck = f.hopCrc → f.badHeader = false →
      f.check = f.transitCrc → f.payload.length = f.len → s.core.frozenPort p = false →
      Answers (.peerDelayReqRx p f turnaround) s (fun s' => (mapGet {} p s'.core.ring.sent).frame.corr = turnaround * 2 ^ 9 %
      2 ^ 64 ∧ (mapGet {} p s'.core.ring.sent).frame.dst = s.core.reg (Reg.RP_NEIGHBOUR p) ∧
      (mapGet {} p s'.core.ring.sent).frame.payload = [1, byteOf p] ++ leBytes 2 (fieldAt f.payload 2 2) ++ zeros 4)) ∧
  (∀ (p : Fin 4) (f : Frame) (id : Nat) (t1 : Nat) (due : Nat) (s : State), s.core.up = true → s.core.joined p = true →
      s.core.addrOn (pairOf p) ≠ 0xFFFF → s.core.reg Reg.INJ_LEFT = 0 → f.hopCheck = f.hopCrc → f.badHeader = false →
      f.check = f.transitCrc → f.payload.length = f.len → (s.core.peer p).waiting = [(id, t1, due)] → s.core.now ≤ due →
      fieldAt f.payload 2 2 = id → s.core.reg (Reg.PD_DELAY_VALID p) = 0 → (s.core.peer p).taken = 7 →
      (s.core.peer p).results.length = 7 →
      Answers (.peerDelayRspRx p f) s (fun s' => s'.core.reg (Reg.PD_DELAY_VALID p) = 1 ∧ (s'.core.peer p).waiting = [] ∧
      (s'.core.peer p).results.length = 8 ∧ s'.core.reg (Reg.PD_LINK_DELAY p) = (s'.core.peer p).results.foldl (fun a b => a +
      b) 0 / 8)) ∧
  (∀ (p : Fin 4) (id : Nat) (t1 : Nat) (due : Nat) (rest : List (Nat × Nat × Nat)) (s : State), (s.core.peer p).waiting = (id,
      t1, due) :: rest → (s.core.peer p).misses = 2 →
      Answers (.peerDelayTimeout p) s (fun s' => s'.core.reg (Reg.PD_CNT_PD_TIMEOUT p) = satAdd32 (s.core.reg
      (Reg.PD_CNT_PD_TIMEOUT p)) 1 ∧ s'.core.reg (Reg.PD_DELAY_VALID p) = 0 ∧ (s'.core.peer p).results = [] ∧
      (s'.core.peer p).burst = 8 ∧ s'.core.now = max s.core.now due)) ∧
  (∀ (s : State), s.core.up = true → s.core.cfg Reg.PPS_ENABLE = 1 → s.core.reg Reg.PPS_STATE = 1 →
      s.core.time.ppsExpected = false → s.core.time.ppsValid = 3 → s.core.reg Reg.TIME_STATE ≠ 1 →
      Answers .ppsEdge s (fun s' => s'.core.reg Reg.PPS_STATE = 2 ∧ s'.core.reg Reg.TIME_VALID = 1 ∧
      s'.core.time.ppsLast = s.core.now ∧ s'.core.reg Reg.CNT_PPS_RX = satAdd32 (s.core.reg Reg.CNT_PPS_RX) 1)) ∧
  (∀ (s : State), s.core.up = true → s.core.cfg Reg.PPS_ENABLE = 1 → (s.core.reg Reg.PPS_STATE = 1 ∨
      s.core.reg Reg.PPS_STATE = 2) → s.core.tickOpen = true →
      Answers .ppsLossTimeout s (fun s' => s'.core.reg Reg.PPS_STATE = 3 ∧ s'.core.time.ppsValid = 0 ∧
      s'.core.now = max s.core.now (s.core.time.ppsLast + 3000000000))) ∧
  (∀ (s : State), s.core.up = true →
      Answers .ppsOutRise s (fun s' => s'.core.time.ppsOut = s.core.flag Reg.PPS_OUT_ENABLE ∧
      s'.core.sysNs = (s.core.sysNs / 1000000000 + 1) * 1000000000)) ∧
  (∀ (s : State), s.core.up = true →
      Answers .ppsOutFall s (fun s' => s'.core.time.ppsOut = false ∧ s'.core.sysNs = max s.core.sysNs (s.core.sysNs /
      1000000000 * 1000000000 + 1000000)))

/-- Records wait for the close of their tick, are placed in order, released by EVQ_RD, and proceed after a move (R262, R264,
R265). a record of a tick not closed waits in the sort buffer; the close of a tick places its one record in the next slot;
the end of a move lets a held write of EVQ_RD take effect; EVQ_RD releases records,
oldest first. That a register row acts at once, as a request at the head of the engine's queue,
is the model's reading (log entry 4). -/
def Obligations.EventStreamCollectsAndReleases : Prop :=
  (∀ (source : Fin 65536) (kind : Fin 256) (sev : Fin 5) (tick : BitVec 48) (flags : BitVec 16) (value : BitVec 64) (n : Nat) (k
      : Nat) (s : State), s.core.up = true → s.core.time.lastTick = some n → s.core.ev.closed = some k →
      tickAhead tick.toNat k = true → s.core.ev.opened.length < 512 →
      Answers (.eventRecordArrive source kind sev tick flags value) s (fun s' => s'.core.ev.opened = s.core.ev.opened ++
      [{ tick := tick.toNat, node := s.core.originKey, source := source, kind := kind, sev := sev, flags := flags.toNat, value := value.toNat }]
      ∧ s'.core.ev.slots = s.core.ev.slots)) ∧
  (∀ (n : Nat) (e : Nat) (rest : List (Nat × Nat)) (r : EvRec) (s : State), s.core.ev.waiting = (n, e) :: rest →
      s.core.fc.waiting = [] → s.core.fc.leaving = [] → s.core.ev.opened = [r] → r.tick = n → s.core.ev.moving = false →
      s.core.reg Reg.EVQ_COUNT < 1024 → (s.core.up = false ∨ (s.core.fc.isos = [] ∧ s.core.fab.movers = [] ∧ ∀ p ∈ ([0, 1, 2,
      3] : List Nat), (s.core.portOn p = false ∧ s.core.reg (Reg.RP_STATE p) = 0) ∨ (s.core.portOn p = true ∧
      (s.core.port p).present = false ∧ s.core.reg (Reg.RP_STATE p) = 1) ∨ (s.core.portOn p = true ∧
      (s.core.port p).present = true ∧ 2 ≤ s.core.reg (Reg.RP_STATE p)))) → s.core.flag Reg.EVS_ENABLE = false → r.seq = 0 →
      Answers .eventCloseExpiry s (fun s' => s'.core.ev.waiting = rest ∧ s'.core.ev.opened = [] ∧ s'.core.ev.closed = some n ∧
      mapGet {} (s.core.reg Reg.EVQ_WR) s'.core.ev.slots = s.core.asPlaced r)) ∧
  (∀ (v : Nat) (s : State), s.core.ev.moving = true → s.core.ev.held = [] → s.core.ev.heldRd = [v] →
      Answers .evqMoveComplete s (fun s' => s'.core.ev.moving = false ∧ s'.core.reg Reg.EVQ_MOVING = 0 ∧
      s'.core.reg Reg.EVQ_RD = v ∧ s'.core.reg Reg.EVQ_COUNT = s.core.reg Reg.EVQ_COUNT - (v + 1024 - s.core.reg Reg.EVQ_RD) %
      1024)) ∧
  (∀ (lvl : Fin 4) (v : Fin 65536) (s : State), s.core.takes lvl Reg.EVQ_RD = true → v.val < 1024 →
      (v.val + 1024 - s.core.reg Reg.EVQ_RD) % 1024 ≤ s.core.reg Reg.EVQ_COUNT → s.core.ev.moving = false →
      s.core.ev.heldRd = [] →
      Answers (.evqRdWrite lvl v) s (fun s' => s'.core.reg Reg.EVQ_RD = v ∧
      s'.core.reg Reg.EVQ_COUNT = s.core.reg Reg.EVQ_COUNT - (v.val + 1024 - s.core.reg Reg.EVQ_RD) % 1024 ∧
      s'.core.wroteOk Reg.EVQ_RD = true))

/-- The arm point loads the entries of its tick; posts, items and a cancel change the schedule table (R19, R30, R268, R269,
R270, R271). the next tick is armed and its entries leave the table for the output update registers; the strobe of an armed
tick gives every capture its number; the time base takes the value waiting in SCHED_POST; an item ahead of its tick for a
bank of SCHED_BANKS enters the table; a post of 16 bytes fills the post register; SCHED_CANCEL empties the table; INJ_ARM
arms the inversion of INJ_COUNT check bits; a write of 0 cancels it. That the end of an interval moves the clock to its
instant is the model's (log entry 3). That a register row acts at once, as a request at the head of the engine's queue,
is the model's reading (log entry 4). -/
def Obligations.ScheduleTableTakesAndLoads : Prop :=
  (∀ (s : State), s.core.up = true →
      Answers .tickArmPoint s (fun s' => s'.core.time.armed = some (s.core.nextTick % tickMod) ∧
      s'.core.sched.table = s.core.sched.table.filter (fun e => e.target != s.core.nextTick % tickMod) ∧
      s'.core.sysNs = max s.core.sysNs (s.core.nextTick * s.core.period - 400))) ∧
  (∀ (dio : BitVec 256) (fiP : BitVec 128) (fiN : BitVec 128) (n : Nat) (s : State), s.core.up = true →
      s.core.time.armed = some (s.core.nextTick % tickMod) → s.core.time.lastTick = some n → True →
      Answers (.tickStrobe dio fiP fiN) s (fun s' => s'.core.time.lastTick = some s.core.nextTick ∧
      s'.core.time.armed = none ∧ s'.core.tick = s.core.nextTick % tickMod ∧
      s'.core.fcLatch.tick = s.core.nextTick % tickMod)) ∧
  (∀ (res : Fin 33) (e : SchedEntry) (s : State), res.val = 32 → s.core.sched.post = some e →
      tickDiff e.target s.core.tickNow ≠ 0 → tickDiff e.target s.core.tickNow ≤ 2 ^ 20 → s.core.time.armed ≠ some e.target →
      s.core.sched.table.any (fun x => x.target == e.target && x.bank == e.bank) = false → s.core.sched.table.length < 256 →
      Answers (.postRegisterTake res) s (fun s' => s'.core.sched.post = none ∧
      s'.core.sched.table = s.core.sched.table ++ [e] ∧ s'.core.reg Reg.SCHED_PENDING = s.core.sched.table.length + 1)) ∧
  (∀ (b : Fin 32) (f : Frame) (s : State), s.core.up = true → s.core.reg Reg.INJ_LEFT = 0 → f.check = f.transitCrc →
      f.payload.length = 4 → s.core.supplied b = true → bit (s.core.cfg Reg.SCHED_BANKS) b = true →
      tickDiff f.tick s.core.tickNow ≠ 0 → tickDiff f.tick s.core.tickNow ≤ 2 ^ 20 → s.core.time.armed ≠ some f.tick →
      s.core.sched.table = [] →
      Answers (.schedItemRx b f) s (fun s' => s'.core.sched.table = [outEntry b f] ∧
      s'.core.reg (Reg.DISC_CNT_OUT_ITEMS b) = satAdd32 (s.core.reg (Reg.DISC_CNT_OUT_ITEMS b)) 1)) ∧
  (∀ (lvl : Fin 4) (data : Bytes) (s : State), s.core.takes lvl Reg.SCHED_POST = true → data.length = 16 →
      fieldAt data 6 1 ≤ 31 → s.core.sched.post = none →
      Answers (.schedPost lvl data) s (fun s' => s'.core.sched.post = some (schedEntryOf data) ∧
      s'.core.wroteOk Reg.SCHED_POST = true)) ∧
  (∀ (lvl : Fin 4) (s : State), s.core.takes lvl Reg.SCHED_CANCEL = true →
      Answers (.schedCancel lvl) s (fun s' => s'.core.sched.table = [] ∧ s'.core.reg Reg.SCHED_PENDING = 0 ∧
      s'.core.wroteOk Reg.SCHED_CANCEL = true)) ∧
  (∀ (lvl : Fin 4) (s : State), s.core.takes lvl Reg.INJ_ARM = true → s.core.reg Reg.INJ_LEFT = 0 →
      s.core.reg Reg.INJ_TARGET = 2 → s.core.reg Reg.INJ_INDEX < 4 → s.core.reg Reg.INJ_COUNT ≠ 0 →
      s.core.node.updating = false → s.core.fc.safe = false →
      Answers (.injArm lvl) s (fun s' => s'.core.reg Reg.INJ_LEFT = s.core.reg Reg.INJ_COUNT ∧
      s'.core.reg Reg.INJ_ACTIVE = 1 ∧ s'.core.wroteOk Reg.INJ_ARM = true)) ∧
  (∀ (lvl : Fin 4) (s : State), s.core.takes lvl Reg.INJ_ARM = true →
      Answers (.injCancel lvl) s (fun s' => s'.core.reg Reg.INJ_LEFT = 0 ∧ s'.core.reg Reg.INJ_ACTIVE = 0 ∧
      s'.core.wroteOk Reg.INJ_ARM = true))

/-- Characters join a packet; a packet closes as a record by its framing, a break,
a transaction or the flush age; a silent line is reported (R279, R281, R286, R292, R294, R295, R301,
R316). an 8-bit character joins the packet in reception; a break closes the packet with BREAK set; the idle gap closes the
packet as a record; t3.5 of silence closes the packet; a right CRC is stripped; in STREAM the flush age closes the open
record and swaps the banks; the bytes shifted in form one record as long as those shifted out; a write to the own address
forms one record of its bytes; CH_SILENCE without a good record marks the channel silent. That the end of an interval moves
the clock to its instant is the model's (log entry 3). -/
def Obligations.SerialChannelsReceiveRecords : Prop :=
  (∀ (n : Fin 128) (b : Byte) (ok : Bool) (silence : Nat) (p : Packet) (s : State), s.core.chanOn n = true →
      s.core.chRole n = 1 → bit (s.core.cfg (Reg.CH_PINS n)) 3 = false → (s.core.framing n = 1 ∨ s.core.framing n = 2) →
      (s.core.chan n).packet = some p → p.skip = false → p.bytes.length < p.cap →
      bit (s.core.cfg (Reg.CH_FORMAT n)) 0 = false →
      Answers (.charRx n b ok silence) s (fun s' => (s'.core.chan n).packet.map (fun x => x.bytes) = some (p.bytes ++ [b]) ∧
      (s'.core.chan n).packet.map (fun x => x.tick) = some p.tick ∧ (s'.core.chan n).lastEnd = s.core.now)) ∧
  (∀ (n : Fin 128) (p : Packet) (s : State), s.core.chanOn n = true → (s.core.chRole n = 1 ∨ s.core.chRole n = 2) →
      s.core.framing n = 1 → (s.core.chan n).packet = some p → p.skip = false →
      Answers (.chBreak n) s (fun s' => (∃ r ∈ (s'.core.chan n).rxFill ++ (s'.core.chan n).rxDrain, r.payload = p.bytes ∧
      bit r.flags 14 = (bit (Nat.lor p.flags 16384) 14)))) ∧
  (∀ (n : Fin 128) (p : Packet) (s : State), s.core.chanOn n = true → s.core.framing n = 1 → (s.core.chan n).packet = some p →
      p.skip = false →
      Answers (.idleGapExpiry n) s (fun s' => (∃ r ∈ (s'.core.chan n).rxFill ++ (s'.core.chan n).rxDrain,
      r.payload = p.bytes ∧ r.seq = (s.core.chan n).rxSeq ∧ r.tick = p.tick) ∧ (s'.core.chan n).packet = none ∧
      s'.core.reg (Reg.CH_CNT_RX_PKT n) = satAdd32 (s.core.reg (Reg.CH_CNT_RX_PKT n)) 1 ∧
      s'.core.now = max s.core.now ((s.core.chan n).lastEnd + s.core.charTime n p.gap))) ∧
  (∀ (n : Fin 128) (p : Packet) (s : State), s.core.chanOn n = true → s.core.framing n = 2 → (s.core.chan n).packet = some p →
      p.skip = false → 4 ≤ p.bytes.length → crcModbus (p.bytes.take (p.bytes.length - 2)) = fieldAt p.bytes (p.bytes.length -
      2) 2 → bit p.mb 0 = true → p.flags = 0 →
      Answers (.modbusSilenceExpiry n) s (fun s' => (∃ r ∈ (s'.core.chan n).rxFill ++ (s'.core.chan n).rxDrain,
      r.payload = p.bytes.take (p.bytes.length - 2) ∧ r.seq = (s.core.chan n).rxSeq ∧ bits r.flags 14 9 = 0) ∧
      (s'.core.chan n).packet = none ∧ s'.core.reg (Reg.CH_CNT_RX_PKT n) = satAdd32 (s.core.reg (Reg.CH_CNT_RX_PKT n)) 1 ∧
      s'.core.reg (Reg.CH_CNT_RX_CRC n) = s.core.reg (Reg.CH_CNT_RX_CRC n))) ∧
  (∀ (n : Fin 128) (p : Packet) (s : State), s.core.chanOn n = true → s.core.framing n = 0 →
      s.core.reg (Reg.CH_FLUSH_AGE n) ≠ 0 → (s.core.chan n).rxFill = [] → (s.core.chan n).rxDrain = [] →
      (s.core.chan n).packet = some p → p.bytes ≠ [] →
      Answers (.flushAgeExpiry n) s (fun s' => (s'.core.chan n).packet = none ∧ (s'.core.chan n).rxFill = [] ∧
      (s'.core.chan n).rxDrain.map (fun r => r.payload) = [p.bytes] ∧ s'.core.now = max s.core.now (p.since + 1000 *
      s.core.reg (Reg.CH_FLUSH_AGE n) + 1))) ∧
  (∀ (n : Fin 128) (miso : Bytes) (s : State), s.core.chanOn n = true → s.core.chRole n = 3 → (s.core.chan n).busy = true →
      (s.core.chan n).packet = none → (s.core.chan n).rxFill = [] → (s.core.chan n).rxDrain = [] →
      (s.core.chan n).line.length ≤ s.core.reg (Reg.CH_RX_MAX n) → rxSize (s.core.reg (Reg.CH_RX_MAX n)) ≤ 512 →
      Answers (.spiTransactionDone n miso) s (fun s' => (s'.core.chan n).rxFill ++ (s'.core.chan n).rxDrain ≠ [] ∧
      (∀ r ∈ (s'.core.chan n).rxFill ++ (s'.core.chan n).rxDrain, r.payload = padTo (s.core.chan n).line.length miso) ∧
      (s'.core.chan n).busy = false ∧ s'.core.reg (Reg.CH_CNT_TX_PKT n) = satAdd32 (s.core.reg (Reg.CH_CNT_TX_PKT n)) 1)) ∧
  (∀ (n : Fin 128) (data : TargetData) (s : State), s.core.chanOn n = true → (s.core.chRole n = 5 ∨ s.core.chRole n = 7) →
      (s.core.chan n).packet = none → (s.core.chan n).rxFill = [] → (s.core.chan n).rxDrain = [] →
      bit (s.core.cfg (Reg.CH_I2C n)) 9 = false → data.bytes.length ≤ s.core.reg (Reg.CH_RX_MAX n) →
      rxSize (s.core.reg (Reg.CH_RX_MAX n)) ≤ 512 →
      Answers (.i2cTargetWrite n data) s (fun s' => (s'.core.chan n).rxFill ++ (s'.core.chan n).rxDrain ≠ [] ∧
      (∀ r ∈ (s'.core.chan n).rxFill ++ (s'.core.chan n).rxDrain, r.payload = data.bytes))) ∧
  (∀ (n : Fin 128) (s : State), s.core.fieldRuns = true → s.core.chRole n ≠ 0 → s.core.reg (Reg.CH_SILENCE n) ≠ 0 →
      (s.core.chan n).silent = false →
      Answers (.rxSilent n) s (fun s' => (s'.core.chan n).silent = true ∧
      s'.core.now = max s.core.now ((s.core.chan n).silentFrom + 1000000 * s.core.reg (Reg.CH_SILENCE n))))

/-- The scanner and the data port drain the receive bank; a pointer mismatch and CH_RESET clear both sides and count what
they drop (R303, R304, R307, R309, R313, R314). in the MAPPER sink every record leaves the drain bank; one without a key is
discarded and counted; a keyed record becomes an item at its cluster's port; RX_POP answers the next bytes of the drain bank
and consumes them; a release of the only record empties the bank; a mismatch drops every record of the direction and counts;
CH_RESET clears both directions and is not counted as a mismatch. That a register row acts at once,
as a request at the head of the engine's queue, is the model's reading (log entry 4). -/
def Obligations.SerialBanksDrainAndClear : Prop :=
  (∀ (n : Fin 128) (r : RxRec) (s : State), s.core.fieldRuns = true → s.core.chRole n ≠ 0 → s.core.trunkOf n = none →
      s.core.cfg (Reg.CH_RX_SINK n) = 0 → (s.core.chan n).rxDrain = [r] → bits r.flags 14 9 = 0 → r.key = 0xFFFF →
      (s.core.chan n).rxFill = [] →
      Answers (.scannerRxVisit n) s (fun s' => (s'.core.chan n).rxDrain = [] ∧
      s'.core.reg (Reg.CH_CNT_NOKEY n) = satAdd32 (s.core.reg (Reg.CH_CNT_NOKEY n)) 1)) ∧
  (∀ (n : Fin 128) (r : RxRec) (s : State), s.core.fieldRuns = true → s.core.chRole n ≠ 0 → s.core.trunkOf n = none →
      s.core.cfg (Reg.CH_RX_SINK n) = 0 → (s.core.chan n).rxDrain = [r] → bits r.flags 14 9 = 0 → r.key ≠ 0xFFFF →
      (s.core.chan n).rxFill = [] →
      Answers (.scannerRxVisit n) s (fun s' => (s'.core.chan n).rxDrain = [] ∧ s'.core.sw.seeking.map (fun e => (e.inp,
      e.frame.payload, e.frame.stream)) = s.core.sw.seeking.map (fun e => (e.inp, e.frame.payload,
      e.frame.stream)) ++ [(4 + n.val / 16, r.payload, r.key)])) ∧
  (∀ (n : Fin 128) (size : Fin 9) (s : State), s.core.portOpen n = true → (size.val = 1 ∨ size.val = 2 ∨ size.val = 4 ∨
      size.val = 8) → size.val < (s.core.chan n).drainLeft →
      Answers (.chRxPop n size) s (fun s' => (s'.core.chan n).port = some (slice ((s.core.chan n).rxDrain.flatMap RxRec.bytes)
      (s.core.chan n).rxRead size) ∧ (s'.core.chan n).rxRead = (s.core.chan n).rxRead + size ∧
      (s'.core.chan n).rxDrain = (s.core.chan n).rxDrain)) ∧
  (∀ (n : Fin 128) (count : Fin 65536) (r : RxRec) (s : State), s.core.portOpen n = true → (s.core.chan n).rxDrain = [r] →
      (s.core.chan n).rxRead = 0 → count.val = rxSize r.payload.length → (s.core.chan n).rxFill = [] →
      Answers (.rxRelease n count) s (fun s' => (s'.core.chan n).rxDrain = [] ∧ (s'.core.chan n).rxRead = 0 ∧
      (s'.core.chan n).port = some [])) ∧
  (∀ (n : Fin 128) (tx : Bool) (s : State), s.core.fieldRuns = true → s.core.chRole n ≠ 0 → tx = false →
      s.core.tickOpen = true →
      Answers (.chPtrMismatch n tx) s (fun s' => (s'.core.chan n).rxFill = [] ∧ (s'.core.chan n).rxDrain = [] ∧
      s'.core.reg (Reg.CH_CNT_QUEUE_RESET n) = satAdd32 (s.core.reg (Reg.CH_CNT_QUEUE_RESET n)) 1 ∧
      s'.core.reg (Reg.CH_CNT_RX_OVERRUN n) = satAdd32 (s.core.reg (Reg.CH_CNT_RX_OVERRUN n)) ((s.core.chan n).rxFill.length +
      recordsLeft (s.core.chan n).rxRead (s.core.chan n).rxDrain))) ∧
  (∀ (lvl : Fin 4) (n : Fin 128) (s : State), s.core.takes lvl (Reg.CH_RESET n) = true →
      Answers (.chReset lvl n) s (fun s' => (s'.core.chan n).rxFill = [] ∧ (s'.core.chan n).rxDrain = [] ∧
      (s'.core.chan n).txFill = [] ∧ (s'.core.chan n).txDrain = [] ∧ s'.core.reg (Reg.CH_CNT_QUEUE_RESET n) = s.core.reg
      (Reg.CH_CNT_QUEUE_RESET n) ∧ s'.core.wroteOk (Reg.CH_RESET n) = true))

/-- Items are staged, pass the egress checker into the fill bank, and each record is started and sent whole by its role
(R282, R290, R291, R292, R293, R310, R311, R312). an item that fits joins the staging; a write burst is one item; a staged
item that passes the egress checker becomes a record, and the banks swap; the head record starts after its lead; RS-485
drives DE; in MODBUS_RTU the silence is kept and the CRC appended; a record sent whole leaves the bank and is counted; a
failed transaction gives a record of ADDR and STATUS; 50 µs after a lost arbitration the transaction is tried again; a
controller reads the head record; SDA held low past the limit makes the state bus stuck; its release ends that; a falling
edge of SMBALERT_N writes the event. That the end of an interval moves the clock to its instant is the model's (log entry
3). -/
def Obligations.SerialChannelsTransmitRecords : Prop :=
  (∀ (n : Fin 128) (f : Frame) (s : State), s.core.up = true → s.core.fieldRuns = true → s.core.chRole n ≠ 0 →
      s.core.fc.safe = false → s.core.trunkOf n = none → f.payload.length ≤ 510 →
      (s.core.chan n).staged + f.itemBytes ≤ 1024 →
      Answers (.chTxItemArrive n f) s (fun s' => (s'.core.chan n).staging = (s.core.chan n).staging ++ [f])) ∧
  (∀ (n : Fin 128) (bs : Bytes) (s : State), s.core.fieldRuns = true → s.core.chRole n ≠ 0 → s.core.fc.safe = false →
      s.core.trunkOf n = none → bs ≠ [] → bs.length ≤ 510 → (s.core.chan n).staged + bs.length + 36 ≤ 1024 →
      Answers (.txWrite n bs) s (fun s' => (s'.core.chan n).port = some [] ∧
      (s'.core.chan n).staging.map (fun f => f.payload) = (s.core.chan n).staging.map (fun f => f.payload) ++ [bs])) ∧
  (∀ (n : Fin 128) (f : Frame) (s : State), s.core.fieldRuns = true → s.core.chRole n ≠ 0 → (s.core.chan n).staging = [f] →
      (s.core.chan n).txFill = [] → (s.core.chan n).txDrain = [] → f.payload.length ≤ 510 → s.core.reg Reg.INJ_LEFT = 0 →
      f.check = f.transitCrc →
      Answers (.scannerTxVisit n) s (fun s' => (s'.core.chan n).staging = [] ∧
      (s'.core.chan n).txDrain = [{ data := f.payload, stream := f.stream, seq := f.seq }] ∧ (s'.core.chan n).txFill = [])) ∧
  (∀ (n : Fin 128) (ballC : Bool) (t : TxRec) (rest : List TxRec) (s : State), s.core.chanOn n = true →
      (s.core.chan n).busy = false → (s.core.chRole n = 1 ∨ s.core.chRole n = 2) → s.core.framing n ≠ 2 →
      bit (s.core.cfg (Reg.CH_FORMAT n)) 0 = false → s.core.mayStart 1 n = true → (s.core.chan n).txDrain = t :: rest →
      s.core.ctsAllows n ballC = true →
      Answers (.chTxRecordStart n ballC) s (fun s' => (s'.core.chan n).busy = true ∧ (s'.core.chan n).line = t.data ∧
      s'.core.now = max s.core.now (s.core.chan n).sentEnd ∧ (s'.core.chan n).de = (s.core.chRole n == 2) ∧
      (s'.core.chan n).startAt = s'.core.now + s.core.leadTime n)) ∧
  (∀ (n : Fin 128) (ballC : Bool) (t : TxRec) (rest : List TxRec) (s : State), s.core.chanOn n = true →
      (s.core.chan n).busy = false → (s.core.chRole n = 1 ∨ s.core.chRole n = 2) → s.core.framing n = 2 →
      bit (s.core.reg (Reg.CH_MB n)) 1 = true → bit (s.core.cfg (Reg.CH_FORMAT n)) 0 = false → s.core.mayStart 1 n = true →
      (s.core.chan n).txDrain = t :: rest → s.core.ctsAllows n ballC = true →
      Answers (.chTxRecordStart n ballC) s (fun s' => (s'.core.chan n).busy = true ∧
      (s'.core.chan n).line = t.data ++ leBytes 2 (crcModbus t.data) ∧ s'.core.now = max s.core.now (max (s.core.chan
      n).sentEnd (s.core.chan n).lastEnd + (s.core.silence35 n - s.core.leadTime n)) ∧
      (s'.core.chan n).startAt = s'.core.now + s.core.leadTime n)) ∧
  (∀ (e : TxEnd) (t : TxRec) (x : TxRec) (rest : List TxRec) (s : State), s.core.chanOn e.chan = true →
      (s.core.chan e.chan).busy = true → s.core.chRole e.chan = 2 → (s.core.chan e.chan).txDrain = t :: x :: rest →
      Answers (.chTxRecordEnd e) s (fun s' => (s'.core.chan e.chan).busy = false ∧ (s'.core.chan e.chan).de = false ∧
      (s'.core.chan e.chan).txDrain = x :: rest ∧ (s'.core.chan e.chan).sentEnd = s'.core.now ∧
      (s'.core.chan e.chan).deUntil = s'.core.now + (s.core.chan e.chan).lag ∧
      s'.core.now = max s.core.now ((s.core.chan e.chan).startAt + s.core.charTime e.chan (10 * (s.core.chan
      e.chan).line.length)) ∧ s'.core.reg (Reg.CH_CNT_TX_PKT e.chan) = satAdd32 (s.core.reg (Reg.CH_CNT_TX_PKT e.chan)) 1)) ∧
  (∀ (n : Fin 128) (status : Fin 5) (data : Bytes) (pec : Byte) (s : State), s.core.chanOn n = true → (s.core.chRole n = 4 ∨
      s.core.chRole n = 6) → (s.core.chan n).busy = true → (s.core.chan n).arbEnd = none → (status.val = 1 ∨ status.val = 2 ∨
      status.val = 4) → (s.core.chan n).packet = none → (s.core.chan n).rxFill = [] → (s.core.chan n).rxDrain = [] →
      rxSize (s.core.reg (Reg.CH_RX_MAX n)) ≤ 512 → 300 ≤ s.core.reg (Reg.CH_RX_MAX n) →
      fieldAt (s.core.chan n).line 2 1 = 0 →
      Answers (.i2cTransactionDone n status data pec) s (fun s' => (s'.core.chan n).rxFill ++ (s'.core.chan n).rxDrain ≠ [] ∧
      (∀ r ∈ (s'.core.chan n).rxFill ++ (s'.core.chan n).rxDrain, r.payload = [byteOf (fieldAt (s.core.chan n).line 0 1),
      byteOf status]) ∧ (s'.core.chan n).busy = false ∧ s'.core.reg (Reg.CH_CNT_LINE_ERR n) = satAdd32 (s.core.reg
      (Reg.CH_CNT_LINE_ERR n)) 1)) ∧
  (∀ (n : Fin 128) (e : Nat) (s : State), (s.core.chan n).arbEnd = some e →
      Answers (.i2cArbRetry n) s (fun s' => (s'.core.chan n).arbEnd = none ∧
      (s'.core.chan n).retries = (s.core.chan n).retries + 1 ∧ s'.core.now = max s.core.now e)) ∧
  (∀ (n : Fin 128) (count : Fin 512) (t : TxRec) (rest : List TxRec) (s : State), s.core.chanOn n = true →
      (s.core.chRole n = 5 ∨ s.core.chRole n = 7) → s.core.mayStart 1 n = true → (s.core.chan n).txDrain = t :: rest →
      t.data.length = count.val →
      Answers (.i2cTargetRead n count) s (fun s' => (s'.core.chan n).line = t.data ∧
      s'.core.reg (Reg.CH_CNT_TX_PKT n) = satAdd32 (s.core.reg (Reg.CH_CNT_TX_PKT n)) 1)) ∧
  (∀ (n : Fin 128) (low : HeldLow) (s : State), s.core.chanOn n = true → (s.core.chRole n = 4 ∨ s.core.chRole n = 6) →
      low.still = true → s.core.stuckLimit n < low.ns → s.core.chanConflict n = false →
      Answers (.busStuck n low) s (fun s' => s'.core.reg (Reg.CH_STATE n) = 4 ∧
      (s'.core.chan n).stuckNext = some (s.core.now + 100000000))) ∧
  (∀ (n : Fin 128) (low : Bool) (e : Nat) (s : State), s.core.chanOn n = true → (s.core.chan n).stuckNext = some e →
      low = false → s.core.chanConflict n = false → s.core.trunkOf n = none →
      Answers (.busStuckRetry n low) s (fun s' => s'.core.reg (Reg.CH_STATE n) = 1 ∧ (s'.core.chan n).stuckNext = none ∧
      s'.core.now = max s.core.now e)) ∧
  (∀ (n : Fin 128) (t : Nat) (s : State), s.core.chanOn n = true → s.core.chRole n = 6 → s.core.time.lastTick = some t →
      s.core.ev.closed = none → s.core.ev.opened = [] → s.core.ev.limited = [] →
      Answers (.smbalert n) s (fun s' => s'.core.ev.opened.map (fun r => (r.source, r.kind, r.sev)) = [(0x300 + n.val, 4,
      2)]))

/-- Items load mailboxes; the winning READY mailbox is selected, stamped at its SOF, and ends SENT or READY again (R331,
R332, R333, R334, R335). a post fills the post register with a sealed item; an item that passes the egress checker makes its
mailbox READY; the READY mailbox that wins becomes ACTIVE, in LONE 10 ms after the last SOF; the SOF stamps the mailbox and
counts the attempt; an acknowledged frame is SENT; after a late abort it is SENT_AFTER_ABORT; a lost arbitration returns it
to READY; an ACK error retries, raises TEC by 8 and counts in ACK_RUN. That the end of an interval moves the clock to its
instant is the model's (log entry 3). That a register row acts at once, as a request at the head of the engine's queue,
is the model's reading (log entry 4). -/
def Obligations.CanMailboxesTakeAndSend : Prop :=
  (∀ (lvl : Fin 4) (n : Fin 32) (data : Bytes) (s : State), s.core.takes lvl (Reg.CAN_TX_POST n) = true → 8 ≤ data.length →
      data.length ≤ 72 → (s.core.can n).post = none →
      Answers (.canTxPost lvl n data) s (fun s' => (s'.core.can n).post.map (fun f => f.payload) = some data ∧
      (s'.core.can n).post.map (fun f => f.check == f.transitCrc) = some true ∧ s'.core.wroteOk (Reg.CAN_TX_POST n) = true)) ∧
  (∀ (n : Fin 32) (f : Frame) (m : Nat) (s : State), s.core.up = true → (s.core.can n).staging = [] →
      s.core.canRefuses n f.payload = false → f.payload.length ≤ 72 → s.core.reg Reg.INJ_LEFT = 0 → f.check = f.transitCrc →
      fieldAt f.payload 5 1 = m → m < 64 → ((s.core.can n).box m).state ≠ 2 →
      Answers (.canTxItemArrive n f) s (fun s' => ((s'.core.can n).box m).state = 1 ∧
      ((s'.core.can n).box m).ident = fieldAt f.payload 0 4 % 2 ^ 31 ∧ ((s'.core.can n).box m).data = f.payload.drop 8 ∧
      ((s'.core.can n).box m).attempts = 0 ∧ (s'.core.can n).staging = [(f.payload.length + 36,
      max s.core.now (s.core.can n).holdFree + ((f.payload.length + 36) * 25 + 15) / 16)])) ∧
  (∀ (n : Fin 32) (m : Nat) (b : Mailbox) (s : State), s.core.canOn n = true → s.core.canMute n = false →
      s.core.reg Reg.INJ_LEFT = 0 → (s.core.can n).active = none → s.core.mayStart 2 n = true →
      bestBox (s.core.can n).boxes none = some (m, b) →
      Answers (.canFrameSelect n) s (fun s' => (s'.core.can n).active = some m ∧ ((s'.core.can n).box m).state = 2 ∧
      (bit (s.core.reg (Reg.CAN_STATUS n)) 0 = true → s'.core.now = max s.core.now ((s.core.can n).lastSof + 10000000)))) ∧
  (∀ (n : Fin 32) (m : Nat) (s : State), s.core.canOn n = true → s.core.canMute n = false → s.core.mayStart 2 n = true →
      s.core.time.lastTick.isSome = true → (s.core.can n).active = some m → (s.core.can n).started = false →
      Answers (.canSof n) s (fun s' => ((s'.core.can n).box m).attempts = min 65535 (((s.core.can n).box m).attempts + 1) ∧
      ((s'.core.can n).box m).tick = s.core.fcLatch.tick ∧ ((s'.core.can n).box m).offset = (s.core.frameCounter + 2 ^ 32 -
      s.core.fcLatch.counter) % 65536 ∧ ((s'.core.can n).box m).fcSof = s.core.frameCounter ∧
      (s'.core.can n).lastSof = s.core.now ∧ (s'.core.can n).started = true)) ∧
  (∀ (n : Fin 32) (delay : Nat) (m : Nat) (s : State), s.core.canOn n = true → (s.core.can n).active = some m →
      (s.core.can n).started = true → (s.core.can n).lateAbort = false → (s.core.can n).tec < 128 →
      (s.core.can n).rxErr < 128 →
      Answers (.canTxSent n delay) s (fun s' => ((s'.core.can n).box m).state = 3 ∧ (s'.core.can n).active = none ∧
      s'.core.reg (Reg.CAN_CNT_TX n) = satAdd32 (s.core.reg (Reg.CAN_CNT_TX n)) 1 ∧
      (s'.core.can n).tec = (s.core.can n).tec - 1 ∧ s'.core.reg (Reg.CAN_ACK_RUN n) = 0)) ∧
  (∀ (n : Fin 32) (delay : Nat) (m : Nat) (s : State), s.core.canOn n = true → (s.core.can n).active = some m →
      (s.core.can n).started = true → (s.core.can n).lateAbort = true → (s.core.can n).tec < 128 →
      (s.core.can n).rxErr < 128 →
      Answers (.canTxSent n delay) s (fun s' => ((s'.core.can n).box m).state = 5 ∧ (s'.core.can n).active = none ∧
      s'.core.reg (Reg.CAN_CNT_TX n) = satAdd32 (s.core.reg (Reg.CAN_CNT_TX n)) 1 ∧
      s'.core.reg (Reg.CAN_CNT_ABORT_LATE n) = satAdd32 (s.core.reg (Reg.CAN_CNT_ABORT_LATE n)) 1)) ∧
  (∀ (n : Fin 32) (m : Nat) (s : State), s.core.canOn n = true → (s.core.can n).active = some m →
      (s.core.can n).started = true → (s.core.can n).lateAbort = false →
      Answers (.canArbLost n) s (fun s' => ((s'.core.can n).box m).state = 1 ∧ (s'.core.can n).active = none ∧
      s'.core.reg (Reg.CAN_CNT_ARB_LOST n) = satAdd32 (s.core.reg (Reg.CAN_CNT_ARB_LOST n)) 1)) ∧
  (∀ (n : Fin 32) (e : TxFault) (m : Nat) (s : State), s.core.canOn n = true → (s.core.can n).active = some m →
      (s.core.can n).started = true → (s.core.can n).lateAbort = false → e.kind = .ack →
      s.core.bitWrong n (s.core.canLoop n ((s.core.can n).box m) e.measured) e.seen = true →
      s.core.reg (Reg.CAN_STATE n) = 1 → (s.core.can n).tec < 120 → (s.core.can n).rxErr < 128 →
      Answers (.canTxError n e) s (fun s' => ((s'.core.can n).box m).state = 1 ∧
      (s'.core.can n).tec = (s.core.can n).tec + 8 ∧ s'.core.reg (Reg.CAN_CNT_BUS_ERR n) = satAdd32 (s.core.reg
      (Reg.CAN_CNT_BUS_ERR n)) 1 ∧ s'.core.reg (Reg.CAN_ACK_RUN n) = min 255 (s.core.reg (Reg.CAN_ACK_RUN n) + 1)))

/-- Aborts act by the state of the mailbox; bus-off is left by RECOVER; frames pass the filters into slots,
which RX_RD releases (R336, R339, R341, R344, R346). an abort makes a READY mailbox ABORTED; ABORT_ALL aborts every one;
RECOVER in bus-off begins recovery; the recovery condition makes it error-active with TEC and REC 0; a frame of ACTION 2 is
written into slot RX_WR; one that no entry matches is discarded and counted; RX_RD releases slots; a receive error raises
REC; one in or behind a flag already sent raises it by 8 and counts no further flag. That a register row acts at once,
as a request at the head of the engine's queue, is the model's reading (log entry 4). -/
def Obligations.CanAbortsRecoversAndReceives : Prop :=
  (∀ (lvl : Fin 4) (n : Fin 32) (mask : BitVec 64) (m : Nat) (b : Mailbox) (s : State),
      s.core.takes lvl (Reg.CAN_ABORT n) = true → (s.core.can n).boxes = [(m, b)] → b.state = 1 → m < 64 →
      bit mask.toNat m = true →
      Answers (.canAbort lvl n mask) s (fun s' => ((s'.core.can n).box m).state = 4 ∧
      s'.core.wroteOk (Reg.CAN_ABORT n) = true)) ∧
  (∀ (lvl : Fin 4) (n : Fin 32) (m : Nat) (b : Mailbox) (s : State), s.core.takes lvl (Reg.CAN_CMD n) = true →
      (s.core.can n).boxes = [(m, b)] → b.state = 1 → m < 64 →
      Answers (.canAbortAll lvl n) s (fun s' => ((s'.core.can n).box m).state = 4 ∧ s'.core.wroteOk (Reg.CAN_CMD n) = true)) ∧
  (∀ (lvl : Fin 4) (n : Fin 32) (s : State), s.core.takes lvl (Reg.CAN_CMD n) = true → s.core.reg (Reg.CAN_STATE n) = 3 →
      Answers (.canRecover lvl n) s (fun s' => s'.core.reg (Reg.CAN_STATE n) = 4 ∧ s'.core.wroteOk (Reg.CAN_CMD n) = true)) ∧
  (∀ (n : Fin 32) (s : State), s.core.fieldRuns = true → s.core.reg (Reg.CAN_STATE n) = 4 →
      Answers (.canRecovered n) s (fun s' => s'.core.reg (Reg.CAN_STATE n) = 1 ∧ (s'.core.can n).tec = 0 ∧
      (s'.core.can n).rxErr = 0)) ∧
  (∀ (n : Fin 32) (ident : Nat) (frame : Byte) (data : Bytes) (ago : Nat) (i : Nat) (key : Nat) (s : State),
      s.core.canOn n = true → ident < 2 ^ 11 → frame.toNat ≤ 8 → Core.filterHit s.mem s.core n (2 * s.core.now - 25 * ago)
      ident = (some (i, key, 2), s.core.dropFilters n (2 * s.core.now - 25 * ago)) → s.core.reg (Reg.CAN_RX_COUNT n) < 10 →
      (s.core.can n).rxErr = 0 →
      Answers (.canFrameRxComplete n ident frame data ago) s (fun s' => s'.core.reg (Reg.CAN_CNT_RX n) = satAdd32 (s.core.reg
      (Reg.CAN_CNT_RX n)) 1 ∧ s'.core.reg (Reg.CAN_RX_WR n) = (s.core.reg (Reg.CAN_RX_WR n) + 1) % 10 ∧
      s'.core.reg (Reg.CAN_RX_COUNT n) = s.core.reg (Reg.CAN_RX_COUNT n) + 1 ∧
      (mapGet [] (s.core.reg (Reg.CAN_RX_WR n)) (s'.core.can n).slots).drop 24 = padTo 72 (padTo frame.toNat data) ∧
      (s'.core.can n).rxSeq = ((s.core.can n).rxSeq + 1) % 65536)) ∧
  (∀ (n : Fin 32) (ident : Nat) (frame : Byte) (data : Bytes) (ago : Nat) (s : State), s.core.canOn n = true → ident < 2 ^ 11 →
      frame.toNat ≤ 8 → Core.filterHit s.mem s.core n (2 * s.core.now - 25 * ago) ident = (none,
      s.core.dropFilters n (2 * s.core.now - 25 * ago)) →
      Answers (.canFrameRxComplete n ident frame data ago) s (fun s' => s'.core.reg (Reg.CAN_CNT_RX_NOMATCH n) = satAdd32
      (s.core.reg (Reg.CAN_CNT_RX_NOMATCH n)) 1 ∧ (s'.core.can n).slots = (s.core.can n).slots ∧
      (s'.core.can n).rxSeq = (s.core.can n).rxSeq)) ∧
  (∀ (lvl : Fin 4) (n : Fin 32) (v : Fin 256) (s : State), s.core.takes lvl (Reg.CAN_RX_RD n) = true → v.val ≤ 9 →
      (v.val + 10 - s.core.reg (Reg.CAN_RX_RD n)) % 10 ≤ s.core.reg (Reg.CAN_RX_COUNT n) →
      Answers (.rxRdWrite lvl n v) s (fun s' => s'.core.reg (Reg.CAN_RX_RD n) = v ∧
      s'.core.reg (Reg.CAN_RX_COUNT n) = s.core.reg (Reg.CAN_RX_COUNT n) - (v.val + 10 - s.core.reg (Reg.CAN_RX_RD n)) % 10 ∧
      s'.core.wroteOk (Reg.CAN_RX_RD n) = true)) ∧
  (∀ (n : Fin 32) (e : RxFault) (s : State), s.core.canOn n = true → s.core.canMute n = false →
      s.core.bitWrong n none e.seen = true → (s.core.can n).rxErr < 100 → (s.core.can n).tec < 128 →
      Answers (.canRxError n e) s (fun s' => (s'.core.can n).rxErr = (s.core.can n).rxErr + (if e.eight then 8 else 1) ∧
      s'.core.reg (Reg.CAN_CNT_BUS_ERR n) = satAdd32 (s.core.reg (Reg.CAN_CNT_BUS_ERR n)) (if e.eight then 0 else 1)))

/-- Each of the eight instructions of an engine has its action, its cycles and its step to the next instruction (R357, R359,
R361, R362). SHIFT_OUT of one bit shifts SR and takes two cycles; SHIFT_IN of one bit takes the level read into SR; DELAY
passes its cycles; WAIT for a level ends when it is there; SET MODE 1 drives the named output pins high; MOVE OP 0 takes the
TX queue head into SR; it stalls on an empty queue and counts the underrun; CMP KIND 2 compares the levels with CMPR; EVENT
with SKIP_EQ skips the next instruction when EQ is 1; a stall ends when the word is there, its cycles counted. -/
def Obligations.EnginesExecuteInstructions : Prop :=
  (∀ (n : Fin 64) (w : Nat) (s : State), s.core.engAt n 0 = some w → (s.core.eng n).pc ≠ bits (s.core.reg (Reg.ENG_WRAP n)) 9 5
      → bit (s.core.reg (Reg.ENG_CFG n)) 14 = false → bit (s.core.reg (Reg.ENG_CFG n)) 13 = false → bits w 12 8 = 0 →
      (s.core.eng n).bitsDone = 0 →
      Answers (.shiftOut n) s (fun s' => (s'.core.eng n).pc = ((s.core.eng n).pc + 1) % 32 ∧ s'.core.engState n = 1 ∧
      (s'.core.eng n).cnt = ((s.core.eng n).cnt + 2) % 2 ^ 32 ∧ (s'.core.eng n).sr = (s.core.eng n).sr * 2 % 2 ^ 32 ∧
      (s'.core.eng n).fill = (s.core.eng n).fill - 1)) ∧
  (∀ (n : Fin 64) (ins : BitVec 32) (w : Nat) (s : State), s.core.engAt n 1 = some w →
      (s.core.eng n).pc ≠ bits (s.core.reg (Reg.ENG_WRAP n)) 9 5 → bit (s.core.reg (Reg.ENG_CFG n)) 15 = false →
      bit (s.core.reg (Reg.ENG_CFG n)) 13 = false → bit (s.core.reg (Reg.ENG_CFG n)) 10 = true → bits w 12 8 = 0 →
      (s.core.eng n).bitsDone = 0 →
      Answers (.shiftIn n ins) s (fun s' => (s'.core.eng n).pc = ((s.core.eng n).pc + 1) % 32 ∧ s'.core.engState n = 1 ∧
      (s'.core.eng n).cnt = ((s.core.eng n).cnt + 2) % 2 ^ 32 ∧ (s'.core.eng n).sr = ((s.core.eng n).sr * 2 + b2n (ins.getLsbD
      0)) % 2 ^ 32 ∧ (s'.core.eng n).fill = min 32 ((s.core.eng n).fill + 1))) ∧
  (∀ (n : Fin 64) (w : Nat) (s : State), s.core.engAt n 2 = some w → (s.core.eng n).pc ≠ bits (s.core.reg (Reg.ENG_WRAP n)) 9 5
      →
      Answers (.engDelay n) s (fun s' => (s'.core.eng n).pc = ((s.core.eng n).pc + 1) % 32 ∧ s'.core.engState n = 1 ∧
      (s'.core.eng n).cnt = ((s.core.eng n).cnt + bits w 9 0 + 1) % 2 ^ 32)) ∧
  (∀ (n : Fin 64) (k : Nat) (levels : BitVec 8) (w : Nat) (s : State), s.core.engAt n 3 = some w →
      (s.core.eng n).pc ≠ bits (s.core.reg (Reg.ENG_WRAP n)) 9 5 → bits w 8 7 = 0 → levels.getLsbD (bits w 12 10) = bit w 9 →
      Answers (.engWait n k levels) s (fun s' => (s'.core.eng n).pc = ((s.core.eng n).pc + 1) % 32 ∧ s'.core.engState n = 1 ∧
      (s'.core.eng n).cnt = ((s.core.eng n).cnt + max 1 k) % 2 ^ 32)) ∧
  (∀ (n : Fin 64) (w : Nat) (s : State), s.core.engAt n 4 = some w → (s.core.eng n).pc ≠ bits (s.core.reg (Reg.ENG_WRAP n)) 9 5
      → bits w 12 11 = 1 →
      Answers (.engSet n) s (fun s' => (s'.core.eng n).pc = ((s.core.eng n).pc + 1) % 32 ∧ s'.core.engState n = 1 ∧
      (s'.core.eng n).cnt = ((s.core.eng n).cnt + 1) % 2 ^ 32 ∧ (∀ i < (s.core.engPins n).length, bit w i = true →
      bit (s.core.eng n).dirs i = true → bit (s'.core.eng n).levels i = true))) ∧
  (∀ (n : Fin 64) (w : Nat) (v : Nat) (rest : List Nat) (s : State), s.core.engAt n 5 = some w →
      (s.core.eng n).pc ≠ bits (s.core.reg (Reg.ENG_WRAP n)) 9 5 → bits w 12 11 = 0 → (s.core.eng n).tx = v :: rest →
      Answers (.engMove n) s (fun s' => (s'.core.eng n).pc = ((s.core.eng n).pc + 1) % 32 ∧ s'.core.engState n = 1 ∧
      (s'.core.eng n).cnt = ((s.core.eng n).cnt + 1) % 2 ^ 32 ∧ (s'.core.eng n).sr = v ∧ (s'.core.eng n).fill = 32 ∧
      (s'.core.eng n).tx = rest)) ∧
  (∀ (n : Fin 64) (w : Nat) (s : State), s.core.engAt n 5 = some w → (s.core.eng n).pc ≠ bits (s.core.reg (Reg.ENG_WRAP n)) 9 5
      → bits w 12 11 = 0 → (s.core.eng n).tx = [] →
      Answers (.engMove n) s (fun s' => s'.core.engState n = 3 ∧ s'.core.reg (Reg.ENG_CNT_UNDERRUN n) = satAdd32 (s.core.reg
      (Reg.ENG_CNT_UNDERRUN n)) 1 ∧ bit (s'.core.reg (Reg.ENG_FLAGS n)) 0 = true ∧ (s'.core.eng n).pc = (s.core.eng n).pc)) ∧
  (∀ (n : Fin 64) (levels : BitVec 8) (w : Nat) (s : State), s.core.engAt n 6 = some w →
      (s.core.eng n).pc ≠ bits (s.core.reg (Reg.ENG_WRAP n)) 9 5 → bits w 12 11 = 2 →
      Answers (.engCmp n levels) s (fun s' => (s'.core.eng n).pc = ((s.core.eng n).pc + 1) % 32 ∧ s'.core.engState n = 1 ∧
      (s'.core.eng n).cnt = ((s.core.eng n).cnt + 1) % 2 ^ 32 ∧ (s'.core.eng n).eq = (levels.toNat == s.core.reg (Reg.ENG_CMPR
      n) % 256))) ∧
  (∀ (n : Fin 64) (w : Nat) (s : State), s.core.engAt n 7 = some w → (s.core.eng n).pc ≠ bits (s.core.reg (Reg.ENG_WRAP n)) 9 5
      → bit w 11 = true → bit w 12 = true → (s.core.eng n).eq = true → (s.core.eng n).pc + 1 ≠ bits (s.core.reg (Reg.ENG_WRAP
      n)) 9 5 → (s.core.eng n).pc < 30 →
      Answers (.engEvent n) s (fun s' => (s'.core.eng n).pc = (s.core.eng n).pc + 2 ∧
      (s'.core.eng n).cnt = ((s.core.eng n).cnt + 1) % 2 ^ 32)) ∧
  (∀ (n : Fin 64) (k : Nat) (ins : BitVec 32) (w : Nat) (v : Nat) (rest : List Nat) (s : State), s.core.engState n = 3 →
      s.core.fieldRuns = true → s.core.passBarred n = false → fieldAt (s.core.blob (Reg.ENG_PROG n)) (2 * (s.core.eng n).pc) 2
      = w → w / 2 ^ 11 = 20 → (s.core.eng n).overrun = false → (s.core.eng n).tx = v :: rest →
      (s.core.eng n).pc ≠ bits (s.core.reg (Reg.ENG_WRAP n)) 9 5 →
      Answers (.engStallEnd n k ins) s (fun s' => (s'.core.eng n).pc = ((s.core.eng n).pc + 1) % 32 ∧ s'.core.engState n = 1 ∧
      (s'.core.eng n).cnt = ((s.core.eng n).cnt + k + 1) % 2 ^ 32 ∧ (s'.core.eng n).sr = v ∧ (s'.core.eng n).fill = 32))

/-- START, STOP, STOP_AT_WRAP and FLUSH, the data registers, and the writes of program,
wrap and divider act as the tables say (R354, R357, R366, R367, R369, R370,
R371). START sets the registers and runs from WRAP_BOTTOM; STOP stops; STOP_AT_WRAP waits for the wrap; FLUSH in STOPPED
empties both queues; a word written enters the TX queue; RX_POP removes the head; RX_PEEK leaves it; ENG_PROG in STOPPED is
in force for the next START; while the engine runs it is pending; ENG_WRAP in STOPPED is in force for the next START; so is
ENG_DIV; ENG_PROG_FORCE installs at once and restarts at WRAP_BOTTOM. That a register row acts at once,
as a request at the head of the engine's queue, is the model's reading (log entry 4). -/
def Obligations.EnginesAreControlledAndFed : Prop :=
  (∀ (lvl : Fin 4) (n : Fin 64) (s : State), s.core.takes lvl (Reg.ENG_CTRL n) = true → (s.core.engState n = 0 ∨
      s.core.engState n = 4) → s.core.fc.safe = false → s.core.startBarred n = false → s.core.isolatedKind .engine n = false →
      Answers (.engStart lvl n) s (fun s' => s'.core.engState n = 1 ∧ (s'.core.eng n).sr = 0 ∧ (s'.core.eng n).cnt = 0 ∧
      (s'.core.eng n).eq = false ∧ (s'.core.eng n).tx = (s.core.eng n).tx ∧
      (s'.core.eng n).pc = bits (s'.core.reg (Reg.ENG_WRAP n)) 4 0 ∧ s'.core.wroteOk (Reg.ENG_CTRL n) = true)) ∧
  (∀ (lvl : Fin 4) (n : Fin 64) (s : State), s.core.takes lvl (Reg.ENG_CTRL n) = true → s.core.engState n ≠ 0 →
      Answers (.engStop lvl n) s (fun s' => s'.core.engState n = 0 ∧ s'.core.wroteOk (Reg.ENG_CTRL n) = true)) ∧
  (∀ (lvl : Fin 4) (n : Fin 64) (s : State), s.core.takes lvl (Reg.ENG_CTRL n) = true → (s.core.engState n = 1 ∨
      s.core.engState n = 2 ∨ s.core.engState n = 3) →
      Answers (.stopAtWrap lvl n) s (fun s' => s'.core.engState n = s.core.engState n ∧ (s'.core.eng n).stopAtWrap = true ∧
      s'.core.wroteOk (Reg.ENG_CTRL n) = true)) ∧
  (∀ (lvl : Fin 4) (n : Fin 64) (s : State), s.core.takes lvl (Reg.ENG_CTRL n) = true → s.core.engState n = 0 →
      Answers (.engFlush lvl n) s (fun s' => (s'.core.eng n).tx = [] ∧ (s'.core.eng n).rx = [] ∧
      s'.core.wroteOk (Reg.ENG_CTRL n) = true)) ∧
  (∀ (n : Fin 64) (bs : Bytes) (s : State), bs.length = 4 → (s.core.eng n).tx.length < 4 → s.core.reg Reg.INJ_LEFT = 0 →
      Answers (.txData n bs) s (fun s' => (s'.core.eng n).tx = (s.core.eng n).tx ++ [fieldAt bs 0 4] ∧
      (s'.core.eng n).port = some [])) ∧
  (∀ (n : Fin 64) (v : Nat) (rest : List Nat) (s : State), (s.core.eng n).rx = v :: rest →
      Answers (.engRxPop n) s (fun s' => (s'.core.eng n).rx = rest ∧ (s'.core.eng n).port = some (leBytes 4 v))) ∧
  (∀ (n : Fin 64) (v : Nat) (rest : List Nat) (s : State), (s.core.eng n).rx = v :: rest →
      Answers (.rxPeek n) s (fun s' => (s'.core.eng n).rx = v :: rest ∧ (s'.core.eng n).port = some (leBytes 4 v))) ∧
  (∀ (lvl : Fin 4) (n : Fin 64) (data : Bytes) (s : State), s.core.takes lvl (Reg.ENG_PROG n) = true → s.core.engState n = 0 →
      progOk data = true →
      Answers (.engProgWrite lvl n data) s (fun s' => s'.core.blob (Reg.ENG_PROG n) = data ∧
      s'.core.wroteOk (Reg.ENG_PROG n) = true)) ∧
  (∀ (lvl : Fin 4) (n : Fin 64) (data : Bytes) (s : State), s.core.takes lvl (Reg.ENG_PROG n) = true → s.core.engState n = 1 →
      progOk data = true →
      Answers (.engProgWrite lvl n data) s (fun s' => s'.core.blob (Reg.ENG_PROG n) = s.core.blob (Reg.ENG_PROG n) ∧
      (s'.core.eng n).pendProg = some data ∧ s'.core.wroteOk (Reg.ENG_PROG n) = true)) ∧
  (∀ (lvl : Fin 4) (n : Fin 64) (v : BitVec 32) (s : State), s.core.takes lvl (Reg.ENG_WRAP n) = true → s.core.engState n = 0 →
      bits v.toNat 4 0 ≤ bits v.toNat 9 5 → bits v.toNat 31 16 ≤ 1023 →
      Answers (.engWrapWrite lvl n v) s (fun s' => s'.core.reg (Reg.ENG_WRAP n) = Nat.land v.toNat 0x3FF03FF ∧
      s'.core.wroteOk (Reg.ENG_WRAP n) = true)) ∧
  (∀ (lvl : Fin 4) (n : Fin 64) (v : BitVec 32) (s : State), s.core.takes lvl (Reg.ENG_DIV n) = true → s.core.engState n = 0 →
      bits v.toNat 15 0 ≠ 0 →
      Answers (.engDivWrite lvl n v) s (fun s' => s'.core.reg (Reg.ENG_DIV n) = v.toNat % 2 ^ 24 ∧
      s'.core.wroteOk (Reg.ENG_DIV n) = true)) ∧
  (∀ (lvl : Fin 4) (n : Fin 64) (data : Bytes) (s : State), s.core.takes lvl (Reg.ENG_PROG_FORCE n) = true →
      s.core.engState n = 1 → progOk data = true → 2 ≤ fieldAt (s.core.blob (Reg.ENG_PROG n)) (2 * (s.core.eng n).pc) 2 / 2 ^
      13 →
      Answers (.engProgForce lvl n data) s (fun s' => s'.core.blob (Reg.ENG_PROG n) = data ∧
      (s'.core.eng n).pc = bits (s'.core.reg (Reg.ENG_WRAP n)) 4 0 ∧ (s'.core.eng n).acc = 0 ∧
      (s'.core.eng n).tx = (s.core.eng n).tx ∧ s'.core.reg (Reg.ENG_CNT_FORCE n) = satAdd32 (s.core.reg (Reg.ENG_CNT_FORCE n))
      1 ∧ s'.core.wroteOk (Reg.ENG_PROG_FORCE n) = true))

/-- Output items load for the strobe, DISC_SAFE applies at once, a bank follows its supply; samples are calibrated,
kept and marked, OPEN is entered and left (R376, R384, R386, R390, R392,
R395). an item for a supplied bank enters its output update register; one of another length, or for a bank without supply,
is dropped and counted; DISC_SAFE holds the byte written; a code read at 2 consecutive senses takes effect; with the default
calibration a sample in range is delivered as it is; the open comparator enters OPEN; and leaves it. That the end of an
interval moves the clock to its instant is the model's (log entry 3). That a register row acts at once,
as a request at the head of the engine's queue, is the model's reading (log entry 4). -/
def Obligations.DiscreteAndMeasurementFollow : Prop :=
  (∀ (b : Fin 32) (f : Frame) (s : State), s.core.up = true → s.core.reg Reg.INJ_LEFT = 0 → f.check = f.transitCrc →
      f.payload.length = 4 → s.core.supplied b = true → bit (s.core.cfg Reg.SCHED_BANKS) b = false →
      Answers (.discOutputItem b f) s (fun s' => s'.core.sched.updates = s.core.sched.updates ++
      [{ at_ := s.core.now, rank := 1, bank := b, mask := fieldAt f.payload 0 1, value := fieldAt f.payload 1 1 }] ∧
      s'.core.reg (Reg.DISC_CNT_OUT_ITEMS b) = satAdd32 (s.core.reg (Reg.DISC_CNT_OUT_ITEMS b)) 1)) ∧
  (∀ (b : Fin 32) (f : Frame) (s : State), s.core.up = true → s.core.reg Reg.INJ_LEFT = 0 → f.check = f.transitCrc →
      (f.payload.length ≠ 4 ∨ s.core.supplied b = false) →
      Answers (.discOutputItem b f) s (fun s' => s'.core.sched = s.core.sched ∧
      s'.core.reg (Reg.DISC_CNT_OUT_DROP b) = satAdd32 (s.core.reg (Reg.DISC_CNT_OUT_DROP b)) 1)) ∧
  (∀ (lvl : Fin 4) (b : Fin 32) (v : Fin 256) (s : State), s.core.takes lvl (Reg.DISC_SAFE b) = true →
      Answers (.discSafeWrite lvl b v) s (fun s' => s'.core.reg (Reg.DISC_SAFE b) = v ∧
      s'.core.wroteOk (Reg.DISC_SAFE b) = true)) ∧
  (∀ (b : Fin 32) (mv : Nat) (s : State), s.core.up = true → (s.core.bank b).sensed = some (vioCode mv) →
      s.core.reg (Reg.DISC_VIO b) = 0 → (s.core.bank b).gone = false → 1620 ≤ mv → mv ≤ 1980 →
      Answers (.discVioSense b mv) s (fun s' => s'.core.reg (Reg.DISC_VIO b) = 1 ∧ (s'.core.bank b).runs = [])) ∧
  (∀ (n : Fin 32) (x : Int) (s : State), (s.core.measIn n).running = true → s.core.regI 16 (Reg.MEAS_CAL_OFFSET n) = 0 →
      s.core.reg (Reg.MEAS_CAL_GAIN n) = 32768 → -32768 ≤ x → x ≤ 32767 → (s.core.nextSample n).2 = false →
      bit (s.core.reg Reg.SUPPLY_FLAGS) 1 = false →
      Answers (.measSampleDeliver n x) s (fun s' => s'.core.reg (Reg.MEAS_LAST n) = ofInt 16 x ∧
      s'.core.reg (Reg.MEAS_LAST_TIME n) = (s.core.nextSample n).1 ∧ s'.core.reg (Reg.MEAS_CNT_OVER n) = s.core.reg
      (Reg.MEAS_CNT_OVER n) ∧ (s'.core.measIn n).settle = (s.core.measIn n).settle - 1)) ∧
  (∀ (n : Fin 32) (s : State), s.core.fieldRuns = true → s.core.cfg (Reg.MEAS_OPEN_EN n) = 1 →
      (s.core.measIn n).opened = false →
      Answers (.measOpenEnter n) s (fun s' => (s'.core.measIn n).opened = true ∧
      s'.core.reg (Reg.MEAS_CNT_OPEN n) = satAdd32 (s.core.reg (Reg.MEAS_CNT_OPEN n)) 1)) ∧
  (∀ (n : Fin 32) (s : State), s.core.fieldRuns = true → s.core.cfg (Reg.MEAS_OPEN_EN n) = 1 → (s.core.measIn n).opened = true →
      Answers (.measOpenLeave n) s (fun s' => (s'.core.measIn n).opened = false ∧
      s'.core.reg (Reg.MEAS_CNT_OPEN n) = s.core.reg (Reg.MEAS_CNT_OPEN n)))

/-- An input item runs its route chain to a release or a fault; table writes replace entries; a rule pass trips rules,
a reset returns them (R402, R404, R415, R416, R419, R420, R422, R425). the item that R402 puts first runs its chain; one
without a valid route is only counted; on a pass verdict the slot stores act; a map fault discards the item and is recorded;
a route entry is replaced but for its hardware bytes; a mapping entry is replaced whole; a high rule whose slot is at or
beyond TRIP trips after COUNT passes; RULE_RESET of a CLEARED rule acts at the next pass; a window ends with its entries in
MAP_LOAD. That a register row acts at once, as a request at the head of the engine's queue,
is the model's reading (log entry 4). -/
def Obligations.MapperRunsAndReleases : Prop :=
  (∀ (arrived : Option Frame) (f : Frame) (r : MapRoute) (x : MapRun) (s : State), s.core.up = true → s.core.mapRuns = true →
      arrived = none → nextItem s.core.atMapper = some f → s.core.reg Reg.INJ_LEFT = 0 → f.stream < 2048 * s.core.routeBanks →
      s.core.wordsClean s.mem (s.core.routeBase + f.stream * 32) 32 = true → s.core.route s.mem f.stream = some r →
      (r.origin = 0xFFFF ∨ r.origin = f.okey) → s.core.map.runs = [] → Core.runChain s.mem s.core.now chainSteps
      { item := f, due := s.core.now, at_ := some { key := f.stream, route := r, left := 8 } } ((s.core.undeliver 12 f).inc
      Reg.CNT_IN) = (x, ((s.core.undeliver 12 f).inc Reg.CNT_IN)) →
      Answers (.mapperInputItem arrived) s (fun s' => s'.core.map.runs = [{ x with hits := [] }] ∧
      s'.core.atMapper = s.core.atMapper.erase f ∧ s'.core.map.ops = s.core.map.ops ∧
      s'.core.reg (Reg.CNT_IN) = satAdd32 (s.core.reg (Reg.CNT_IN)) 1)) ∧
  (∀ (arrived : Option Frame) (f : Frame) (s : State), s.core.up = true → s.core.mapRuns = true → arrived = none →
      s.core.map.runs = [] → nextItem s.core.atMapper = some f → s.core.reg Reg.INJ_LEFT = 0 → f.check = f.transitCrc →
      (2048 * s.core.routeBanks ≤ f.stream ∨ (s.core.wordsClean s.mem (s.core.routeBase + f.stream * 32) 32 = true ∧
      s.core.route s.mem f.stream = none)) →
      Answers (.mapperInputItem arrived) s (fun s' => s'.core.map.runs = s.core.map.runs ∧ s'.mem = s.mem ∧
      s'.core.reg (Reg.CNT_IN) = satAdd32 (s.core.reg (Reg.CNT_IN)) 1 ∧
      s'.core.reg (Reg.CNT_NO_ROUTE) = satAdd32 (s.core.reg (Reg.CNT_NO_ROUTE)) 1)) ∧
  (∀ (r : MapRun) (x : SlotStore) (s : State), s.core.map.runs = [r] → r.at_ = none → r.hits = [] → r.inverted = false →
      r.item.check = r.item.transitCrc → r.fault = none → r.outs = [] → r.stores = [x] → r.item.tick ≠ tickUnknown →
      tickAhead r.item.tick s.core.tickNow = false →
      Answers .mapperRelease s (fun s' => s'.core.map.runs = [] ∧ s'.core.reg (Reg.SIG_VALUE x.slot) = x.value ∧
      s'.core.reg (Reg.SIG_TICK x.slot) = r.item.tick ∧ s'.core.reg (Reg.SIG_ROUTE x.slot) = x.route)) ∧
  (∀ (r : MapRun) (e : Nat) (k : Nat) (i : Nat) (s : State), s.core.map.runs = [r] → r.at_ = none → r.hits = [] →
      r.inverted = false → r.item.check = r.item.transitCrc → r.fault = some (e, k, i) →
      Answers .mapperRelease s (fun s' => s'.core.map.runs = [] ∧ s'.mem = s.mem ∧
      s'.core.reg Reg.CNT_OUT = s.core.reg Reg.CNT_OUT ∧ s'.core.reg Reg.MF_CAUSE = e ∧ s'.core.reg Reg.MF_ROUTE = k ∧
      s'.core.reg (Reg.CNT_MAP_FAULT) = satAdd32 (s.core.reg (Reg.CNT_MAP_FAULT)) 1)) ∧
  (∀ (key : Fin 65536) (entry : Bytes) (s : State), s.core.up = true → entry.length = 32 →
      Core.writeStatus s.mem s.core 1 (s.core.routeBase + key.val * 32) entry = Fab.OK → key.val < 2048 * s.core.routeBanks →
      s.core.routeBanks ≤ 32 → bits (fieldAt entry 0 2) 5 4 ≠ 3 →
      Answers (.routeTableWrite key entry) s (fun s' => s.core.fetch s'.mem (s.core.routeBase + key.val * 32) 22 = entry.take
      22 ∧ s.core.fetch s'.mem (s.core.routeBase + key.val * 32 + 22) 6 = s.core.fetch s.mem (s.core.routeBase + key.val * 32
      + 22) 6 ∧ s.core.fetch s'.mem (s.core.routeBase + key.val * 32 + 28) 4 = entry.drop 28)) ∧
  (∀ (k : Fin 16384) (entry : Bytes) (s : State), s.core.up = true → entry.length = 16 →
      Core.writeStatus s.mem s.core 1 (entryBase + k.val * 16) entry = Fab.OK → s.core.routeBanks ≤ 32 →
      Answers (.mappingEntryWrite k entry) s (fun s' => s.core.fetch s'.mem (entryBase + k.val * 16) 16 = entry)) ∧
  (∀ (t : Nat) (r : Nat) (x : Rule) (s : State), s.core.mapRuns = true → s.core.time.lastTick = some t →
      s.core.map.lastPass ≠ some t → s.core.map.rules = [(r, x)] → x.st = 1 → x.reset = false → x.stale = false →
      s.core.reg (Reg.RULE_STALE r) = 0 → s.core.reg (Reg.RULE_COUNT r) = 1 → x.run = 0 →
      bit (s.core.reg (Reg.RULE_CTRL r)) 1 = false → s.core.regI 32 (Reg.RULE_TRIP r) ≤ s.core.regI 32 (Reg.SIG_VALUE
      (s.core.reg (Reg.RULE_SLOT r))) → r < 1024 →
      Answers .rulePass s (fun s' => (s'.core.rule r).st = 2 ∧ s'.core.map.lastPass = some t ∧
      s'.core.disc.holds = s'.core.ruleHolds ∧ s'.core.reg (Reg.RULE_TRIPS r) = satAdd32 (s.core.reg (Reg.RULE_TRIPS r)) 1)) ∧
  (∀ (lvl : Fin 4) (r : Fin 1024) (s : State), s.core.takes lvl (Reg.RULE_RESET r) = true → (s.core.rule r).st = 3 →
      (s.core.rule r).reset = false →
      Answers (.ruleReset lvl r) s (fun s' => (s'.core.rule r).st = 3 ∧ (s'.core.rule r).reset = true ∧
      s'.core.wroteOk (Reg.RULE_RESET r) = true)) ∧
  (∀ (s : State), s.core.up = true → s.core.map.runs = [] →
      Answers .mapLoadWindowEnd s (fun s' => s'.core.reg Reg.MAP_LOAD = s.core.map.ops ∧ s'.core.map.ops = 0 ∧
      s'.core.reg Reg.MAP_LOAD_PEAK = max s.core.map.ops (s.core.reg Reg.MAP_LOAD_PEAK)))

/-- READ, WRITE and WRITE_POSTED act on the local map and are answered; short items are dropped; answers and timeouts end
accesses (R430, R432, R433). a READ of a bank of DMA is answered with its bytes; a WRITE stores its bytes and is answered
WRITE_DONE; a posted write stores its bytes and is not answered; an item shorter than the head is discarded and counted;
READ_DATA ends the read it answers; WRITE_DONE ends the write; ERROR ends the access with its status and a window fault; an
access without an answer ends with TIMEOUT. -/
def Obligations.FabricServesItsRequests : Prop :=
  (∀ (f : Frame) (s : State), s.core.up = true → 16 ≤ f.payload.length → fabFormOk f = true → fabOp f = Op.READ →
      s.core.semHeld none (s.core.homeAddr * 2 ^ 48 + fieldAt f.payload 4 6) (fieldAt f.payload 10 2) = false →
      fieldAt f.payload 4 6 % 65536 + fieldAt f.payload 10 2 ≤ 65536 → s.core.reg (Reg.BANK_OWNER (fieldAt f.payload 4 6 /
      65536)) = 2 → fieldAt f.payload 4 6 / 65536 < 64 → bit (s.core.cfg Reg.STAGE_SET) (fieldAt f.payload 4 6 / 65536) =
      false → f.check = f.transitCrc → s.core.wordsClean s.mem (fieldAt f.payload 4 6) (fieldAt f.payload 10 2) = true →
      s.core.mayOriginate f = true → s.core.standby = false → segOf f.src = s.core.segmentOn 0 → isMcast f.src = false →
      f.src ≠ s.core.homeAddr → f.kind = 0 → f.cls = 7 → s.core.ring.lone = false → s.core.joined 0 = true →
      s.core.fwd.seqs = [] →
      Answers (.fabricRead f) s (fun s' => (∃ e ∈ s'.core.sw.seeking, e.inp = 13 ∧ e.frame.dst = f.src ∧
      e.frame.stream = f.stream ∧ e.frame.payload = fabHead Op.READ_DATA Fab.OK (fieldAt f.payload 2 2) (fieldAt f.payload 4
      6) (fieldAt f.payload 10 2) ++ s.core.bankRead s.mem (fieldAt f.payload 4 6) (fieldAt f.payload 10 2)) ∧
      s'.mem = s.mem)) ∧
  (∀ (f : Frame) (clash : Option Nat) (s : State), s.core.up = true → 16 ≤ f.payload.length → fabFormOk f = true →
      fabOp f = Op.WRITE → s.core.semHeld none (s.core.homeAddr * 2 ^ 48 + fieldAt f.payload 4 6) (fieldAt f.payload 10 2) =
      false → fieldAt f.payload 4 6 % 65536 + fieldAt f.payload 10 2 ≤ 65536 →
      s.core.reg (Reg.BANK_OWNER (fieldAt f.payload 4 6 / 65536)) = 2 → fieldAt f.payload 4 6 / 65536 < 64 →
      bit (s.core.cfg Reg.STAGE_SET) (fieldAt f.payload 4 6 / 65536) = false → f.check = f.transitCrc → clash = none →
      s.core.mapTableWrite s.mem (fieldAt f.payload 4 6) (f.payload.drop 16) Fab.ADDRESS Fab.ACCESS = none →
      s.core.mayOriginate f = true → s.core.standby = false → segOf f.src = s.core.segmentOn 0 → isMcast f.src = false →
      f.src ≠ s.core.homeAddr → f.kind = 0 → f.cls = 7 → s.core.ring.lone = false → s.core.joined 0 = true →
      s.core.fwd.seqs = [] →
      Answers (.fabricWrite f clash) s (fun s' => (∃ e ∈ s'.core.sw.seeking, e.inp = 13 ∧ e.frame.dst = f.src ∧
      e.frame.stream = f.stream ∧ e.frame.payload = fabHead Op.WRITE_DONE Fab.OK (fieldAt f.payload 2 2) (fieldAt f.payload 4
      6) (fieldAt f.payload 10 2) ++ []) ∧ s.core.fetch s'.mem (fieldAt f.payload 4 6) (fieldAt f.payload 10 2) =
      f.payload.drop 16)) ∧
  (∀ (f : Frame) (clash : Option Nat) (s : State), s.core.up = true → 16 ≤ f.payload.length → fabFormOk f = true →
      fabOp f = Op.WRITE_POSTED → s.core.semHeld none (s.core.homeAddr * 2 ^ 48 + fieldAt f.payload 4 6) (fieldAt f.payload 10
      2) = false → fieldAt f.payload 4 6 % 65536 + fieldAt f.payload 10 2 ≤ 65536 →
      s.core.reg (Reg.BANK_OWNER (fieldAt f.payload 4 6 / 65536)) = 2 → fieldAt f.payload 4 6 / 65536 < 64 →
      bit (s.core.cfg Reg.STAGE_SET) (fieldAt f.payload 4 6 / 65536) = false → f.check = f.transitCrc → clash = none →
      s.core.mapTableWrite s.mem (fieldAt f.payload 4 6) (f.payload.drop 16) Fab.ADDRESS Fab.ACCESS = none →
      Answers (.writePosted f clash) s (fun s' => s.core.fetch s'.mem (fieldAt f.payload 4 6) (fieldAt f.payload 10 2) =
      f.payload.drop 16 ∧ s'.core.sw.seeking = s.core.sw.seeking)) ∧
  (∀ (f : Frame) (s : State), s.core.up = true → f.payload.length < 16 →
      Answers (.c7RuntDiscard f) s (fun s' => s'.core.reg (Reg.CNT_FAB_FORMAT) = satAdd32 (s.core.reg (Reg.CNT_FAB_FORMAT)) 1
      ∧ s'.core.sw.seeking = s.core.sw.seeking)) ∧
  (∀ (f : DataAnswer) (a : FabAccess) (w : Nat) (s : State), s.core.up = true → 16 ≤ f.frame.payload.length →
      f.frame.check = f.frame.transitCrc → s.core.reg Reg.LHP_STATE = 0 → s.core.lhp.cycle = none → s.core.fab.hostDone = [] →
      s.core.accessOf (fieldAt f.frame.payload 2 2) = some a → s.core.now < a.deadline → a.owner = .window w false →
      a.dict = false → s.core.fab.accesses = [a] → fabOp f.frame = Op.READ_DATA → a.write = false → a.want = none →
      a.owner ≠ .opener →
      Answers (.readData f) s (fun s' => s'.core.fab.accesses = [] ∧ s'.core.reg Reg.FAB_TAGS_USED = 0 ∧
      s'.core.fab.heather = some (Fab.OK, padTo a.count (f.frame.payload.drop 16)))) ∧
  (∀ (f : Frame) (a : FabAccess) (w : Nat) (s : State), s.core.up = true → 16 ≤ f.payload.length → f.check = f.transitCrc →
      s.core.reg Reg.LHP_STATE = 0 → s.core.lhp.cycle = none → s.core.fab.hostDone = [] →
      s.core.accessOf (fieldAt f.payload 2 2) = some a → s.core.now < a.deadline → a.owner = .window w false →
      a.dict = false → s.core.fab.accesses = [a] → fabOp f = Op.WRITE_DONE → a.write = true → a.want = none →
      Answers (.writeDone f) s (fun s' => s'.core.fab.accesses = [] ∧ s'.core.reg Reg.FAB_TAGS_USED = 0 ∧
      s'.core.fab.heather = some (Fab.OK, []))) ∧
  (∀ (f : Frame) (a : FabAccess) (w : Nat) (e : Nat) (s : State), s.core.up = true → 16 ≤ f.payload.length →
      f.check = f.transitCrc → s.core.reg Reg.LHP_STATE = 0 → s.core.lhp.cycle = none → s.core.fab.hostDone = [] →
      s.core.accessOf (fieldAt f.payload 2 2) = some a → s.core.now < a.deadline → a.owner = .window w false →
      a.dict = false → s.core.fab.accesses = [a] → fabOp f = Op.ERROR → a.want = none → fieldAt f.payload 1 1 = e → e ≠ 0 →
      Answers (.fabricErrorRx f) s (fun s' => s'.core.fab.accesses = [] ∧ s'.core.fab.heather = some (e, []) ∧
      s'.core.reg (Reg.WIN_CNT_WIN_FAULT w) = satAdd32 (s.core.reg (Reg.WIN_CNT_WIN_FAULT w)) 1 ∧
      s'.core.reg Reg.FF_STATUS = e)) ∧
  (∀ (a : FabAccess) (w : Nat) (s : State), s.core.up = true → s.core.fab.accesses = [a] → a.owner = .window w false →
      a.tag.isSome = true → a.want = none → s.core.lhp.cycle = none → s.core.fab.hostDone = [] → s.core.tickOpen = true →
      Answers .fabTimeoutExpiry s (fun s' => s'.core.fab.accesses = [] ∧ s'.core.fab.heather = some (Fab.TIMEOUT, []) ∧
      s'.core.reg (Reg.CNT_FAB_TIMEOUT) = satAdd32 (s.core.reg (Reg.CNT_FAB_TIMEOUT)) 1 ∧
      s'.core.reg (Reg.WIN_CNT_WIN_FAULT w) = satAdd32 (s.core.reg (Reg.WIN_CNT_WIN_FAULT w)) 1))

/-- A window translates an access; its settings are checked; OPEN goes out and its answer,
like that of an object-space access, comes back (R435, R437, R439, R443,
R445). a read through a window onto a bank of this node answers its bytes; one that no window matches is refused and
counted; settings that stand together are taken; a token written opens a request to FO_NODE; its answer sets FO_STATUS and
FO_SESSION; a DICT_RSP ends the access into object space. That a register row acts at once,
as a request at the head of the engine's queue, is the model's reading (log entry 4). -/
def Obligations.WindowsReachTheFabric : Prop :=
  (∀ (a : BitVec 32) (write : Bool) (n : Fin 1009) (bs : PortWrite) (w : Nat) (x : Nat) (s : State), s.core.firmware = true →
      s.core.heatherBarred a.toNat n = false → write = false → s.core.winMatches a.toNat = [w] →
      s.core.reg (Reg.WIN_CTRL w) % 256 = 0x19 → a.toNat + n ≤ s.core.reg (Reg.WIN_BASE w) + s.core.winSize w → 0 < n.val →
      x = s.core.reg (Reg.WIN_TARGET w) + (a.toNat - s.core.reg (Reg.WIN_BASE w)) → x / 2 ^ 48 = s.core.homeAddr →
      isMcast s.core.homeAddr = false → x % 2 ^ 48 % 65536 + n ≤ 65536 →
      s.core.reg (Reg.BANK_OWNER (x % 2 ^ 48 / 65536)) = 2 → x % 2 ^ 48 / 65536 < 64 →
      bit (s.core.cfg Reg.STAGE_SET) (x % 2 ^ 48 / 65536) = false → s.core.wordsClean s.mem (x % 2 ^ 48) n = true →
      Answers (.windowAccess a write n bs) s (fun s' => s'.core.fab.heather = some (Fab.OK,
      s.core.bankRead s.mem (x % 2 ^ 48) n) ∧ s'.core.reg (Reg.WIN_CNT_WIN_ACC w) = satAdd32 (s.core.reg (Reg.WIN_CNT_WIN_ACC
      w)) 1)) ∧
  (∀ (a : BitVec 32) (write : Bool) (n : Fin 1009) (bs : PortWrite) (s : State), s.core.firmware = true →
      s.core.heatherBarred a.toNat n = false → write = false → s.core.winMatches a.toNat = [] →
      Answers (.windowAccess a write n bs) s (fun s' => s'.core.fab.heather = some (Fab.REFUSED, []) ∧
      s'.core.reg (Reg.CNT_WIN_MISS) = satAdd32 (s.core.reg (Reg.CNT_WIN_MISS)) 1 ∧ s'.mem = s.mem)) ∧
  (∀ (lvl : Fin 4) (w : Fin 256) (v : BitVec 32) (s : State), s.core.takes lvl (Reg.WIN_CTRL w) = true → v.toNat < 2 ^ 18 →
      winSettingsOk (s.core.reg (Reg.WIN_BASE w)) (s.core.reg (Reg.WIN_TARGET w)) v.toNat = true → bit v.toNat 7 = false →
      Answers (.winCtrlWrite lvl w v) s (fun s' => s'.core.reg (Reg.WIN_CTRL w) = v.toNat ∧
      bit (s'.core.reg (Reg.WIN_FLAGS w)) 0 = false ∧ s'.core.wroteOk (Reg.WIN_CTRL w) = true)) ∧
  (∀ (lvl : Fin 4) (data : Bytes) (s : State), s.core.takes lvl (Reg.FO_TOKEN) = true → data.length = 8 →
      Answers (.foTokenWrite lvl data) s (fun s' => s'.core.reg Reg.FO_STATUS = 0xFF ∧ (∃ a ∈ s'.core.fab.accesses,
      a.owner = .opener ∧ a.node = s.core.reg Reg.FO_NODE ∧ a.count = s.core.reg Reg.FO_LEVEL ∧ a.data = data) ∧
      s'.core.wroteOk (Reg.FO_TOKEN) = true)) ∧
  (∀ (f : Frame) (a : FabAccess) (s : State), s.core.up = true → f.kind = 5 → 16 ≤ f.payload.length →
      s.core.accessOfTxn (fieldAt f.payload 0 2) = some a → s.core.now < a.deadline → a.owner = .opener →
      s.core.reg Reg.INJ_LEFT = 0 → f.check = f.transitCrc → s.core.fab.accesses = [a] →
      Answers (.fabOpenAnswer f) s (fun s' => s'.core.reg Reg.FO_STATUS = fieldAt f.payload 7 1 ∧ (fieldAt f.payload 7 1 = 0 →
      s'.core.reg Reg.FO_SESSION = fieldAt f.payload 3 1) ∧ s'.core.fab.accesses = [])) ∧
  (∀ (f : Frame) (a : FabAccess) (w : Nat) (s : State), s.core.up = true → f.kind = 5 → 16 ≤ f.payload.length →
      s.core.accessOfTxn (fieldAt f.payload 0 2) = some a → s.core.now < a.deadline → a.owner = .window w false →
      a.dict = true → a.want = none → s.core.reg Reg.INJ_LEFT = 0 → f.check = f.transitCrc → s.core.fab.accesses = [a] →
      fieldAt f.payload 7 1 = 0 → s.core.lhp.cycle = none → s.core.fab.hostDone = [] → s.core.reg Reg.LHP_STATE = 0 →
      Answers (.dictRspRx f) s (fun s' => s'.core.fab.heather = some (Fab.OK, (slotAnswer a f.payload).2) ∧
      s'.core.fab.accesses = []))

/-- Movers take, preempt and end descriptors, and MV_CMD enables, disables, resumes, skips and aborts (R446, R448, R450,
R453, R454). Q_TAIL below Q_SIZE is taken; a descriptor that is not valid ends ABORTED with cause 4; a valid one runs,
and its first read leaves; a higher queue with a descriptor preempts the one under way once nothing is outstanding; a
descriptor whose DONE equals LENGTH ends DONE; ENABLE takes a DISABLED mover to IDLE; DISABLE takes an IDLE mover to
DISABLED; RESUME of a suspended mover reads on from DONE; SKIP ends the suspended descriptor and advances Q_HEAD; ABORT of a
running mover with nothing outstanding ends its descriptor ABORTED. That a register row acts at once,
as a request at the head of the engine's queue, is the model's reading (log entry 4). -/
def Obligations.MoversRunTheirQueues : Prop :=
  (∀ (lvl : Fin 4) (k : Fin 16) (q : Fin 4) (v : Fin 65536) (s : State), s.core.takes lvl (Reg.Q_TAIL k q) = true →
      v.val < s.core.reg (Reg.Q_SIZE k q) → s.core.reg (Reg.MV_MODE k) ≠ 2 →
      Answers (.qTailWrite lvl k q v) s (fun s' => s'.core.reg (Reg.Q_TAIL k q) = v.val ∧
      s'.core.wroteOk (Reg.Q_TAIL k q) = true ∧ s'.mem = s.mem)) ∧
  (∀ (k : MoverStart) (q : Fin 4) (x : Mover) (s : State), s.core.up = true → s.core.reg (Reg.MV_MODE k.mover) = 1 →
      s.core.isolatedKind .mover k.mover = false → s.core.queued k.mover q ≠ 0 → (∀ p < q.val, s.core.queued k.mover p = 0) →
      s.core.ringOk (s.core.reg (Reg.Q_BASE k.mover q)) (s.core.reg (Reg.Q_SIZE k.mover q)) = true →
      x = s.core.readDesc s.mem (s.core.headDesc k.mover q) q → s.core.reg Reg.INJ_LEFT = 0 →
      s.core.wordsClean s.mem (s.core.headDesc k.mover q) 64 = true → Core.descValid s.mem s.core (s.core.headDesc k.mover q)
      x = false →
      Answers (.mvDescStart k) s (fun s' => s'.core.reg (Reg.MV_MODE k.mover) = 1 ∧ s'.core.reg (Reg.MV_CAUSE k.mover) = 4 ∧
      s'.core.reg (Reg.Q_HEAD k.mover q) = (s.core.reg (Reg.Q_HEAD k.mover q) + 1) % s.core.reg (Reg.Q_SIZE k.mover q) ∧
      s.core.fetchNum s'.mem (s.core.headDesc k.mover q + 40) 2 = 0x406 ∧
      s'.core.reg (Reg.MV_CNT_MV_DESC k.mover) = satAdd32 (s.core.reg (Reg.MV_CNT_MV_DESC k.mover)) 1)) ∧
  (∀ (k : MoverStart) (q : Fin 4) (d0 : Nat) (x : Mover) (s : State), s.core.up = true → s.core.reg (Reg.MV_MODE k.mover) = 1 →
      s.core.isolatedKind .mover k.mover = false → s.core.queued k.mover q ≠ 0 → (∀ p < q.val, s.core.queued k.mover p = 0) →
      s.core.ringOk (s.core.reg (Reg.Q_BASE k.mover q)) (s.core.reg (Reg.Q_SIZE k.mover q)) = true →
      d0 = s.core.headDesc k.mover q → x = s.core.readDesc s.mem d0 q → s.core.reg Reg.INJ_LEFT = 0 →
      s.core.wordsClean s.mem d0 64 = true → Core.descValid s.mem s.core d0 x = true → s.mem.field (d0 + 40) 1 = 0 →
      x.src / 2 ^ 48 ≠ s.core.homeAddr → isMcast (x.src / 2 ^ 48) = false → x.burst = 0 → bits x.ctrl 3 2 = 0 → x.len = 64 →
      x.src % 4096 = 0 → x.dst % 4096 = 0 → readEffect (x.src % 2 ^ 48) 64 = false → s.core.freeTag.isSome = true →
      s.core.mvWaits (x.src, 64) = false →
      Answers (.mvDescStart k) s (fun s' => s'.core.reg (Reg.MV_MODE k.mover) = 2 ∧
      s'.core.reg (Reg.MV_CLASS k.mover) = q.val ∧ s'.core.reg (Reg.MV_DESC k.mover) = s.core.homeAddr * 2 ^ 48 + d0 ∧
      s.core.fetchNum s'.mem (d0 + 40) 1 = 1 ∧ s'.core.reg (Reg.Q_HEAD k.mover q) = s.core.reg (Reg.Q_HEAD k.mover q) ∧
      (∃ a ∈ s'.core.fab.accesses, a.owner = .mover k.mover ∧ a.write = false ∧ a.node = x.src / 2 ^ 48 ∧
      a.off = x.src % 2 ^ 48 ∧ a.count = 64))) ∧
  (∀ (k : Fin 16) (x : Mover) (p : Nat) (s : State), s.core.reg (Reg.MV_MODE k) = 2 → x = s.core.mover k → x.stop = 0 →
      x.fail = none → x.reads = [] → x.pieces = [] → x.writing = none → x.done < x.len → p < x.cls → s.core.queued k p ≠ 0 →
      s.core.mvWaits x.nextRead = false →
      Answers (.mvPreempt k) s (fun s' => s'.core.reg (Reg.MV_MODE k) = 1 ∧
      s'.core.reg (Reg.MV_CNT_MV_PREEMPT k) = satAdd32 (s.core.reg (Reg.MV_CNT_MV_PREEMPT k)) 1 ∧
      s.core.fetchNum s'.mem (x.desc + 40) 1 = 2 ∧ s.core.fetchNum s'.mem (x.desc + 32) 4 = x.done % 2 ^ 32 ∧
      s'.core.reg (Reg.Q_HEAD k x.cls) = s.core.reg (Reg.Q_HEAD k x.cls))) ∧
  (∀ (k : Fin 16) (x : Mover) (s : State), s.core.reg (Reg.MV_MODE k) = 2 → x = s.core.mover k → x.done = x.len →
      x.len < 2 ^ 32 →
      Answers (.mvDescEnd k) s (fun s' => s'.core.reg (Reg.MV_MODE k) = 1 ∧
      s'.core.reg (Reg.Q_HEAD k x.cls) = (s.core.reg (Reg.Q_HEAD k x.cls) + 1) % s.core.reg (Reg.Q_SIZE k x.cls) ∧
      s'.core.reg (Reg.MV_CNT_MV_DESC k) = satAdd32 (s.core.reg (Reg.MV_CNT_MV_DESC k)) 1 ∧
      s.core.fetchNum s'.mem (x.desc + 40) 1 = 4 ∧ s.core.fetchNum s'.mem (x.desc + 32) 4 = x.len)) ∧
  (∀ (lvl : Fin 4) (k : Fin 16) (s : State), s.core.takes lvl (Reg.MV_CMD k) = true → s.core.reg (Reg.MV_MODE k) = 0 →
      s.core.isolatedKind .mover k = false →
      Answers (.mvEnable lvl k) s (fun s' => s'.core.reg (Reg.MV_MODE k) = 1 ∧ s'.core.wroteOk (Reg.MV_CMD k) = true)) ∧
  (∀ (lvl : Fin 4) (k : Fin 16) (s : State), s.core.takes lvl (Reg.MV_CMD k) = true → s.core.reg (Reg.MV_MODE k) = 1 →
      Answers (.mvDisable lvl k) s (fun s' => s'.core.reg (Reg.MV_MODE k) = 0 ∧ s'.core.wroteOk (Reg.MV_CMD k) = true)) ∧
  (∀ (lvl : Fin 4) (k : Fin 16) (x : Mover) (s : State), s.core.takes lvl (Reg.MV_CMD k) = true →
      s.core.reg (Reg.MV_MODE k) = 3 → x = s.core.mover k → s.core.fetchNum s.mem (x.desc + 40) 1 = 3 →
      x.src / 2 ^ 48 ≠ s.core.homeAddr → isMcast (x.src / 2 ^ 48) = false → inObjectSpace (x.src % 2 ^ 48) = false →
      x.fail = none → x.stop = 0 → x.reads = [] → x.pieces = [] → x.writing = none → x.done = 0 → x.len = 64 →
      bits x.ctrl 3 2 = 0 → x.src % 4096 = 0 → x.dst % 4096 = 0 → x.burst = 0 → readEffect (x.src % 2 ^ 48) 64 = false →
      s.core.freeTag.isSome = true → s.core.mvWaits (x.src, 64) = false →
      Answers (.mvResume lvl k) s (fun s' => s'.core.reg (Reg.MV_MODE k) = 2 ∧ s.core.fetchNum s'.mem (x.desc + 40) 1 = 1 ∧
      (∃ a ∈ s'.core.fab.accesses, a.owner = .mover k ∧ a.off = x.src % 2 ^ 48) ∧ s'.core.wroteOk (Reg.MV_CMD k) = true)) ∧
  (∀ (lvl : Fin 4) (k : Fin 16) (x : Mover) (s : State), s.core.takes lvl (Reg.MV_CMD k) = true →
      s.core.reg (Reg.MV_MODE k) = 3 → x = s.core.mover k →
      Answers (.mvSkip lvl k) s (fun s' => s'.core.reg (Reg.MV_MODE k) = 1 ∧
      s'.core.reg (Reg.Q_HEAD k x.cls) = (s.core.reg (Reg.Q_HEAD k x.cls) + 1) % s.core.reg (Reg.Q_SIZE k x.cls) ∧
      s'.core.reg (Reg.MV_CNT_MV_DESC k) = satAdd32 (s.core.reg (Reg.MV_CNT_MV_DESC k)) 1 ∧
      s'.core.wroteOk (Reg.MV_CMD k) = true)) ∧
  (∀ (lvl : Fin 4) (k : Fin 16) (x : Mover) (s : State), s.core.takes lvl (Reg.MV_CMD k) = true →
      s.core.reg (Reg.MV_MODE k) = 2 → x = s.core.mover k → x.fail = none → x.reads = [] → x.pieces = [] → x.writing = none →
      x.done ≠ x.len → s.core.mvWaits x.nextRead = false →
      Answers (.mvAbort lvl k) s (fun s' => s'.core.reg (Reg.MV_MODE k) = 1 ∧
      s'.core.reg (Reg.Q_HEAD k x.cls) = (s.core.reg (Reg.Q_HEAD k x.cls) + 1) % s.core.reg (Reg.Q_SIZE k x.cls) ∧
      s.core.fetchNum s'.mem (x.desc + 40) 1 = 6 ∧ s'.core.wroteOk (Reg.MV_CMD k) = true))

/-- A handover begins, completes or is refused; the sweep copies a bank in, tests it aliased,
copies it back or abandons it (R457, R458, R462, R625, R626). a request hands over a bank of the host window; the old owner
keeps it meanwhile; within its 2 µs the new owner has the bank; else the old owner keeps it; the lane borrows its next bank;
after the copy the bank is tested through the alias; a copy that lasts 1 ms is abandoned and its bank tried once more; a
test that finds no fault is counted as passed; the copy back ends the borrow. That a register row acts at once,
as a request at the head of the engine's queue, is the model's reading (log entry 4). -/
def Obligations.BanksAreHandedOverAndBorrowed : Prop :=
  (∀ (lvl : Fin 4) (b : Fin 64) (v : Fin 256) (s : State), s.core.takes lvl (Reg.BANK_OWNER b) = true → (v.val = 0 ∨ v.val = 2 ∨
      v.val = 5) → s.core.reg (Reg.BANK_OWNER b) = 5 → bit (s.core.cfg Reg.STAGE_SET) b = false →
      (List.range 2).all (fun n => s.core.swapFor n != some b.val) = true →
      s.core.fab.handovers.all (fun h => h.bank != b) = true →
      Answers (.bankOwnerWrite lvl b v) s (fun s' => s'.core.reg (Reg.BANK_OWNER b) = 5 ∧
      bit (s'.core.reg (Reg.BANK_STATE b)) 0 = true ∧ (∃ h ∈ s'.core.fab.handovers, h.bank = b ∧ h.owner = v))) ∧
  (∀ (h : Handover) (s : State), s.core.fab.handovers = [h] → s.core.now ≤ h.deadline →
      (s.core.reg (Reg.BANK_OWNER h.bank) = 5 ∨ s.core.reg (Reg.BANK_OWNER h.bank) = 2) → h.owner ≠ 0 → h.req = none →
      Answers .handoverComplete s (fun s' => s'.core.reg (Reg.BANK_OWNER h.bank) = h.owner ∧
      s'.core.reg (Reg.CNT_HANDOVER) = satAdd32 (s.core.reg (Reg.CNT_HANDOVER)) 1 ∧ s'.core.fab.handovers = [])) ∧
  (∀ (h : Handover) (s : State), s.core.fab.handovers = [h] → h.req = none →
      Answers .handoverRefused s (fun s' => s'.core.reg (Reg.BANK_OWNER h.bank) = s.core.reg (Reg.BANK_OWNER h.bank) ∧
      s'.core.reg (Reg.CNT_HANDOVER_REFUSED) = satAdd32 (s.core.reg (Reg.CNT_HANDOVER_REFUSED)) 1 ∧
      s'.core.fab.handovers = [])) ∧
  (∀ (lane : Fin 2) (b : Nat) (rest : List (Nat × Bool)) (s : State), s.core.sweepRuns = true → s.core.test.sweeping = true →
      (s.core.stLane lane).phase = .idle → (s.core.stLane lane).todo = (b, false) :: rest → s.core.canBorrow lane b = true →
      Answers (.stSweepStep lane) s (fun s' => (s'.core.stLane lane).phase = .copyIn ∧ (s'.core.stLane lane).bank = b ∧
      s'.core.reg (Reg.SWAP_FOR lane) = b ∧ s'.core.reg (Reg.SWAP_PHASE lane) = 1)) ∧
  (∀ (lane : Fin 2) (s : State), (s.core.stLane lane).phase = .copyIn → s.core.reg (Reg.SWAP_PHASE lane) = 1 →
      s.core.tickOpen = true →
      Answers (.copyInDone lane) s (fun s' => s'.core.reg (Reg.SWAP_PHASE lane) = 2 ∧
      s'.core.reg (Reg.SWAP_FOR lane) = s.core.reg (Reg.SWAP_FOR lane) ∧ (s'.core.stLane lane).phase = .test)) ∧
  (∀ (lane : Fin 2) (b : Nat) (rest : List (Nat × Bool)) (s : State), (s.core.stLane lane).phase = .copyIn →
      s.core.reg Reg.RUN_STATE = 0 → (s.core.stLane lane).todo = (b, false) :: rest →
      Answers (.copyInAbandon lane) s (fun s' => s'.core.reg (Reg.SWAP_FOR lane) = 0xFF ∧
      s'.core.reg (Reg.SWAP_PHASE lane) = 0 ∧ s'.core.reg (Reg.CNT_SWAP_ABANDON lane) = satAdd32 (s.core.reg
      (Reg.CNT_SWAP_ABANDON lane)) 1 ∧ (s'.core.stLane lane).todo = rest ++ [(b, true)] ∧
      (s'.core.stLane lane).phase = .idle)) ∧
  (∀ (lane : Fin 2) (failWord : BitVec 16) (sig : BitVec 32) (s : State), (s.core.stLane lane).phase = .test →
      failWord.toNat = 0xFFFF →
      Answers (.aliasedTestDone lane failWord sig) s (fun s' => s'.core.reg (Reg.SWAP_PHASE lane) = 3 ∧
      (s'.core.stLane lane).phase = .copyBack ∧ (s'.core.blob (Reg.ST_LANE lane)).length = 16 ∧
      s'.core.reg (Reg.CNT_ST_PASS) = satAdd32 (s.core.reg (Reg.CNT_ST_PASS)) 1)) ∧
  (∀ (lane : Fin 2) (s : State), (s.core.stLane lane).phase = .copyBack → s.core.reg Reg.RUN_STATE = 0 →
      Answers (.copyBackDone lane) s (fun s' => s'.core.reg (Reg.SWAP_FOR lane) = 0xFF ∧
      s'.core.reg (Reg.SWAP_PHASE lane) = 0 ∧ (s'.core.stLane lane).phase = .idle ∧
      (s'.core.stLane lane).todo = (s.core.stLane lane).todo.tail))

/-- Host cycles read and write the host window banks, fail where no range matches,
are retried against a pending bus request, and kept accesses expire (R472, R475, R477, R478, R481, R490, R491,
R495). a read cycle through a range of KIND 2 drives the bytes of the bank; one that matches no range is a host error with
status ADDRESS; a write cycle through a range of KIND 2 writes its bytes into the bank; without an LHP_BCLK edge LHP_STATE
reads 1; its return ends that; a read that waits over the ring against LHP_BREQ_N is retried,
and kept; a kept access that nothing joins is discarded and counted. That the end of an interval moves the clock to its
instant is the model's (log entry 3). -/
def Obligations.HostCyclesReachTheHostBanks : Prop :=
  (∀ (a : BitVec 32) (n : Nat) (r : Nat) (off : Nat) (s : State), s.core.hostOn = true → s.core.lhp.clock = true →
      s.core.lhp.cycle = none → s.core.lhp.lock = none → s.core.lhp.kept = [] → s.core.fab.hostDone = [] →
      a.toNat % 256 + n ≤ 256 → a.toNat % 2 = 0 → 0 < n → s.core.hostRange a.toNat = some r →
      bits (s.core.reg (Reg.HR_CTRL r)) 1 0 = 2 → s.core.hostOff (a.toNat - s.core.reg (Reg.HR_BASE r)) = some off →
      s.core.handing off = false → off % 65536 + n ≤ 65536 → s.core.reg Reg.INJ_LEFT = 0 →
      s.core.wordsClean s.mem off n = true → s.core.fab.accesses = [] →
      Answers (.hostReadCycle a n) s (fun s' => s'.core.lhp.last = some
      { addr := a.toNat, write := false, data := s.core.fetch s.mem off n, retry := false } ∧ s'.core.lhp.cycle = none ∧
      s'.core.reg (Reg.CNT_HOST_RD) = satAdd32 (s.core.reg (Reg.CNT_HOST_RD)) 1 ∧ s'.mem = s.mem)) ∧
  (∀ (a : BitVec 32) (n : Nat) (s : State), s.core.hostOn = true → s.core.lhp.clock = true → s.core.lhp.cycle = none →
      s.core.lhp.lock = none → s.core.lhp.kept = [] → s.core.fab.hostDone = [] → 0 < n → s.core.hostRange a.toNat = none →
      s.core.tickOpen = true →
      Answers (.hostReadCycle a n) s (fun s' => s'.core.reg Reg.LHP_ERR_PENDING = 1 ∧ s'.core.reg Reg.HE_ADDR = a.toNat ∧
      s'.core.reg Reg.HE_DIR = 0 ∧ s'.core.reg Reg.HE_STATUS = Fab.ADDRESS ∧
      s'.core.reg (Reg.CNT_HOST_MISS) = satAdd32 (s.core.reg (Reg.CNT_HOST_MISS)) 1 ∧
      s'.core.reg (Reg.CNT_HOST_ERR) = satAdd32 (s.core.reg (Reg.CNT_HOST_ERR)) 1 ∧ s'.mem = s.mem)) ∧
  (∀ (a : BitVec 32) (bs : PortWrite) (r : Nat) (off : Nat) (s : State), s.core.hostOn = true → s.core.lhp.clock = true →
      s.core.lhp.cycle = none → s.core.lhp.lock = none → s.core.lhp.kept = [] → s.core.fab.hostDone = [] →
      a.toNat % 256 + bs.bytes.length ≤ 256 → a.toNat % 2 = 0 → 0 < bs.bytes.length → s.core.hostRange a.toNat = some r →
      bits (s.core.reg (Reg.HR_CTRL r)) 1 0 = 2 → s.core.hostOff (a.toNat - s.core.reg (Reg.HR_BASE r)) = some off →
      s.core.handing off = false → off % 65536 + bs.bytes.length ≤ 65536 → s.core.reg Reg.INJ_LEFT = 0 →
      Answers (.hostWriteCycle a bs) s (fun s' => s.core.fetch s'.mem off bs.bytes.length = bs.bytes ∧
      s'.core.lhp.last = some { addr := a.toNat, write := true, data := bs.bytes, retry := false } ∧
      s'.core.reg (Reg.CNT_HOST_WR) = satAdd32 (s.core.reg (Reg.CNT_HOST_WR)) 1)) ∧
  (∀ (s : State), s.core.hostOn = true →
      Answers .lhpNoClock s (fun s' => s'.core.lhp.clock = false ∧ s'.core.reg Reg.LHP_STATE = 1)) ∧
  (∀ (khz : Fin 66001) (s : State), s.core.hostOn = true → s.core.lhp.cycle = none →
      Answers (.lhpBclkReturn khz) s (fun s' => s'.core.lhp.clock = true ∧ s'.core.reg Reg.LHP_STATE = 2 ∧
      s'.core.reg Reg.LHP_BCLK_KHZ = khz)) ∧
  (∀ (x : HostCycle) (id : Nat) (t : Nat) (s : State), s.core.hostOn = true → s.core.lhp.cycle = some x →
      x.wait = .access id true → x.write = false → s.core.lhp.breqSince = some t → s.core.lhp.kept = [] →
      s.core.now ≤ max t x.since + 2000 →
      Answers .hostRetryDeadlock s (fun s' => s'.core.lhp.cycle = none ∧
      s'.core.lhp.last = some { addr := x.addr, write := false, data := [0xFF, 0xFF], retry := true } ∧
      s'.core.reg (Reg.CNT_RETRY) = satAdd32 (s.core.reg (Reg.CNT_RETRY)) 1 ∧
      s'.core.lhp.kept = [{ cycle := x, ends := s'.core.now + 1000 * s.core.reg Reg.LHP_REISSUE }])) ∧
  (∀ (y : Kept) (s : State), s.core.lhp.kept = [y] → y.cycle.effect = false →
      Answers .reissueExpiry s (fun s' => s'.core.lhp.kept = [] ∧ s'.core.reg (Reg.CNT_REISSUE_LOST) = satAdd32 (s.core.reg
      (Reg.CNT_REISSUE_LOST)) 1))

/-- Locked sequences begin, end and break; host transfer descriptors move data and are reissued; side-band balls reach their
lines (R483, R485, R486, R487, R489, R493). a locked sequence begins, with LHP_LOCK_MAX to run; its end frees every
semaphore; a broken sequence frees them at once and is counted; XQ_TAIL below XQ_SIZE is taken; the last device cycle of a
descriptor to the bank stores the bytes and ends it DONE; a reissue that is retried again waits 1 µs more; a side-band edge
reaches its line. That the end of an interval moves the clock to its instant is the model's (log entry 3). That a register
row acts at once, as a request at the head of the engine's queue, is the model's reading (log entry 4). -/
def Obligations.LocksDescriptorsAndWires : Prop :=
  (∀ (s : State), s.core.hostOn = true → s.core.lhp.clock = true → s.core.lhp.lock = none → s.core.lhp.cycle = none →
      Answers .lockSequenceBegin s (fun s' => s'.core.lhp.lock = some
      { ends := s.core.now + 1000 * s.core.reg Reg.LHP_LOCK_MAX } ∧ s'.core.reg (Reg.CNT_LOCK) = satAdd32 (s.core.reg
      (Reg.CNT_LOCK)) 1)) ∧
  (∀ (l : HostLock) (s : State), s.core.lhp.lock = some l → s.core.lhp.cycle = none → s.core.fab.retried = [] →
      (List.range 16).all (fun k => (s.core.mover k).barred.isEmpty) = true →
      Answers .lockSequenceEnd s (fun s' => s'.core.lhp.lock = none ∧ s'.core.reg Reg.LHP_SEM_HELD = 0)) ∧
  (∀ (l : HostLock) (s : State), s.core.lhp.lock = some l → l.broken = false → s.core.lhp.cycle = none →
      s.core.fab.retried = [] → (List.range 16).all (fun k => (s.core.mover k).barred.isEmpty) = true →
      s.core.tickOpen = true →
      Answers .lockBroken s (fun s' => s'.core.lhp.lock = some { l with broken := true } ∧ s'.core.reg Reg.LHP_SEM_HELD = 0 ∧
      s'.core.reg (Reg.CNT_LOCK_BROKEN) = satAdd32 (s.core.reg (Reg.CNT_LOCK_BROKEN)) 1)) ∧
  (∀ (lvl : Fin 4) (v : Fin 65536) (s : State), s.core.takes lvl (Reg.XQ_TAIL) = true → v.val < s.core.cfg Reg.XQ_SIZE →
      s.core.hostOn = false →
      Answers (.xqTailWrite lvl v) s (fun s' => s'.core.reg Reg.XQ_TAIL = v.val ∧ s'.core.wroteOk (Reg.XQ_TAIL) = true ∧
      s'.mem = s.mem)) ∧
  (∀ (done : Option (Fin 129)) (bus : BusCycle) (x : Xfer) (off : Nat) (s : State), s.core.breq = true →
      s.core.lhp.cycle = none → s.core.lhp.xfer = some x → x.again = none → x.pos = 0 → x.host % 256 = 0 → x.len ≤ 256 →
      0 < x.len → bit x.ctrl 0 = true → bit x.ctrl 1 = false → s.core.hostOff x.loc = some off → s.core.handing off = false →
      off % 65536 + x.len ≤ 65536 → done = none → bus.bytes.length = x.len → bus.withdrawn = false → x.desc + 12 ≤ off →
      (s.core.reg Reg.XQ_HEAD + 1) % s.core.cfg Reg.XQ_SIZE = s.core.reg Reg.XQ_TAIL →
      Answers (.deviceMasterCycle done bus) s (fun s' => s.core.fetch s'.mem off x.len = bus.bytes ∧
      s.core.fetchNum s'.mem (x.desc + 11) 1 = 2 ∧ s'.core.reg Reg.XQ_HEAD = s.core.reg Reg.XQ_TAIL ∧
      s'.core.reg (Reg.CNT_XFER) = satAdd32 (s.core.reg (Reg.CNT_XFER)) 1 ∧ s'.core.lhp.xfer = none)) ∧
  (∀ (done : Option (Fin 129)) (bus : BusCycle) (x : Xfer) (off : Nat) (t : Nat) (s : State), s.core.breq = true →
      s.core.lhp.cycle = none → s.core.lhp.xfer = some x → x.again = some t → x.tries < 7 → done = some 0 → x.pos < x.len →
      bit x.ctrl 0 = true → s.core.hostOff (x.loc + x.pos) = some off → s.core.handing off = false → t ≤ s.core.now →
      Answers (.deviceRetryReissue done bus) s (fun s' => s'.core.lhp.xfer = some
      { x with tries := x.tries + 1, again := some (s.core.now + 1000) } ∧ s'.mem = s.mem)) ∧
  (∀ (k : Fin 4) (level : Bool) (s : State),
      Answers (.sidebandEdge k level) s (fun s' => bit (s'.core.reg Reg.LHP_SB_STATE) k = level ∧
      bit s'.core.eventLines k = level ∧ (∀ j : Fin 4, j ≠ k → bit (s'.core.reg Reg.LHP_SB_STATE) j = bit s.core.fc.lines j)))

/-- Heartbeat, STATUS, signs, broken wires, resends, a lost link and a silent peer,
and what a STATUS or a wait without one does to a forming unit (R499, R500, R501, R502, R503,
R511). HB_OUT_P is inverted every HB_PERIOD / 2; a STATUS with the unit's state goes out on lane 0; a sign on the wires
renews the silence timer; equal heartbeat inputs break the wires; a lane resends what is not acknowledged; without a good
record the link is no longer live; a STATUS is a sign and is kept; rank 0 takes the token when both units form; without a
STATUS the unit is ACTIVE alone; at silence the witness settle of 30 µs begins. That the end of an interval moves the clock
to its instant is the model's (log entry 3). -/
def Obligations.LifeSignsAndStatusAreExchanged : Prop :=
  (∀ (s : State), s.core.up = true → s.core.cfg Reg.TW_ENABLE = 1 →
      Answers .heartbeatToggle s (fun s' => s'.core.twin.hb = some (! s.core.twin.hb.getD false) ∧
      s'.core.twin.hbAt = s'.core.now + 500 * s.core.cfg Reg.HB_PERIOD)) ∧
  (∀ (s : State), s.core.twOn = true → (s.core.lane 0).queue = [] → (s.core.lane 0).unacked.length < 16 →
      Answers .statusSend s (fun s' => (s'.core.lane 0).unacked.any
      (fun r => match r.body with | .status x => x.st == s.core.reg Reg.TW_STATE && x.rank == s.core.reg Reg.TW_RANK && x.token == s.core.flag Reg.TW_TOKEN && x.period == s.core.cfg Reg.HB_PERIOD && x.epoch == s.core.reg Reg.EPOCH_COMMITTED && x.jseq == s.core.reg Reg.JSEQ_LAST | _ => false)
      = true ∧ s'.core.twin.statusAt = s'.core.now + 1000 * s.core.cfg Reg.HB_PERIOD)) ∧
  (∀ (s : State), s.core.up = true → s.core.cfg Reg.TW_ENABLE = 1 → bit (s.core.reg Reg.TW_PATHS) 3 = false →
      (s.core.reg Reg.TW_PEER_ADDR ≠ 0xFFFF ∨ s.core.twin.heard = true) →
      Answers .heartbeatSign s (fun s' => s'.core.twin.lastSign = s.core.now ∧ s'.core.twin.lastWire = some s.core.now ∧
      s'.core.twin.wireSigns = min 2 (s.core.twin.wireSigns + 1))) ∧
  (∀ (s : State), s.core.up = true → s.core.cfg Reg.TW_ENABLE = 1 → bit (s.core.reg Reg.TW_PATHS) 3 = false →
      s.core.tickOpen = true →
      Answers .hbWireBroken s (fun s' => bit (s'.core.reg Reg.TW_PATHS) 3 = true ∧
      s'.core.reg (Reg.CNT_HB_WIRE) = satAdd32 (s.core.reg (Reg.CNT_HB_WIRE)) 1 ∧ s'.core.twin.wireSigns = 0)) ∧
  (∀ (l : Fin 4) (t : Nat) (s : State), s.core.twLine = true → (s.core.lane l).deadline = some t →
      Answers (.twLinkRetx l) s (fun s' => s'.core.reg Reg.CNT_LINK_RETX = satAdd32 (s.core.reg Reg.CNT_LINK_RETX)
      (s.core.lane l).unacked.length ∧ (s'.core.lane l).deadline = some (s'.core.now + 10000) ∧
      (s'.core.lane l).unacked.map (fun r => r.body) = (s.core.lane l).unacked.map (fun r => r.body))) ∧
  (∀ (s : State), s.core.twOn = true → s.core.linkLive = true → s.core.tickOpen = true → s.core.reg Reg.SWITCH_STATE = 0 →
      s.core.twin.strobeT = none →
      Answers .twLinkDown s (fun s' => bit (s'.core.reg Reg.TW_PATHS) 1 = false ∧
      s'.core.reg (Reg.CNT_LINK_DOWN) = satAdd32 (s.core.reg (Reg.CNT_LINK_DOWN)) 1 ∧ s'.core.twin.waiting = [])) ∧
  (∀ (seq : Fin 65536) (ack : Fin 65536) (h : TwHead) (r : TwStatus) (s : State), s.core.twLine = true →
      h.good seq ack (.status r) = true → s.core.twin.granting = [] → ((s.core.lane 0).fresh = true ∨
      seq = ((s.core.lane 0).rxSeq + 1) % 65536) → s.core.twin.joinEnd = none → r.st = 2 →
      r.period = s.core.cfg Reg.HB_PERIOD →
      Answers (.twStatus seq ack h r) s (fun s' => s'.core.twin.peer = some r ∧ s'.core.twin.lastSign = s'.core.now ∧
      bit (s'.core.reg Reg.TW_PATHS) 6 = false ∧ s'.core.linkLive = true)) ∧
  (∀ (seq : Fin 65536) (ack : Fin 65536) (h : TwHead) (r : TwStatus) (s : State), s.core.twLine = true →
      h.good seq ack (.status r) = true → s.core.twin.granting = [] → ((s.core.lane 0).fresh = true ∨
      seq = ((s.core.lane 0).rxSeq + 1) % 65536) → s.core.twin.joinEnd.isSome = true → r.st = 2 →
      r.rank ≠ s.core.reg Reg.TW_RANK → s.core.twin.rank = 0 → s.core.tickOpen = true →
      Answers (.twStatus seq ack h r) s (fun s' => s'.core.reg Reg.TW_TOKEN = 1 ∧ s'.core.reg Reg.TW_STATE = 1 ∧
      s'.core.twin.joinEnd = none)) ∧
  (∀ (t : Nat) (s : State), s.core.twOn = true → s.core.twin.joinEnd = some t → s.core.reg Reg.TW_PEER_ADDR = 0xFFFF →
      Answers .joinWaitExpiry s (fun s' => s'.core.reg Reg.TW_TOKEN = 1 ∧ s'.core.reg Reg.TW_STATE = 1 ∧
      s'.core.reg Reg.TW_PEER_ADDR = 0xFFFF)) ∧
  (∀ (s : State), s.core.twOn = true → (s.core.reg Reg.TW_PEER_ADDR ≠ 0xFFFF ∨ s.core.twin.heard = true) →
      s.core.twin.settleEnd = none → (s.core.reg Reg.TW_STATE = 1 ∨ s.core.reg Reg.TW_STATE = 2) →
      s.core.reg Reg.SWITCH_STATE = 0 → s.core.twin.strobeT = none →
      Answers .peerSilence s (fun s' => s'.core.twin.settleEnd = some (s'.core.now + 30000) ∧
      s'.core.twin.witnessBad = ! s.core.witnessOk))

/-- MARK, CHUNK, COMMIT and JOURNAL at the standby; the start and end of a snapshot at the holder (R525, R526,
R527). a MARK starts a pending epoch and discards an older one; a CHUNK of the epoch is written into the pending shadow; a
COMMIT that passes makes the pending shadow the committed one; one with another chunk count discards it; a JOURNAL record is
kept until the standby installs; the holder starts an epoch every SNAP_PERIOD; TW_CMD 2 starts an epoch at once; a sent
snapshot lets a waiting switchover send its OFFER. That the end of an interval moves the clock to its instant is the model's
(log entry 3). That a register row acts at once, as a request at the head of the engine's queue,
is the model's reading (log entry 4). -/
def Obligations.SnapshotsAndJournalAreKept : Prop :=
  (∀ (seq : Fin 65536) (ack : Fin 65536) (h : TwHead) (e : Nat) (t : Nat) (j : Nat) (s : State), s.core.twLine = true →
      h.good seq ack (.mark e t j) = true → s.core.twin.granting = [] → ((s.core.lane 0).fresh = true ∨
      seq = ((s.core.lane 0).rxSeq + 1) % 65536) → s.core.standby = true →
      Answers (.twMark seq ack h e t j) s (fun s' => s'.core.twin.pend = some { epoch := e, j := j } ∧
      s'.core.reg Reg.EPOCH_PENDING = e ∧ s'.core.twin.comm = s.core.twin.comm ∧
      s'.core.reg Reg.CNT_SNAP_DISCARD = satAdd32 (s.core.reg Reg.CNT_SNAP_DISCARD) (if s.core.twin.pend.isSome then 1 else
      0))) ∧
  (∀ (seq : Fin 65536) (ack : Fin 65536) (h : TwHead) (e : Nat) (k : Nat) (data : Bytes) (p : Shadow) (s : State),
      s.core.twLine = true → h.good seq ack (.chunk e k data) = true → s.core.twin.granting = [] →
      ((s.core.lane 0).fresh = true ∨ seq = ((s.core.lane 0).rxSeq + 1) % 65536) → s.core.standby = true →
      s.core.twin.pend = some p → p.epoch = e → k < 4 → data.length = 4096 →
      Answers (.twChunk seq ack h e k data) s (fun s' => s'.core.twin.pend = some
      { p with chunks := mapSet [] k data p.chunks } ∧ s'.core.twin.comm = s.core.twin.comm)) ∧
  (∀ (seq : Fin 65536) (ack : Fin 65536) (h : TwHead) (e : Nat) (n : Nat) (crc : Nat) (p : Shadow) (s : State),
      s.core.twLine = true → h.good seq ack (.commit e n crc) = true → s.core.twin.granting = [] →
      ((s.core.lane 0).fresh = true ∨ seq = ((s.core.lane 0).rxSeq + 1) % 65536) → s.core.standby = true →
      s.core.twin.pend = some p → p.epoch = e → n = 4 → p.chunks.length = 4 → crc32c p.image = crc →
      Answers (.twCommit seq ack h e n crc) s (fun s' => s'.core.twin.comm = some p ∧ s'.core.twin.pend = none ∧
      s'.core.reg Reg.EPOCH_COMMITTED = e ∧ s'.core.reg Reg.EPOCH_PENDING = 0 ∧ s'.core.twin.gap = false ∧
      s'.core.twin.journal = s.core.twin.journal.filter (fun x => jseqAhead x.jseq p.j) ∧
      s'.core.reg (Reg.CNT_SNAP_COMMIT) = satAdd32 (s.core.reg (Reg.CNT_SNAP_COMMIT)) 1)) ∧
  (∀ (seq : Fin 65536) (ack : Fin 65536) (h : TwHead) (e : Nat) (n : Nat) (crc : Nat) (s : State), s.core.twLine = true →
      h.good seq ack (.commit e n crc) = true → s.core.twin.granting = [] → ((s.core.lane 0).fresh = true ∨
      seq = ((s.core.lane 0).rxSeq + 1) % 65536) → s.core.standby = true → s.core.twin.pend.isSome = true → n ≠ 4 →
      Answers (.twCommit seq ack h e n crc) s (fun s' => s'.core.twin.pend = none ∧ s'.core.twin.comm = s.core.twin.comm ∧
      s'.core.reg Reg.EPOCH_COMMITTED = s.core.reg Reg.EPOCH_COMMITTED ∧
      s'.core.reg (Reg.CNT_SNAP_DISCARD) = satAdd32 (s.core.reg (Reg.CNT_SNAP_DISCARD)) 1)) ∧
  (∀ (l : Fin 3) (seq : Fin 65536) (ack : Fin 65536) (h : TwHead) (r : JournalRec) (s : State), s.core.twLine = true →
      h.good seq ack (.journal r.jseq r.inst r.frame) = true → s.core.twin.granting = [] →
      ((s.core.lane (l + 1)).fresh = true ∨ seq = ((s.core.lane (l + 1)).rxSeq + 1) % 65536) → s.core.standby = true →
      s.core.twin.applying = false → s.core.twin.comm = none → s.core.twin.journal = [] → r.frame.payload.length ≤ 1012 →
      Answers (.twJournal l seq ack h r) s (fun s' => s'.core.twin.journal = [r] ∧
      s'.core.reg Reg.JOURNAL_USED = 40 + r.frame.payload.length ∧ s'.mem = s.mem)) ∧
  (∀ (t : Nat) (s : State), s.core.twOn = true → s.core.holder = true → s.core.twin.snapNext = some t →
      Answers .snapshotStart s (fun s' => s'.core.reg Reg.EPOCH_PENDING = (s.core.reg Reg.EPOCH_COMMITTED + 1) % 2 ^ 32 ∧
      s'.core.twin.snapNext = some (s'.core.now + 1000000 * s.core.reg Reg.SNAP_PERIOD) ∧
      s'.core.twin.snapTick.isSome = true ∧ s'.core.twin.snapJ = s.core.reg Reg.JSEQ_LAST)) ∧
  (∀ (lvl : Fin 4) (s : State), s.core.takes lvl (Reg.TW_CMD) = true → s.core.twOn = true → s.core.holder = true →
      Answers (.twCmdSnapshot lvl) s (fun s' => s'.core.reg Reg.EPOCH_PENDING = (s.core.reg Reg.EPOCH_COMMITTED + 1) % 2 ^ 32
      ∧ s'.core.twin.snapTick.isSome = true ∧ s'.core.wroteOk (Reg.TW_CMD) = true)) ∧
  (∀ (s : State), s.core.twOn = true → s.core.twin.shot.isSome = true → (s.core.lane 0).queue = [] →
      (s.core.lane 0).unacked.length < 16 → s.core.reg Reg.SWITCH_STATE = 1 →
      Answers .snapshotSent s (fun s' => s'.core.twin.shot = none ∧ s'.core.reg Reg.EPOCH_PENDING = 0 ∧
      s'.core.reg Reg.SWITCH_STATE = 2 ∧ (s'.core.lane 0).unacked.any
      (fun r => match r.body with | .switch k _ _ x => k == 1 && x == s.core.twin.cause | _ => false) = true))

/-- OFFER, ACCEPT, IMAGE, strobe T, the pass of the token, RELEASED and ABORT of a planned switchover (R513, R514, R515,
R516, R517). TW_CMD 1 starts a switchover with a snapshot; without a live link it is refused,
counted and recorded; a ready standby installs and answers ACCEPT with the first tick at least 20 µs away; one that is not
refuses the offer; the holder learns T; at strobe T the holder starts nothing new and sends IMAGE; and the standby drives as
well; the standby keeps the image it received; two images for one strobe that differ end the switchover; at strobe T + 2 the
standby has the token; and the holder has passed it and holds each instance with something under way; an instance with
nothing under way is released; 2 s after strobe T every instance still held is released; the new holder drives an instance
from its RELEASED; an ABORT ends the switchover and the standby releases its outputs; 20 µs after its safe entry the holder
has released its outputs. That the end of an interval moves the clock to its instant is the model's (log entry 3). That a
register row acts at once, as a request at the head of the engine's queue, is the model's reading (log entry 4). -/
def Obligations.PairSwitchesOverByOffer : Prop :=
  (∀ (lvl : Fin 4) (s : State), s.core.takes lvl (Reg.TW_CMD) = true → s.core.twOn = true → s.core.holder = true →
      s.core.linkLive = true → s.core.peerReady = true → bit (s.core.reg Reg.TW_PATHS) 5 = false →
      bit (s.core.reg Reg.TW_PATHS) 6 = false → s.core.twin.releaseEnd = none → s.core.reg Reg.SWITCH_STATE = 0 →
      s.core.twin.strobeT = none →
      Answers (.twCmdOffer lvl) s (fun s' => s'.core.reg Reg.SWITCH_STATE = 1 ∧ s'.core.twin.cause = 1 ∧
      s'.core.reg Reg.EPOCH_PENDING = (s.core.reg Reg.EPOCH_COMMITTED + 1) % 2 ^ 32 ∧ s'.core.reg Reg.TW_TOKEN = 1 ∧
      s'.core.wroteOk (Reg.TW_CMD) = true)) ∧
  (∀ (lvl : Fin 4) (s : State), s.core.takes lvl (Reg.TW_CMD) = true → s.core.twOn = true → s.core.reg Reg.TW_STATE = 1 →
      s.core.linkLive = false → s.core.twin.releaseEnd = none → s.core.reg Reg.SWITCH_STATE = 0 → s.core.twin.strobeT = none →
      Answers (.twCmdOffer lvl) s (fun s' => s'.core.reg Reg.SWITCH_STATE = 0 ∧ s'.core.reg Reg.LS_RESULT = 1 ∧
      s'.core.reg Reg.LS_CAUSE = 1 ∧ s'.core.reg (Reg.CNT_SWITCH_FAIL) = satAdd32 (s.core.reg (Reg.CNT_SWITCH_FAIL)) 1 ∧
      s'.core.dict.answer.any (fun a => a.status == 0x11) = true)) ∧
  (∀ (seq : Fin 65536) (ack : Fin 65536) (h : TwHead) (cause : Fin 8) (s : State), s.core.twLine = true →
      h.good seq ack (.switch 1 h.tick 0 cause) = true → s.core.twin.granting = [] → ((s.core.lane 0).fresh = true ∨
      seq = ((s.core.lane 0).rxSeq + 1) % 65536) → s.core.standby = true → s.core.offerBarred = false →
      s.core.twin.journal = [] → s.core.twin.comm = none → (s.core.lane 0).queue = [] → (s.core.lane 0).unacked.length < 16 →
      Answers (.twOffer seq ack h cause) s (fun s' => s'.core.twin.strobeT = some (((s.core.sysNs + 20000 + s.core.period - 1)
      / s.core.period) % tickMod) ∧ s'.core.twin.applying = true ∧ s'.core.twin.cause = cause ∧ s'.mem = s.mem ∧
      (s'.core.lane 0).unacked.any
      (fun r => match r.body with | .switch k t _ _ => k == 2 && some t == s'.core.twin.strobeT | _ => false) = true)) ∧
  (∀ (seq : Fin 65536) (ack : Fin 65536) (h : TwHead) (cause : Fin 8) (s : State), s.core.twLine = true →
      h.good seq ack (.switch 1 h.tick 0 cause) = true → s.core.twin.granting = [] → ((s.core.lane 0).fresh = true ∨
      seq = ((s.core.lane 0).rxSeq + 1) % 65536) → s.core.standby = true → s.core.offerBarred = true →
      (s.core.lane 0).queue = [] → (s.core.lane 0).unacked.length < 16 →
      Answers (.twOffer seq ack h cause) s (fun s' => s'.core.twin.strobeT = s.core.twin.strobeT ∧
      s'.core.twin.applying = s.core.twin.applying ∧ s'.mem = s.mem ∧ (s'.core.lane 0).unacked.any
      (fun r => match r.body with | .switch k _ _ _ => k == 4 | _ => false) = true)) ∧
  (∀ (seq : Fin 65536) (ack : Fin 65536) (h : TwHead) (t : Nat) (s : State), s.core.twLine = true →
      h.good seq ack (.switch 2 t 0 0) = true → s.core.twin.granting = [] → ((s.core.lane 0).fresh = true ∨
      seq = ((s.core.lane 0).rxSeq + 1) % 65536) → s.core.holder = true → s.core.reg Reg.SWITCH_STATE = 2 →
      Answers (.twAccept seq ack h t) s (fun s' => s'.core.twin.strobeT = some t)) ∧
  (∀ (t : Nat) (s : State), s.core.twOn = true → s.core.twin.strobeT = some t → s.core.reg Reg.SWITCH_STATE = 2 →
      s.core.holder = true → s.core.twin.sent = [] → s.core.twin.got = [] → (s.core.lane 0).queue = [] →
      (s.core.lane 0).unacked.length < 16 →
      Answers .switchStrobeT s (fun s' => s'.core.reg Reg.SWITCH_STATE = 3 ∧ s'.core.twin.quiet = true ∧
      s'.core.twin.sent.map (fun i => i.tick) = [t] ∧ (s'.core.lane 0).unacked.any
      (fun r => match r.body with | .image i => i.tick == t | _ => false) = true)) ∧
  (∀ (t : Nat) (s : State), s.core.twOn = true → s.core.twin.strobeT = some t → s.core.reg Reg.SWITCH_STATE = 0 →
      s.core.standby = true → s.core.twin.sent = [] → s.core.twin.got = [] →
      Answers .switchStrobeT s (fun s' => s'.core.reg Reg.SWITCH_STATE = 3 ∧ s'.core.disc.mute = false ∧
      s'.core.twin.sent.map (fun i => i.tick) = [t])) ∧
  (∀ (seq : Fin 65536) (ack : Fin 65536) (h : TwHead) (img : OutImage) (s : State), s.core.twLine = true →
      h.good seq ack (.image img) = true → s.core.twin.granting = [] → ((s.core.lane 0).fresh = true ∨
      seq = ((s.core.lane 0).rxSeq + 1) % 65536) → s.core.standby = true → s.core.twin.sent = [] →
      Answers (.twImage seq ack h img) s (fun s' => s'.core.twin.agreed = some img ∧
      s'.core.twin.got = s.core.twin.got ++ [img] ∧ s'.core.reg Reg.CNT_IMAGE_DIFF = s.core.reg Reg.CNT_IMAGE_DIFF)) ∧
  (∀ (seq : Fin 65536) (ack : Fin 65536) (h : TwHead) (img : OutImage) (i : OutImage) (s : State), s.core.twLine = true →
      h.good seq ack (.image img) = true → s.core.twin.granting = [] → ((s.core.lane 0).fresh = true ∨
      seq = ((s.core.lane 0).rxSeq + 1) % 65536) → s.core.twin.sent = [i] → i.tick = img.tick → i ≠ img →
      s.core.reg Reg.SWITCH_STATE = 3 →
      Answers (.twImage seq ack h img) s (fun s' => s'.core.twin.strobeT = none ∧ s'.core.reg Reg.SWITCH_STATE = 0 ∧
      s'.core.reg (Reg.CNT_IMAGE_DIFF) = satAdd32 (s.core.reg (Reg.CNT_IMAGE_DIFF)) 1 ∧
      s'.core.reg (Reg.CNT_SWITCH_FAIL) = satAdd32 (s.core.reg (Reg.CNT_SWITCH_FAIL)) 1 ∧
      s'.core.reg Reg.TW_TOKEN = s.core.reg Reg.TW_TOKEN)) ∧
  (∀ (t : Nat) (s : State), s.core.twOn = true → s.core.twin.strobeT = some t → s.core.reg Reg.SWITCH_STATE = 3 →
      s.core.standby = true →
      Answers .tokenPass s (fun s' => s'.core.reg Reg.TW_TOKEN = 1 ∧ s'.core.reg Reg.TW_STATE = 1 ∧
      s'.core.reg Reg.SWITCH_STATE = 0 ∧ s'.core.reg (Reg.CNT_SWITCH) = satAdd32 (s.core.reg (Reg.CNT_SWITCH)) 1 ∧
      s'.core.twin.awaiting = twInstances)) ∧
  (∀ (t : Nat) (s : State), s.core.twOn = true → s.core.twin.strobeT = some t → s.core.reg Reg.SWITCH_STATE = 3 →
      s.core.holder = true →
      Answers .tokenPass s (fun s' => s'.core.reg Reg.TW_TOKEN = 0 ∧ s'.core.reg Reg.TW_STATE = 2 ∧
      s'.core.reg Reg.SWITCH_STATE = 0 ∧ s'.core.reg (Reg.CNT_SWITCH) = satAdd32 (s.core.reg (Reg.CNT_SWITCH)) 1 ∧
      s'.core.twin.held = twInstances.filter (fun x => s.core.underWay x.1 x.2 || (x.1 == 2 && Nat.blt s'.core.now (s.core.can
      x.2).idleAt)) ∧ s'.core.disc.mute = true)) ∧
  (∀ (kind : Fin 3) (n : Fin 128) (s : State), s.core.twin.held.contains (kind.val + 1, n.val) = true →
      s.core.underWay (kind.val + 1) n = false → s.core.up = true → s.core.inPair = true → (s.core.lane 0).queue = [] →
      (s.core.lane 0).unacked.length < 16 →
      Answers (.instanceRelease kind n) s (fun s' => s'.core.twin.held = s.core.twin.held.filter (fun x => !(x == (kind.val +
      1, n.val))) ∧ (s'.core.lane 0).unacked.any
      (fun r => match r.body with | .switch k _ a b => k == 3 && a == kind.val + 1 && b == n.val | _ => false) = true)) ∧
  (∀ (t : Nat) (s : State), s.core.twin.releaseEnd = some t →
      Answers .instanceReleaseTimeout s (fun s' => s'.core.twin.held = [])) ∧
  (∀ (seq : Fin 65536) (ack : Fin 65536) (h : TwHead) (t : Nat) (kind : Fin 4) (inst : Fin 128) (s : State),
      s.core.twLine = true → h.good seq ack (.switch 3 t kind inst) = true → s.core.twin.granting = [] →
      ((s.core.lane 0).fresh = true ∨ seq = ((s.core.lane 0).rxSeq + 1) % 65536) → kind ≠ 0 →
      Answers (.twReleased seq ack h t kind inst) s (fun s' => s'.core.twin.awaiting = s.core.twin.awaiting.filter (fun x =>
      !(x == (kind.val, inst.val))) ∧ s'.core.reg Reg.TW_TOKEN = s.core.reg Reg.TW_TOKEN)) ∧
  (∀ (seq : Fin 65536) (ack : Fin 65536) (h : TwHead) (s : State), s.core.twLine = true →
      h.good seq ack (.switch 4 h.tick 0 0) = true → s.core.twin.granting = [] → ((s.core.lane 0).fresh = true ∨
      seq = ((s.core.lane 0).rxSeq + 1) % 65536) → s.core.twin.strobeT.isSome = true →
      Answers (.twAbort seq ack h) s (fun s' => s'.core.twin.strobeT = none ∧ s'.core.reg Reg.SWITCH_STATE = 0 ∧
      s'.core.reg (Reg.CNT_SWITCH_FAIL) = satAdd32 (s.core.reg (Reg.CNT_SWITCH_FAIL)) 1 ∧
      s'.core.reg Reg.TW_TOKEN = s.core.reg Reg.TW_TOKEN ∧ s'.core.disc.mute = s.core.standby)) ∧
  (∀ (t : Nat) (s : State), s.core.twOn = true → s.core.twin.safeAt = some t → s.core.tickOpen = true →
      Answers .safeTokenRelease s (fun s' => s'.core.reg Reg.TW_TOKEN = 0 ∧ s'.core.twin.safeAt = none ∧
      s'.core.disc.mute = true))

/-- GRANT, NUMBER and SENT keep two units in step; PAIR_WAIT ends; the witness decides between a contest and a takeover
(R503, R509, R510, R518, R519, R521, R527). a held item with the number of its GRANT is handed off; one with another number
is discarded and the count set; the holder answers a NUMBER request from the pair's count; an answer numbers the frame that
waits for it; SENT of a scheduled entry drops the standby's copy; an item without a GRANT within PAIR_WAIT is discarded; a
healthy witness leads to CONTESTED with frozen outputs; a holder whose peer is lost runs alone; a standby whose peer is lost
takes over; rank 0 leaves the contest with the token; rank 1 releases every output and stands by. That the end of an
interval moves the clock to its instant is the model's (log entry 3). -/
def Obligations.PairNumbersContestsAndTakesOver : Prop :=
  (∀ (l : Fin 3) (seq : Fin 65536) (ack : Fin 65536) (h : TwHead) (g : TwGrant) (x : HeldOut) (s : State),
      s.core.twLine = true → h.good seq ack (.grant g) = true → s.core.twin.granting = [] →
      ((s.core.lane (l + 1)).fresh = true ∨ seq = ((s.core.lane (l + 1)).rxSeq + 1) % 65536) → s.core.standby = true →
      g.key ≠ 0xFFFF → g.cls ≠ 4 → s.core.twin.grants = [] → s.core.twin.hold = [x] → x.over s.core.now = false →
      g.names x.frame x.occ = true → x.frame.seq = g.seq →
      Answers (.twGrant l seq ack h g) s (fun s' => s'.core.twin.hold = [] ∧
      s'.core.reg (Reg.CNT_PAIR_MATCH) = satAdd32 (s.core.reg (Reg.CNT_PAIR_MATCH)) 1 ∧ s'.mem = s.mem)) ∧
  (∀ (l : Fin 3) (seq : Fin 65536) (ack : Fin 65536) (h : TwHead) (g : TwGrant) (x : HeldOut) (s : State),
      s.core.twLine = true → h.good seq ack (.grant g) = true → s.core.twin.granting = [] →
      ((s.core.lane (l + 1)).fresh = true ∨ seq = ((s.core.lane (l + 1)).rxSeq + 1) % 65536) → s.core.standby = true →
      g.key ≠ 0xFFFF → g.cls ≠ 4 → s.core.twin.grants = [] → s.core.twin.hold = [x] → x.over s.core.now = false →
      g.names x.frame x.occ = true → x.frame.seq ≠ g.seq →
      Answers (.twGrant l seq ack h g) s (fun s' => s'.core.twin.hold = [] ∧
      s'.core.reg (Reg.CNT_PAIR_MISMATCH) = satAdd32 (s.core.reg (Reg.CNT_PAIR_MISMATCH)) 1 ∧
      s.core.fetchNum s'.mem (s.core.routeBase + x.route * 32 + 22) 2 = (g.seq + 1) % 65536)) ∧
  (∀ (l : Fin 3) (seq : Fin 65536) (ack : Fin 65536) (h : TwHead) (answer : Bool) (id : Nat) (cls : Fin 8) (stream : Fin 65536)
      (num : Fin 65536) (s : State), s.core.twLine = true → h.good seq ack (.number answer id cls stream num) = true →
      s.core.twin.granting = [] → ((s.core.lane (l + 1)).fresh = true ∨ seq = ((s.core.lane (l + 1)).rxSeq + 1) % 65536) →
      s.core.holder = true → answer = false → s.core.fwd.seqs = [] → (s.core.lane (l + 1)).queue = [] →
      (s.core.lane (l + 1)).unacked.length < 16 →
      Answers (.twNumber l seq ack h answer id cls stream num) s (fun s' => (s'.core.lane (l + 1)).unacked.any
      (fun r => match r.body with | .number b i a z q => b && i == id && a == cls.val && z == stream.val && q == 0 | _ => false)
      = true)) ∧
  (∀ (l : Fin 3) (seq : Fin 65536) (ack : Fin 65536) (h : TwHead) (answer : Bool) (id : Nat) (cls : Fin 8) (stream : Fin 65536)
      (num : Fin 65536) (x : Nat × Nat × Frame) (s : State), s.core.twLine = true →
      h.good seq ack (.number answer id cls stream num) = true → s.core.twin.granting = [] →
      ((s.core.lane (l + 1)).fresh = true ∨ seq = ((s.core.lane (l + 1)).rxSeq + 1) % 65536) → answer = true →
      s.core.twin.waiting = [x] → x.1 = id →
      Answers (.twNumber l seq ack h answer id cls stream num) s (fun s' => s'.core.twin.waiting = [])) ∧
  (∀ (l : Fin 3) (seq : Fin 65536) (ack : Fin 65536) (h : TwHead) (j : Nat) (kind : Fin 5) (inst : Fin 128) (stream : Fin 65536)
      (num : Fin 65536) (s : State), s.core.twLine = true → h.good seq ack (.sent j kind inst stream num) = true →
      s.core.twin.granting = [] → ((s.core.lane (l + 1)).fresh = true ∨ seq = ((s.core.lane (l + 1)).rxSeq + 1) % 65536) →
      s.core.standby = true → kind = 4 →
      Answers (.twSent l seq ack h j kind inst stream num) s (fun s' => s'.core.sched.table = s.core.sched.table.filter (fun e
      => !(e.bank == inst.val && e.target % 65536 == stream.val)))) ∧
  (∀ (h : HeldOut) (s : State), s.core.twOn = true → s.core.linkLive = true → s.core.twin.hold = [h] →
      Answers .pairWaitExpiry s (fun s' => s'.core.twin.hold = [] ∧ s'.core.reg (Reg.CNT_PAIR_LATE) = satAdd32 (s.core.reg
      (Reg.CNT_PAIR_LATE)) 1)) ∧
  (∀ (t : Nat) (s : State), s.core.twOn = true → s.core.twin.settleEnd = some t → s.core.witnessOk = true →
      s.core.twin.witnessBad = false → s.core.tickOpen = true →
      Answers .witnessSettleEnd s (fun s' => s'.core.reg Reg.TW_STATE = 3 ∧
      s'.core.reg Reg.TW_TOKEN = s.core.reg Reg.TW_TOKEN ∧ s'.core.disc.frozen = true ∧
      s'.core.reg (Reg.CNT_CONTEST) = satAdd32 (s.core.reg (Reg.CNT_CONTEST)) 1 ∧
      s'.core.twin.holdEnd = some (s'.core.now + s'.core.twPeriod) ∧ s'.mem = s.mem)) ∧
  (∀ (t : Nat) (s : State), s.core.twOn = true → s.core.twin.settleEnd = some t → s.core.witnessOk = false →
      s.core.flag Reg.TW_TOKEN = true → s.core.tickOpen = true →
      Answers .witnessSettleEnd s (fun s' => s'.core.reg Reg.TW_STATE = 1 ∧ s'.core.reg Reg.TW_TOKEN = 1 ∧
      s'.core.reg Reg.TW_PEER_ADDR = 0xFFFF ∧ s'.mem = s.mem)) ∧
  (∀ (t : Nat) (s : State), s.core.twOn = true → s.core.twin.settleEnd = some t → s.core.witnessOk = false →
      s.core.flag Reg.TW_TOKEN = false → s.core.twin.journal = [] → s.core.twin.comm = none → s.core.twin.hold = [] →
      s.core.tickOpen = true →
      Answers .witnessSettleEnd s (fun s' => s'.core.reg Reg.TW_STATE = 1 ∧ s'.core.reg Reg.TW_TOKEN = 1 ∧
      s'.core.reg Reg.TW_PEER_ADDR = 0xFFFF ∧ s'.core.reg (Reg.CNT_TAKEOVER) = satAdd32 (s.core.reg (Reg.CNT_TAKEOVER)) 1 ∧
      s'.core.twin.driveAt.isSome = true)) ∧
  (∀ (t : Nat) (s : State), s.core.twOn = true → s.core.twin.holdEnd = some t → s.core.twin.rank = 0 →
      Answers .contestHoldEnd s (fun s' => s'.core.reg Reg.TW_STATE = 1 ∧ s'.core.reg Reg.TW_TOKEN = 1 ∧
      s'.core.twin.driveAt = some (s'.core.now + 40000) ∧ s'.core.twin.holdEnd = none)) ∧
  (∀ (t : Nat) (s : State), s.core.twOn = true → s.core.twin.holdEnd = some t → s.core.twin.rank ≠ 0 → s.core.witnessOk = true →
      Answers .contestHoldEnd s (fun s' => s'.core.reg Reg.TW_STATE = 2 ∧ s'.core.reg Reg.TW_TOKEN = 0 ∧
      s'.core.reg Reg.TW_READY = 0 ∧ s'.core.disc.mute = true ∧ s'.core.disc.frozen = false))

/-- Supplies, dip episodes, POWER_DEGRADED, VBAT, the backup domain and its log; a feed is blocked, turns on again,
is lost and returns (R531, R534, R535, R536, R538, R539, R540, R543, R559). an episode starts; its end records the minimum
and the duration; an episode of 20 ms declares POWER_DEGRADED; good VIN_MV for DEGRADED_CLEAR clears it; VDDA_MEAS sets its
flag alone; without VDDA_SD every ring port and the twin link are down; the first sense below 2.2 V sets the flag and writes
an entry; at a whole minute the counter is loaded; a brown-out clears the backup domain; VBAT alone brings BACKUP; PL_CLEAR
zeroes the log; reverse current blocks the feed; and it turns on again; a feed below FEED_MIN_MV is lost; and returns at
FEED_MIN_MV. That the end of an interval moves the clock to its instant is the model's (log entry 3). That a register row
acts at once, as a request at the head of the engine's queue, is the model's reading (log entry 4). -/
def Obligations.SuppliesFeedsDipsAndDegradation : Prop :=
  (∀ (mv : Fin 65536) (s : State), s.core.supervised = true → s.core.pwr.dip = none → s.core.tickOpen = true →
      Answers (.dipStart mv) s (fun s' => s'.core.pwr.dip = some { start := s.core.now, tick := s.core.tick, low := mv.val } ∧
      bit (s'.core.reg Reg.PWR_STATE) 0 = true ∧ s'.core.reg Reg.VIN_MV = mv.val)) ∧
  (∀ (mv : Fin 65536) (low : Fin 65536) (x : Dip) (d0 : Nat) (s : State), s.core.supervised = true → s.core.pwr.dip = some x →
      x.low < 65536 → d0 = max s.core.now (x.start + 100000) →
      Answers (.dipEnd mv low) s (fun s' => s'.core.pwr.dip = none ∧ bit (s'.core.reg Reg.PWR_STATE) 0 = false ∧
      s'.core.reg Reg.LD_MIN_MV = min low.val x.low ∧ s'.core.reg Reg.LD_DURATION = (d0 - 100000 - x.start) / 1000 ∧
      s'.core.reg Reg.LD_TICK = x.tick ∧ s'.core.reg (Reg.CNT_DIP) = satAdd32 (s.core.reg (Reg.CNT_DIP)) 1)) ∧
  (∀ (x : Dip) (s : State), s.core.pwr.dip = some x → s.core.pwr.degSince = none → s.core.holder = false →
      s.core.tickOpen = true →
      Answers .powerDegraded s (fun s' => bit (s'.core.reg Reg.PWR_STATE) 1 = true ∧
      s'.core.pwr.degSince = some (max s.core.now (x.start + 20000000)) ∧
      s'.core.reg (Reg.CNT_DEGRADED) = satAdd32 (s.core.reg (Reg.CNT_DEGRADED)) 1 ∧
      s'.core.reg Reg.PL_NEXT = (s.core.reg Reg.PL_NEXT + 1) % 64)) ∧
  (∀ (mv : Fin 65536) (t : Nat) (s : State), s.core.pwr.degSince = some t → s.core.pwr.dip = none → 3100 ≤ mv.val →
      Answers (.degradedClear mv) s (fun s' => bit (s'.core.reg Reg.PWR_STATE) 1 = false ∧ s'.core.pwr.degSince = none ∧
      s'.core.reg Reg.VIN_MV = mv.val)) ∧
  (∀ (meas : Bool) (out : Bool) (s : State), s.core.supervised = true → meas = true →
      bit (s.core.reg Reg.SUPPLY_FLAGS) 1 ≠ out → bit (s.core.reg Reg.SUPPLY_FLAGS) 0 = false →
      Answers (.supplyRangeChange meas out) s (fun s' => bit (s'.core.reg Reg.SUPPLY_FLAGS) 1 = out ∧
      bit (s'.core.reg Reg.SUPPLY_FLAGS) 0 = false ∧ (∀ p : Fin 4, s'.core.reg (Reg.RP_STATE p) = s.core.reg (Reg.RP_STATE
      p)))) ∧
  (∀ (meas : Bool) (out : Bool) (s : State), s.core.supervised = true → meas = false →
      bit (s.core.reg Reg.SUPPLY_FLAGS) 0 = false → out = true →
      Answers (.supplyRangeChange meas out) s (fun s' => bit (s'.core.reg Reg.SUPPLY_FLAGS) 0 = true ∧ (∀ p : Fin 4,
      s'.core.reg (Reg.RP_STATE p) ≤ 2) ∧ (s.core.twOn = true → s'.core.linkLive = false))) ∧
  (∀ (mv : Fin 65536) (s : State), s.core.supervised = true → mv.val < 2200 → bit (s.core.reg Reg.SUPPLY_FLAGS) 3 = false →
      s.core.tickOpen = true →
      Answers (.vbatSense mv) s (fun s' => bit (s'.core.reg Reg.SUPPLY_FLAGS) 3 = true ∧ s'.core.reg Reg.BK_VBAT_MV = mv.val ∧
      s'.core.reg Reg.PL_NEXT = (s.core.reg Reg.PL_NEXT + 1) % 64)) ∧
  (∀ (s : State), s.core.supervised = true → s.core.flag Reg.TIME_VALID = true →
      Answers .rtcLoad s (fun s' => s'.core.reg Reg.BK_VALID = 1 ∧ s'.core.pwr.rtc = s'.core.sysNs ∧
      s'.core.pwr.rtcAt = s'.core.now)) ∧
  (∀ (s : State),
      Answers .backupBrownOut s (fun s' => s'.core.blob Reg.PL_LOG = zeros 2048 ∧ s'.core.reg Reg.PL_NEXT = 0 ∧
      s'.core.reg Reg.BK_VALID = 0 ∧ s'.core.reg Reg.BK_CNT_POWER_FAIL = 0 ∧ s'.core.pwr.rtc = 0 ∧
      (s.core.node.phase = .backup → s'.core.node.phase = .off))) ∧
  (∀ (s : State), s.core.node.phase = .off →
      Answers .vbatRise s (fun s' => s'.core.node.phase = .backup)) ∧
  (∀ (lvl : Fin 4) (s : State), s.core.takes lvl (Reg.PL_CLEAR) = true →
      Answers (.plClear lvl) s (fun s' => s'.core.blob Reg.PL_LOG = zeros 2048 ∧ s'.core.reg Reg.PL_NEXT = 0 ∧
      s'.core.wroteOk (Reg.PL_CLEAR) = true)) ∧
  (∀ (x : Fin 2) (code : Fin 4096) (s : State), s.core.supervised = true → s.core.reg (Reg.FEED_STATE x) = 2 →
      s.core.tickOpen = true →
      Answers (.feedReverse x code) s (fun s' => s'.core.reg (Reg.FEED_STATE x) = 3 ∧
      s'.core.reg (Reg.FEED_MV x) = code.val * s.core.cfg (Reg.FEED_SCALE x) / 4096 ∧
      s'.core.reg (Reg.CNT_FEED_REVERSE x) = satAdd32 (s.core.reg (Reg.CNT_FEED_REVERSE x)) 1)) ∧
  (∀ (x : Fin 2) (code : Fin 4096) (s : State), s.core.supervised = true → s.core.reg (Reg.FEED_STATE x) = 3 →
      Answers (.feedUnblock x code) s (fun s' => s'.core.reg (Reg.FEED_STATE x) = 2 ∧
      s'.core.reg (Reg.FEED_MV x) = code.val * s.core.cfg (Reg.FEED_SCALE x) / 4096)) ∧
  (∀ (x : Fin 2) (code : Fin 4096) (s : State), s.core.supervised = true → (s.core.reg (Reg.FEED_STATE x) = 2 ∨
      s.core.reg (Reg.FEED_STATE x) = 3) → code.val * s.core.cfg (Reg.FEED_SCALE x) / 4096 < s.core.reg (Reg.FEED_MIN_MV x) →
      s.core.tickOpen = true →
      Answers (.feedLost x code) s (fun s' => s'.core.reg (Reg.FEED_STATE x) = 1 ∧
      s'.core.reg (Reg.CNT_FEED_LOST x) = satAdd32 (s.core.reg (Reg.CNT_FEED_LOST x)) 1 ∧
      s'.core.reg Reg.PL_NEXT = (s.core.reg Reg.PL_NEXT + 1) % 64)) ∧
  (∀ (x : Fin 2) (code : Fin 4096) (s : State), s.core.supervised = true → s.core.reg (Reg.FEED_STATE x) = 1 →
      s.core.reg (Reg.FEED_MIN_MV x) ≤ code.val * s.core.cfg (Reg.FEED_SCALE x) / 4096 →
      Answers (.feedRestored x code) s (fun s' => s'.core.reg (Reg.FEED_STATE x) = 2 ∧
      s'.core.reg (Reg.FEED_MV x) = code.val * s.core.cfg (Reg.FEED_SCALE x) / 4096))

/-- A rail obeys its command at a strobe, passes INRUSH and SETTLING, is asserted power-good, and retries after WAIT (R547,
R551, R552). command 1 turns an OFF rail on; command 0 takes it to OFF; after INRUSH_TIME it is SETTLING; without power-good
within W it trips; and locks out when its retries are used up; a settle of 1 ms gives power-good at the strobe;
RETRY_INTERVAL in WAIT ends in a retry; RETRY_CLEAR of ON returns the count to 0. That the end of an interval moves the
clock to its instant is the model's (log entry 3). -/
def Obligations.RailsTurnOnAndOff : Prop :=
  (∀ (n : Fin 16) (s : State), s.core.up = true → s.core.disc.left = true → s.core.disc.frozen = false →
      s.core.reg (Reg.RAIL_STATE n) = 1 → s.core.railCommand n = true → s.core.pwr.dip = none →
      Answers (.railTurnOn n) s (fun s' => s'.core.reg (Reg.RAIL_STATE n) = 2 ∧ (s'.core.rail n).gate = true ∧
      (s'.core.rail n).onAt = s.core.now ∧ s'.core.reg (Reg.RAIL_RETRIES n) = 0)) ∧
  (∀ (n : Fin 16) (s : State), s.core.up = true → s.core.disc.left = true → s.core.disc.frozen = false →
      2 ≤ s.core.reg (Reg.RAIL_STATE n) → s.core.reg (Reg.RAIL_STATE n) ≤ 6 → s.core.railCommand n = false →
      Answers (.railTurnOff n) s (fun s' => s'.core.reg (Reg.RAIL_STATE n) = 1 ∧ (s'.core.rail n).gate = false ∧
      s'.core.reg (Reg.RAIL_RETRIES n) = 0)) ∧
  (∀ (n : Fin 16) (s : State), s.core.up = true → s.core.reg (Reg.RAIL_STATE n) = 2 →
      Answers (.inrushEnd n) s (fun s' => s'.core.reg (Reg.RAIL_STATE n) = 3 ∧ (s'.core.rail n).gate = (s.core.rail n).gate ∧
      (s.core.rail n).onAt + (s.core.rail n).inrush ≤ s'.core.now)) ∧
  (∀ (n : Fin 16) (s : State), s.core.up = true → s.core.reg (Reg.RAIL_STATE n) = 3 →
      s.core.reg (Reg.RAIL_RETRIES n) < s.core.reg (Reg.RETRY_COUNT n) → s.core.tickOpen = true →
      Answers (.settleWindowExpiry n) s (fun s' => s'.core.reg (Reg.RAIL_STATE n) = 5 ∧ s'.core.reg (Reg.LT_CAUSE n) = 4 ∧
      (s'.core.rail n).gate = false ∧ s'.core.reg (Reg.RAIL_CNT_TRIP n) = satAdd32 (s.core.reg (Reg.RAIL_CNT_TRIP n)) 1)) ∧
  (∀ (n : Fin 16) (s : State), s.core.up = true → s.core.reg (Reg.RAIL_STATE n) = 3 →
      s.core.reg (Reg.RAIL_RETRIES n) = s.core.reg (Reg.RETRY_COUNT n) → s.core.reg (Reg.RETRY_COUNT n) < 255 →
      s.core.tickOpen = true →
      Answers (.settleWindowExpiry n) s (fun s' => s'.core.reg (Reg.RAIL_STATE n) = 6 ∧ s'.core.reg (Reg.LT_CAUSE n) = 4 ∧
      (s'.core.rail n).gate = false ∧ s'.core.reg (Reg.RAIL_CNT_TRIP n) = satAdd32 (s.core.reg (Reg.RAIL_CNT_TRIP n)) 1 ∧
      s'.core.reg (Reg.RAIL_CNT_LOCKOUT n) = satAdd32 (s.core.reg (Reg.RAIL_CNT_LOCKOUT n)) 1)) ∧
  (∀ (n : Fin 16) (t : Nat) (s : State), s.core.up = true → s.core.disc.left = true → s.core.disc.frozen = false →
      s.core.reg (Reg.RAIL_STATE n) = 3 → (s.core.rail n).settle = some t → t + 1000000 ≤ s.core.now →
      (s.core.rail n).fresh = false → s.core.railCommand n = true →
      Answers (.powerGood n) s (fun s' => s'.core.reg (Reg.RAIL_STATE n) = 4 ∧ (s'.core.rail n).good = some s.core.now)) ∧
  (∀ (n : Fin 16) (s : State), s.core.up = true → s.core.disc.left = true → s.core.disc.frozen = false →
      s.core.reg (Reg.RAIL_STATE n) = 5 → s.core.reg (Reg.RAIL_CMD n) = 1 → s.core.reg (Reg.RAIL_FOLLOW n) = 0xFFFF →
      s.core.node.ioHold = false → s.core.fc.safe = false → s.core.pwr.dip = none → s.core.reg (Reg.RAIL_RETRIES n) < 255 →
      (s.core.rail n).settle = none →
      Answers (.retryIntervalExpiry n) s (fun s' => s'.core.reg (Reg.RAIL_STATE n) = 2 ∧ (s'.core.rail n).gate = true ∧
      s'.core.reg (Reg.RAIL_RETRIES n) = s.core.reg (Reg.RAIL_RETRIES n) + 1 ∧
      s'.core.reg (Reg.RAIL_CNT_RETRY n) = satAdd32 (s.core.reg (Reg.RAIL_CNT_RETRY n)) 1)) ∧
  (∀ (n : Fin 16) (t : Nat) (s : State), s.core.up = true → s.core.reg (Reg.RAIL_STATE n) = 4 → (s.core.rail n).good = some t →
      Answers (.retryClearExpiry n) s (fun s' => s'.core.reg (Reg.RAIL_RETRIES n) = 0 ∧ s'.core.reg (Reg.RAIL_STATE n) = 4))

/-- Samples fill the heat and trip at once or by the curve; a lost FLD_n_PG trips; presence pulls, bounces,
empties and inserts (R546, R547, R548, R550, R553). a sample of an open rail sets RAIL_I_MA and the heat; at or above
RAIL_INSTANT it trips with cause 2; a full curve trips with cause 1; in INRUSH INRUSH_TRIP trips with cause 3 and the heat
is held; FLD_n_PG lost while ON trips with cause 5; a board pulled under load trips and is PULLED; back within 50 ms it
waits, its retries unchanged; an absence of 50 ms cancels the retry state; a new insertion with command 1 begins with full
inrush. -/
def Obligations.RailBreakersTripAndPresenceActs : Prop :=
  (∀ (n : Fin 16) (code : Fin 4096) (pg : Bool) (i : Nat) (h : Nat) (s : State), s.core.up = true →
      (s.core.reg (Reg.RAIL_STATE n) = 1 ∨ s.core.reg (Reg.RAIL_STATE n) = 5) →
      i = code.val * s.core.cfg (Reg.RAIL_FS_MA n) / 4096 → h = min (s.core.heatStep n (s.core.rail n).heat i) (2 ^ 48 - 1) →
      Answers (.railSample n code pg) s (fun s' => s'.core.reg (Reg.RAIL_I_MA n) = i ∧ (s'.core.rail n).heat = h ∧
      s'.core.reg (Reg.RAIL_STATE n) = s.core.reg (Reg.RAIL_STATE n) ∧ (s'.core.rail n).gate = (s.core.rail n).gate)) ∧
  (∀ (n : Fin 16) (code : Fin 4096) (pg : Bool) (s : State), s.core.up = true → (s.core.reg (Reg.RAIL_STATE n) = 3 ∨
      s.core.reg (Reg.RAIL_STATE n) = 4) → s.core.reg (Reg.RAIL_INSTANT n) ≤ code.val * s.core.cfg (Reg.RAIL_FS_MA n) / 4096 →
      s.core.reg (Reg.RAIL_RETRIES n) < s.core.reg (Reg.RETRY_COUNT n) → s.core.tickOpen = true →
      Answers (.railSample n code pg) s (fun s' => s'.core.reg (Reg.RAIL_STATE n) = 5 ∧ s'.core.reg (Reg.LT_CAUSE n) = 2 ∧
      (s'.core.rail n).gate = false ∧ s'.core.reg (Reg.RAIL_CNT_TRIP n) = satAdd32 (s.core.reg (Reg.RAIL_CNT_TRIP n)) 1 ∧
      s'.core.reg (Reg.RAIL_CNT_INSTANT n) = satAdd32 (s.core.reg (Reg.RAIL_CNT_INSTANT n)) 1 ∧
      s'.core.reg (Reg.LT_MA n) = code.val * s.core.cfg (Reg.RAIL_FS_MA n) / 4096)) ∧
  (∀ (n : Fin 16) (code : Fin 4096) (pg : Bool) (i : Nat) (s : State), s.core.up = true → (s.core.reg (Reg.RAIL_STATE n) = 3 ∨
      s.core.reg (Reg.RAIL_STATE n) = 4) → i = code.val * s.core.cfg (Reg.RAIL_FS_MA n) / 4096 →
      i < s.core.reg (Reg.RAIL_INSTANT n) → code.val ≠ 4095 → 2 ^ 40 ≤ s.core.heatStep n (s.core.rail n).heat i →
      s.core.reg (Reg.RAIL_RETRIES n) < s.core.reg (Reg.RETRY_COUNT n) → s.core.tickOpen = true →
      Answers (.railSample n code pg) s (fun s' => s'.core.reg (Reg.RAIL_STATE n) = 5 ∧ s'.core.reg (Reg.LT_CAUSE n) = 1 ∧
      (s'.core.rail n).gate = false ∧ s'.core.reg (Reg.RAIL_CNT_TRIP n) = satAdd32 (s.core.reg (Reg.RAIL_CNT_TRIP n)) 1 ∧
      s'.core.reg (Reg.RAIL_CNT_INSTANT n) = s.core.reg (Reg.RAIL_CNT_INSTANT n))) ∧
  (∀ (n : Fin 16) (code : Fin 4096) (pg : Bool) (s : State), s.core.up = true → s.core.reg (Reg.RAIL_STATE n) = 2 →
      s.core.reg (Reg.INRUSH_TRIP n) ≤ code.val * s.core.cfg (Reg.RAIL_FS_MA n) / 4096 →
      s.core.reg (Reg.RAIL_RETRIES n) < s.core.reg (Reg.RETRY_COUNT n) → s.core.tickOpen = true →
      Answers (.railSample n code pg) s (fun s' => s'.core.reg (Reg.RAIL_STATE n) = 5 ∧ s'.core.reg (Reg.LT_CAUSE n) = 3 ∧
      (s'.core.rail n).gate = false ∧ s'.core.reg (Reg.RAIL_CNT_TRIP n) = satAdd32 (s.core.reg (Reg.RAIL_CNT_TRIP n)) 1 ∧
      (s'.core.rail n).heat = (s.core.rail n).heat)) ∧
  (∀ (n : Fin 16) (s : State), s.core.up = true → s.core.reg (Reg.RAIL_STATE n) = 4 →
      bit (s.core.cfg (Reg.RAIL_CFG n)) 2 = true → s.core.reg (Reg.RAIL_RETRIES n) < s.core.reg (Reg.RETRY_COUNT n) →
      s.core.tickOpen = true →
      Answers (.pgLost n) s (fun s' => s'.core.reg (Reg.RAIL_STATE n) = 5 ∧ s'.core.reg (Reg.LT_CAUSE n) = 5 ∧
      (s'.core.rail n).gate = false ∧ s'.core.reg (Reg.RAIL_CNT_TRIP n) = satAdd32 (s.core.reg (Reg.RAIL_CNT_TRIP n)) 1)) ∧
  (∀ (n : Fin 16) (s : State), s.core.up = true → s.core.presUsed n = true → 1 ≤ s.core.reg (Reg.RAIL_STATE n) →
      s.core.reg (Reg.RAIL_STATE n) ≤ 6 → (s.core.rail n).gate = true → s.core.tickOpen = true →
      Answers (.presenceLost n) s (fun s' => s'.core.reg (Reg.RAIL_STATE n) = 7 ∧ s'.core.reg (Reg.LT_CAUSE n) = 6 ∧
      (s'.core.rail n).gate = false ∧ s'.core.reg (Reg.RAIL_CNT_TRIP n) = satAdd32 (s.core.reg (Reg.RAIL_CNT_TRIP n)) 1 ∧
      (s'.core.rail n).presHigh = true)) ∧
  (∀ (n : Fin 16) (t : Nat) (st : Nat) (s : State), s.core.reg (Reg.RAIL_STATE n) = 7 → (s.core.rail n).away = some (t, st) →
      st ≠ 1 → st ≠ 6 →
      Answers (.railBounce n) s (fun s' => s'.core.reg (Reg.RAIL_STATE n) = 5 ∧
      s'.core.reg (Reg.RAIL_RETRIES n) = s.core.reg (Reg.RAIL_RETRIES n) ∧ (s'.core.rail n).offAt = (s.core.rail n).offAt ∧
      s'.core.reg (Reg.RAIL_CNT_BOUNCE n) = satAdd32 (s.core.reg (Reg.RAIL_CNT_BOUNCE n)) 1)) ∧
  (∀ (n : Fin 16) (t : Nat) (st : Nat) (s : State), s.core.reg (Reg.RAIL_STATE n) = 7 → (s.core.rail n).away = some (t, st) →
      Answers (.railAbsent n) s (fun s' => s'.core.reg (Reg.RAIL_STATE n) = 8 ∧ s'.core.reg (Reg.RAIL_RETRIES n) = 0)) ∧
  (∀ (n : Fin 16) (s : State), s.core.up = true → s.core.disc.left = true → s.core.disc.frozen = false →
      s.core.reg (Reg.RAIL_STATE n) = 8 → s.core.reg (Reg.RAIL_CMD n) = 1 → s.core.reg (Reg.RAIL_FOLLOW n) = 0xFFFF →
      s.core.node.ioHold = false → s.core.fc.safe = false → s.core.pwr.dip = none →
      Answers (.railInserted n) s (fun s' => s'.core.reg (Reg.RAIL_STATE n) = 2 ∧ (s'.core.rail n).gate = true))

/-- A report waits for the close of its tick, is placed and numbered, and is read from the queue and the first-fault record;
FAULT frames only add events (R568, R569, R570, R573, R576). an onset waits, active,
for the close of its tick; a one-shot is complete when it is reported; a clearing ends the condition; EVENT_CLOSE after its
strobe a tick's record takes the next FAULT_SEQ in the queue; a read of FF_RECORD returns the first-fault record and empties
it; a read of FQ_POP returns and removes the oldest record; a FAULT frame is counted and touches neither queue,
slots nor isolations. That a register row acts at once, as a request at the head of the engine's queue,
is the model's reading (log entry 4). -/
def Obligations.FaultsAreReportedPlacedAndRead : Prop :=
  (∀ (r : ReportKind) (source : Fin 512) (inst : Fin 65536) (cause : Fin 256) (detail : Nat) (s : State),
      s.core.tickOpen = true → r = .onset → s.core.fc.active.any (fun a => a.source == source && a.inst == inst && a.cause ==
      cause) = false →
      Answers (.faultReport r source inst cause detail) s (fun s' => (∃ x ∈ s'.core.fc.arrivals, x.source = source ∧
      x.inst = inst ∧ x.cause = cause ∧ x.onset = s.core.tick ∧ x.clear = tickUnknown ∧ x.sev = s.core.sevOf source cause) ∧
      s'.core.fc.active.any (fun a => a.source == source && a.inst == inst && a.cause == cause) = true)) ∧
  (∀ (r : ReportKind) (source : Fin 512) (inst : Fin 65536) (cause : Fin 256) (detail : Nat) (s : State),
      s.core.tickOpen = true → r = .oneShot →
      Answers (.faultReport r source inst cause detail) s (fun s' => (∃ x ∈ s'.core.fc.arrivals, x.source = source ∧
      x.inst = inst ∧ x.cause = cause ∧ x.onset = s.core.tick ∧ x.clear = s.core.tick ∧ bit x.flags 4 = true) ∧
      s'.core.fc.active = s.core.fc.active)) ∧
  (∀ (r : ReportKind) (source : Fin 512) (inst : Fin 65536) (cause : Fin 256) (detail : Nat) (s : State), r = .clearing →
      Answers (.faultReport r source inst cause detail) s (fun s' => s'.core.fc.active.any (fun a => a.source == source &&
      a.inst == inst && a.cause == cause) = false)) ∧
  (∀ (n : Nat) (t : Nat) (rest : List (Nat × Nat)) (x : FaultRec) (s : State), s.core.fc.waiting = (n, t) :: rest →
      s.core.fc.arrivals = [x] → x.placeTick = n → bit x.flags 6 = false → s.core.reg (Reg.FC_CEILING x.sev) = 0 →
      s.core.fc.queue.length < 32 →
      Answers .faultClose s (fun s' => s'.core.fc.closed = some n ∧ (∃ y ∈ s'.core.fc.queue, y.seq = s.core.reg Reg.FQ_SEQ ∧
      y.source = x.source ∧ y.inst = x.inst ∧ y.cause = x.cause ∧ y.onset = x.onset))) ∧
  (∀ (lvl : Fin 4) (r : FaultRec) (s : State), s.core.dict.queue = [] → s.core.up = true → s.core.engineHeld = false →
      1 ≤ lvl.val → s.core.fc.first = some r →
      Answers (.ffRecord lvl) s (fun s' => s'.core.fc.first = none ∧ s'.core.fc.queue = s.core.fc.queue ∧
      s'.core.dict.answer.any (fun a => a.cmd == 1 && a.key == Reg.FF_RECORD && a.status == 0 && a.data == r.bytes) = true)) ∧
  (∀ (lvl : Fin 4) (r : FaultRec) (rest : List FaultRec) (s : State), s.core.dict.queue = [] → s.core.up = true →
      s.core.engineHeld = false → 1 ≤ lvl.val → s.core.fc.queue = r :: rest →
      Answers (.fqPop lvl) s (fun s' => s'.core.fc.queue = rest ∧ s'.core.reg Reg.FQ_COUNT = rest.length ∧
      s'.core.fc.first = s.core.fc.first ∧ s'.core.dict.answer.any (fun a => a.cmd == 1 && a.key == Reg.FQ_POP && a.status ==
      0 && a.data == r.bytes) = true)) ∧
  (∀ (f : Frame) (s : State), s.core.up = true → f.check = f.transitCrc → s.core.reg Reg.INJ_LEFT = 0 →
      Answers (.faultFrameRx f) s (fun s' => s'.core.reg (Reg.CNT_FAULT_RX) = satAdd32 (s.core.reg (Reg.CNT_FAULT_RX)) 1 ∧
      s'.core.fc.queue = s.core.fc.queue ∧ s'.core.fc.slots = s.core.fc.slots ∧ s'.core.fc.isos = s.core.fc.isos ∧
      s'.core.fc.safe = s.core.fc.safe))

/-- A slot steps to ISOLATE, SAFE and RESET; acknowledgement frees slots; isolations are released; the RESET step resets the
node (R579, R580, R582, R583, R584). the first step isolates the instance; the second brings safe state; the third copies
the record and resets after 50 µs; then the node is reset with cause ESCALATION and FC_RESET_CAUSE survives; FC_ACK frees
every slot at or behind it; FC_UNISOLATE releases the isolation it names; and is refused with RANGE for one not in force.
That the end of an interval moves the clock to its instant is the model's (log entry 3). That a register row acts at once,
as a request at the head of the engine's queue, is the model's reading (log entry 4). -/
def Obligations.FaultsEscalateAndAreReleased : Prop :=
  (∀ (x : EscSlot) (t : Nat) (s : State), s.core.tickOpen = true → s.core.fc.slots = [x] → x.timer = some t → x.step = 0 →
      x.ceiling = 1 → isoKind x.record.source (x.record.detail % 256) = .window → s.core.fc.isos = [] →
      Answers .escalationTimerExpiry s (fun s' => s'.core.fc.isos = [(x.record.source, x.record.inst,
      x.record.detail % 256)] ∧ s'.core.reg Reg.ISO_COUNT = 1 ∧ s'.core.reg (Reg.CNT_STEP_ISO) = satAdd32 (s.core.reg
      (Reg.CNT_STEP_ISO)) 1 ∧ s'.core.fc.slots.map (fun y => (y.step, y.timer)) = [(1, none)])) ∧
  (∀ (x : EscSlot) (t : Nat) (s : State), s.core.fc.slots = [x] → x.timer = some t → x.step = 1 → x.ceiling = 2 →
      s.core.fc.safe = false →
      Answers .escalationTimerExpiry s (fun s' => s'.core.fc.safe = true ∧ s'.core.reg Reg.FC_SAFE_CAUSE = 1 ∧
      s'.core.reg (Reg.CNT_STEP_SAFE) = satAdd32 (s.core.reg (Reg.CNT_STEP_SAFE)) 1 ∧
      s'.core.reg (Reg.CNT_SAFE) = satAdd32 (s.core.reg (Reg.CNT_SAFE)) 1)) ∧
  (∀ (x : EscSlot) (t : Nat) (s : State), s.core.fc.slots = [x] → x.timer = some t → x.step = 2 → x.ceiling = 3 →
      s.core.fc.resetAt = none →
      Answers .escalationTimerExpiry s (fun s' => s'.core.fc.resetAt = some (max s.core.now t + 50000) ∧
      s'.core.blob Reg.FC_RESET_CAUSE = ({ x.record with flags := setBit x.record.flags 7 true } : FaultRec).bytes ∧
      s'.core.reg (Reg.CNT_STEP_RESET) = satAdd32 (s.core.reg (Reg.CNT_STEP_RESET)) 1)) ∧
  (∀ (t : Nat) (s : State), s.core.fc.resetAt = some t → s.core.node.phase = .run →
      Answers .escalationReset s (fun s' => s'.core.node.phase = .reset ∧ s'.core.reg Reg.RESET_CAUSE = 4 ∧
      s'.core.blob Reg.FC_RESET_CAUSE = s.core.blob Reg.FC_RESET_CAUSE ∧
      s'.core.reg Reg.RESET_COUNT = min 0xFFFFFFFF (s.core.reg Reg.RESET_COUNT + 1))) ∧
  (∀ (lvl : Fin 4) (q : Fin 65536) (s : State), s.core.takes lvl (Reg.FC_ACK) = true →
      Answers (.fcAck lvl q) s (fun s' => s'.core.fc.slots = s.core.fc.slots.filter (fun x => decide (32768 ≤ (q.val + 65536 -
      x.record.seq) % 65536)) ∧ s'.core.reg Reg.ESC_USED = s'.core.fc.slots.length ∧ s'.core.wroteOk (Reg.FC_ACK) = true)) ∧
  (∀ (lvl : Fin 4) (v : BitVec 32) (s : State), s.core.takes lvl (Reg.FC_UNISOLATE) = true →
      s.core.fc.isos.any (fun e => e.2.1 == v.toNat % 65536 && e.1 == v.toNat / 65536) = true → v.toNat ≠ 0xFFFFFFFF →
      Answers (.fcUnisolate lvl v) s (fun s' => s'.core.fc.isos = s.core.fc.isos.filter (fun e => !(e.2.1 == v.toNat % 65536
      && e.1 == v.toNat / 65536)) ∧ s'.core.reg Reg.ISO_COUNT = s'.core.fc.isos.length ∧
      s'.core.wroteOk (Reg.FC_UNISOLATE) = true)) ∧
  (∀ (lvl : Fin 4) (v : BitVec 32) (s : State), s.core.takes lvl (Reg.FC_UNISOLATE) = true →
      s.core.fc.isos.any (fun e => e.2.1 == v.toNat % 65536 && e.1 == v.toNat / 65536) = false → v.toNat ≠ 0xFFFFFFFF →
      Answers (.fcUnisolate lvl v) s (fun s' => s'.core.fc.isos = s.core.fc.isos ∧
      s'.core.dict.answer.any (fun a => a.status == 0x0B) = true))

/-- Safe state is entered by a step, a self-check, an input or a command, ends at a strobe,
and injections prove the paths (R585, R586, R590, R591). a safe cause is recorded and puts the node in safe state;
FC_SAFE_CMD 1 enters it with cause 4; a self-check mismatch drives it and sets SELF_FAIL; FC_SAFE_CMD 2 asks for its end;
and is refused while a cause holds; at the strobe safe state ends; or continues,
with the refusal in LAST_ERROR; injection kind 1 makes a one-shot report; kind 2 replaces the pair of an input at the next
strobes; kind 3 leads to a self-check mismatch. That the end of an interval moves the clock to its instant is the model's
(log entry 3). That a register row acts at once, as a request at the head of the engine's queue,
is the model's reading (log entry 4). -/
def Obligations.SafeStateBeginsAndEnds : Prop :=
  (∀ (cause : Fin 4) (s : State), s.core.fc.safe = false →
      Answers (.safeEntry cause) s (fun s' => s'.core.fc.safe = true ∧ s'.core.fc.safeCopy = true ∧
      bit (s'.core.reg Reg.FC_STATE) 0 = true ∧ s'.core.reg Reg.FC_SAFE_CAUSE = cause.val + 1 ∧
      s'.core.reg Reg.FC_SAFE_TICK = s.core.tick ∧ s'.core.reg (Reg.CNT_SAFE) = satAdd32 (s.core.reg (Reg.CNT_SAFE)) 1)) ∧
  (∀ (lvl : Fin 4) (s : State), s.core.takes lvl (Reg.FC_SAFE_CMD) = true → s.core.fc.safe = false →
      Answers (.fcSafeEnter lvl) s (fun s' => s'.core.fc.safe = true ∧ s'.core.fc.safeCopy = true ∧
      bit (s'.core.reg Reg.FC_STATE) 0 = true ∧ s'.core.reg Reg.FC_SAFE_CAUSE = 4 ∧
      s'.core.reg Reg.FC_SAFE_TICK = s.core.tick ∧ s'.core.reg (Reg.CNT_SAFE) = satAdd32 (s.core.reg (Reg.CNT_SAFE)) 1 ∧
      s'.core.wroteOk (Reg.FC_SAFE_CMD) = true)) ∧
  (∀ (s : State), s.core.fc.safe = false →
      Answers .fcSelfCheck s (fun s' => s'.core.fc.safe = true ∧ s'.core.fc.safeCopy = true ∧
      bit (s'.core.reg Reg.FC_STATE) 0 = true ∧ s'.core.reg Reg.FC_SAFE_CAUSE = 2 ∧
      s'.core.reg Reg.FC_SAFE_TICK = s.core.tick ∧ s'.core.reg (Reg.CNT_SAFE) = satAdd32 (s.core.reg (Reg.CNT_SAFE)) 1 ∧
      s'.core.fc.selfFail = true ∧ bit (s'.core.reg Reg.FC_STATE) 1 = true ∧
      s'.core.reg (Reg.CNT_SELF_CHECK) = satAdd32 (s.core.reg (Reg.CNT_SELF_CHECK)) 1)) ∧
  (∀ (lvl : Fin 4) (s : State), s.core.takes lvl (Reg.FC_SAFE_CMD) = true → s.core.fc.safe = true → s.core.exitBarred = false →
      s.core.fc.exitPending = none →
      Answers (.fcSafeExit lvl) s (fun s' => s'.core.fc.exitPending = some s.core.now ∧ s'.core.fc.safe = true ∧
      s'.core.wroteOk (Reg.FC_SAFE_CMD) = true)) ∧
  (∀ (lvl : Fin 4) (s : State), s.core.takes lvl (Reg.FC_SAFE_CMD) = true → s.core.fc.safe = true → s.core.exitBarred = true →
      Answers (.fcSafeExit lvl) s (fun s' => s'.core.fc.exitPending = s.core.fc.exitPending ∧ s'.core.fc.safe = true ∧
      s'.core.dict.answer.any (fun a => a.status == 0x11) = true)) ∧
  (∀ (s : State), s.core.fc.exitPending.isSome = true → s.core.fc.safe = true → s.core.exitBarred = false →
      Answers .safeExit s (fun s' => s'.core.fc.safe = false ∧ s'.core.fc.safeCopy = false ∧
      bit (s'.core.reg Reg.FC_STATE) 0 = false ∧ s'.core.fc.exitPending = none)) ∧
  (∀ (s : State), s.core.fc.exitPending.isSome = true → s.core.fc.safe = true → s.core.exitBarred = true →
      Answers .safeExit s (fun s' => s'.core.fc.safe = true ∧ s'.core.fc.exitPending = none ∧
      s'.core.reg Reg.ERR_STATUS = 0x11 ∧ s'.core.reg Reg.ERR_OBJECT = 0xA001 ∧
      s'.core.reg Reg.ERR_SOURCE = s.core.fc.exitSrc)) ∧
  (∀ (lvl : Fin 4) (s : State), s.core.takes lvl (Reg.FCINJ_ARM) = true → s.core.modeCode ≠ 2 → s.core.modeCode ≠ 11 →
      s.core.fc.injLeft = 0 → knownSource (s.core.reg Reg.FCINJ_SOURCE) = true → s.core.tickOpen = true →
      Answers (.fcInjectReport lvl) s (fun s' => (∃ x ∈ s'.core.fc.arrivals, x.source = s.core.reg Reg.FCINJ_SOURCE ∧
      x.inst = s.core.reg Reg.FCINJ_INSTANCE ∧ x.cause = s.core.reg Reg.FCINJ_CAUSE ∧ bit x.flags 2 = true ∧
      bit x.flags 4 = true) ∧ s'.core.wroteOk (Reg.FCINJ_ARM) = true)) ∧
  (∀ (lvl : Fin 4) (s : State), s.core.takes lvl (Reg.FCINJ_ARM) = true → s.core.modeCode ≠ 2 → s.core.modeCode ≠ 11 →
      s.core.fc.injLeft = 0 → s.core.reg Reg.FCINJ_SOURCE ≤ 0x7F →
      Answers (.fcInjectPair lvl) s (fun s' => s'.core.fc.injLeft = s.core.reg Reg.FCINJ_TICKS ∧
      s'.core.fc.injInput = s.core.reg Reg.FCINJ_SOURCE ∧ s'.core.fc.injPair = s.core.reg Reg.FCINJ_PAIR % 4 ∧
      s'.core.reg Reg.FCINJ_BUSY = 1 ∧ s'.core.wroteOk (Reg.FCINJ_ARM) = true)) ∧
  (∀ (lvl : Fin 4) (s : State), s.core.takes lvl (Reg.FCINJ_ARM) = true → (s.core.modeCode = 3 ∨ s.core.modeCode = 4) →
      s.core.fc.injLeft = 0 → s.core.fc.safe = false →
      Answers (.fcInjectSafeFlag lvl) s (fun s' => s'.core.fc.safe = true ∧ s'.core.fc.selfFail = true ∧
      s'.core.reg Reg.FC_SAFE_CAUSE = 2 ∧ s'.core.reg (Reg.CNT_SELF_CHECK) = satAdd32 (s.core.reg (Reg.CNT_SELF_CHECK)) 1 ∧
      s'.core.wroteOk (Reg.FCINJ_ARM) = true))

/-- Heather restarts and starts a slot again; the sensors are read against their limits; the flash log is written and
erased; life-cycle states move (R597, R598, R599, R600, R601, R607, R611, R634,
R655). the watchdog restarts Heather; an uncorrectable error restarts Heather; a corrected error is counted and nothing
stops; the slot of the boot record runs again; in a trial CONFIRM_LEFT starts then; every reading is taken; one temperature
at TEMP_WARN raises it; a second reading outside the range raises VMON_RANGE; 128 waiting entries are copied in whole pages;
after LOG_FLUSH the last page is completed with fillers; the flash log is erased; MANUFACTURE and RETURNED go to FIELD_OPEN
at L3; FIELD_OPEN goes to FIELD_SEALED in CONFIG with both tokens set; a signed return record brings RETURNED; one whose
signature does not verify is refused. That the end of an interval moves the clock to its instant is the model's (log entry
3). That a register row acts at once, as a request at the head of the engine's queue,
is the model's reading (log entry 4). -/
def Obligations.HeatherRestartsSensorsAndLogs : Prop :=
  (∀ (s : State), s.core.firmware = true → s.core.tickOpen = true → s.core.mgmt.trial = none →
      Answers .heatherWdt s (fun s' => s'.core.reg (Reg.CNT_WDT) = satAdd32 (s.core.reg (Reg.CNT_WDT)) 1 ∧
      s'.core.reg Reg.HEATHER_STATE = 1 ∧ s'.core.node.heatherEnd = some (s.core.now + 5000000000) ∧
      s'.core.node.updating = s.core.node.updating ∧ s'.core.mgmt.restart = 1)) ∧
  (∀ (inst : Fin 2) (s : State), s.core.firmware = true → s.core.tickOpen = true → s.core.mgmt.trial = none →
      Answers (.heatherEccUncorr inst) s (fun s' => s'.core.reg (Reg.CNT_HTR_UNCORR) = satAdd32 (s.core.reg
      (Reg.CNT_HTR_UNCORR)) 1 ∧ s'.core.reg Reg.HEATHER_STATE = 1 ∧ s'.core.node.heatherEnd = some (s.core.now + 5000000000) ∧
      s'.core.node.updating = s.core.node.updating ∧ s'.core.mgmt.restart = 2)) ∧
  (∀ (inst : Fin 2) (s : State), s.core.firmware = true → s.core.tickOpen = true →
      Answers (.heatherEccCorr inst) s (fun s' => s'.core.reg (Reg.CNT_HTR_CORR) = satAdd32 (s.core.reg (Reg.CNT_HTR_CORR)) 1
      ∧ s'.core.reg Reg.HEATHER_STATE = 0 ∧ s'.core.node.heatherEnd = s.core.node.heatherEnd)) ∧
  (∀ (e : Nat) (s : State), s.core.up = true → s.core.node.heatherEnd = some e → s.core.mgmt.trial = none →
      s.core.romPass s.core.mgmt.boot = true → s.core.tickOpen = true →
      Answers .heatherRestartDone s (fun s' => s'.core.node.heatherEnd = none ∧ s'.core.reg Reg.HEATHER_STATE = 0 ∧
      s'.core.reg Reg.FW_RUNNING = s.core.mgmt.boot ∧ s'.core.slotState s.core.mgmt.boot = 5)) ∧
  (∀ (e : Nat) (t : Trial) (s : State), s.core.up = true → s.core.node.heatherEnd = some e → s.core.mgmt.trial = some t →
      s.core.romPass s.core.mgmt.boot = true → s.core.tickOpen = true →
      Answers .heatherRestartDone s (fun s' => s'.core.node.updating = false ∧ s'.core.reg Reg.FW_RUNNING = s.core.mgmt.boot ∧
      s'.core.slotState s.core.mgmt.boot = s.core.slotState s.core.mgmt.boot ∧
      s'.core.reg Reg.CONFIRM_LEFT = 60 * s.core.reg Reg.CONFIRM_TIME ∧
      s'.core.mgmt.trial = some { t with ends := some (s'.core.now + 60000000000 * s.core.reg Reg.CONFIRM_TIME) })) ∧
  (∀ (t0 : BitVec 16) (t1 : BitVec 16) (t2 : BitVec 16) (t3 : BitVec 16) (m0 : BitVec 16) (m1 : BitVec 16) (m2 : BitVec 16) (m3
      : BitVec 16) (m4 : BitVec 16) (m5 : BitVec 16) (m6 : BitVec 16) (m7 : BitVec 16) (m8 : BitVec 16) (m9 : BitVec 16) (s :
      State), s.core.firmware = true → s.core.tickOpen = true →
      Answers (.sensorRead t0 t1 t2 t3 m0 m1 m2 m3 m4 m5 m6 m7 m8 m9) s (fun s' => s'.core.reg (Reg.TEMP 0) = t0.toNat ∧
      s'.core.reg (Reg.TEMP 1) = t1.toNat ∧ s'.core.reg (Reg.TEMP 2) = t2.toNat ∧ s'.core.reg (Reg.TEMP 3) = t3.toNat ∧
      s'.core.reg (Reg.VM_MV 0) = m0.toNat ∧ s'.core.reg (Reg.VM_MV 1) = m1.toNat ∧ s'.core.reg (Reg.VM_MV 2) = m2.toNat ∧
      s'.core.reg (Reg.VM_MV 3) = m3.toNat ∧ s'.core.reg (Reg.VM_MV 4) = m4.toNat ∧ s'.core.reg (Reg.VM_MV 5) = m5.toNat ∧
      s'.core.reg (Reg.VM_MV 6) = m6.toNat ∧ s'.core.reg (Reg.VM_MV 7) = m7.toNat ∧ s'.core.reg (Reg.VM_MV 8) = m8.toNat ∧
      s'.core.reg (Reg.VM_MV 9) = m9.toNat ∧ toInt 16 t0.toNat ≤ toInt 16 (s'.core.reg Reg.TEMP_MAX) ∧
      toInt 16 t1.toNat ≤ toInt 16 (s'.core.reg Reg.TEMP_MAX) ∧ toInt 16 t2.toNat ≤ toInt 16 (s'.core.reg Reg.TEMP_MAX) ∧
      toInt 16 t3.toNat ≤ toInt 16 (s'.core.reg Reg.TEMP_MAX) ∧ s'.core.mgmt.sensorAt = s'.core.now + 1000000 * s.core.reg
      Reg.SENSOR_PERIOD)) ∧
  (∀ (t0 : BitVec 16) (t1 : BitVec 16) (t2 : BitVec 16) (t3 : BitVec 16) (m0 : BitVec 16) (m1 : BitVec 16) (m2 : BitVec 16) (m3
      : BitVec 16) (m4 : BitVec 16) (m5 : BitVec 16) (m6 : BitVec 16) (m7 : BitVec 16) (m8 : BitVec 16) (m9 : BitVec 16) (s :
      State), s.core.firmware = true → s.core.tickOpen = true → s.core.regI 16 Reg.TEMP_WARN ≤ toInt 16 t3.toNat →
      Answers (.sensorRead t0 t1 t2 t3 m0 m1 m2 m3 m4 m5 m6 m7 m8 m9) s (fun s' => s'.core.fc.active.any (fun a => a.source ==
      Src.TEMP_WARN && a.inst == noInst) = true)) ∧
  (∀ (t0 : BitVec 16) (t1 : BitVec 16) (t2 : BitVec 16) (t3 : BitVec 16) (m0 : BitVec 16) (m1 : BitVec 16) (m2 : BitVec 16) (m3
      : BitVec 16) (m4 : BitVec 16) (m5 : BitVec 16) (m6 : BitVec 16) (m7 : BitVec 16) (m8 : BitVec 16) (m9 : BitVec 16) (s :
      State), s.core.firmware = true → s.core.tickOpen = true → m9.toNat < s.core.reg (Reg.VM_LOW 9) → (mapGet (0,
      0) 9 s.core.mgmt.vmon : Nat × Nat).1 = 1 →
      Answers (.sensorRead t0 t1 t2 t3 m0 m1 m2 m3 m4 m5 m6 m7 m8 m9) s (fun s' => s'.core.fc.active.any (fun a => a.source ==
      Src.VMON_RANGE && a.inst == 9) = true)) ∧
  (∀ (ok : Bool) (t : Nat) (s : State), ok = true → s.core.firmware = true → s.core.pwr.dip = none → s.core.log.since = some t →
      128 ≤ s.core.log.waiting → s.core.log.waiting ≤ 4096 → s.core.log.flash.length + s.core.log.waiting ≤ 65536 →
      Answers (.logFlashCopy ok) s (fun s' => s'.core.log.flash.length = s.core.log.flash.length + s.core.log.waiting / 8 * 8
      ∧ s'.core.log.waiting = s.core.log.waiting % 8 ∧ s'.core.reg Reg.CNT_LOG_PAGES = satAdd32 (s.core.reg Reg.CNT_LOG_PAGES)
      (s.core.log.waiting / 8))) ∧
  (∀ (ok : Bool) (t : Nat) (s : State), ok = true → s.core.firmware = true → s.core.pwr.dip = none → s.core.log.since = some t →
      1 ≤ s.core.log.waiting → s.core.log.waiting < 128 → s.core.log.flash.length + s.core.log.waiting + 8 ≤ 65536 →
      Answers (.logFlashCopy ok) s (fun s' => s'.core.log.flash.length = s.core.log.flash.length + (s.core.log.waiting + 7) /
      8 * 8 ∧ s'.core.log.waiting = 0 ∧ t + 1000000000 * s.core.reg Reg.LOG_FLUSH ≤ s'.core.now)) ∧
  (∀ (lvl : Fin 4) (s : State), s.core.takes lvl (Reg.LOG_ERASE) = true → s.core.pwr.dip = none →
      Answers (.logErase lvl) s (fun s' => s'.core.log.flash = [] ∧ s'.core.wroteOk (Reg.LOG_ERASE) = true)) ∧
  (∀ (lvl : Fin 4) (s : State), s.core.takes lvl (Reg.LC_CMD) = true → s.core.tickOpen = true → 3 ≤ lvl.val →
      s.core.node.lockPin = false → (s.core.reg Reg.LC_STATE = 0 ∨ s.core.reg Reg.LC_STATE = 3) →
      Answers (.lcToFieldOpen lvl) s (fun s' => s'.core.reg Reg.LC_STATE = 1 ∧ s'.core.wroteOk (Reg.LC_CMD) = true)) ∧
  (∀ (lvl : Fin 4) (s : State), s.core.takes lvl (Reg.LC_CMD) = true → s.core.tickOpen = true → s.core.node.lockPin = false →
      s.core.reg Reg.LC_STATE = 1 → s.core.modeCode = 3 → s.core.tokenUnset Reg.TOKEN_L1 = false →
      s.core.tokenUnset Reg.TOKEN_L2 = false →
      Answers (.lcToFieldSealed lvl) s (fun s' => s'.core.reg Reg.LC_STATE = 2 ∧ s'.core.wroteOk (Reg.LC_CMD) = true)) ∧
  (∀ (lvl : Fin 4) (record : Bytes) (sig : Bytes) (s : State), s.core.takes lvl (Reg.LC_RETURN) = true →
      s.core.tickOpen = true → s.core.node.lockPin = false → (s.core.reg Reg.LC_STATE = 1 ∨ s.core.reg Reg.LC_STATE = 2) →
      s.core.reg Reg.LC_RETURNS < 3 → s.core.pwr.dip = none → record = [0x56, 0x58, 0x52,
      0x54] ++ s.core.blob Reg.DEVICE_UID ++ [byteOf (s.core.reg Reg.LC_RETURNS + 1)] ++ zeros 43 ++ sig → sig.length = 64 →
      (s.core.blob Reg.DEVICE_UID).length = 16 →
      Answers (.lcReturn lvl record) s (fun s' => (Config.ed25519Verify 0 (record.take 64) sig = true →
      s'.core.reg Reg.LC_STATE = 3 ∧ s'.core.reg Reg.LC_RETURNS = s.core.reg Reg.LC_RETURNS + 1 ∧
      s'.core.blob Reg.TOKEN_L1 = zeros 8 ∧ s'.core.blob Reg.TOKEN_L2 = zeros 8 ∧ s'.core.node.copyA = {} ∧
      s'.core.node.copyB = {} ∧ s'.core.wroteOk (Reg.LC_RETURN) = true) ∧
      (Config.ed25519Verify 0 (record.take 64) sig = false → s'.core.reg Reg.LC_STATE = s.core.reg Reg.LC_STATE ∧
      s'.core.reg Reg.LC_RETURNS = s.core.reg Reg.LC_RETURNS ∧ s'.core.dict.answer.any (fun a => a.key == Reg.LC_RETURN &&
      a.status == 0x11) = true)))

/-- BEGIN, its erase, CHUNK, QUERY, END and the full checks; ACTIVATE, CONFIRM, REVERT,
DISCARD and the end of CONFIRM_LEFT (R613, R615, R616, R618, R619, R620,
R621). BEGIN is refused while UPD_ALLOW is 0; a good header makes the inactive slot receive,
and its erase begins; the STATE answer follows the erase; a failed erase leaves the slot INVALID with RESULT 8; a chunk of
the transfer not yet received is written; QUERY is answered with STATE; END with chunks missing is answered at once; END
with every chunk starts the full checks; the full checks give VALID or INVALID; ACTIVATE starts the trial of the inactive
slot; CONFIRM keeps the trial image and raises the rollback fuses; REVERT ends the trial; CONFIRM_LEFT at 0 reverts it;
DISCARD empties the inactive slot. That the end of an interval moves the clock to its instant is the model's (log entry 3).
That a register row acts at once, as a request at the head of the engine's queue, is the model's reading (log entry 4). -/
def Obligations.ImagesAreDeliveredAndTried : Prop :=
  (∀ (f : Frame) (s : State), s.core.up = true → s.core.node.heatherEnd = none → f.kind = 9 → fieldAt f.payload 0 1 = 1 →
      ((s.core.undeliver 14 f).mgmtCheck f).1 = true → f.src < 65536 → s.core.tickOpen = true →
      s.core.mayOriginate { kind := 9 } = true → s.core.standby = false → f.src ≠ s.core.homeAddr → isMcast f.src = false →
      segOf f.src = s.core.segmentOn 0 → s.core.ring.lone = false → s.core.joined 0 = true → s.core.reg Reg.UPD_ALLOW = 0 →
      Answers (.updBegin f) s (fun s' => s'.core.reg Reg.UT_RESULT = 10 ∧
      s'.core.reg (Reg.CNT_UPD_REFUSED) = satAdd32 (s.core.reg (Reg.CNT_UPD_REFUSED)) 1 ∧
      s'.core.mgmt.xfer = s.core.mgmt.xfer ∧ (∃ e ∈ s'.core.sw.seeking, e.inp = 14 ∧ e.frame.kind = 9 ∧ e.frame.dst = f.src ∧
      fieldAt e.frame.payload 0 1 = 4 ∧ fieldAt e.frame.payload 4 4 = updId f ∧ fieldAt e.frame.payload 17 1 = 10))) ∧
  (∀ (f : Frame) (s : State), s.core.up = true → s.core.node.heatherEnd = none → f.kind = 9 → fieldAt f.payload 0 1 = 1 →
      ((s.core.undeliver 14 f).mgmtCheck f).1 = true → f.src < 65536 → s.core.reg Reg.UPD_ALLOW = 1 →
      s.core.mgmt.trial = none → s.core.mgmt.activate = false → s.core.headerResult (padTo 256 (f.payload.drop 16)) = 0 →
      s.core.mgmt.xfer = none →
      Answers (.updBegin f) s (fun s' => s'.core.slotState s.core.idleSlot = 1 ∧ s'.core.reg Reg.UT_ID = updId f ∧
      s'.core.reg Reg.UT_SOURCE = f.src ∧ s'.core.reg Reg.UT_CHUNKS = (fieldAt f.payload 12 4 + 1007) / 1008 ∧
      s'.core.reg Reg.UT_RECEIVED = 0 ∧ s'.core.reg Reg.UT_RESULT = 0 ∧
      s'.core.mgmt.xfer.any (fun x => x.erasing && x.live && x.got.isEmpty && x.header == padTo 256 (f.payload.drop 16)) =
      true)) ∧
  (∀ (ok : Bool) (x : UpdXfer) (s : State), s.core.up = true → s.core.node.heatherEnd = none → s.core.pwr.dip = none →
      s.core.mgmt.xfer = some x → x.erasing = true → x.live = true → ok = true → x.id < 2 ^ 32 →
      s.core.mayOriginate { kind := 9 } = true → s.core.standby = false → x.source ≠ s.core.homeAddr →
      isMcast x.source = false → segOf x.source = s.core.segmentOn 0 → s.core.ring.lone = false → s.core.joined 0 = true →
      Answers (.updateEraseDone ok) s (fun s' => s'.core.mgmt.xfer = some { x with erasing := false } ∧
      (∃ e ∈ s'.core.sw.seeking, e.inp = 14 ∧ e.frame.kind = 9 ∧ e.frame.dst = x.source ∧ fieldAt e.frame.payload 0 1 = 4 ∧
      fieldAt e.frame.payload 4 4 = x.id ∧ fieldAt e.frame.payload 17 1 = 0))) ∧
  (∀ (ok : Bool) (x : UpdXfer) (s : State), s.core.up = true → s.core.node.heatherEnd = none → s.core.pwr.dip = none →
      s.core.mgmt.xfer = some x → x.erasing = true → x.live = true → ok = false → x.id < 2 ^ 32 → s.core.tickOpen = true →
      s.core.mayOriginate { kind := 9 } = true → s.core.standby = false → x.source ≠ s.core.homeAddr →
      isMcast x.source = false → segOf x.source = s.core.segmentOn 0 → s.core.ring.lone = false → s.core.joined 0 = true →
      Answers (.updateEraseDone ok) s (fun s' => s'.core.slotState s.core.idleSlot = 4 ∧ s'.core.reg Reg.UT_RESULT = 8 ∧
      s'.core.reg (Reg.CNT_UPD_REFUSED) = satAdd32 (s.core.reg (Reg.CNT_UPD_REFUSED)) 1 ∧ (∃ e ∈ s'.core.sw.seeking,
      e.inp = 14 ∧ e.frame.kind = 9 ∧ e.frame.dst = x.source ∧ fieldAt e.frame.payload 0 1 = 4 ∧
      fieldAt e.frame.payload 4 4 = x.id ∧ fieldAt e.frame.payload 17 1 = 8))) ∧
  (∀ (f : Frame) (ok : Bool) (i : Nat) (x : UpdXfer) (s : State), s.core.up = true → s.core.node.heatherEnd = none →
      f.kind = 9 → fieldAt f.payload 0 1 = 2 → ((s.core.undeliver 14 f).mgmtCheck f).1 = true → f.src < 65536 → ok = true →
      s.core.mgmt.xfer = some x → x.live = true → x.erasing = false → x.id = updId f → s.core.slotState s.core.idleSlot = 1 →
      fieldAt f.payload 8 4 = 1008 * i → 1008 * i < x.total → x.total ≤ 12582912 →
      (f.payload.drop 16).length = min 1008 (x.total - 1008 * i) → x.got.contains i = false → s.core.pwr.dip = none →
      Answers (.updateChunk f ok) s (fun s' => (mapGet [] i (s'.core.slot s.core.idleSlot).chunks : Bytes) = f.payload.drop 16
      ∧ s'.core.mgmt.xfer.any (fun y => y.got == i :: x.got && y.id == x.id) = true ∧
      s'.core.reg Reg.UT_RECEIVED = x.got.length + 1 ∧ s'.core.reg (Reg.CNT_UPD_CHUNK) = satAdd32 (s.core.reg
      (Reg.CNT_UPD_CHUNK)) 1)) ∧
  (∀ (f : Frame) (s : State), s.core.up = true → s.core.node.heatherEnd = none → f.kind = 9 → fieldAt f.payload 0 1 = 3 →
      ((s.core.undeliver 14 f).mgmtCheck f).1 = true → f.src < 65536 → s.core.mayOriginate { kind := 9 } = true →
      s.core.standby = false → f.src ≠ s.core.homeAddr → isMcast f.src = false → segOf f.src = s.core.segmentOn 0 →
      s.core.ring.lone = false → s.core.joined 0 = true →
      Answers (.updQuery f) s (fun s' => (∃ e ∈ s'.core.sw.seeking, e.inp = 14 ∧ e.frame.kind = 9 ∧ e.frame.dst = f.src ∧
      fieldAt e.frame.payload 0 1 = 4 ∧ fieldAt e.frame.payload 4 4 = updId f ∧
      fieldAt e.frame.payload 17 1 = (s.core.resultFor (updId f)) % 256) ∧ s'.core.mgmt = s.core.mgmt)) ∧
  (∀ (f : Frame) (x : UpdXfer) (s : State), s.core.up = true → s.core.node.heatherEnd = none → f.kind = 9 →
      fieldAt f.payload 0 1 = 5 → ((s.core.undeliver 14 f).mgmtCheck f).1 = true → f.src < 65536 → s.core.tickOpen = true →
      s.core.mayOriginate { kind := 9 } = true → s.core.standby = false → f.src ≠ s.core.homeAddr → isMcast f.src = false →
      segOf f.src = s.core.segmentOn 0 → s.core.ring.lone = false → s.core.joined 0 = true → s.core.mgmt.xfer = some x →
      x.id = updId f → x.live = true → x.erasing = false → s.core.slotState s.core.idleSlot = 1 →
      x.got.length < chunksOf x.total →
      Answers (.updEnd f) s (fun s' => (∃ e ∈ s'.core.sw.seeking, e.inp = 14 ∧ e.frame.kind = 9 ∧ e.frame.dst = f.src ∧
      fieldAt e.frame.payload 0 1 = 4 ∧ fieldAt e.frame.payload 4 4 = updId f ∧
      fieldAt e.frame.payload 17 1 = (s.core.reg Reg.UT_RESULT) % 256) ∧ s'.core.slotState s.core.idleSlot = 1)) ∧
  (∀ (f : Frame) (x : UpdXfer) (s : State), s.core.up = true → s.core.node.heatherEnd = none → f.kind = 9 →
      fieldAt f.payload 0 1 = 5 → ((s.core.undeliver 14 f).mgmtCheck f).1 = true → f.src < 65536 → s.core.mgmt.xfer = some x →
      x.id = updId f → x.live = true → x.erasing = false → s.core.slotState s.core.idleSlot = 1 →
      x.got.length = chunksOf x.total → s.core.pwr.dip = none →
      Answers (.updEnd f) s (fun s' => s'.core.slotState s.core.idleSlot = 2 ∧
      s'.core.mgmt.xfer.any (fun y => y.saved == x.got && y.checker == f.src) = true ∧
      s'.core.sw.seeking = s.core.sw.seeking)) ∧
  (∀ (ok : Bool) (r : Nat) (x : UpdXfer) (s : State), s.core.up = true → s.core.node.heatherEnd = none →
      s.core.mgmt.xfer = some x → x.live = true → s.core.slotState s.core.idleSlot = 2 → ok = true → x.id < 2 ^ 32 →
      r = s.core.imageResult (s.core.slot s.core.idleSlot) → s.core.tickOpen = true →
      s.core.mayOriginate { kind := 9 } = true → s.core.standby = false → x.checker ≠ s.core.homeAddr →
      isMcast x.checker = false → segOf x.checker = s.core.segmentOn 0 → s.core.ring.lone = false → s.core.joined 0 = true →
      Answers (.updateCheckDone ok) s (fun s' => s'.core.slotState s.core.idleSlot = (if r = 0 then 3 else 4) ∧
      s'.core.reg Reg.UT_RESULT = r ∧ s'.core.reg Reg.CNT_UPD_REFUSED = (if r = 0 then s.core.reg Reg.CNT_UPD_REFUSED else
      satAdd32 (s.core.reg Reg.CNT_UPD_REFUSED) 1) ∧ (∃ e ∈ s'.core.sw.seeking, e.inp = 14 ∧ e.frame.kind = 9 ∧
      e.frame.dst = x.checker ∧ fieldAt e.frame.payload 0 1 = 4 ∧ fieldAt e.frame.payload 4 4 = x.id ∧
      fieldAt e.frame.payload 17 1 = r))) ∧
  (∀ (lvl : Fin 4) (s : State), s.core.takes lvl (Reg.UPD_CMD) = true → [5, 6, 8, 9].contains s.core.modeCode = true →
      (s.core.slotState s.core.idleSlot = 3 ∨ s.core.slotState s.core.idleSlot = 8) → s.core.mgmt.trial = none →
      s.core.mgmt.activate = false → s.core.holder = false → s.core.offerOver = true → s.core.pwr.dip = none →
      s.core.firmware = true → s.core.tickOpen = true →
      Answers (.updActivate lvl) s (fun s' => s'.core.mgmt.trial = some
      { slot := s.core.idleSlot, prev := 1 - s.core.idleSlot } ∧ s'.core.mgmt.boot = s.core.idleSlot ∧
      s'.core.slotState s.core.idleSlot = 6 ∧ s'.core.reg Reg.HEATHER_STATE = 1 ∧ s'.core.modeCode = 11 ∧
      s'.core.wroteOk (Reg.UPD_CMD) = true)) ∧
  (∀ (lvl : Fin 4) (t : Trial) (e : Nat) (s : State), s.core.takes lvl (Reg.UPD_CMD) = true → s.core.mgmt.trial = some t →
      t.ends = some e → s.core.now < e → s.core.pwr.dip = none → (t.slot = 0 ∧ t.prev = 1 ∨ t.slot = 1 ∧ t.prev = 0) →
      Answers (.updConfirm lvl) s (fun s' => s'.core.mgmt.trial = none ∧ s'.core.slotState t.slot = 5 ∧
      s'.core.slotState t.prev = 7 ∧ s'.core.reg Reg.CONFIRM_LEFT = 0 ∧
      s'.core.reg Reg.ROLLBACK_FUSE = max (s.core.reg Reg.ROLLBACK_FUSE) (min (fieldAt (s.core.slot t.slot).header 12 1) 64) ∧
      s'.core.wroteOk (Reg.UPD_CMD) = true)) ∧
  (∀ (lvl : Fin 4) (t : Trial) (s : State), s.core.takes lvl (Reg.UPD_CMD) = true → s.core.tickOpen = true →
      s.core.mgmt.trial = some t → [5, 6, 8, 9].contains s.core.modeCode = true → t.slot < 2 →
      Answers (.updRevert lvl) s (fun s' => s'.core.mgmt.trial = none ∧ s'.core.slotState t.slot = 8 ∧
      s'.core.mgmt.boot = t.prev ∧ s'.core.reg Reg.HEATHER_STATE = 1 ∧ s'.core.modeCode = 11 ∧
      s'.core.reg (Reg.CNT_REVERT) = satAdd32 (s.core.reg (Reg.CNT_REVERT)) 1 ∧ s'.core.wroteOk (Reg.UPD_CMD) = true)) ∧
  (∀ (t : Trial) (e : Nat) (s : State), s.core.tickOpen = true → s.core.up = true → s.core.mgmt.trial = some t →
      t.ends = some e → [5, 6, 8, 9].contains s.core.modeCode = true → t.slot < 2 →
      Answers .confirmLeftExpiry s (fun s' => s'.core.mgmt.trial = none ∧ s'.core.slotState t.slot = 8 ∧
      s'.core.mgmt.boot = t.prev ∧ s'.core.reg Reg.HEATHER_STATE = 1 ∧ s'.core.modeCode = 11 ∧
      s'.core.now = max s.core.now e ∧ s'.core.reg (Reg.CNT_REVERT) = satAdd32 (s.core.reg (Reg.CNT_REVERT)) 1)) ∧
  (∀ (lvl : Fin 4) (s : State), s.core.takes lvl (Reg.UPD_CMD) = true → s.core.mgmt.trial = none →
      Answers (.updDiscard lvl) s (fun s' => s'.core.slotState s.core.idleSlot = 0 ∧
      s'.core.reg (slotVerReg s.core.idleSlot) = 0 ∧ s'.core.slot s.core.idleSlot = {} ∧ s'.core.mgmt.xfer = none ∧
      s'.core.wroteOk (Reg.UPD_CMD) = true))

/-- RUN_CMD starts and stops a destructive run; each bank is tested, cleared and returned (R628, R629,
R630). a run takes its first bank as owner 7; and is refused with MODE where R610 does not allow it; a stop ends each test
ABORTED; the bank is zeroed and returned to its owner, and the run is over. That the end of an interval moves the clock to
its instant is the model's (log entry 3). That a register row acts at once, as a request at the head of the engine's queue,
is the model's reading (log entry 4). -/
def Obligations.DestructiveRunsTestBanks : Prop :=
  (∀ (lvl : Fin 4) (b : Nat) (s : State), s.core.takes lvl (Reg.RUN_CMD) = true → s.core.runAllowed = true →
      s.core.reg Reg.RUN_STATE = 0 → bitList 66 (leVal (s.core.blob Reg.RUN_BANKS)) = [b] → b < 64 →
      (s.core.stLane 0).phase = .idle → s.core.runCanTake b = true →
      Answers (.runStart lvl) s (fun s' => s'.core.reg Reg.RUN_STATE = 1 ∧ s'.core.blob Reg.RUN_RESULTS = [] ∧
      (s'.core.stLane 0).phase = .run ∧ (s'.core.stLane 0).bank = b ∧ (s'.core.stLane 0).owner = s.core.reg (Reg.BANK_OWNER b)
      ∧ s'.core.reg (Reg.BANK_OWNER b) = 7 ∧ s'.core.wroteOk (Reg.RUN_CMD) = true)) ∧
  (∀ (lvl : Fin 4) (s : State), s.core.takes lvl (Reg.RUN_CMD) = true → s.core.runAllowed = false →
      Answers (.runStart lvl) s (fun s' => s'.core.reg Reg.RUN_STATE = s.core.reg Reg.RUN_STATE ∧
      s'.core.dict.answer.any (fun a => a.key == Reg.RUN_CMD && a.status == 8) = true)) ∧
  (∀ (lvl : Fin 4) (s : State), s.core.takes lvl (Reg.RUN_CMD) = true → s.core.reg Reg.RUN_STATE = 1 →
      (s.core.stLane 0).phase = .run → (s.core.stLane 1).phase = .idle → (s.core.stLane 0).since = s.core.now →
      Answers (.runStop lvl) s (fun s' => s'.core.reg Reg.RUN_STATE = 2 ∧ s'.core.test.queue = [] ∧
      (s'.core.stLane 0).phase = .clear ∧ (s'.core.stLane 0).bank = (s.core.stLane 0).bank ∧
      s'.core.reg (Reg.CNT_ST_ABORT) = satAdd32 (s.core.reg (Reg.CNT_ST_ABORT)) 1 ∧
      bit (leVal (s'.core.blob (Reg.ST_LANE 0))) 3 = true ∧ s'.core.wroteOk (Reg.RUN_CMD) = true)) ∧
  (∀ (lane : Fin 2) (failWord : BitVec 16) (sig : BitVec 32) (s : State), (s.core.stLane lane).phase = .clear →
      s.core.reg Reg.RUN_STATE = 2 → (s.core.stLane (1 - lane.val)).phase = .idle → s.core.test.queue = [] →
      (s.core.stLane lane).bank < 64 →
      Answers (.runBankDone lane failWord sig) s (fun s' => s'.mem.all (fun x => !(Nat.ble ((s.core.stLane lane).bank * 65536)
      x.1 && Nat.blt x.1 ((s.core.stLane lane).bank * 65536 + 65536))) = true ∧
      s'.core.reg (Reg.BANK_OWNER (s.core.stLane lane).bank) = (s.core.stLane lane).owner ∧
      (s'.core.stLane lane).phase = .idle ∧ s'.core.reg Reg.RUN_STATE = 0 ∧ s'.core.now = s.core.now + 49152))

/-- MODE_CMD 1 to 6, what acts at a strobe, and the automatic start (R638, R640, R641, R642, R643,
R652). MODE_CMD 1 waits for a strobe; at the strobe the node is in CONFIG with its outputs held; MODE_CMD 2 brings the
values written in CONFIG into force; at the strobe the base mode is set; MODE_CMD 3 enters SELF_TEST; MODE_CMD 4 leaves it;
MODE_CMD 5 waits for a strobe; and is refused at the unit with the token; MODE_CMD 6 waits for a strobe; at the strobe
QUIESCENT is set or cleared; the firmware leaves CONFIG by itself. That the end of an interval moves the clock to its
instant is the model's (log entry 3). That a register row acts at once, as a request at the head of the engine's queue,
is the model's reading (log entry 4). -/
def Obligations.ModesAreEnteredAndLeft : Prop :=
  (∀ (lvl : Fin 4) (s : State), s.core.takes lvl (Reg.MODE_CMD) = true → [5, 6, 8, 9, 10].contains s.core.modeCode = true →
      Answers (.enterConfig lvl) s (fun s' => s'.core.node.enterAt = some (s.core.node.enterAt.getD s.core.now) ∧
      s'.core.modeCode = s.core.modeCode ∧ s'.core.wroteOk (Reg.MODE_CMD) = true)) ∧
  (∀ (t : Nat) (s : State), s.core.node.enterAt = some t → s.core.node.updating = false → s.core.mgmt.activate = false →
      s.core.twin.safeAt = none → s.core.node.phase = .run → s.core.time.newPeriod = none → s.core.node.quietAt = [] →
      s.core.node.leaveAt = none → s.core.tickOpen = true →
      Answers .modeChangeAtStrobe s (fun s' => s'.core.node.enterAt = none ∧ s'.core.node.base = 3 ∧
      s'.core.node.ioHold = true ∧ s'.core.modeCode = 3 ∧ s'.core.reg Reg.MODE = 3 ∧ t + 10 ≤ s'.core.now ∧
      s'.core.flag Reg.TW_TOKEN = false)) ∧
  (∀ (lvl : Fin 4) (s : State), s.core.takes lvl (Reg.MODE_CMD) = true → s.core.tickOpen = true → s.core.modeCode = 3 →
      s.core.node.leaveAt = none →
      Answers (.leaveConfig lvl) s (fun s' => s'.core.node.leaveAt = some s.core.now ∧
      s'.core.cfg Reg.SEGMENT = s.core.reg Reg.SEGMENT ∧ s'.core.cfg Reg.LINK_WAIT = s.core.reg Reg.LINK_WAIT ∧
      s'.core.cfg Reg.TW_ENABLE = s.core.reg Reg.TW_ENABLE ∧ s'.core.modeCode = 3 ∧ s'.core.wroteOk (Reg.MODE_CMD) = true)) ∧
  (∀ (t : Nat) (s : State), s.core.node.leaveAt = some t → s.core.node.phase = .run → s.core.time.newPeriod = none →
      s.core.node.quietAt = [] → s.core.node.enterAt = none → s.core.tickOpen = true →
      Answers .modeChangeAtStrobe s (fun s' => s'.core.node.leaveAt = none ∧
      s'.core.node.base = (if s.core.cfg Reg.TW_ENABLE = 1 then 6 else 5) ∧ s'.core.node.ioHold = false ∧
      t + 10 ≤ s'.core.now)) ∧
  (∀ (lvl : Fin 4) (s : State), s.core.takes lvl (Reg.MODE_CMD) = true → s.core.modeCode = 3 → s.core.reg Reg.LC_STATE ≠ 2 →
      s.core.node.leaveAt = none → s.core.node.updating = false →
      Answers (.enterSelfTest lvl) s (fun s' => s'.core.node.base = 4 ∧ s'.core.modeCode = 4 ∧ s'.core.reg Reg.MODE = 4 ∧
      s'.core.wroteOk (Reg.MODE_CMD) = true)) ∧
  (∀ (lvl : Fin 4) (s : State), s.core.takes lvl (Reg.MODE_CMD) = true → s.core.modeCode = 4 → s.core.reg Reg.RUN_STATE = 0 →
      Answers (.leaveSelfTest lvl) s (fun s' => s'.core.node.base = 3 ∧ s'.core.modeCode = 3 ∧ s'.core.reg Reg.MODE = 3 ∧
      s'.core.wroteOk (Reg.MODE_CMD) = true)) ∧
  (∀ (lvl : Fin 4) (s : State), s.core.takes lvl (Reg.MODE_CMD) = true → (s.core.modeCode = 5 ∨ s.core.modeCode = 6 ∨
      s.core.modeCode = 8) → s.core.flag Reg.TW_TOKEN = false →
      Answers (.setQuiescent lvl) s (fun s' => s'.core.node.quietAt = s.core.node.quietAt ++ [(true, s.core.now)] ∧
      s'.core.wroteOk (Reg.MODE_CMD) = true)) ∧
  (∀ (lvl : Fin 4) (s : State), s.core.takes lvl (Reg.MODE_CMD) = true → s.core.modeCode = 5 → s.core.inPair = true →
      s.core.flag Reg.TW_TOKEN = true →
      Answers (.setQuiescent lvl) s (fun s' => s'.core.node.quietAt = s.core.node.quietAt ∧
      s'.core.dict.answer.any (fun a => a.key == Reg.MODE_CMD && a.status == 0x11) = true)) ∧
  (∀ (lvl : Fin 4) (s : State), s.core.takes lvl (Reg.MODE_CMD) = true → s.core.node.quiescent = true →
      Answers (.clearQuiescent lvl) s (fun s' => s'.core.node.quietAt = s.core.node.quietAt ++ [(false, s.core.now)] ∧
      s'.core.wroteOk (Reg.MODE_CMD) = true)) ∧
  (∀ (t : Nat) (on : Bool) (s : State), s.core.node.quietAt = [(on, t)] → s.core.node.contested = false →
      s.core.node.phase = .run → s.core.node.enterAt = none → s.core.node.leaveAt = none → s.core.tickOpen = true →
      Answers .modeChangeAtStrobe s (fun s' => s'.core.node.quietAt = [] ∧ s'.core.node.quiescent = on ∧
      s'.core.node.base = s.core.node.base ∧ t + 10 ≤ s'.core.now)) ∧
  (∀ (s : State), s.core.up = true → s.core.node.started = false → s.core.node.bootLatched = 0 →
      s.core.flag Reg.AUTO_START = true → s.core.reg Reg.CONFIG_RESULT = 0 → s.core.node.base = 3 →
      s.core.node.leaveAt = none → s.core.tickOpen = true →
      Answers .autoStart s (fun s' => s'.core.node.started = true ∧ s'.core.node.leaveAt = some s.core.now ∧
      s'.core.cfg Reg.SEGMENT = s.core.reg Reg.SEGMENT))

/-- Resets by their sources with cause and count, release, the end of BOOT (R533, R641, R644, R645, R646, R647, R649,
R651). POWER_ON clears the count; RESET_N low for 1.2 µs resets the node; a pulse of 0.8 µs is ignored; RESET_CMD resets the
node; a supply below its level writes POWER_FAIL and resets; release after 2 ms, and the 10 µs of an internal reset,
begins BOOT; a normal start ends in operation of the dictionary with empty copies noted; BOOT_SRC 3 starts the recovery
loader and reads no copy. That the end of an interval moves the clock to its instant is the model's (log entry 3). That a
register row acts at once, as a request at the head of the engine's queue, is the model's reading (log entry 4). -/
def Obligations.ResetsAndTheBootSequence : Prop :=
  (∀ (s : State), s.core.node.phase ≠ .reset →
      Answers .powerOn s (fun s' => s'.core.node.phase = .reset ∧ s'.core.reg Reg.RESET_CAUSE = 1 ∧
      s'.core.reg Reg.RESET_COUNT = 0 ∧ s'.core.blob Reg.FC_RESET_CAUSE = zeros 32)) ∧
  (∀ (ns : Nat) (still : Bool) (s : State), 1200 ≤ ns → s.core.node.phase = .run →
      Answers (.resetN ns still) s (fun s' => s'.core.node.phase = .reset ∧ s'.core.reg Reg.RESET_CAUSE = 3 ∧
      s'.core.reg Reg.RESET_COUNT = min 0xFFFFFFFF (s.core.reg Reg.RESET_COUNT + 1))) ∧
  (∀ (ns : Nat) (still : Bool) (s : State), ns ≤ 800 →
      Answers (.resetN ns still) s (fun s' => s'.core.node.phase = s.core.node.phase ∧ s'.core.regs = s.core.regs ∧
      s'.core.blobs = s.core.blobs ∧ s'.core.inForce = s.core.inForce)) ∧
  (∀ (lvl : Fin 4) (s : State), s.core.takes lvl (Reg.RESET_CMD) = true →
      Answers (.resetCmd lvl) s (fun s' => s'.core.node.phase = .reset ∧ s'.core.reg Reg.RESET_CAUSE = 5 ∧
      s'.core.reg Reg.RESET_COUNT = min 0xFFFFFFFF (s.core.reg Reg.RESET_COUNT + 1) ∧
      s'.core.blob Reg.FC_RESET_CAUSE = s.core.blob Reg.FC_RESET_CAUSE)) ∧
  (∀ (low : BitVec 16) (absent : Bool) (s : State), s.core.node.phase = .run →
      Answers (.supplyReset low absent) s (fun s' => s'.core.node.phase = (if absent then .backup else .reset) ∧
      s'.core.reg Reg.RESET_CAUSE = 2 ∧ s'.core.reg Reg.RESET_COUNT = min 0xFFFFFFFF (s.core.reg Reg.RESET_COUNT + 1) ∧
      s'.core.reg Reg.PL_NEXT = (s.core.reg Reg.PL_NEXT + 1) % 64 ∧ s'.core.reg Reg.BK_CNT_POWER_FAIL = satAdd32 (s.core.reg
      Reg.BK_CNT_POWER_FAIL) 1)) ∧
  (∀ (s : State), s.core.node.phase = .reset →
      Answers .resetRelease s (fun s' => s'.core.node.phase = .boot ∧ s'.core.reg Reg.MODE = 2 ∧
      s'.core.node.bootLatched = s.core.node.bootSrc ∧ s'.core.now = s.core.now + 2000000 + (if s.core.node.sources.all (fun s
      => Nat.ble 4 s) = true then 10000 else 0) ∧ s'.core.node.releasedAt = s'.core.now)) ∧
  (∀ (us : BitVec 32) (s : State), s.core.node.phase = .boot → s.core.node.bootLatched < 3 →
      s.core.romPass s.core.mgmt.boot = true → s.core.mgmt.trial = none → s.core.mgmt.revertDue = none →
      s.core.node.copyA = {} → s.core.node.copyB = {} → s.core.node.enterAt = none → s.core.node.leaveAt = none →
      Answers (.bootEnd us) s (fun s' => s'.core.node.phase = .run ∧ s'.core.reg Reg.FW_RUNNING = s.core.mgmt.boot ∧
      s'.core.reg Reg.HEATHER_STATE = 0 ∧ s'.core.reg Reg.BOOT_TIME = us.toNat ∧ s'.core.reg Reg.CONFIG_RESULT = 1 ∧
      s'.core.reg Reg.STRAP_NODE = s.core.node.strapNode % 1024 ∧ s'.mem = [])) ∧
  (∀ (us : BitVec 32) (s : State), s.core.node.phase = .boot → s.core.node.bootLatched = 3 → s.core.mgmt.revertDue = none →
      s.core.node.enterAt = none → s.core.node.leaveAt = none →
      Answers (.bootEnd us) s (fun s' => s'.core.node.phase = .run ∧ s'.core.reg Reg.FW_RUNNING = 0xFF ∧
      s'.core.reg Reg.HEATHER_STATE = 2 ∧ s'.core.reg Reg.CONFIG_RESULT = 3))

/-- The configuration store is saved and erased; the instructions of the test access port are loaded (R653, R654, R671,
R672). a save goes to the older or an invalid copy; the save ends in its copy; a failed save leaves its copy invalid and the
other whole; CFG_CMD 2 erases both copies; a reset during a save leaves the other copy; BYPASS; IDCODE; SAMPLE/PRELOAD;
EXTEST takes the balls while RESET_N is low; CLAMP; HIGHZ. That a register row acts at once,
as a request at the head of the engine's queue, is the model's reading (log entry 4). -/
def Obligations.CopiesAreSavedAndTestInstructionsLoaded : Prop :=
  (∀ (lvl : Fin 4) (s : State), s.core.takes lvl (Reg.CFG_CMD) = true → s.core.node.saving = none →
      Answers (.cfgSave lvl) s (fun s' => s'.core.node.saving.any (fun x => x.1 == (s.core.node.copyA.valid && !
      s.core.newerIsB) && x.2.valid && !x.2.empty) = true ∧ s'.core.reg Reg.CFG_SAVE_STATE = 1 ∧
      s'.core.node.copyA = s.core.node.copyA ∧ s'.core.node.copyB = s.core.node.copyB ∧ s'.core.wroteOk (Reg.CFG_CMD) = true)) ∧
  (∀ (ok : Bool) (b : Bool) (x : CfgCopy) (s : State), s.core.node.saving = some (b, x) → s.core.firmware = true →
      s.core.pwr.dip = none → ok = true →
      Answers (.cfgSaveDone ok) s (fun s' => s'.core.node.saving = none ∧
      s'.core.node.copyA = (if b then s.core.node.copyA else x) ∧ s'.core.node.copyB = (if b then x else s.core.node.copyB) ∧
      s'.core.reg Reg.CFG_SAVE_STATE = 0 ∧ s'.core.reg Reg.CFG_GENERATION = x.gen)) ∧
  (∀ (ok : Bool) (b : Bool) (x : CfgCopy) (s : State), s.core.node.saving = some (b, x) → s.core.firmware = true →
      s.core.pwr.dip = none → ok = false → s.core.tickOpen = true →
      Answers (.cfgSaveDone ok) s (fun s' => s'.core.node.saving = none ∧
      s'.core.node.copyA = (if b then s.core.node.copyA else { x with valid := false }) ∧
      s'.core.node.copyB = (if b then { x with valid := false } else s.core.node.copyB) ∧ s'.core.reg Reg.CFG_SAVE_STATE = 2)) ∧
  (∀ (lvl : Fin 4) (s : State), s.core.takes lvl (Reg.CFG_CMD) = true → s.core.pwr.dip = none → s.core.firmware = true →
      Answers (.cfgErase lvl) s (fun s' => s'.core.node.copyA = {} ∧ s'.core.node.copyB = {} ∧
      s'.core.wroteOk (Reg.CFG_CMD) = true)) ∧
  (∀ (ns : Nat) (still : Bool) (x : CfgCopy) (s : State), 1200 ≤ ns → s.core.node.phase = .run →
      s.core.node.saving = some (true, x) →
      Answers (.resetN ns still) s (fun s' => s'.core.node.copyA = s.core.node.copyA ∧ s'.core.node.copyB.valid = false)) ∧
  (∀ (s : State),
      Answers .jtagBypass s (fun s' => s'.core.jtag = { s.core.jtag with instr := .bypass, out := 0 } ∧
      s'.core.regs = s.core.regs)) ∧
  (∀ (s : State),
      Answers .jtagIdcode s (fun s' => s'.core.jtag = { s.core.jtag with instr := .idcode, out := 556270787 } ∧
      s'.core.regs = s.core.regs)) ∧
  (∀ (levels : Bytes) (boundary : Bytes) (s : State),
      Answers (.jtagSample levels boundary) s (fun s' => s'.core.jtag.instr = .samplePreload ∧ s'.core.jtag.sampled = levels ∧
      s'.core.jtag.boundary = boundary ∧ s'.core.regs = s.core.regs)) ∧
  (∀ (s : State),
      Answers .jtagExtest s (fun s' => s'.core.jtag = { s.core.jtag with instr := .extest, out := 0 } ∧
      s'.core.regs = s.core.regs ∧ (s.core.node.resetNLow = true → s'.core.jtagDrives = some s.core.jtag.boundary) ∧
      (s.core.node.resetNLow = false → s'.core.jtagTakes = false))) ∧
  (∀ (s : State),
      Answers .jtagClamp s (fun s' => s'.core.jtag = { s.core.jtag with instr := .clamp, out := 0 } ∧
      s'.core.regs = s.core.regs ∧ (s.core.node.resetNLow = true → s'.core.jtagDrives = some s.core.jtag.boundary))) ∧
  (∀ (s : State),
      Answers .jtagHighz s (fun s' => s'.core.jtag = { s.core.jtag with instr := .highz, out := 0 } ∧
      s'.core.regs = s.core.regs ∧ s'.core.jtagDrives = none ∧ s'.core.jtagTakes = s.core.node.resetNLow))

/-- A step runs the command at the front of the queue (R63, R641). For every command and state,
the step of the state with the command at the front of its queue is exec of it on the state with the rest of the queue. The
queue of waiting commands is the model's (log entry 2). -/
def Obligations.StepRunsTheFrontCommand : Prop :=
  ∀ (i : Instr) (rest : List Instr) (s : State), step { s with pending := i :: rest } = exec i { s with pending := rest }

/-- No command and no step faults or is refused, and only the front command leaves the queue (R63,
R641). Every command answers a next state with the queue as it was; every step answers a next state and takes one command
off the queue, an idle step none. That an empty queue idles is the model's choice (log entry 14). -/
def Obligations.EveryStepCompletes : Prop :=
  (∀ (i : Instr) (s : State), Answers i s (fun t => t.pending = s.pending)) ∧
    ∀ s : State, Steps s (fun t => t.pending = s.pending.tail)

/-- Every step keeps the memory in canonical form (R431, R456). If the memory lists its bytes in rising order and no byte
that equals what an unlisted address reads as, then it still does after a step, whatever command stands in front. -/
def Obligations.MemoryStaysCanonical : Prop :=
  ∀ s t : State, s.Safe → step s = .next t → t.Safe

/-- The state after reset: defaults everywhere, memory empty and canonical, no command waiting,
held in the reset of POWER_ON (R644, R646, R404). State.reset: every register at the default of its object table,
some named; RESET_CAUSE 1 and RESET_COUNT 0; memory reads 0 everywhere (the model's choice before BOOT clears the banks,
log entry 6); the node in the reset of POWER_ON. -/
def Obligations.ResetStateHoldsTheDefaults : Prop :=
  State.reset.Safe ∧ State.reset.pending = [] ∧ (∀ a, State.reset.mem.read a = 0) ∧
    (∀ k, State.reset.core.reg k = regDefault k) ∧ State.reset.core.reg Reg.RESET_CAUSE = 1 ∧
    State.reset.core.reg Reg.RESET_COUNT = 0 ∧ State.reset.core.node.phase = .reset ∧ State.reset.core.node.sources = [1] ∧
    State.reset.core.reg Reg.LINK_WAIT = 2000 ∧ State.reset.core.reg Reg.CONFIRM_TIME = 10 ∧
    State.reset.core.reg (Reg.RAIL_STATE 3) = 1 ∧ State.reset.core.reg Reg.SENSOR_PERIOD = 10

/-- A reset returns every object to its default but those that R646 excepts, and stops everything (R646, R538,
R584). A reset by POWER_ON or RESET_N in operation: every member that does not survive is at its default; the life-cycle and
rollback fuses, the backup domain, the flash log and the copies of the configuration store stay; sessions, channels,
controllers, engines, fabric, mapper, pair and schedule state is gone. -/
def Obligations.ResetReturnsEveryObject : Prop :=
  ∀ (i : Instr) (s : State), s.core.node.phase = .run → (i = .powerOn ∨ ∃ ns still, i = .resetN ns still ∧ 1200 ≤ ns) →
    Answers i s (fun t =>
      (∀ k, survives k = false → k ≠ Reg.SUPPLY_FLAGS → t.core.reg k = regDefault k) ∧
      (∀ k, [Reg.LC_STATE, Reg.LC_RETURNS, Reg.ROLLBACK_FUSE, Reg.BK_VALID, Reg.BK_CNT_POWER_FAIL, Reg.PL_NEXT,
        Reg.LOG_FLASH_OLDEST, Reg.LOG_FLASH_NEWEST, Reg.FW_RUNNING].contains k = true → t.core.reg k = s.core.reg k) ∧
      t.core.blob Reg.PL_LOG = s.core.blob Reg.PL_LOG ∧ t.core.blob Reg.TOKEN_L3 = s.core.blob Reg.TOKEN_L3 ∧
      t.core.blob Reg.TOKEN_L1 = blobDefault Reg.TOKEN_L1 ∧ t.core.log.flash = s.core.log.flash ∧
      (s.core.node.saving = none → t.core.node.copyA = s.core.node.copyA ∧ t.core.node.copyB = s.core.node.copyB) ∧
      t.core.chans = [] ∧ t.core.cans = [] ∧ t.core.engs = [] ∧ t.core.meas = [] ∧ t.core.dict = {} ∧ t.core.fab = {} ∧
      t.core.map = {} ∧ t.core.twin = {} ∧ t.core.test = {} ∧ t.core.sched = {} ∧ t.core.pwr.rtc = s.core.pwr.rtc)

/-- A write to any object from 0x0000 to 0x00FF, at any level, is refused READ_ONLY and changes no such object (R9). By a
register write with no request before it or a queued WRITE request, at every level: the answer is READ_ONLY and no object
from 0x0000 to 0x00FF changes. -/
def Obligations.CapabilityObjectsRefuseWrites : Prop :=
  (∀ (lvl : Fin 4) (obj : Fin 65536) (mb : Fin 256) (data : Bytes) (s : State), obj.val < 256 → s.core.up = true → s.core.dict.queue = [] →
      s.core.engineHeld = false → (findMember obj.val mb.val lvl.val).1 = 0 →
      Answers (.registerWrite lvl obj mb data) s (fun t =>
        t.core.dict.answer.any (fun a => a.cmd == 2 && a.key == obj.val * 256 + mb.val && a.status == 3) = true ∧
        ∀ k, k / 256 < 256 → t.core.reg k = s.core.reg k ∧ t.core.blob k = s.core.blob k)) ∧
    ∀ (r : Req) (rest : List Req) (l : Nat) (s : State), s.core.dict.queue = r :: rest → r.cmd = 2 → r.obj < 256 →
      s.core.up = true → s.core.engineHeld = false → s.core.reqLevel r = some l → s.core.keptReq r = none →
      (findMember r.obj r.mem l).1 = 0 →
      Answers .dictWrite s (fun t => t.core.reg Reg.STAT_RSP_ERR = satAdd32 (s.core.reg Reg.STAT_RSP_ERR) 1 ∧
        (r.lvl = none → s.core.recorded r 3 = true → t.core.reg Reg.ERR_STATUS = 3) ∧
        ∀ k, k / 256 < 256 → t.core.reg k = s.core.reg k ∧ t.core.blob k = s.core.blob k)

/-- A value of the wrong width is refused LENGTH, one outside its range RANGE,
and the object keeps its value (R40). For every member of fixed width that the engine would write: data of another length is
answered LENGTH, a value outside its range RANGE, and the member keeps its value. -/
def Obligations.WrittenValuesAreChecked : Prop :=
  ∀ (lvl : Fin 4) (obj : Fin 65536) (mb : Fin 256) (data : Bytes) (x : MemRow) (s : State),
    findMember obj.val mb.val lvl.val = (0, x) → x.isBytes = false → s.core.takes lvl (obj.val * 256 + mb.val) = true →
    (8 * data.length ≠ x.ty.bits → Answers (.registerWrite lvl obj mb data) s (fun t =>
      t.core.dict.answer.any (fun a => a.cmd == 2 && a.key == obj.val * 256 + mb.val && a.status == 9) = true ∧
      t.core.reg (obj.val * 256 + mb.val) = s.core.reg (obj.val * 256 + mb.val))) ∧
    (8 * data.length = x.ty.bits → x.inRange obj.val (x.number data) = false →
      Answers (.registerWrite lvl obj mb data) s (fun t =>
        t.core.dict.answer.any (fun a => a.cmd == 2 && a.key == obj.val * 256 + mb.val && a.status == 0x0B) = true ∧
        t.core.reg (obj.val * 256 + mb.val) = s.core.reg (obj.val * 256 + mb.val)))

/-- A write of a member on which nothing else hangs replaces its value and leaves every other register,
part and byte alone (R42, R62). For every member of fixed width of the objects that plainObject names,
at every level and in every mode in which the engine takes the write: the value is stored with its reserved bits 0 and
answered OK; beside the engine's own counts and the reports nothing changes. That the row acts at once is the model's
reading (log entry 4). -/
def Obligations.PlainWritesReplaceOneMember : Prop :=
  ∀ (lvl : Fin 4) (obj : Fin 65536) (mb : Fin 256) (data : Bytes) (x : MemRow) (s : State),
    s.core.takes lvl (obj.val * 256 + mb.val) = true → findMember obj.val mb.val lvl.val = (0, x) → x.isBytes = false →
    x.acc ≠ .rwt → x.valueStatus obj.val data = 0 → plainObject obj.val = true →
    Answers (.registerWrite lvl obj mb data) s (fun t =>
      t.core.reg (obj.val * 256 + mb.val) = x.number data ∧ t.core.wroteOk (obj.val * 256 + mb.val) = true ∧
      (∀ k, k ≠ obj.val * 256 + mb.val → k ∉ reportKeys → (∀ y ∈ answerKeys, ¬ y.has k) → t.core.reg k = s.core.reg k) ∧
      (∀ k, t.core.blob k = s.core.blob k) ∧ (∀ p : CorePart, p ≠ .dict → p.same s.core t.core) ∧
      ∀ a, t.mem.read a = s.mem.read a)

/-- CAN_CMD 1 in bus-off begins recovery, in any other state it is refused; the recovery condition makes the controller
error-active (R346). CAN_CMD 1 puts a controller in bus-off into RECOVERING and is refused with REFUSED in any other state;
the recovery condition then makes it error-active, where its mode and timing stand,
with TEC and REC at 0 and a RECOVERED event, written once per tick at most. -/
def Obligations.BusOffEndsByRecovery : Prop :=
  (∀ (lvl : Fin 4) (n : Fin 32) (s : State), s.core.takes lvl (Reg.CAN_CMD n) = true → s.core.reg (Reg.CAN_STATE n) = 3 →
      Answers (.canRecover lvl n) s (fun t => t.core.reg (Reg.CAN_STATE n) = 4 ∧ t.core.wroteOk (Reg.CAN_CMD n) = true)) ∧
    (∀ (n : Fin 32) (s : State), s.core.fieldRuns = true → s.core.reg (Reg.CAN_STATE n) = 4 →
      bits (s.core.cfg (Reg.CAN_MODE n)) 1 0 ≠ 0 → s.core.canConflict n = false →
      s.core.ev.limited.contains (0x200 + n.val, 4) = false → s.core.ev.opened.length < 512 →
      (match s.core.ev.closed with | some k => tickAhead s.core.tick k | none => true) = true →
      Answers (.canRecovered n) s (fun t => t.core.reg (Reg.CAN_STATE n) = 1 ∧ (t.core.can n).tec = 0 ∧ (t.core.can n).rxErr = 0 ∧
        (t.core.ev.opened ++ t.core.ev.early).any (fun r => r.source == 0x200 + n.val && r.kind == 4) = true)) ∧
    ∀ (lvl : Fin 4) (n : Fin 32) (s : State), s.core.takes lvl (Reg.CAN_CMD n) = true → s.core.reg (Reg.CAN_STATE n) ≠ 3 →
      Answers (.canRecover lvl n) s (fun t => t.core.reg (Reg.CAN_STATE n) = s.core.reg (Reg.CAN_STATE n) ∧
        t.core.dict.answer.any (fun a => a.key == Reg.CAN_CMD n && a.status == 0x11) = true)

/-- A command that stores nothing leaves every byte of memory as it was (R431,
R456). The frame of memory for every command but those that `stores` names: each address reads after the command what it
read before. -/
def Obligations.OnlyStoringCommandsChangeMemory : Prop :=
  ∀ (i : Instr) (s t : State), stores i = false → exec i s = .next t → ∀ a, t.mem.read a = s.mem.read a

/-- A table write, a fabric write, the mapper's HITS and the clearing of a bank change only the bytes that they store to
(R404, R417, R432, R465, R628). A route or mapping entry, a fabric WRITE or WRITE_POSTED, the HITS counts of routes,
and a bank of a destructive run: every other byte of the banks reads, corrected, as before. Where the bytes are stored,
storesAt computes from the local offset as the write does: through the swap bank that stands in for a bank,
and into both banks of a copy under way. -/
def Obligations.StoresStayInsideTheirBytes : Prop :=
  (∀ (key : Fin 65536) (entry : Bytes) (s t : State), exec (.routeTableWrite key entry) s = .next t →
      ∀ p, p < checkBase → s.core.storesAt (s.core.routeBase + key.val * 32) entry.length p = false →
        t.mem.fetch p 1 = s.mem.fetch p 1) ∧
    (∀ (k : Fin 16384) (entry : Bytes) (s t : State), exec (.mappingEntryWrite k entry) s = .next t →
      ∀ p, p < checkBase → s.core.storesAt (entryBase + k.val * 16) entry.length p = false →
        t.mem.fetch p 1 = s.mem.fetch p 1) ∧
    (∀ (f : Frame) (clash : Option Nat) (s t : State),
      exec (.fabricWrite f clash) s = .next t ∨ exec (.writePosted f clash) s = .next t →
      ∀ p, p < checkBase → s.core.storesAt (fieldAt f.payload 4 6) (f.payload.length - 16) p = false →
        t.mem.fetch p 1 = s.mem.fetch p 1) ∧
    (∀ (arrived : Option Frame) (s t : State), s.core.routeBanks ≤ 40 → exec (.mapperInputItem arrived) s = .next t →
      ∀ p, p < checkBase → (∀ k, k < 2048 * s.core.routeBanks → s.core.storesAt (s.core.routeBase + k * 32 + 24) 4 p = false) →
        t.mem.fetch p 1 = s.mem.fetch p 1) ∧
    ∀ (lane : Fin 2) (failWord : BitVec 16) (sig : BitVec 32) (s t : State), (s.core.stLane lane).bank < 66 →
      exec (.runBankDone lane failWord sig) s = .next t →
      ∀ p, p < checkBase → p / 65536 ≠ (s.core.stLane lane).bank → t.mem.fetch p 1 = s.mem.fetch p 1

/-- Frame: what the ring, trunk, forwarding, switch and time-base commands leave as it was (R97, R131, R149, R175,
R249). For each of the ring, trunk, forwarding, switch and time-base commands,
while the fault collector has the present tick open and no escalation timer runs: every part of the core outside its list
`touched`, and every register and OCTETS member outside its list `written` (and the counts that reports and logs keep),
is as before. -/
def Obligations.LinkCommandsKeepTheRest : Prop :=
  ∀ (i : Instr) (s t : State), family i = .link → s.core.settled = true → exec i s = .next t → Unchanged i s t

/-- Frame: what the serial, CAN, pin-engine, discrete, measurement and mapper commands leave as it was (R292, R334, R357,
R384, R402). For each of the serial, CAN, pin-engine, discrete, measurement and mapper commands,
while the fault collector has the present tick open and no escalation timer runs: every part of the core outside its list
`touched`, and every register and OCTETS member outside its list `written` (and the counts that reports and logs keep),
is as before. -/
def Obligations.FieldCommandsKeepTheRest : Prop :=
  ∀ (i : Instr) (s t : State), family i = .field → s.core.settled = true → exec i s = .next t → Unchanged i s t

/-- Frame: what the fabric, window, mover and host-port commands leave as it was (R432, R437, R454,
R477). For each of the fabric, window, mover and host-port commands, while the fault collector has the present tick open and
no escalation timer runs: every part of the core outside its list `touched`,
and every register and OCTETS member outside its list `written` (and the counts that reports and logs keep),
is as before. -/
def Obligations.FabricCommandsKeepTheRest : Prop :=
  ∀ (i : Instr) (s t : State), family i = .fabric → s.core.settled = true → exec i s = .next t → Unchanged i s t

/-- Frame: what the pair, power, rail, fault, management, self-test, mode and test-port commands leave as it was (R499,
R531, R547, R568, R597, R625, R640, R672). For each of the pair, power, rail, fault, management, self-test,
mode and test-port commands, while the fault collector has the present tick open and no escalation timer runs: every part of
the core outside its list `touched`, and every register and OCTETS member outside its list `written` (and the counts that
reports and logs keep), is as before. -/
def Obligations.PlantCommandsKeepTheRest : Prop :=
  ∀ (i : Instr) (s t : State), family i = .plant → s.core.settled = true → exec i s = .next t → Unchanged i s t

/-- Frame: what the rows that write or read one register, and requests that write no member leave as it was (R42, R62,
R90). For each of the rows that write or read one register, and requests that write no member,
while the fault collector has the present tick open and no escalation timer runs: every part of the core outside its list
`touched`, and every register and OCTETS member outside its list `written` (and the counts that reports and logs keep),
is as before. -/
def Obligations.RegisterRowsKeepTheRest : Prop :=
  ∀ (i : Instr) (s t : State), family i = .register → s.core.settled = true → exec i s = .next t → Unchanged i s t

/-- A command for one serial channel, CAN controller, pin engine or rail leaves every other one as it was (R292, R334, R357,
R547). For each command that names a channel, controller, engine or rail,
while the fault collector has the present tick open and no escalation timer runs: the state and the registers of every other
instance of that kind are as before. -/
def Obligations.OtherInstancesStay : Prop :=
  ∀ (i : Instr) (s t : State), s.core.settled = true → exec i s = .next t →
    (∀ n m, chanOf i = some n → m ≠ n → t.core.chan m = s.core.chan m ∧
      ∀ k, 0x2000 ≤ k / 256 → k / 256 < 0x3000 → (k / 256 - 0x2000) / 0x20 = m → t.core.reg k = s.core.reg k) ∧
    (∀ n m, canOf i = some n → m ≠ n → t.core.can m = s.core.can m ∧
      ∀ k, 0x3000 ≤ k / 256 → k / 256 < 0x3200 → (k / 256 - 0x3000) / 0x10 = m → t.core.reg k = s.core.reg k) ∧
    (∀ n m, engOf i = some n → m ≠ n → t.core.eng m = s.core.eng m ∧
      ∀ k, 0x3400 ≤ k / 256 → k / 256 < 0x3800 → (k / 256 - 0x3400) / 0x10 = m → t.core.reg k = s.core.reg k) ∧
    ∀ n m, railOf i = some n → m ≠ n → t.core.rail m = s.core.rail m ∧
      ∀ k, 0x9100 ≤ k / 256 → k / 256 < 0x9200 → (k / 256 - 0x9100) / 0x10 = m → t.core.reg k = s.core.reg k
end

