-- ==== Sys2Proof/Laws/Maps.lean ====
section
/-! SUPPORT. The laws of the sparse maps and of memory: read after write, and the canonical form that every write keeps. -/

namespace Sys2Proof.Machine

theorem mapGet_put {α : Type} (d : α) (k j : Nat) (v : α) (m : List (Nat × α)) :
    mapGet d k (mapPut j v m) = if k = j then v else mapGet d k m := by
  induction m with
  | nil =>
    by_cases h : k = j
    · simp [mapPut, mapGet, h]
    · simp [mapPut, mapGet, h, show ¬ j = k from fun e => h e.symm]
  | cons e rest ih =>
    obtain ⟨i, w⟩ := e
    simp only [mapPut]
    by_cases h : k = j
    · subst h
      split
      · simp [mapGet]
      · split
        · simp [mapGet]
        · simp only [mapGet, ih, if_true, show i ≠ k from fun h => by subst h; contradiction, if_false]
    · have h' : ¬ j = k := fun e => h e.symm
      split
      · simp [mapGet, h']
      · split
        · subst_vars
          simp [mapGet, h']
        · simp [mapGet, ih, h]

theorem mapGet_without {α : Type} (d : α) (k j : Nat) (m : List (Nat × α)) :
    mapGet d k (m.filter (fun e => e.1 != j)) = if k = j then d else mapGet d k m := by
  induction m with
  | nil => simp [mapGet]
  | cons e rest ih =>
    obtain ⟨i, w⟩ := e
    by_cases h : i = j
    · subst h
      simp only [bne_self_eq_false, Bool.false_eq_true, not_false_eq_true, List.filter_cons_of_neg, ih, mapGet]
      split
      · rfl
      · rename_i hk
        simp [show i ≠ k from fun h => hk h.symm]
    · simp only [bne_iff_ne, ne_eq, h, not_false_eq_true, List.filter_cons_of_pos, mapGet, ih]
      split
      · subst_vars
        simp [h]
      · rfl

/-- Another key read after a write. -/
theorem mapGet_mapSet_ne {α : Type} [DecidableEq α] (d d' : α) {k j : Nat} (h : k ≠ j) (v : α) (m : List (Nat × α)) :
    mapGet d k (mapSet d' j v m) = mapGet d k m := by
  unfold mapSet
  split
  · rw [mapGet_without, if_neg h]
  · rw [mapGet_put, if_neg h]

/-- A map read after a write. -/
@[simp] theorem mapGet_mapSet {α : Type} [DecidableEq α] (d : α) (k j : Nat) (v : α) (m : List (Nat × α)) :
    mapGet d k (mapSet d j v m) = if k = j then v else mapGet d k m := by
  unfold mapSet
  split
  · next h =>
    rw [h]
    exact mapGet_without d k j m
  · exact mapGet_put d k j v m

/-- A register read after a register write. -/
@[simp] theorem Core.reg_setReg (c : Core) (k j v : Nat) : (c.setReg j v).reg k = if k = j then v else c.reg k := by
  by_cases h : k = j
  · subst h
    simp [Core.reg, Core.setReg]
  · rw [if_neg h]
    exact mapGet_mapSet_ne _ _ h _ _

/-- A byte string read after a write. -/
@[simp] theorem Core.blob_setBlob (c : Core) (k j : Nat) (v : Bytes) :
    (c.setBlob j v).blob k = if k = j then v else c.blob k := by
  by_cases h : k = j
  · subst h
    simp [Core.blob, Core.setBlob]
  · rw [if_neg h]
    exact mapGet_mapSet_ne _ _ h _ _

/-- A byte read after a byte stored. -/
@[simp] theorem Memory.read_write (m : Memory) (a b : Nat) (v : Byte) :
    (m.write b v).read a = if a = b then v else m.read a := by
  simp [Memory.read, Memory.write]

/-- Memory in canonical form from address b up. -/
theorem Memory.wfFrom_mono {b b' : Nat} (h : b' ≤ b) {m : Memory} (w : Memory.wfFrom b m = true) :
    Memory.wfFrom b' m = true := by
  cases m with
  | nil => rfl
  | cons e rest =>
    obtain ⟨a, v⟩ := e
    simp only [Memory.wfFrom, Bool.and_eq_true, Nat.ble_eq] at w ⊢
    exact ⟨⟨Nat.le_trans h w.1.1, w.1.2⟩, w.2⟩

/-- Cells left out, whichever they are, keep the canonical form of the rest. -/
theorem Memory.wfFrom_filter (p : Host.Cell → Bool) : ∀ (b : Nat) (m : Memory), Memory.wfFrom b m = true →
    Memory.wfFrom b (m.filter p) = true
  | _, [], _ => rfl
  | b, (a, v) :: rest, w => by
    simp only [Memory.wfFrom, Bool.and_eq_true, Nat.ble_eq, bne_iff_ne] at w
    have ih := Memory.wfFrom_filter p (a + 1) rest w.2
    by_cases h : p (a, v) = true
    · simp only [List.filter_cons, h, if_true, Memory.wfFrom, Bool.and_eq_true, Nat.ble_eq, bne_iff_ne]
      exact ⟨w.1, ih⟩
    · simp only [List.filter_cons, h]
      exact Memory.wfFrom_mono (by omega) ih

theorem Memory.wfFrom_put (k : Nat) (v : Byte) (hv : v ≠ emptyByte) : ∀ (b : Nat) (m : Memory), b ≤ k →
    Memory.wfFrom b m = true → Memory.wfFrom b (mapPut k v m) = true
  | b, [], h, _ => by simp [mapPut, Memory.wfFrom, h, hv]
  | b, (a, u) :: rest, h, w => by
    simp only [Memory.wfFrom, Bool.and_eq_true, Nat.ble_eq, bne_iff_ne] at w
    simp only [mapPut]
    split
    · simp only [Memory.wfFrom, Bool.and_eq_true, Nat.ble_eq, bne_iff_ne]
      exact ⟨⟨h, hv⟩, ⟨by omega, w.1.2⟩, w.2⟩
    · split
      · subst_vars
        simp only [Memory.wfFrom, Bool.and_eq_true, Nat.ble_eq, bne_iff_ne]
        exact ⟨⟨h, hv⟩, w.2⟩
      · simp only [Memory.wfFrom, Bool.and_eq_true, Nat.ble_eq, bne_iff_ne]
        exact ⟨w.1, Memory.wfFrom_put k v hv (a + 1) rest (by omega) w.2⟩

/-- A store of one byte keeps the canonical form. -/
theorem Memory.wf_write {m : Memory} (w : m.wf = true) (a : Nat) (v : Byte) : (m.write a v).wf = true := by
  unfold Memory.write mapSet
  split
  · exact Memory.wfFrom_filter _ 0 m w
  · exact Memory.wfFrom_put a v (by assumption) 0 m (Nat.zero_le _) w

/-- A store of a string keeps the canonical form. -/
theorem Memory.wf_writeN (bs : Bytes) : ∀ {m : Memory}, m.wf = true → ∀ a, (m.writeN a bs).wf = true := by
  induction bs with
  | nil => intro m w a; exact w
  | cons b bs ih => intro m w a; exact ih (Memory.wf_write w a b) (a + 1)

/-- Clearing a range, or all cells that p does not keep, keeps the canonical form. -/
theorem Memory.wf_filter (p : Host.Cell → Bool) {m : Memory} (w : m.wf = true) : Memory.wf (m.filter p) = true :=
  Memory.wfFrom_filter p 0 m w

/-- Stores of single bytes one after the other keep the canonical form. -/
theorem Memory.wf_stores (cells : List Host.Cell) : ∀ {m : Memory}, m.wf = true →
    (cells.foldl (fun (m : Memory) x => m.write x.1 x.2) m).wf = true := by
  induction cells with
  | nil => intro m w; exact w
  | cons x rest ih => intro m w; exact ih (Memory.wf_write w x.1 x.2)

/-- A store of a string changes its own bytes alone. -/
theorem Memory.read_writeN_of_outside (bs : Bytes) : ∀ (m : Memory) (a b : Nat), (b < a ∨ a + bs.length ≤ b) →
    (m.writeN a bs).read b = m.read b := by
  induction bs with
  | nil => intros; rfl
  | cons v bs ih =>
    intro m a b h
    simp only [List.length_cons] at h
    rw [Memory.writeN, ih _ _ _ (by omega), Memory.read_write, if_neg (by omega)]

end Sys2Proof.Machine
end

