-- ==== Sys2Proof/Laws/Memory.lean ====
section
/-! SUPPORT. The laws of the operations on bank storage (R207, R217, R462): every one keeps the canonical form, a store changes the
words it touches alone, and words with the check bits of their contents read without an effect. -/

namespace Sys2Proof.Machine

/-- An operation repeated over a list keeps the canonical form if each step does. -/
theorem Memory.wf_foldl {α : Type} {f : Memory → α → Memory} (h : ∀ m x, m.wf = true → (f m x).wf = true) (xs : List α) :
    ∀ {m : Memory}, m.wf = true → (xs.foldl f m).wf = true := by
  induction xs with
  | nil => exact fun w => w
  | cons x xs ih => exact fun w => ih (h _ x w)

theorem Memory.wf_mend (m : Memory) (w : Nat) (h : m.wf = true) : (m.mend w).wf = true := by
  unfold Memory.mend
  split
  · exact Memory.wf_writeN _ h _
  · exact h

theorem Memory.wf_sealWord (old : Memory) (a n : Nat) (m : Memory) (w : Nat) (h : m.wf = true) :
    (Memory.sealWord old a n m w).wf = true := Memory.wf_write h _ _

/-- A store with its check bits keeps the canonical form. -/
theorem Memory.wf_store {m : Memory} (h : m.wf = true) (a : Nat) (bs : Bytes) : (m.store a bs).wf = true :=
  Memory.wf_foldl (Memory.wf_sealWord m a bs.length) _ (Memory.wf_writeN _ (Memory.wf_foldl Memory.wf_mend _ h) _)

/-- Clearing a bank keeps the canonical form. -/
theorem Memory.wf_wipe {m : Memory} (h : m.wf = true) (b : Nat) : (m.wipe b).wf = true := Memory.wf_filter _ h

/-- Copying a bank keeps the canonical form. -/
theorem Memory.wf_copyBank {m : Memory} (h : m.wf = true) (b d : Nat) : (m.copyBank b d).wf = true :=
  Memory.wf_foldl (fun _ _ w => Memory.wf_write (Memory.wf_writeN _ w _) _ _) _ (Memory.wf_wipe h d)

/-- A store from a local offset, wherever its banks lie, keeps the canonical form. -/
theorem Core.wf_store (c : Core) {m : Memory} (h : m.wf = true) (off : Nat) (bs : Bytes) : (c.store m off bs).wf = true := by
  unfold Core.store
  refine Memory.wf_foldl (fun m p w => ?_) _ h
  dsimp only
  split
  · exact Memory.wf_store (Memory.wf_store w _ _) _ _
  · exact Memory.wf_store w _ _

/-- A word moved with its check bits keeps the canonical form. -/
theorem Core.wf_keepCheck (c : Core) (m : Memory) (a data chk : Nat) (h : m.wf = true) :
    (c.keepCheck m a data chk).wf = true := by
  refine Memory.wf_foldl (fun m b w => ?_) _ h
  dsimp only
  split
  · exact Memory.wf_write w _ _
  · exact w

theorem Core.wf_keepChecks (c : Core) (m : Memory) (x : Mover) (p off : Nat) (bs : Bytes) (h : m.wf = true) :
    (c.keepChecks m x p off bs).wf = true :=
  Memory.wf_foldl (fun m _ w => Core.wf_keepCheck c m _ _ _ w) _ h

/-- Byte b is neither in the words that n bytes from a touch nor one of their check bytes. -/
def outsideWords (a n b : Nat) : Prop := ∀ w ∈ wordsOf a n, b ≠ checkBase + w ∧ (b < 8 * w ∨ 8 * w + 8 ≤ b)

theorem Memory.read_foldl {α : Type} {f : Memory → α → Memory} {b : Nat} (xs : List α)
    (h : ∀ x ∈ xs, ∀ m, (f m x).read b = m.read b) : ∀ m : Memory, (xs.foldl f m).read b = m.read b := by
  induction xs with
  | nil => intros; rfl
  | cons x xs ih =>
    intro m
    rw [List.foldl_cons, ih (fun y hy => h y (List.mem_cons_of_mem _ hy)), h x (List.mem_cons_self ..)]

theorem leBytes_length (n v : Nat) : (leBytes n v).length = n := by
  induction n generalizing v with
  | zero => rfl
  | succ n ih => simp [leBytes, ih]

/-- A store changes the words that it touches, and their check bytes, alone. -/
theorem Memory.read_store_of_outside (m : Memory) (a b : Nat) (bs : Bytes) (h : outsideWords a bs.length b)
    (ho : b < a ∨ a + bs.length ≤ b) : (m.store a bs).read b = m.read b := by
  rw [Memory.store, Memory.read_foldl]
  · rw [Memory.read_writeN_of_outside _ _ _ _ ho, Memory.read_foldl]
    intro w hw m
    unfold Memory.mend
    split
    · rw [Memory.read_writeN_of_outside]
      rw [leBytes_length]
      exact (h w hw).2
    · rfl
  · intro w hw m
    rw [Memory.sealWord, Memory.read_write, if_neg (h w hw).1]

/-- Without an injection armed, words with the check bits of their contents read without an effect. -/
theorem Core.eccScan_of_clean (c : Core) (m : Memory) (off n : Nat) (hi : c.reg Reg.INJ_LEFT = 0)
    (h : c.wordsClean m off n = true) : c.eccScan m off n = (false, c) := by
  have hb : ∀ code inst, c.beginCheck code inst = (false, c) := by
    intro code inst
    simp [Core.beginCheck, Core.injHits, hi]
  unfold Core.wordsClean at h
  unfold Core.eccScan
  generalize (cutBank off n).flatMap (fun p => wordsOf (c.place p.1) p.2) = ws at h
  unfold Core.eccWords
  induction ws with
  | nil => rfl
  | cons w ws ih =>
    simp only [List.all_cons, Bool.and_eq_true, beq_iff_eq] at h
    have hw : c.eccWord (w / 8192) (m.word w) (m.checkOf w) = (false, c) := by
      have hc := h.1
      unfold Memory.eccWord at hc
      simp [Core.eccWord, hb, hc]
    rw [List.foldl_cons]
    simp only [hw, Bool.false_or]
    exact ih h.2

end Sys2Proof.Machine
end

