-- ==== Sys2Proof/Laws/State.lean ====
section
/-! SUPPORT. What each small update of the core leaves as it was: one lemma per field and update. -/

namespace Sys2Proof.Machine

/-! setReg changes `regs` alone. -/

@[simp] theorem Core.setReg_free (c : Core) (k v : Nat) : (c.setReg k v).free = c.free := rfl
@[simp] theorem Core.setReg_blobs (c : Core) (k v : Nat) : (c.setReg k v).blobs = c.blobs := rfl
@[simp] theorem Core.setReg_inForce (c : Core) (k v : Nat) : (c.setReg k v).inForce = c.inForce := rfl
@[simp] theorem Core.setReg_time (c : Core) (k v : Nat) : (c.setReg k v).time = c.time := rfl
@[simp] theorem Core.setReg_ev (c : Core) (k v : Nat) : (c.setReg k v).ev = c.ev := rfl
@[simp] theorem Core.setReg_sched (c : Core) (k v : Nat) : (c.setReg k v).sched = c.sched := rfl
@[simp] theorem Core.setReg_node (c : Core) (k v : Nat) : (c.setReg k v).node = c.node := rfl
@[simp] theorem Core.setReg_dict (c : Core) (k v : Nat) : (c.setReg k v).dict = c.dict := rfl
@[simp] theorem Core.setReg_ring (c : Core) (k v : Nat) : (c.setReg k v).ring = c.ring := rfl
@[simp] theorem Core.setReg_fwd (c : Core) (k v : Nat) : (c.setReg k v).fwd = c.fwd := rfl
@[simp] theorem Core.setReg_sw (c : Core) (k v : Nat) : (c.setReg k v).sw = c.sw := rfl
@[simp] theorem Core.setReg_integ (c : Core) (k v : Nat) : (c.setReg k v).integ = c.integ := rfl
@[simp] theorem Core.setReg_fc (c : Core) (k v : Nat) : (c.setReg k v).fc = c.fc := rfl
@[simp] theorem Core.setReg_chans (c : Core) (k v : Nat) : (c.setReg k v).chans = c.chans := rfl
@[simp] theorem Core.setReg_cans (c : Core) (k v : Nat) : (c.setReg k v).cans = c.cans := rfl
@[simp] theorem Core.setReg_fcLatch (c : Core) (k v : Nat) : (c.setReg k v).fcLatch = c.fcLatch := rfl
@[simp] theorem Core.setReg_engs (c : Core) (k v : Nat) : (c.setReg k v).engs = c.engs := rfl
@[simp] theorem Core.setReg_disc (c : Core) (k v : Nat) : (c.setReg k v).disc = c.disc := rfl
@[simp] theorem Core.setReg_meas (c : Core) (k v : Nat) : (c.setReg k v).meas = c.meas := rfl
@[simp] theorem Core.setReg_map (c : Core) (k v : Nat) : (c.setReg k v).map = c.map := rfl
@[simp] theorem Core.setReg_fab (c : Core) (k v : Nat) : (c.setReg k v).fab = c.fab := rfl
@[simp] theorem Core.setReg_lhp (c : Core) (k v : Nat) : (c.setReg k v).lhp = c.lhp := rfl
@[simp] theorem Core.setReg_twin (c : Core) (k v : Nat) : (c.setReg k v).twin = c.twin := rfl
@[simp] theorem Core.setReg_pwr (c : Core) (k v : Nat) : (c.setReg k v).pwr = c.pwr := rfl
@[simp] theorem Core.setReg_log (c : Core) (k v : Nat) : (c.setReg k v).log = c.log := rfl
@[simp] theorem Core.setReg_mgmt (c : Core) (k v : Nat) : (c.setReg k v).mgmt = c.mgmt := rfl
@[simp] theorem Core.setReg_test (c : Core) (k v : Nat) : (c.setReg k v).test = c.test := rfl
@[simp] theorem Core.setReg_jtag (c : Core) (k v : Nat) : (c.setReg k v).jtag = c.jtag := rfl

/-! incBy changes `regs` alone. -/

@[simp] theorem Core.incBy_free (c : Core) (k n : Nat) : (c.incBy k n).free = c.free := rfl
@[simp] theorem Core.incBy_blobs (c : Core) (k n : Nat) : (c.incBy k n).blobs = c.blobs := rfl
@[simp] theorem Core.incBy_inForce (c : Core) (k n : Nat) : (c.incBy k n).inForce = c.inForce := rfl
@[simp] theorem Core.incBy_time (c : Core) (k n : Nat) : (c.incBy k n).time = c.time := rfl
@[simp] theorem Core.incBy_ev (c : Core) (k n : Nat) : (c.incBy k n).ev = c.ev := rfl
@[simp] theorem Core.incBy_sched (c : Core) (k n : Nat) : (c.incBy k n).sched = c.sched := rfl
@[simp] theorem Core.incBy_node (c : Core) (k n : Nat) : (c.incBy k n).node = c.node := rfl
@[simp] theorem Core.incBy_dict (c : Core) (k n : Nat) : (c.incBy k n).dict = c.dict := rfl
@[simp] theorem Core.incBy_ring (c : Core) (k n : Nat) : (c.incBy k n).ring = c.ring := rfl
@[simp] theorem Core.incBy_fwd (c : Core) (k n : Nat) : (c.incBy k n).fwd = c.fwd := rfl
@[simp] theorem Core.incBy_sw (c : Core) (k n : Nat) : (c.incBy k n).sw = c.sw := rfl
@[simp] theorem Core.incBy_integ (c : Core) (k n : Nat) : (c.incBy k n).integ = c.integ := rfl
@[simp] theorem Core.incBy_fc (c : Core) (k n : Nat) : (c.incBy k n).fc = c.fc := rfl
@[simp] theorem Core.incBy_chans (c : Core) (k n : Nat) : (c.incBy k n).chans = c.chans := rfl
@[simp] theorem Core.incBy_cans (c : Core) (k n : Nat) : (c.incBy k n).cans = c.cans := rfl
@[simp] theorem Core.incBy_fcLatch (c : Core) (k n : Nat) : (c.incBy k n).fcLatch = c.fcLatch := rfl
@[simp] theorem Core.incBy_engs (c : Core) (k n : Nat) : (c.incBy k n).engs = c.engs := rfl
@[simp] theorem Core.incBy_disc (c : Core) (k n : Nat) : (c.incBy k n).disc = c.disc := rfl
@[simp] theorem Core.incBy_meas (c : Core) (k n : Nat) : (c.incBy k n).meas = c.meas := rfl
@[simp] theorem Core.incBy_map (c : Core) (k n : Nat) : (c.incBy k n).map = c.map := rfl
@[simp] theorem Core.incBy_fab (c : Core) (k n : Nat) : (c.incBy k n).fab = c.fab := rfl
@[simp] theorem Core.incBy_lhp (c : Core) (k n : Nat) : (c.incBy k n).lhp = c.lhp := rfl
@[simp] theorem Core.incBy_twin (c : Core) (k n : Nat) : (c.incBy k n).twin = c.twin := rfl
@[simp] theorem Core.incBy_pwr (c : Core) (k n : Nat) : (c.incBy k n).pwr = c.pwr := rfl
@[simp] theorem Core.incBy_log (c : Core) (k n : Nat) : (c.incBy k n).log = c.log := rfl
@[simp] theorem Core.incBy_mgmt (c : Core) (k n : Nat) : (c.incBy k n).mgmt = c.mgmt := rfl
@[simp] theorem Core.incBy_test (c : Core) (k n : Nat) : (c.incBy k n).test = c.test := rfl
@[simp] theorem Core.incBy_jtag (c : Core) (k n : Nat) : (c.incBy k n).jtag = c.jtag := rfl

/-! inc changes `regs` alone. -/

@[simp] theorem Core.inc_free (c : Core) (k : Nat) : (c.inc k).free = c.free := rfl
@[simp] theorem Core.inc_blobs (c : Core) (k : Nat) : (c.inc k).blobs = c.blobs := rfl
@[simp] theorem Core.inc_inForce (c : Core) (k : Nat) : (c.inc k).inForce = c.inForce := rfl
@[simp] theorem Core.inc_time (c : Core) (k : Nat) : (c.inc k).time = c.time := rfl
@[simp] theorem Core.inc_ev (c : Core) (k : Nat) : (c.inc k).ev = c.ev := rfl
@[simp] theorem Core.inc_sched (c : Core) (k : Nat) : (c.inc k).sched = c.sched := rfl
@[simp] theorem Core.inc_node (c : Core) (k : Nat) : (c.inc k).node = c.node := rfl
@[simp] theorem Core.inc_dict (c : Core) (k : Nat) : (c.inc k).dict = c.dict := rfl
@[simp] theorem Core.inc_ring (c : Core) (k : Nat) : (c.inc k).ring = c.ring := rfl
@[simp] theorem Core.inc_fwd (c : Core) (k : Nat) : (c.inc k).fwd = c.fwd := rfl
@[simp] theorem Core.inc_sw (c : Core) (k : Nat) : (c.inc k).sw = c.sw := rfl
@[simp] theorem Core.inc_integ (c : Core) (k : Nat) : (c.inc k).integ = c.integ := rfl
@[simp] theorem Core.inc_fc (c : Core) (k : Nat) : (c.inc k).fc = c.fc := rfl
@[simp] theorem Core.inc_chans (c : Core) (k : Nat) : (c.inc k).chans = c.chans := rfl
@[simp] theorem Core.inc_cans (c : Core) (k : Nat) : (c.inc k).cans = c.cans := rfl
@[simp] theorem Core.inc_fcLatch (c : Core) (k : Nat) : (c.inc k).fcLatch = c.fcLatch := rfl
@[simp] theorem Core.inc_engs (c : Core) (k : Nat) : (c.inc k).engs = c.engs := rfl
@[simp] theorem Core.inc_disc (c : Core) (k : Nat) : (c.inc k).disc = c.disc := rfl
@[simp] theorem Core.inc_meas (c : Core) (k : Nat) : (c.inc k).meas = c.meas := rfl
@[simp] theorem Core.inc_map (c : Core) (k : Nat) : (c.inc k).map = c.map := rfl
@[simp] theorem Core.inc_fab (c : Core) (k : Nat) : (c.inc k).fab = c.fab := rfl
@[simp] theorem Core.inc_lhp (c : Core) (k : Nat) : (c.inc k).lhp = c.lhp := rfl
@[simp] theorem Core.inc_twin (c : Core) (k : Nat) : (c.inc k).twin = c.twin := rfl
@[simp] theorem Core.inc_pwr (c : Core) (k : Nat) : (c.inc k).pwr = c.pwr := rfl
@[simp] theorem Core.inc_log (c : Core) (k : Nat) : (c.inc k).log = c.log := rfl
@[simp] theorem Core.inc_mgmt (c : Core) (k : Nat) : (c.inc k).mgmt = c.mgmt := rfl
@[simp] theorem Core.inc_test (c : Core) (k : Nat) : (c.inc k).test = c.test := rfl
@[simp] theorem Core.inc_jtag (c : Core) (k : Nat) : (c.inc k).jtag = c.jtag := rfl

/-! setBlob changes `blobs` alone. -/

@[simp] theorem Core.setBlob_free (c : Core) (k : Nat) (b : Bytes) : (c.setBlob k b).free = c.free := rfl
@[simp] theorem Core.setBlob_regs (c : Core) (k : Nat) (b : Bytes) : (c.setBlob k b).regs = c.regs := rfl
@[simp] theorem Core.setBlob_inForce (c : Core) (k : Nat) (b : Bytes) : (c.setBlob k b).inForce = c.inForce := rfl
@[simp] theorem Core.setBlob_time (c : Core) (k : Nat) (b : Bytes) : (c.setBlob k b).time = c.time := rfl
@[simp] theorem Core.setBlob_ev (c : Core) (k : Nat) (b : Bytes) : (c.setBlob k b).ev = c.ev := rfl
@[simp] theorem Core.setBlob_sched (c : Core) (k : Nat) (b : Bytes) : (c.setBlob k b).sched = c.sched := rfl
@[simp] theorem Core.setBlob_node (c : Core) (k : Nat) (b : Bytes) : (c.setBlob k b).node = c.node := rfl
@[simp] theorem Core.setBlob_dict (c : Core) (k : Nat) (b : Bytes) : (c.setBlob k b).dict = c.dict := rfl
@[simp] theorem Core.setBlob_ring (c : Core) (k : Nat) (b : Bytes) : (c.setBlob k b).ring = c.ring := rfl
@[simp] theorem Core.setBlob_fwd (c : Core) (k : Nat) (b : Bytes) : (c.setBlob k b).fwd = c.fwd := rfl
@[simp] theorem Core.setBlob_sw (c : Core) (k : Nat) (b : Bytes) : (c.setBlob k b).sw = c.sw := rfl
@[simp] theorem Core.setBlob_integ (c : Core) (k : Nat) (b : Bytes) : (c.setBlob k b).integ = c.integ := rfl
@[simp] theorem Core.setBlob_fc (c : Core) (k : Nat) (b : Bytes) : (c.setBlob k b).fc = c.fc := rfl
@[simp] theorem Core.setBlob_chans (c : Core) (k : Nat) (b : Bytes) : (c.setBlob k b).chans = c.chans := rfl
@[simp] theorem Core.setBlob_cans (c : Core) (k : Nat) (b : Bytes) : (c.setBlob k b).cans = c.cans := rfl
@[simp] theorem Core.setBlob_fcLatch (c : Core) (k : Nat) (b : Bytes) : (c.setBlob k b).fcLatch = c.fcLatch := rfl
@[simp] theorem Core.setBlob_engs (c : Core) (k : Nat) (b : Bytes) : (c.setBlob k b).engs = c.engs := rfl
@[simp] theorem Core.setBlob_disc (c : Core) (k : Nat) (b : Bytes) : (c.setBlob k b).disc = c.disc := rfl
@[simp] theorem Core.setBlob_meas (c : Core) (k : Nat) (b : Bytes) : (c.setBlob k b).meas = c.meas := rfl
@[simp] theorem Core.setBlob_map (c : Core) (k : Nat) (b : Bytes) : (c.setBlob k b).map = c.map := rfl
@[simp] theorem Core.setBlob_fab (c : Core) (k : Nat) (b : Bytes) : (c.setBlob k b).fab = c.fab := rfl
@[simp] theorem Core.setBlob_lhp (c : Core) (k : Nat) (b : Bytes) : (c.setBlob k b).lhp = c.lhp := rfl
@[simp] theorem Core.setBlob_twin (c : Core) (k : Nat) (b : Bytes) : (c.setBlob k b).twin = c.twin := rfl
@[simp] theorem Core.setBlob_pwr (c : Core) (k : Nat) (b : Bytes) : (c.setBlob k b).pwr = c.pwr := rfl
@[simp] theorem Core.setBlob_log (c : Core) (k : Nat) (b : Bytes) : (c.setBlob k b).log = c.log := rfl
@[simp] theorem Core.setBlob_mgmt (c : Core) (k : Nat) (b : Bytes) : (c.setBlob k b).mgmt = c.mgmt := rfl
@[simp] theorem Core.setBlob_test (c : Core) (k : Nat) (b : Bytes) : (c.setBlob k b).test = c.test := rfl
@[simp] theorem Core.setBlob_jtag (c : Core) (k : Nat) (b : Bytes) : (c.setBlob k b).jtag = c.jtag := rfl

/-! advance changes `time` alone. -/

@[simp] theorem Core.advance_free (c : Core) (d : Nat) : (c.advance d).free = c.free := rfl
@[simp] theorem Core.advance_regs (c : Core) (d : Nat) : (c.advance d).regs = c.regs := rfl
@[simp] theorem Core.advance_blobs (c : Core) (d : Nat) : (c.advance d).blobs = c.blobs := rfl
@[simp] theorem Core.advance_inForce (c : Core) (d : Nat) : (c.advance d).inForce = c.inForce := rfl
@[simp] theorem Core.advance_ev (c : Core) (d : Nat) : (c.advance d).ev = c.ev := rfl
@[simp] theorem Core.advance_sched (c : Core) (d : Nat) : (c.advance d).sched = c.sched := rfl
@[simp] theorem Core.advance_node (c : Core) (d : Nat) : (c.advance d).node = c.node := rfl
@[simp] theorem Core.advance_dict (c : Core) (d : Nat) : (c.advance d).dict = c.dict := rfl
@[simp] theorem Core.advance_ring (c : Core) (d : Nat) : (c.advance d).ring = c.ring := rfl
@[simp] theorem Core.advance_fwd (c : Core) (d : Nat) : (c.advance d).fwd = c.fwd := rfl
@[simp] theorem Core.advance_sw (c : Core) (d : Nat) : (c.advance d).sw = c.sw := rfl
@[simp] theorem Core.advance_integ (c : Core) (d : Nat) : (c.advance d).integ = c.integ := rfl
@[simp] theorem Core.advance_fc (c : Core) (d : Nat) : (c.advance d).fc = c.fc := rfl
@[simp] theorem Core.advance_chans (c : Core) (d : Nat) : (c.advance d).chans = c.chans := rfl
@[simp] theorem Core.advance_cans (c : Core) (d : Nat) : (c.advance d).cans = c.cans := rfl
@[simp] theorem Core.advance_fcLatch (c : Core) (d : Nat) : (c.advance d).fcLatch = c.fcLatch := rfl
@[simp] theorem Core.advance_engs (c : Core) (d : Nat) : (c.advance d).engs = c.engs := rfl
@[simp] theorem Core.advance_disc (c : Core) (d : Nat) : (c.advance d).disc = c.disc := rfl
@[simp] theorem Core.advance_meas (c : Core) (d : Nat) : (c.advance d).meas = c.meas := rfl
@[simp] theorem Core.advance_map (c : Core) (d : Nat) : (c.advance d).map = c.map := rfl
@[simp] theorem Core.advance_fab (c : Core) (d : Nat) : (c.advance d).fab = c.fab := rfl
@[simp] theorem Core.advance_lhp (c : Core) (d : Nat) : (c.advance d).lhp = c.lhp := rfl
@[simp] theorem Core.advance_twin (c : Core) (d : Nat) : (c.advance d).twin = c.twin := rfl
@[simp] theorem Core.advance_pwr (c : Core) (d : Nat) : (c.advance d).pwr = c.pwr := rfl
@[simp] theorem Core.advance_log (c : Core) (d : Nat) : (c.advance d).log = c.log := rfl
@[simp] theorem Core.advance_mgmt (c : Core) (d : Nat) : (c.advance d).mgmt = c.mgmt := rfl
@[simp] theorem Core.advance_test (c : Core) (d : Nat) : (c.advance d).test = c.test := rfl
@[simp] theorem Core.advance_jtag (c : Core) (d : Nat) : (c.advance d).jtag = c.jtag := rfl

/-! setPort changes `ring` alone. -/

@[simp] theorem Core.setPort_free (c : Core) (p : Nat) (r : RingPort) : (c.setPort p r).free = c.free := rfl
@[simp] theorem Core.setPort_regs (c : Core) (p : Nat) (r : RingPort) : (c.setPort p r).regs = c.regs := rfl
@[simp] theorem Core.setPort_blobs (c : Core) (p : Nat) (r : RingPort) : (c.setPort p r).blobs = c.blobs := rfl
@[simp] theorem Core.setPort_inForce (c : Core) (p : Nat) (r : RingPort) : (c.setPort p r).inForce = c.inForce := rfl
@[simp] theorem Core.setPort_time (c : Core) (p : Nat) (r : RingPort) : (c.setPort p r).time = c.time := rfl
@[simp] theorem Core.setPort_ev (c : Core) (p : Nat) (r : RingPort) : (c.setPort p r).ev = c.ev := rfl
@[simp] theorem Core.setPort_sched (c : Core) (p : Nat) (r : RingPort) : (c.setPort p r).sched = c.sched := rfl
@[simp] theorem Core.setPort_node (c : Core) (p : Nat) (r : RingPort) : (c.setPort p r).node = c.node := rfl
@[simp] theorem Core.setPort_dict (c : Core) (p : Nat) (r : RingPort) : (c.setPort p r).dict = c.dict := rfl
@[simp] theorem Core.setPort_fwd (c : Core) (p : Nat) (r : RingPort) : (c.setPort p r).fwd = c.fwd := rfl
@[simp] theorem Core.setPort_sw (c : Core) (p : Nat) (r : RingPort) : (c.setPort p r).sw = c.sw := rfl
@[simp] theorem Core.setPort_integ (c : Core) (p : Nat) (r : RingPort) : (c.setPort p r).integ = c.integ := rfl
@[simp] theorem Core.setPort_fc (c : Core) (p : Nat) (r : RingPort) : (c.setPort p r).fc = c.fc := rfl
@[simp] theorem Core.setPort_chans (c : Core) (p : Nat) (r : RingPort) : (c.setPort p r).chans = c.chans := rfl
@[simp] theorem Core.setPort_cans (c : Core) (p : Nat) (r : RingPort) : (c.setPort p r).cans = c.cans := rfl
@[simp] theorem Core.setPort_fcLatch (c : Core) (p : Nat) (r : RingPort) : (c.setPort p r).fcLatch = c.fcLatch := rfl
@[simp] theorem Core.setPort_engs (c : Core) (p : Nat) (r : RingPort) : (c.setPort p r).engs = c.engs := rfl
@[simp] theorem Core.setPort_disc (c : Core) (p : Nat) (r : RingPort) : (c.setPort p r).disc = c.disc := rfl
@[simp] theorem Core.setPort_meas (c : Core) (p : Nat) (r : RingPort) : (c.setPort p r).meas = c.meas := rfl
@[simp] theorem Core.setPort_map (c : Core) (p : Nat) (r : RingPort) : (c.setPort p r).map = c.map := rfl
@[simp] theorem Core.setPort_fab (c : Core) (p : Nat) (r : RingPort) : (c.setPort p r).fab = c.fab := rfl
@[simp] theorem Core.setPort_lhp (c : Core) (p : Nat) (r : RingPort) : (c.setPort p r).lhp = c.lhp := rfl
@[simp] theorem Core.setPort_twin (c : Core) (p : Nat) (r : RingPort) : (c.setPort p r).twin = c.twin := rfl
@[simp] theorem Core.setPort_pwr (c : Core) (p : Nat) (r : RingPort) : (c.setPort p r).pwr = c.pwr := rfl
@[simp] theorem Core.setPort_log (c : Core) (p : Nat) (r : RingPort) : (c.setPort p r).log = c.log := rfl
@[simp] theorem Core.setPort_mgmt (c : Core) (p : Nat) (r : RingPort) : (c.setPort p r).mgmt = c.mgmt := rfl
@[simp] theorem Core.setPort_test (c : Core) (p : Nat) (r : RingPort) : (c.setPort p r).test = c.test := rfl
@[simp] theorem Core.setPort_jtag (c : Core) (p : Nat) (r : RingPort) : (c.setPort p r).jtag = c.jtag := rfl

/-! setChan changes `chans` alone. -/

@[simp] theorem Core.setChan_free (c : Core) (n : Nat) (x : Chan) : (c.setChan n x).free = c.free := rfl
@[simp] theorem Core.setChan_regs (c : Core) (n : Nat) (x : Chan) : (c.setChan n x).regs = c.regs := rfl
@[simp] theorem Core.setChan_blobs (c : Core) (n : Nat) (x : Chan) : (c.setChan n x).blobs = c.blobs := rfl
@[simp] theorem Core.setChan_inForce (c : Core) (n : Nat) (x : Chan) : (c.setChan n x).inForce = c.inForce := rfl
@[simp] theorem Core.setChan_time (c : Core) (n : Nat) (x : Chan) : (c.setChan n x).time = c.time := rfl
@[simp] theorem Core.setChan_ev (c : Core) (n : Nat) (x : Chan) : (c.setChan n x).ev = c.ev := rfl
@[simp] theorem Core.setChan_sched (c : Core) (n : Nat) (x : Chan) : (c.setChan n x).sched = c.sched := rfl
@[simp] theorem Core.setChan_node (c : Core) (n : Nat) (x : Chan) : (c.setChan n x).node = c.node := rfl
@[simp] theorem Core.setChan_dict (c : Core) (n : Nat) (x : Chan) : (c.setChan n x).dict = c.dict := rfl
@[simp] theorem Core.setChan_ring (c : Core) (n : Nat) (x : Chan) : (c.setChan n x).ring = c.ring := rfl
@[simp] theorem Core.setChan_fwd (c : Core) (n : Nat) (x : Chan) : (c.setChan n x).fwd = c.fwd := rfl
@[simp] theorem Core.setChan_sw (c : Core) (n : Nat) (x : Chan) : (c.setChan n x).sw = c.sw := rfl
@[simp] theorem Core.setChan_integ (c : Core) (n : Nat) (x : Chan) : (c.setChan n x).integ = c.integ := rfl
@[simp] theorem Core.setChan_fc (c : Core) (n : Nat) (x : Chan) : (c.setChan n x).fc = c.fc := rfl
@[simp] theorem Core.setChan_cans (c : Core) (n : Nat) (x : Chan) : (c.setChan n x).cans = c.cans := rfl
@[simp] theorem Core.setChan_fcLatch (c : Core) (n : Nat) (x : Chan) : (c.setChan n x).fcLatch = c.fcLatch := rfl
@[simp] theorem Core.setChan_engs (c : Core) (n : Nat) (x : Chan) : (c.setChan n x).engs = c.engs := rfl
@[simp] theorem Core.setChan_disc (c : Core) (n : Nat) (x : Chan) : (c.setChan n x).disc = c.disc := rfl
@[simp] theorem Core.setChan_meas (c : Core) (n : Nat) (x : Chan) : (c.setChan n x).meas = c.meas := rfl
@[simp] theorem Core.setChan_map (c : Core) (n : Nat) (x : Chan) : (c.setChan n x).map = c.map := rfl
@[simp] theorem Core.setChan_fab (c : Core) (n : Nat) (x : Chan) : (c.setChan n x).fab = c.fab := rfl
@[simp] theorem Core.setChan_lhp (c : Core) (n : Nat) (x : Chan) : (c.setChan n x).lhp = c.lhp := rfl
@[simp] theorem Core.setChan_twin (c : Core) (n : Nat) (x : Chan) : (c.setChan n x).twin = c.twin := rfl
@[simp] theorem Core.setChan_pwr (c : Core) (n : Nat) (x : Chan) : (c.setChan n x).pwr = c.pwr := rfl
@[simp] theorem Core.setChan_log (c : Core) (n : Nat) (x : Chan) : (c.setChan n x).log = c.log := rfl
@[simp] theorem Core.setChan_mgmt (c : Core) (n : Nat) (x : Chan) : (c.setChan n x).mgmt = c.mgmt := rfl
@[simp] theorem Core.setChan_test (c : Core) (n : Nat) (x : Chan) : (c.setChan n x).test = c.test := rfl
@[simp] theorem Core.setChan_jtag (c : Core) (n : Nat) (x : Chan) : (c.setChan n x).jtag = c.jtag := rfl

/-! setCan changes `cans` alone. -/

@[simp] theorem Core.setCan_free (c : Core) (n : Nat) (x : Can) : (c.setCan n x).free = c.free := rfl
@[simp] theorem Core.setCan_regs (c : Core) (n : Nat) (x : Can) : (c.setCan n x).regs = c.regs := rfl
@[simp] theorem Core.setCan_blobs (c : Core) (n : Nat) (x : Can) : (c.setCan n x).blobs = c.blobs := rfl
@[simp] theorem Core.setCan_inForce (c : Core) (n : Nat) (x : Can) : (c.setCan n x).inForce = c.inForce := rfl
@[simp] theorem Core.setCan_time (c : Core) (n : Nat) (x : Can) : (c.setCan n x).time = c.time := rfl
@[simp] theorem Core.setCan_ev (c : Core) (n : Nat) (x : Can) : (c.setCan n x).ev = c.ev := rfl
@[simp] theorem Core.setCan_sched (c : Core) (n : Nat) (x : Can) : (c.setCan n x).sched = c.sched := rfl
@[simp] theorem Core.setCan_node (c : Core) (n : Nat) (x : Can) : (c.setCan n x).node = c.node := rfl
@[simp] theorem Core.setCan_dict (c : Core) (n : Nat) (x : Can) : (c.setCan n x).dict = c.dict := rfl
@[simp] theorem Core.setCan_ring (c : Core) (n : Nat) (x : Can) : (c.setCan n x).ring = c.ring := rfl
@[simp] theorem Core.setCan_fwd (c : Core) (n : Nat) (x : Can) : (c.setCan n x).fwd = c.fwd := rfl
@[simp] theorem Core.setCan_sw (c : Core) (n : Nat) (x : Can) : (c.setCan n x).sw = c.sw := rfl
@[simp] theorem Core.setCan_integ (c : Core) (n : Nat) (x : Can) : (c.setCan n x).integ = c.integ := rfl
@[simp] theorem Core.setCan_fc (c : Core) (n : Nat) (x : Can) : (c.setCan n x).fc = c.fc := rfl
@[simp] theorem Core.setCan_chans (c : Core) (n : Nat) (x : Can) : (c.setCan n x).chans = c.chans := rfl
@[simp] theorem Core.setCan_fcLatch (c : Core) (n : Nat) (x : Can) : (c.setCan n x).fcLatch = c.fcLatch := rfl
@[simp] theorem Core.setCan_engs (c : Core) (n : Nat) (x : Can) : (c.setCan n x).engs = c.engs := rfl
@[simp] theorem Core.setCan_disc (c : Core) (n : Nat) (x : Can) : (c.setCan n x).disc = c.disc := rfl
@[simp] theorem Core.setCan_meas (c : Core) (n : Nat) (x : Can) : (c.setCan n x).meas = c.meas := rfl
@[simp] theorem Core.setCan_map (c : Core) (n : Nat) (x : Can) : (c.setCan n x).map = c.map := rfl
@[simp] theorem Core.setCan_fab (c : Core) (n : Nat) (x : Can) : (c.setCan n x).fab = c.fab := rfl
@[simp] theorem Core.setCan_lhp (c : Core) (n : Nat) (x : Can) : (c.setCan n x).lhp = c.lhp := rfl
@[simp] theorem Core.setCan_twin (c : Core) (n : Nat) (x : Can) : (c.setCan n x).twin = c.twin := rfl
@[simp] theorem Core.setCan_pwr (c : Core) (n : Nat) (x : Can) : (c.setCan n x).pwr = c.pwr := rfl
@[simp] theorem Core.setCan_log (c : Core) (n : Nat) (x : Can) : (c.setCan n x).log = c.log := rfl
@[simp] theorem Core.setCan_mgmt (c : Core) (n : Nat) (x : Can) : (c.setCan n x).mgmt = c.mgmt := rfl
@[simp] theorem Core.setCan_test (c : Core) (n : Nat) (x : Can) : (c.setCan n x).test = c.test := rfl
@[simp] theorem Core.setCan_jtag (c : Core) (n : Nat) (x : Can) : (c.setCan n x).jtag = c.jtag := rfl

/-! setEng changes `engs` alone. -/

@[simp] theorem Core.setEng_free (c : Core) (n : Nat) (x : Engine) : (c.setEng n x).free = c.free := rfl
@[simp] theorem Core.setEng_regs (c : Core) (n : Nat) (x : Engine) : (c.setEng n x).regs = c.regs := rfl
@[simp] theorem Core.setEng_blobs (c : Core) (n : Nat) (x : Engine) : (c.setEng n x).blobs = c.blobs := rfl
@[simp] theorem Core.setEng_inForce (c : Core) (n : Nat) (x : Engine) : (c.setEng n x).inForce = c.inForce := rfl
@[simp] theorem Core.setEng_time (c : Core) (n : Nat) (x : Engine) : (c.setEng n x).time = c.time := rfl
@[simp] theorem Core.setEng_ev (c : Core) (n : Nat) (x : Engine) : (c.setEng n x).ev = c.ev := rfl
@[simp] theorem Core.setEng_sched (c : Core) (n : Nat) (x : Engine) : (c.setEng n x).sched = c.sched := rfl
@[simp] theorem Core.setEng_node (c : Core) (n : Nat) (x : Engine) : (c.setEng n x).node = c.node := rfl
@[simp] theorem Core.setEng_dict (c : Core) (n : Nat) (x : Engine) : (c.setEng n x).dict = c.dict := rfl
@[simp] theorem Core.setEng_ring (c : Core) (n : Nat) (x : Engine) : (c.setEng n x).ring = c.ring := rfl
@[simp] theorem Core.setEng_fwd (c : Core) (n : Nat) (x : Engine) : (c.setEng n x).fwd = c.fwd := rfl
@[simp] theorem Core.setEng_sw (c : Core) (n : Nat) (x : Engine) : (c.setEng n x).sw = c.sw := rfl
@[simp] theorem Core.setEng_integ (c : Core) (n : Nat) (x : Engine) : (c.setEng n x).integ = c.integ := rfl
@[simp] theorem Core.setEng_fc (c : Core) (n : Nat) (x : Engine) : (c.setEng n x).fc = c.fc := rfl
@[simp] theorem Core.setEng_chans (c : Core) (n : Nat) (x : Engine) : (c.setEng n x).chans = c.chans := rfl
@[simp] theorem Core.setEng_cans (c : Core) (n : Nat) (x : Engine) : (c.setEng n x).cans = c.cans := rfl
@[simp] theorem Core.setEng_fcLatch (c : Core) (n : Nat) (x : Engine) : (c.setEng n x).fcLatch = c.fcLatch := rfl
@[simp] theorem Core.setEng_disc (c : Core) (n : Nat) (x : Engine) : (c.setEng n x).disc = c.disc := rfl
@[simp] theorem Core.setEng_meas (c : Core) (n : Nat) (x : Engine) : (c.setEng n x).meas = c.meas := rfl
@[simp] theorem Core.setEng_map (c : Core) (n : Nat) (x : Engine) : (c.setEng n x).map = c.map := rfl
@[simp] theorem Core.setEng_fab (c : Core) (n : Nat) (x : Engine) : (c.setEng n x).fab = c.fab := rfl
@[simp] theorem Core.setEng_lhp (c : Core) (n : Nat) (x : Engine) : (c.setEng n x).lhp = c.lhp := rfl
@[simp] theorem Core.setEng_twin (c : Core) (n : Nat) (x : Engine) : (c.setEng n x).twin = c.twin := rfl
@[simp] theorem Core.setEng_pwr (c : Core) (n : Nat) (x : Engine) : (c.setEng n x).pwr = c.pwr := rfl
@[simp] theorem Core.setEng_log (c : Core) (n : Nat) (x : Engine) : (c.setEng n x).log = c.log := rfl
@[simp] theorem Core.setEng_mgmt (c : Core) (n : Nat) (x : Engine) : (c.setEng n x).mgmt = c.mgmt := rfl
@[simp] theorem Core.setEng_test (c : Core) (n : Nat) (x : Engine) : (c.setEng n x).test = c.test := rfl
@[simp] theorem Core.setEng_jtag (c : Core) (n : Nat) (x : Engine) : (c.setEng n x).jtag = c.jtag := rfl

/-! setBank changes `disc` alone. -/

@[simp] theorem Core.setBank_free (c : Core) (n : Nat) (x : DiscBank) : (c.setBank n x).free = c.free := rfl
@[simp] theorem Core.setBank_regs (c : Core) (n : Nat) (x : DiscBank) : (c.setBank n x).regs = c.regs := rfl
@[simp] theorem Core.setBank_blobs (c : Core) (n : Nat) (x : DiscBank) : (c.setBank n x).blobs = c.blobs := rfl
@[simp] theorem Core.setBank_inForce (c : Core) (n : Nat) (x : DiscBank) : (c.setBank n x).inForce = c.inForce := rfl
@[simp] theorem Core.setBank_time (c : Core) (n : Nat) (x : DiscBank) : (c.setBank n x).time = c.time := rfl
@[simp] theorem Core.setBank_ev (c : Core) (n : Nat) (x : DiscBank) : (c.setBank n x).ev = c.ev := rfl
@[simp] theorem Core.setBank_sched (c : Core) (n : Nat) (x : DiscBank) : (c.setBank n x).sched = c.sched := rfl
@[simp] theorem Core.setBank_node (c : Core) (n : Nat) (x : DiscBank) : (c.setBank n x).node = c.node := rfl
@[simp] theorem Core.setBank_dict (c : Core) (n : Nat) (x : DiscBank) : (c.setBank n x).dict = c.dict := rfl
@[simp] theorem Core.setBank_ring (c : Core) (n : Nat) (x : DiscBank) : (c.setBank n x).ring = c.ring := rfl
@[simp] theorem Core.setBank_fwd (c : Core) (n : Nat) (x : DiscBank) : (c.setBank n x).fwd = c.fwd := rfl
@[simp] theorem Core.setBank_sw (c : Core) (n : Nat) (x : DiscBank) : (c.setBank n x).sw = c.sw := rfl
@[simp] theorem Core.setBank_integ (c : Core) (n : Nat) (x : DiscBank) : (c.setBank n x).integ = c.integ := rfl
@[simp] theorem Core.setBank_fc (c : Core) (n : Nat) (x : DiscBank) : (c.setBank n x).fc = c.fc := rfl
@[simp] theorem Core.setBank_chans (c : Core) (n : Nat) (x : DiscBank) : (c.setBank n x).chans = c.chans := rfl
@[simp] theorem Core.setBank_cans (c : Core) (n : Nat) (x : DiscBank) : (c.setBank n x).cans = c.cans := rfl
@[simp] theorem Core.setBank_fcLatch (c : Core) (n : Nat) (x : DiscBank) : (c.setBank n x).fcLatch = c.fcLatch := rfl
@[simp] theorem Core.setBank_engs (c : Core) (n : Nat) (x : DiscBank) : (c.setBank n x).engs = c.engs := rfl
@[simp] theorem Core.setBank_meas (c : Core) (n : Nat) (x : DiscBank) : (c.setBank n x).meas = c.meas := rfl
@[simp] theorem Core.setBank_map (c : Core) (n : Nat) (x : DiscBank) : (c.setBank n x).map = c.map := rfl
@[simp] theorem Core.setBank_fab (c : Core) (n : Nat) (x : DiscBank) : (c.setBank n x).fab = c.fab := rfl
@[simp] theorem Core.setBank_lhp (c : Core) (n : Nat) (x : DiscBank) : (c.setBank n x).lhp = c.lhp := rfl
@[simp] theorem Core.setBank_twin (c : Core) (n : Nat) (x : DiscBank) : (c.setBank n x).twin = c.twin := rfl
@[simp] theorem Core.setBank_pwr (c : Core) (n : Nat) (x : DiscBank) : (c.setBank n x).pwr = c.pwr := rfl
@[simp] theorem Core.setBank_log (c : Core) (n : Nat) (x : DiscBank) : (c.setBank n x).log = c.log := rfl
@[simp] theorem Core.setBank_mgmt (c : Core) (n : Nat) (x : DiscBank) : (c.setBank n x).mgmt = c.mgmt := rfl
@[simp] theorem Core.setBank_test (c : Core) (n : Nat) (x : DiscBank) : (c.setBank n x).test = c.test := rfl
@[simp] theorem Core.setBank_jtag (c : Core) (n : Nat) (x : DiscBank) : (c.setBank n x).jtag = c.jtag := rfl

/-! setMeas changes `meas` alone. -/

@[simp] theorem Core.setMeas_free (c : Core) (n : Nat) (x : Meas) : (c.setMeas n x).free = c.free := rfl
@[simp] theorem Core.setMeas_regs (c : Core) (n : Nat) (x : Meas) : (c.setMeas n x).regs = c.regs := rfl
@[simp] theorem Core.setMeas_blobs (c : Core) (n : Nat) (x : Meas) : (c.setMeas n x).blobs = c.blobs := rfl
@[simp] theorem Core.setMeas_inForce (c : Core) (n : Nat) (x : Meas) : (c.setMeas n x).inForce = c.inForce := rfl
@[simp] theorem Core.setMeas_time (c : Core) (n : Nat) (x : Meas) : (c.setMeas n x).time = c.time := rfl
@[simp] theorem Core.setMeas_ev (c : Core) (n : Nat) (x : Meas) : (c.setMeas n x).ev = c.ev := rfl
@[simp] theorem Core.setMeas_sched (c : Core) (n : Nat) (x : Meas) : (c.setMeas n x).sched = c.sched := rfl
@[simp] theorem Core.setMeas_node (c : Core) (n : Nat) (x : Meas) : (c.setMeas n x).node = c.node := rfl
@[simp] theorem Core.setMeas_dict (c : Core) (n : Nat) (x : Meas) : (c.setMeas n x).dict = c.dict := rfl
@[simp] theorem Core.setMeas_ring (c : Core) (n : Nat) (x : Meas) : (c.setMeas n x).ring = c.ring := rfl
@[simp] theorem Core.setMeas_fwd (c : Core) (n : Nat) (x : Meas) : (c.setMeas n x).fwd = c.fwd := rfl
@[simp] theorem Core.setMeas_sw (c : Core) (n : Nat) (x : Meas) : (c.setMeas n x).sw = c.sw := rfl
@[simp] theorem Core.setMeas_integ (c : Core) (n : Nat) (x : Meas) : (c.setMeas n x).integ = c.integ := rfl
@[simp] theorem Core.setMeas_fc (c : Core) (n : Nat) (x : Meas) : (c.setMeas n x).fc = c.fc := rfl
@[simp] theorem Core.setMeas_chans (c : Core) (n : Nat) (x : Meas) : (c.setMeas n x).chans = c.chans := rfl
@[simp] theorem Core.setMeas_cans (c : Core) (n : Nat) (x : Meas) : (c.setMeas n x).cans = c.cans := rfl
@[simp] theorem Core.setMeas_fcLatch (c : Core) (n : Nat) (x : Meas) : (c.setMeas n x).fcLatch = c.fcLatch := rfl
@[simp] theorem Core.setMeas_engs (c : Core) (n : Nat) (x : Meas) : (c.setMeas n x).engs = c.engs := rfl
@[simp] theorem Core.setMeas_disc (c : Core) (n : Nat) (x : Meas) : (c.setMeas n x).disc = c.disc := rfl
@[simp] theorem Core.setMeas_map (c : Core) (n : Nat) (x : Meas) : (c.setMeas n x).map = c.map := rfl
@[simp] theorem Core.setMeas_fab (c : Core) (n : Nat) (x : Meas) : (c.setMeas n x).fab = c.fab := rfl
@[simp] theorem Core.setMeas_lhp (c : Core) (n : Nat) (x : Meas) : (c.setMeas n x).lhp = c.lhp := rfl
@[simp] theorem Core.setMeas_twin (c : Core) (n : Nat) (x : Meas) : (c.setMeas n x).twin = c.twin := rfl
@[simp] theorem Core.setMeas_pwr (c : Core) (n : Nat) (x : Meas) : (c.setMeas n x).pwr = c.pwr := rfl
@[simp] theorem Core.setMeas_log (c : Core) (n : Nat) (x : Meas) : (c.setMeas n x).log = c.log := rfl
@[simp] theorem Core.setMeas_mgmt (c : Core) (n : Nat) (x : Meas) : (c.setMeas n x).mgmt = c.mgmt := rfl
@[simp] theorem Core.setMeas_test (c : Core) (n : Nat) (x : Meas) : (c.setMeas n x).test = c.test := rfl
@[simp] theorem Core.setMeas_jtag (c : Core) (n : Nat) (x : Meas) : (c.setMeas n x).jtag = c.jtag := rfl

/-! setRail changes `pwr` alone. -/

@[simp] theorem Core.setRail_free (c : Core) (n : Nat) (x : Rail) : (c.setRail n x).free = c.free := rfl
@[simp] theorem Core.setRail_regs (c : Core) (n : Nat) (x : Rail) : (c.setRail n x).regs = c.regs := rfl
@[simp] theorem Core.setRail_blobs (c : Core) (n : Nat) (x : Rail) : (c.setRail n x).blobs = c.blobs := rfl
@[simp] theorem Core.setRail_inForce (c : Core) (n : Nat) (x : Rail) : (c.setRail n x).inForce = c.inForce := rfl
@[simp] theorem Core.setRail_time (c : Core) (n : Nat) (x : Rail) : (c.setRail n x).time = c.time := rfl
@[simp] theorem Core.setRail_ev (c : Core) (n : Nat) (x : Rail) : (c.setRail n x).ev = c.ev := rfl
@[simp] theorem Core.setRail_sched (c : Core) (n : Nat) (x : Rail) : (c.setRail n x).sched = c.sched := rfl
@[simp] theorem Core.setRail_node (c : Core) (n : Nat) (x : Rail) : (c.setRail n x).node = c.node := rfl
@[simp] theorem Core.setRail_dict (c : Core) (n : Nat) (x : Rail) : (c.setRail n x).dict = c.dict := rfl
@[simp] theorem Core.setRail_ring (c : Core) (n : Nat) (x : Rail) : (c.setRail n x).ring = c.ring := rfl
@[simp] theorem Core.setRail_fwd (c : Core) (n : Nat) (x : Rail) : (c.setRail n x).fwd = c.fwd := rfl
@[simp] theorem Core.setRail_sw (c : Core) (n : Nat) (x : Rail) : (c.setRail n x).sw = c.sw := rfl
@[simp] theorem Core.setRail_integ (c : Core) (n : Nat) (x : Rail) : (c.setRail n x).integ = c.integ := rfl
@[simp] theorem Core.setRail_fc (c : Core) (n : Nat) (x : Rail) : (c.setRail n x).fc = c.fc := rfl
@[simp] theorem Core.setRail_chans (c : Core) (n : Nat) (x : Rail) : (c.setRail n x).chans = c.chans := rfl
@[simp] theorem Core.setRail_cans (c : Core) (n : Nat) (x : Rail) : (c.setRail n x).cans = c.cans := rfl
@[simp] theorem Core.setRail_fcLatch (c : Core) (n : Nat) (x : Rail) : (c.setRail n x).fcLatch = c.fcLatch := rfl
@[simp] theorem Core.setRail_engs (c : Core) (n : Nat) (x : Rail) : (c.setRail n x).engs = c.engs := rfl
@[simp] theorem Core.setRail_disc (c : Core) (n : Nat) (x : Rail) : (c.setRail n x).disc = c.disc := rfl
@[simp] theorem Core.setRail_meas (c : Core) (n : Nat) (x : Rail) : (c.setRail n x).meas = c.meas := rfl
@[simp] theorem Core.setRail_map (c : Core) (n : Nat) (x : Rail) : (c.setRail n x).map = c.map := rfl
@[simp] theorem Core.setRail_fab (c : Core) (n : Nat) (x : Rail) : (c.setRail n x).fab = c.fab := rfl
@[simp] theorem Core.setRail_lhp (c : Core) (n : Nat) (x : Rail) : (c.setRail n x).lhp = c.lhp := rfl
@[simp] theorem Core.setRail_twin (c : Core) (n : Nat) (x : Rail) : (c.setRail n x).twin = c.twin := rfl
@[simp] theorem Core.setRail_log (c : Core) (n : Nat) (x : Rail) : (c.setRail n x).log = c.log := rfl
@[simp] theorem Core.setRail_mgmt (c : Core) (n : Nat) (x : Rail) : (c.setRail n x).mgmt = c.mgmt := rfl
@[simp] theorem Core.setRail_test (c : Core) (n : Nat) (x : Rail) : (c.setRail n x).test = c.test := rfl
@[simp] theorem Core.setRail_jtag (c : Core) (n : Nat) (x : Rail) : (c.setRail n x).jtag = c.jtag := rfl

/-! setMover changes `fab` alone. -/

@[simp] theorem Core.setMover_free (c : Core) (n : Nat) (x : Mover) : (c.setMover n x).free = c.free := rfl
@[simp] theorem Core.setMover_regs (c : Core) (n : Nat) (x : Mover) : (c.setMover n x).regs = c.regs := rfl
@[simp] theorem Core.setMover_blobs (c : Core) (n : Nat) (x : Mover) : (c.setMover n x).blobs = c.blobs := rfl
@[simp] theorem Core.setMover_inForce (c : Core) (n : Nat) (x : Mover) : (c.setMover n x).inForce = c.inForce := rfl
@[simp] theorem Core.setMover_time (c : Core) (n : Nat) (x : Mover) : (c.setMover n x).time = c.time := rfl
@[simp] theorem Core.setMover_ev (c : Core) (n : Nat) (x : Mover) : (c.setMover n x).ev = c.ev := rfl
@[simp] theorem Core.setMover_sched (c : Core) (n : Nat) (x : Mover) : (c.setMover n x).sched = c.sched := rfl
@[simp] theorem Core.setMover_node (c : Core) (n : Nat) (x : Mover) : (c.setMover n x).node = c.node := rfl
@[simp] theorem Core.setMover_dict (c : Core) (n : Nat) (x : Mover) : (c.setMover n x).dict = c.dict := rfl
@[simp] theorem Core.setMover_ring (c : Core) (n : Nat) (x : Mover) : (c.setMover n x).ring = c.ring := rfl
@[simp] theorem Core.setMover_fwd (c : Core) (n : Nat) (x : Mover) : (c.setMover n x).fwd = c.fwd := rfl
@[simp] theorem Core.setMover_sw (c : Core) (n : Nat) (x : Mover) : (c.setMover n x).sw = c.sw := rfl
@[simp] theorem Core.setMover_integ (c : Core) (n : Nat) (x : Mover) : (c.setMover n x).integ = c.integ := rfl
@[simp] theorem Core.setMover_fc (c : Core) (n : Nat) (x : Mover) : (c.setMover n x).fc = c.fc := rfl
@[simp] theorem Core.setMover_chans (c : Core) (n : Nat) (x : Mover) : (c.setMover n x).chans = c.chans := rfl
@[simp] theorem Core.setMover_cans (c : Core) (n : Nat) (x : Mover) : (c.setMover n x).cans = c.cans := rfl
@[simp] theorem Core.setMover_fcLatch (c : Core) (n : Nat) (x : Mover) : (c.setMover n x).fcLatch = c.fcLatch := rfl
@[simp] theorem Core.setMover_engs (c : Core) (n : Nat) (x : Mover) : (c.setMover n x).engs = c.engs := rfl
@[simp] theorem Core.setMover_disc (c : Core) (n : Nat) (x : Mover) : (c.setMover n x).disc = c.disc := rfl
@[simp] theorem Core.setMover_meas (c : Core) (n : Nat) (x : Mover) : (c.setMover n x).meas = c.meas := rfl
@[simp] theorem Core.setMover_map (c : Core) (n : Nat) (x : Mover) : (c.setMover n x).map = c.map := rfl
@[simp] theorem Core.setMover_lhp (c : Core) (n : Nat) (x : Mover) : (c.setMover n x).lhp = c.lhp := rfl
@[simp] theorem Core.setMover_twin (c : Core) (n : Nat) (x : Mover) : (c.setMover n x).twin = c.twin := rfl
@[simp] theorem Core.setMover_pwr (c : Core) (n : Nat) (x : Mover) : (c.setMover n x).pwr = c.pwr := rfl
@[simp] theorem Core.setMover_log (c : Core) (n : Nat) (x : Mover) : (c.setMover n x).log = c.log := rfl
@[simp] theorem Core.setMover_mgmt (c : Core) (n : Nat) (x : Mover) : (c.setMover n x).mgmt = c.mgmt := rfl
@[simp] theorem Core.setMover_test (c : Core) (n : Nat) (x : Mover) : (c.setMover n x).test = c.test := rfl
@[simp] theorem Core.setMover_jtag (c : Core) (n : Nat) (x : Mover) : (c.setMover n x).jtag = c.jtag := rfl

/-! setLane changes `twin` alone. -/

@[simp] theorem Core.setLane_free (c : Core) (n : Nat) (x : TwLane) : (c.setLane n x).free = c.free := rfl
@[simp] theorem Core.setLane_regs (c : Core) (n : Nat) (x : TwLane) : (c.setLane n x).regs = c.regs := rfl
@[simp] theorem Core.setLane_blobs (c : Core) (n : Nat) (x : TwLane) : (c.setLane n x).blobs = c.blobs := rfl
@[simp] theorem Core.setLane_inForce (c : Core) (n : Nat) (x : TwLane) : (c.setLane n x).inForce = c.inForce := rfl
@[simp] theorem Core.setLane_time (c : Core) (n : Nat) (x : TwLane) : (c.setLane n x).time = c.time := rfl
@[simp] theorem Core.setLane_ev (c : Core) (n : Nat) (x : TwLane) : (c.setLane n x).ev = c.ev := rfl
@[simp] theorem Core.setLane_sched (c : Core) (n : Nat) (x : TwLane) : (c.setLane n x).sched = c.sched := rfl
@[simp] theorem Core.setLane_node (c : Core) (n : Nat) (x : TwLane) : (c.setLane n x).node = c.node := rfl
@[simp] theorem Core.setLane_dict (c : Core) (n : Nat) (x : TwLane) : (c.setLane n x).dict = c.dict := rfl
@[simp] theorem Core.setLane_ring (c : Core) (n : Nat) (x : TwLane) : (c.setLane n x).ring = c.ring := rfl
@[simp] theorem Core.setLane_fwd (c : Core) (n : Nat) (x : TwLane) : (c.setLane n x).fwd = c.fwd := rfl
@[simp] theorem Core.setLane_sw (c : Core) (n : Nat) (x : TwLane) : (c.setLane n x).sw = c.sw := rfl
@[simp] theorem Core.setLane_integ (c : Core) (n : Nat) (x : TwLane) : (c.setLane n x).integ = c.integ := rfl
@[simp] theorem Core.setLane_fc (c : Core) (n : Nat) (x : TwLane) : (c.setLane n x).fc = c.fc := rfl
@[simp] theorem Core.setLane_chans (c : Core) (n : Nat) (x : TwLane) : (c.setLane n x).chans = c.chans := rfl
@[simp] theorem Core.setLane_cans (c : Core) (n : Nat) (x : TwLane) : (c.setLane n x).cans = c.cans := rfl
@[simp] theorem Core.setLane_fcLatch (c : Core) (n : Nat) (x : TwLane) : (c.setLane n x).fcLatch = c.fcLatch := rfl
@[simp] theorem Core.setLane_engs (c : Core) (n : Nat) (x : TwLane) : (c.setLane n x).engs = c.engs := rfl
@[simp] theorem Core.setLane_disc (c : Core) (n : Nat) (x : TwLane) : (c.setLane n x).disc = c.disc := rfl
@[simp] theorem Core.setLane_meas (c : Core) (n : Nat) (x : TwLane) : (c.setLane n x).meas = c.meas := rfl
@[simp] theorem Core.setLane_map (c : Core) (n : Nat) (x : TwLane) : (c.setLane n x).map = c.map := rfl
@[simp] theorem Core.setLane_fab (c : Core) (n : Nat) (x : TwLane) : (c.setLane n x).fab = c.fab := rfl
@[simp] theorem Core.setLane_lhp (c : Core) (n : Nat) (x : TwLane) : (c.setLane n x).lhp = c.lhp := rfl
@[simp] theorem Core.setLane_pwr (c : Core) (n : Nat) (x : TwLane) : (c.setLane n x).pwr = c.pwr := rfl
@[simp] theorem Core.setLane_log (c : Core) (n : Nat) (x : TwLane) : (c.setLane n x).log = c.log := rfl
@[simp] theorem Core.setLane_mgmt (c : Core) (n : Nat) (x : TwLane) : (c.setLane n x).mgmt = c.mgmt := rfl
@[simp] theorem Core.setLane_test (c : Core) (n : Nat) (x : TwLane) : (c.setLane n x).test = c.test := rfl
@[simp] theorem Core.setLane_jtag (c : Core) (n : Nat) (x : TwLane) : (c.setLane n x).jtag = c.jtag := rfl

/-! setFi changes `fc` and `regs` alone. -/

@[simp] theorem Core.setFi_free (c : Core) (n : Nat) (x : FaultInput) : (c.setFi n x).free = c.free := rfl
@[simp] theorem Core.setFi_blobs (c : Core) (n : Nat) (x : FaultInput) : (c.setFi n x).blobs = c.blobs := rfl
@[simp] theorem Core.setFi_inForce (c : Core) (n : Nat) (x : FaultInput) : (c.setFi n x).inForce = c.inForce := rfl
@[simp] theorem Core.setFi_time (c : Core) (n : Nat) (x : FaultInput) : (c.setFi n x).time = c.time := rfl
@[simp] theorem Core.setFi_ev (c : Core) (n : Nat) (x : FaultInput) : (c.setFi n x).ev = c.ev := rfl
@[simp] theorem Core.setFi_sched (c : Core) (n : Nat) (x : FaultInput) : (c.setFi n x).sched = c.sched := rfl
@[simp] theorem Core.setFi_node (c : Core) (n : Nat) (x : FaultInput) : (c.setFi n x).node = c.node := rfl
@[simp] theorem Core.setFi_dict (c : Core) (n : Nat) (x : FaultInput) : (c.setFi n x).dict = c.dict := rfl
@[simp] theorem Core.setFi_ring (c : Core) (n : Nat) (x : FaultInput) : (c.setFi n x).ring = c.ring := rfl
@[simp] theorem Core.setFi_fwd (c : Core) (n : Nat) (x : FaultInput) : (c.setFi n x).fwd = c.fwd := rfl
@[simp] theorem Core.setFi_sw (c : Core) (n : Nat) (x : FaultInput) : (c.setFi n x).sw = c.sw := rfl
@[simp] theorem Core.setFi_integ (c : Core) (n : Nat) (x : FaultInput) : (c.setFi n x).integ = c.integ := rfl
@[simp] theorem Core.setFi_chans (c : Core) (n : Nat) (x : FaultInput) : (c.setFi n x).chans = c.chans := rfl
@[simp] theorem Core.setFi_cans (c : Core) (n : Nat) (x : FaultInput) : (c.setFi n x).cans = c.cans := rfl
@[simp] theorem Core.setFi_fcLatch (c : Core) (n : Nat) (x : FaultInput) : (c.setFi n x).fcLatch = c.fcLatch := rfl
@[simp] theorem Core.setFi_engs (c : Core) (n : Nat) (x : FaultInput) : (c.setFi n x).engs = c.engs := rfl
@[simp] theorem Core.setFi_disc (c : Core) (n : Nat) (x : FaultInput) : (c.setFi n x).disc = c.disc := rfl
@[simp] theorem Core.setFi_meas (c : Core) (n : Nat) (x : FaultInput) : (c.setFi n x).meas = c.meas := rfl
@[simp] theorem Core.setFi_map (c : Core) (n : Nat) (x : FaultInput) : (c.setFi n x).map = c.map := rfl
@[simp] theorem Core.setFi_fab (c : Core) (n : Nat) (x : FaultInput) : (c.setFi n x).fab = c.fab := rfl
@[simp] theorem Core.setFi_lhp (c : Core) (n : Nat) (x : FaultInput) : (c.setFi n x).lhp = c.lhp := rfl
@[simp] theorem Core.setFi_twin (c : Core) (n : Nat) (x : FaultInput) : (c.setFi n x).twin = c.twin := rfl
@[simp] theorem Core.setFi_pwr (c : Core) (n : Nat) (x : FaultInput) : (c.setFi n x).pwr = c.pwr := rfl
@[simp] theorem Core.setFi_log (c : Core) (n : Nat) (x : FaultInput) : (c.setFi n x).log = c.log := rfl
@[simp] theorem Core.setFi_mgmt (c : Core) (n : Nat) (x : FaultInput) : (c.setFi n x).mgmt = c.mgmt := rfl
@[simp] theorem Core.setFi_test (c : Core) (n : Nat) (x : FaultInput) : (c.setFi n x).test = c.test := rfl
@[simp] theorem Core.setFi_jtag (c : Core) (n : Nat) (x : FaultInput) : (c.setFi n x).jtag = c.jtag := rfl

/-! setPeer changes `time` alone. -/

@[simp] theorem Core.setPeer_free (c : Core) (n : Nat) (x : PeerPort) : (c.setPeer n x).free = c.free := rfl
@[simp] theorem Core.setPeer_regs (c : Core) (n : Nat) (x : PeerPort) : (c.setPeer n x).regs = c.regs := rfl
@[simp] theorem Core.setPeer_blobs (c : Core) (n : Nat) (x : PeerPort) : (c.setPeer n x).blobs = c.blobs := rfl
@[simp] theorem Core.setPeer_inForce (c : Core) (n : Nat) (x : PeerPort) : (c.setPeer n x).inForce = c.inForce := rfl
@[simp] theorem Core.setPeer_ev (c : Core) (n : Nat) (x : PeerPort) : (c.setPeer n x).ev = c.ev := rfl
@[simp] theorem Core.setPeer_sched (c : Core) (n : Nat) (x : PeerPort) : (c.setPeer n x).sched = c.sched := rfl
@[simp] theorem Core.setPeer_node (c : Core) (n : Nat) (x : PeerPort) : (c.setPeer n x).node = c.node := rfl
@[simp] theorem Core.setPeer_dict (c : Core) (n : Nat) (x : PeerPort) : (c.setPeer n x).dict = c.dict := rfl
@[simp] theorem Core.setPeer_ring (c : Core) (n : Nat) (x : PeerPort) : (c.setPeer n x).ring = c.ring := rfl
@[simp] theorem Core.setPeer_fwd (c : Core) (n : Nat) (x : PeerPort) : (c.setPeer n x).fwd = c.fwd := rfl
@[simp] theorem Core.setPeer_sw (c : Core) (n : Nat) (x : PeerPort) : (c.setPeer n x).sw = c.sw := rfl
@[simp] theorem Core.setPeer_integ (c : Core) (n : Nat) (x : PeerPort) : (c.setPeer n x).integ = c.integ := rfl
@[simp] theorem Core.setPeer_fc (c : Core) (n : Nat) (x : PeerPort) : (c.setPeer n x).fc = c.fc := rfl
@[simp] theorem Core.setPeer_chans (c : Core) (n : Nat) (x : PeerPort) : (c.setPeer n x).chans = c.chans := rfl
@[simp] theorem Core.setPeer_cans (c : Core) (n : Nat) (x : PeerPort) : (c.setPeer n x).cans = c.cans := rfl
@[simp] theorem Core.setPeer_fcLatch (c : Core) (n : Nat) (x : PeerPort) : (c.setPeer n x).fcLatch = c.fcLatch := rfl
@[simp] theorem Core.setPeer_engs (c : Core) (n : Nat) (x : PeerPort) : (c.setPeer n x).engs = c.engs := rfl
@[simp] theorem Core.setPeer_disc (c : Core) (n : Nat) (x : PeerPort) : (c.setPeer n x).disc = c.disc := rfl
@[simp] theorem Core.setPeer_meas (c : Core) (n : Nat) (x : PeerPort) : (c.setPeer n x).meas = c.meas := rfl
@[simp] theorem Core.setPeer_map (c : Core) (n : Nat) (x : PeerPort) : (c.setPeer n x).map = c.map := rfl
@[simp] theorem Core.setPeer_fab (c : Core) (n : Nat) (x : PeerPort) : (c.setPeer n x).fab = c.fab := rfl
@[simp] theorem Core.setPeer_lhp (c : Core) (n : Nat) (x : PeerPort) : (c.setPeer n x).lhp = c.lhp := rfl
@[simp] theorem Core.setPeer_twin (c : Core) (n : Nat) (x : PeerPort) : (c.setPeer n x).twin = c.twin := rfl
@[simp] theorem Core.setPeer_pwr (c : Core) (n : Nat) (x : PeerPort) : (c.setPeer n x).pwr = c.pwr := rfl
@[simp] theorem Core.setPeer_log (c : Core) (n : Nat) (x : PeerPort) : (c.setPeer n x).log = c.log := rfl
@[simp] theorem Core.setPeer_mgmt (c : Core) (n : Nat) (x : PeerPort) : (c.setPeer n x).mgmt = c.mgmt := rfl
@[simp] theorem Core.setPeer_test (c : Core) (n : Nat) (x : PeerPort) : (c.setPeer n x).test = c.test := rfl
@[simp] theorem Core.setPeer_jtag (c : Core) (n : Nat) (x : PeerPort) : (c.setPeer n x).jtag = c.jtag := rfl

/-! setSession changes `dict` alone. -/

@[simp] theorem Core.setSession_free (c : Core) (n : Nat) (x : Session) : (c.setSession n x).free = c.free := rfl
@[simp] theorem Core.setSession_regs (c : Core) (n : Nat) (x : Session) : (c.setSession n x).regs = c.regs := rfl
@[simp] theorem Core.setSession_blobs (c : Core) (n : Nat) (x : Session) : (c.setSession n x).blobs = c.blobs := rfl
@[simp] theorem Core.setSession_inForce (c : Core) (n : Nat) (x : Session) : (c.setSession n x).inForce = c.inForce := rfl
@[simp] theorem Core.setSession_time (c : Core) (n : Nat) (x : Session) : (c.setSession n x).time = c.time := rfl
@[simp] theorem Core.setSession_ev (c : Core) (n : Nat) (x : Session) : (c.setSession n x).ev = c.ev := rfl
@[simp] theorem Core.setSession_sched (c : Core) (n : Nat) (x : Session) : (c.setSession n x).sched = c.sched := rfl
@[simp] theorem Core.setSession_node (c : Core) (n : Nat) (x : Session) : (c.setSession n x).node = c.node := rfl
@[simp] theorem Core.setSession_ring (c : Core) (n : Nat) (x : Session) : (c.setSession n x).ring = c.ring := rfl
@[simp] theorem Core.setSession_fwd (c : Core) (n : Nat) (x : Session) : (c.setSession n x).fwd = c.fwd := rfl
@[simp] theorem Core.setSession_sw (c : Core) (n : Nat) (x : Session) : (c.setSession n x).sw = c.sw := rfl
@[simp] theorem Core.setSession_integ (c : Core) (n : Nat) (x : Session) : (c.setSession n x).integ = c.integ := rfl
@[simp] theorem Core.setSession_fc (c : Core) (n : Nat) (x : Session) : (c.setSession n x).fc = c.fc := rfl
@[simp] theorem Core.setSession_chans (c : Core) (n : Nat) (x : Session) : (c.setSession n x).chans = c.chans := rfl
@[simp] theorem Core.setSession_cans (c : Core) (n : Nat) (x : Session) : (c.setSession n x).cans = c.cans := rfl
@[simp] theorem Core.setSession_fcLatch (c : Core) (n : Nat) (x : Session) : (c.setSession n x).fcLatch = c.fcLatch := rfl
@[simp] theorem Core.setSession_engs (c : Core) (n : Nat) (x : Session) : (c.setSession n x).engs = c.engs := rfl
@[simp] theorem Core.setSession_disc (c : Core) (n : Nat) (x : Session) : (c.setSession n x).disc = c.disc := rfl
@[simp] theorem Core.setSession_meas (c : Core) (n : Nat) (x : Session) : (c.setSession n x).meas = c.meas := rfl
@[simp] theorem Core.setSession_map (c : Core) (n : Nat) (x : Session) : (c.setSession n x).map = c.map := rfl
@[simp] theorem Core.setSession_fab (c : Core) (n : Nat) (x : Session) : (c.setSession n x).fab = c.fab := rfl
@[simp] theorem Core.setSession_lhp (c : Core) (n : Nat) (x : Session) : (c.setSession n x).lhp = c.lhp := rfl
@[simp] theorem Core.setSession_twin (c : Core) (n : Nat) (x : Session) : (c.setSession n x).twin = c.twin := rfl
@[simp] theorem Core.setSession_pwr (c : Core) (n : Nat) (x : Session) : (c.setSession n x).pwr = c.pwr := rfl
@[simp] theorem Core.setSession_log (c : Core) (n : Nat) (x : Session) : (c.setSession n x).log = c.log := rfl
@[simp] theorem Core.setSession_mgmt (c : Core) (n : Nat) (x : Session) : (c.setSession n x).mgmt = c.mgmt := rfl
@[simp] theorem Core.setSession_test (c : Core) (n : Nat) (x : Session) : (c.setSession n x).test = c.test := rfl
@[simp] theorem Core.setSession_jtag (c : Core) (n : Nat) (x : Session) : (c.setSession n x).jtag = c.jtag := rfl

/-! setStLane changes `test` and `regs` alone. -/

@[simp] theorem Core.setStLane_free (c : Core) (n : Nat) (x : StLane) : (c.setStLane n x).free = c.free := rfl
@[simp] theorem Core.setStLane_blobs (c : Core) (n : Nat) (x : StLane) : (c.setStLane n x).blobs = c.blobs := rfl
@[simp] theorem Core.setStLane_inForce (c : Core) (n : Nat) (x : StLane) : (c.setStLane n x).inForce = c.inForce := rfl
@[simp] theorem Core.setStLane_time (c : Core) (n : Nat) (x : StLane) : (c.setStLane n x).time = c.time := rfl
@[simp] theorem Core.setStLane_ev (c : Core) (n : Nat) (x : StLane) : (c.setStLane n x).ev = c.ev := rfl
@[simp] theorem Core.setStLane_sched (c : Core) (n : Nat) (x : StLane) : (c.setStLane n x).sched = c.sched := rfl
@[simp] theorem Core.setStLane_node (c : Core) (n : Nat) (x : StLane) : (c.setStLane n x).node = c.node := rfl
@[simp] theorem Core.setStLane_dict (c : Core) (n : Nat) (x : StLane) : (c.setStLane n x).dict = c.dict := rfl
@[simp] theorem Core.setStLane_ring (c : Core) (n : Nat) (x : StLane) : (c.setStLane n x).ring = c.ring := rfl
@[simp] theorem Core.setStLane_fwd (c : Core) (n : Nat) (x : StLane) : (c.setStLane n x).fwd = c.fwd := rfl
@[simp] theorem Core.setStLane_sw (c : Core) (n : Nat) (x : StLane) : (c.setStLane n x).sw = c.sw := rfl
@[simp] theorem Core.setStLane_integ (c : Core) (n : Nat) (x : StLane) : (c.setStLane n x).integ = c.integ := rfl
@[simp] theorem Core.setStLane_fc (c : Core) (n : Nat) (x : StLane) : (c.setStLane n x).fc = c.fc := rfl
@[simp] theorem Core.setStLane_chans (c : Core) (n : Nat) (x : StLane) : (c.setStLane n x).chans = c.chans := rfl
@[simp] theorem Core.setStLane_cans (c : Core) (n : Nat) (x : StLane) : (c.setStLane n x).cans = c.cans := rfl
@[simp] theorem Core.setStLane_fcLatch (c : Core) (n : Nat) (x : StLane) : (c.setStLane n x).fcLatch = c.fcLatch := rfl
@[simp] theorem Core.setStLane_engs (c : Core) (n : Nat) (x : StLane) : (c.setStLane n x).engs = c.engs := rfl
@[simp] theorem Core.setStLane_disc (c : Core) (n : Nat) (x : StLane) : (c.setStLane n x).disc = c.disc := rfl
@[simp] theorem Core.setStLane_meas (c : Core) (n : Nat) (x : StLane) : (c.setStLane n x).meas = c.meas := rfl
@[simp] theorem Core.setStLane_map (c : Core) (n : Nat) (x : StLane) : (c.setStLane n x).map = c.map := rfl
@[simp] theorem Core.setStLane_fab (c : Core) (n : Nat) (x : StLane) : (c.setStLane n x).fab = c.fab := rfl
@[simp] theorem Core.setStLane_lhp (c : Core) (n : Nat) (x : StLane) : (c.setStLane n x).lhp = c.lhp := rfl
@[simp] theorem Core.setStLane_twin (c : Core) (n : Nat) (x : StLane) : (c.setStLane n x).twin = c.twin := rfl
@[simp] theorem Core.setStLane_pwr (c : Core) (n : Nat) (x : StLane) : (c.setStLane n x).pwr = c.pwr := rfl
@[simp] theorem Core.setStLane_log (c : Core) (n : Nat) (x : StLane) : (c.setStLane n x).log = c.log := rfl
@[simp] theorem Core.setStLane_mgmt (c : Core) (n : Nat) (x : StLane) : (c.setStLane n x).mgmt = c.mgmt := rfl
@[simp] theorem Core.setStLane_jtag (c : Core) (n : Nat) (x : StLane) : (c.setStLane n x).jtag = c.jtag := rfl

/-! setCycle changes `lhp` alone. -/

@[simp] theorem Core.setCycle_free (c : Core) (x : Option HostCycle) : (c.setCycle x).free = c.free := rfl
@[simp] theorem Core.setCycle_regs (c : Core) (x : Option HostCycle) : (c.setCycle x).regs = c.regs := rfl
@[simp] theorem Core.setCycle_blobs (c : Core) (x : Option HostCycle) : (c.setCycle x).blobs = c.blobs := rfl
@[simp] theorem Core.setCycle_inForce (c : Core) (x : Option HostCycle) : (c.setCycle x).inForce = c.inForce := rfl
@[simp] theorem Core.setCycle_time (c : Core) (x : Option HostCycle) : (c.setCycle x).time = c.time := rfl
@[simp] theorem Core.setCycle_ev (c : Core) (x : Option HostCycle) : (c.setCycle x).ev = c.ev := rfl
@[simp] theorem Core.setCycle_sched (c : Core) (x : Option HostCycle) : (c.setCycle x).sched = c.sched := rfl
@[simp] theorem Core.setCycle_node (c : Core) (x : Option HostCycle) : (c.setCycle x).node = c.node := rfl
@[simp] theorem Core.setCycle_dict (c : Core) (x : Option HostCycle) : (c.setCycle x).dict = c.dict := rfl
@[simp] theorem Core.setCycle_ring (c : Core) (x : Option HostCycle) : (c.setCycle x).ring = c.ring := rfl
@[simp] theorem Core.setCycle_fwd (c : Core) (x : Option HostCycle) : (c.setCycle x).fwd = c.fwd := rfl
@[simp] theorem Core.setCycle_sw (c : Core) (x : Option HostCycle) : (c.setCycle x).sw = c.sw := rfl
@[simp] theorem Core.setCycle_integ (c : Core) (x : Option HostCycle) : (c.setCycle x).integ = c.integ := rfl
@[simp] theorem Core.setCycle_fc (c : Core) (x : Option HostCycle) : (c.setCycle x).fc = c.fc := rfl
@[simp] theorem Core.setCycle_chans (c : Core) (x : Option HostCycle) : (c.setCycle x).chans = c.chans := rfl
@[simp] theorem Core.setCycle_cans (c : Core) (x : Option HostCycle) : (c.setCycle x).cans = c.cans := rfl
@[simp] theorem Core.setCycle_fcLatch (c : Core) (x : Option HostCycle) : (c.setCycle x).fcLatch = c.fcLatch := rfl
@[simp] theorem Core.setCycle_engs (c : Core) (x : Option HostCycle) : (c.setCycle x).engs = c.engs := rfl
@[simp] theorem Core.setCycle_disc (c : Core) (x : Option HostCycle) : (c.setCycle x).disc = c.disc := rfl
@[simp] theorem Core.setCycle_meas (c : Core) (x : Option HostCycle) : (c.setCycle x).meas = c.meas := rfl
@[simp] theorem Core.setCycle_map (c : Core) (x : Option HostCycle) : (c.setCycle x).map = c.map := rfl
@[simp] theorem Core.setCycle_fab (c : Core) (x : Option HostCycle) : (c.setCycle x).fab = c.fab := rfl
@[simp] theorem Core.setCycle_twin (c : Core) (x : Option HostCycle) : (c.setCycle x).twin = c.twin := rfl
@[simp] theorem Core.setCycle_pwr (c : Core) (x : Option HostCycle) : (c.setCycle x).pwr = c.pwr := rfl
@[simp] theorem Core.setCycle_log (c : Core) (x : Option HostCycle) : (c.setCycle x).log = c.log := rfl
@[simp] theorem Core.setCycle_mgmt (c : Core) (x : Option HostCycle) : (c.setCycle x).mgmt = c.mgmt := rfl
@[simp] theorem Core.setCycle_test (c : Core) (x : Option HostCycle) : (c.setCycle x).test = c.test := rfl
@[simp] theorem Core.setCycle_jtag (c : Core) (x : Option HostCycle) : (c.setCycle x).jtag = c.jtag := rfl

/-! The lifts. -/

/-- A command that changes the core alone answers a next state with the same queue and memory. -/
theorem onCore_next (f : Core → Core) (s : State) : onCore f s = .next { s with core := f s.core } := rfl

/-- A command that reads memory answers a next state with the same queue and memory. -/
theorem onRead_next (f : Memory → Core → Core) (s : State) : onRead f s = .next { s with core := f s.mem s.core } := rfl

/-- A command that may store to memory answers a next state with the same queue. -/
theorem onMem_next (f : Memory → Core → Memory × Core) (s : State) :
    onMem f s = .next { s with mem := (f s.mem s.core).1, core := (f s.mem s.core).2 } := rfl

end Sys2Proof.Machine
end

