-- ==== Sys2Proof/Laws/Reports.lean ====
section
/-! SUPPORT. What writing an event, a log entry or a report, clearing a condition, refreshing MODE and originating a frame may
change at all: the queues and logs, the switch's new frames, the twin link's records and the registers of `reportKeys`. All
else stays, so that no proof follows a report any further. -/

namespace Sys2Proof.Machine

/-- A core without what reports may change. -/
def Core.calm (c : Core) : Core :=
  { c with
    regs := [], ev := {}, log := {}
    fc := { c.fc with arrivals := [], queue := [], lostBefore := false, first := none, active := [], slots := [] }
    fwd := { c.fwd with seqs := [], tracker := [] }
    sw := { c.sw with seeking := [], nextId := 0, srcKeys := [] }
    twin := { c.twin with lanes := [], occs := [], nextNumber := 0, waiting := [], granting := [] } }

/-- d differs from c only in what reports may change, and no escalation timer has started. -/
def Core.Keeps (c d : Core) : Prop :=
  d.calm = c.calm ∧ (∀ k, k ∉ reportKeys → d.reg k = c.reg k) ∧ (c.noTimer = true → d.noTimer = true)

theorem Core.keeps_refl (c : Core) : c.Keeps c := ⟨rfl, fun _ _ => rfl, id⟩

theorem Core.Keeps.trans {a b c : Core} (h : a.Keeps b) (g : b.Keeps c) : a.Keeps c :=
  ⟨g.1.trans h.1, fun k hk => (g.2.1 k hk).trans (h.2.1 k hk), fun t => g.2.2 (h.2.2 t)⟩

theorem Core.keeps_setReg (c : Core) {k : Nat} (v : Nat) (h : k ∈ reportKeys) : c.Keeps (c.setReg k v) :=
  ⟨rfl, fun j hj => by rw [Core.reg_setReg, if_neg (by rintro rfl; exact hj h)], id⟩

theorem Core.keeps_inc (c : Core) {k : Nat} (h : k ∈ reportKeys) : c.Keeps (c.inc k) := c.keeps_setReg _ h

/-- Two steps that change only what reports may change, in a row. -/
theorem Core.Keeps.setReg {a c : Core} (g : a.Keeps c) {k : Nat} (v : Nat) (h : k ∈ reportKeys) : a.Keeps (c.setReg k v) :=
  g.trans (c.keeps_setReg v h)

theorem Core.Keeps.inc {a c : Core} (g : a.Keeps c) {k : Nat} (h : k ∈ reportKeys) : a.Keeps (c.inc k) :=
  g.trans (c.keeps_inc h)

/-- An update that neither the calm part nor a register sees. -/
theorem Core.Keeps.of_eq {a c d : Core} (g : a.Keeps c) (h : d.calm = c.calm) (r : d.regs = c.regs)
    (t : c.noTimer = true → d.noTimer = true := by exact id) : a.Keeps d :=
  ⟨h.trans g.1, fun k hk => by rw [← g.2.1 k hk]; simp [Core.reg, r], fun x => t (g.2.2 x)⟩

theorem Core.Keeps.setLog {a c : Core} (g : a.Keeps c) (l : LogState) : a.Keeps { c with log := l } := g.of_eq rfl rfl

theorem Core.Keeps.setFirst {a c : Core} (g : a.Keeps c) (r : Option FaultRec) :
    a.Keeps { c with fc := { c.fc with first := r } } := g.of_eq rfl rfl

theorem Core.Keeps.setActive {a c : Core} (g : a.Keeps c) (l : List Active) :
    a.Keeps { c with fc := { c.fc with active := l } } := g.of_eq rfl rfl

theorem Core.pushReport_keeps (c : Core) (a b d e : Nat) : c.Keeps (c.pushReport a b d e) := c.keeps_refl.of_eq rfl rfl

/-- LATE_CLOSE leaves the mark of a clear record as it was. -/
theorem bit_setBit_late (n : Nat) : bit (setBit n 5 true) 6 = bit n 6 := by
  simp only [bit, setBit, if_true, Nat.reducePow]
  congr 1
  omega

/-- So does LOST_BEFORE. -/
theorem bit_setBit_lost (n : Nat) (b : Bool) : bit (setBit n 3 b) 6 = bit n 6 := by
  cases b
  all_goals
    simp only [bit, setBit, if_true, Nat.reducePow, Bool.false_eq_true, if_false]
    congr 1
    omega

/-! Logs. -/

theorem Core.logWrite_keeps (c : Core) (r : LogRec) : c.Keeps (c.logWrite r) := by
  unfold Core.logWrite
  refine Core.Keeps.setReg (Core.Keeps.setReg ?_ _ (by decide)) _ (by decide)
  refine Core.Keeps.setLog ?_ _
  split
  · dsimp only
    have h := (c.keeps_refl.setLog { c.log with waiting := c.log.waiting - 1, lostBefore := true }).inc
      (k := Reg.CNT_LOG_LOST) (by decide)
    split
    · exact h
    · exact (h.setLog _).trans (Core.pushReport_keeps _ _ _ _ _)
  · exact c.keeps_refl

theorem Core.logAdd_keeps (c : Core) (r : LogRec) : c.Keeps (c.logAdd r) := by
  unfold Core.logAdd
  split
  · exact c.keeps_refl.of_eq rfl rfl
  · exact c.logWrite_keeps r

theorem Core.logEvent_keeps (c : Core) (r : EvRec) : c.Keeps (c.logEvent r) := by
  unfold Core.logEvent
  split
  · exact c.keeps_refl
  · exact c.logAdd_keeps _

theorem Core.logNote_keeps (c : Core) (kind : Nat) (b : Bytes) : c.Keeps (c.logNote kind b) := c.logAdd_keeps _

/-! The event queue. -/

theorem Core.putEvSlot_keeps (c : Core) (i : Nat) (r : EvRec) : c.Keeps (c.putEvSlot i r) := c.keeps_refl.of_eq rfl rfl

theorem Core.shiftEvents_keeps (c : Core) (v : Nat) : c.Keeps (c.shiftEvents v) := by
  unfold Core.shiftEvents
  generalize List.range (c.reg Reg.EVQ_COUNT - 1 - v) = l
  suffices h : ∀ (l : List Nat) (d : Core), c.Keeps d → c.Keeps (l.foldl (fun c j => { c with ev := { c.ev with
      slots := mapSet {} ((c.reg Reg.EVQ_RD + v + j) % 1024) (evSlot c (v + j + 1)) c.ev.slots } }) d) from
    h l c c.keeps_refl
  intro l
  induction l with
  | nil => intro d g; exact g
  | cons j l ih => intro d g; exact ih _ (g.of_eq rfl rfl)

theorem Core.placeEvent_keeps (c : Core) (r : EvRec) : c.Keeps (c.placeEvent r).1 := by
  unfold Core.placeEvent
  split
  · exact c.keeps_refl.of_eq rfl rfl
  · dsimp only
    split
    · refine Core.Keeps.setReg (Core.Keeps.setReg (Core.Keeps.of_eq ?_ rfl rfl) _ (by decide)) _ (by decide)
      exact (c.putEvSlot_keeps _ _).trans (Core.logEvent_keeps _ _)
    · have h : c.Keeps (c.inc Reg.EVQ_LOST) := c.keeps_inc (by decide)
      split
      · exact h.of_eq rfl rfl
      · split
        · exact h.of_eq rfl rfl
        · refine Core.Keeps.setReg (Core.Keeps.of_eq ?_ rfl rfl) _ (by decide)
          exact ((h.trans (Core.shiftEvents_keeps _ _)).trans (Core.putEvSlot_keeps _ _ _)).trans (Core.logEvent_keeps _ _)

theorem Core.placeAll_keeps (rs : List EvRec) : ∀ c : Core, c.Keeps (c.placeAll rs).1 := by
  induction rs with
  | nil => intro c; exact c.keeps_refl
  | cons r rs ih => intro c; exact (c.placeEvent_keeps r).trans (ih _)

/-! Frames of this node. -/

/-- A port that discards a frame is a ring port, and its counter is one of those that reports may change. -/
theorem Core.discarding_key {c : Core} {q : Nat} (h : c.discarding q = true) : Reg.FW_CNT_HOLD_FLUSH q ∈ reportKeys := by
  have hq : q < 4 := by
    simp only [Core.discarding, Bool.and_eq_true, Nat.blt_eq] at h
    exact h.1.1
  match q, hq with
  | 0, _ | 1, _ | 2, _ | 3, _ => simp [reportKeys]

theorem Core.submit_keeps (c : Core) (inp : Nat) (outs : List Nat) (f : Frame) : c.Keeps (c.submit inp outs f) := by
  have count : ∀ (l : List Nat) (d : Core), (∀ q ∈ l, Reg.FW_CNT_HOLD_FLUSH q ∈ reportKeys) → c.Keeps d →
      c.Keeps (l.foldl (fun c q => c.inc (Reg.FW_CNT_HOLD_FLUSH q)) d) := by
    intro l
    induction l with
    | nil => intro d _ g; exact g
    | cons q l ih => intro d h g; exact ih _ (fun x hx => h x (by simp [hx])) (g.inc (h q (by simp)))
  have g := count (outs.filter c.discarding) c (fun q hq => Core.discarding_key (List.mem_filter.mp hq).2) c.keeps_refl
  unfold Core.submit
  dsimp only
  split
  · exact g
  · exact g.of_eq rfl rfl

theorem Core.dedup_keeps (c : Core) (f : Frame) : c.Keeps (c.dedup f).2 := by
  have track : ∀ (d : Core) (t : List Track), c.Keeps d → c.Keeps (d.setTracker t) := fun d t g =>
    Core.Keeps.setReg (g.of_eq rfl rfl) _ (by simp [reportKeys])
  have count : ∀ k ∈ reportKeys, c.Keeps (c.inc k) := fun _ h => c.keeps_inc h
  unfold Core.dedup
  dsimp only
  split
  · split
    · exact count _ (by decide)
    · split
      · exact track _ _ c.keeps_refl
      · exact count _ (by decide)
  · split
    · exact track _ _ c.keeps_refl
    · exact track _ _ (count _ (by decide))

theorem Core.ownCopy_keeps (c : Core) (f : Frame) : c.Keeps (c.ownCopy f).2 := by
  unfold Core.ownCopy
  split
  · exact c.dedup_keeps f
  · exact c.keeps_refl

theorem Core.submitCross_keeps (c : Core) (inp : Nat) (outs : List Nat) (f : Frame) : c.Keeps (c.submitCross inp outs f) := by
  unfold Core.submitCross
  split
  · exact c.keeps_refl
  · exact c.submit_keeps _ _ _

theorem Core.sendAway_keeps (c : Core) (inp : Nat) (f : Frame) : c.Keeps (c.sendAway inp f) := by
  unfold Core.sendAway
  dsimp only
  repeat' split
  all_goals first
    | exact c.submitCross_keeps _ _ _
    | exact c.keeps_inc (by simp [reportKeys])
    | exact c.submit_keeps _ _ _

theorem Core.toRing_keeps (c : Core) (inp : Nat) (f : Frame) : c.Keeps (c.toRing inp f) := by
  have own := c.ownCopy_keeps f
  unfold Core.toRing
  dsimp only
  repeat' split
  · exact own.trans (Core.submit_keeps _ _ _ _)
  · exact (own.trans (Core.submit_keeps _ _ _ _)).trans (Core.submitCross_keeps _ _ _ _)
  · exact (own.trans (Core.submit_keeps _ _ _ _)).trans (Core.sendAway_keeps _ _ _)
  · exact own.inc (by simp [reportKeys])
  · exact own.trans (Core.submit_keeps _ _ _ _)

theorem Core.twSend_keeps (c : Core) (l : Nat) (b : TwBody) : c.Keeps (c.twSend l b) := by
  unfold Core.twSend
  split
  · exact c.keeps_refl
  · exact c.keeps_refl.of_eq rfl rfl

theorem Core.nextSeq_keeps (c : Core) (k l n : Nat) : c.Keeps (c.nextSeq k l n).2 := by
  unfold Core.nextSeq
  dsimp only
  split <;> exact c.keeps_refl.of_eq rfl rfl

theorem Core.occurrence_keeps (c : Core) (k l n : Nat) : c.Keeps (c.occurrence k l n).2 := by
  unfold Core.occurrence
  dsimp only
  split <;> exact c.keeps_refl.of_eq rfl rfl

theorem Core.grantFrame_keeps (c : Core) (cls stream seq tick key : Nat) : c.Keeps (c.grantFrame cls stream seq tick key) := by
  unfold Core.grantFrame
  split
  · exact c.keeps_refl
  · refine (c.occurrence_keeps cls stream tick).trans ?_
    dsimp only
    repeat' split
    · exact Core.twSend_keeps _ _ _
    · exact (Core.keeps_refl _).of_eq rfl rfl
    · exact Core.keeps_refl _

theorem Core.numberFrame_keeps (c : Core) (a b d e : Nat) : c.Keeps (c.numberFrame a b d e).2 := by
  unfold Core.numberFrame
  split
  · exact c.keeps_refl.of_eq rfl rfl
  · exact (c.nextSeq_keeps _ _ _).trans (Core.grantFrame_keeps _ _ _ _ _ _)

theorem Core.make_keeps (c : Core) (kind cls dst stream tick : Nat) (u s l : Bool) (p : Bytes) (note : Nat) :
    c.Keeps (c.make kind cls dst stream tick u s l p note).2 := c.numberFrame_keeps _ _ _ _

theorem Core.askNumber_keeps (c : Core) (inp : Nat) (f : Frame) : c.Keeps (c.askNumber inp f) :=
  Core.Keeps.trans (c.keeps_refl.of_eq rfl rfl) (Core.twSend_keeps _ _ _)

theorem Core.handOff_keeps (c : Core) (inp : Nat) (f : Frame) : c.Keeps (c.handOff inp f) := by
  unfold Core.handOff
  repeat' split
  all_goals first
    | exact c.submit_keeps _ _ _
    | exact c.keeps_inc (by simp [reportKeys])
    | exact c.toRing_keeps _ _

theorem Core.originate_keeps (c : Core) (inp : Nat) (f : Frame) : c.Keeps (c.originate inp f) := by
  unfold Core.originate
  repeat' split
  · exact c.askNumber_keeps _ _
  · exact c.keeps_refl.of_eq rfl rfl
  · exact c.handOff_keeps _ _

theorem Core.sendEvents_keeps (c : Core) (tick n : Nat) (rs : List EvRec) : c.Keeps (c.sendEvents tick n rs) := by
  induction n generalizing c rs with
  | zero => exact c.keeps_refl
  | succ n ih =>
    unfold Core.sendEvents
    split
    · exact c.keeps_refl
    · refine Core.Keeps.trans ?_ (ih _ _)
      refine Core.Keeps.trans ?_ (Core.originate_keeps _ _ _)
      exact c.numberFrame_keeps _ _ _ _

/-! Events. -/

theorem Core.streamEvents_keeps (c : Core) (tick : Nat) (rs : List EvRec) : c.Keeps (c.streamEvents tick rs) := by
  unfold Core.streamEvents
  split
  · exact c.sendEvents_keeps _ _ _
  · exact c.keeps_refl

theorem Core.addEvent_keeps (c : Core) (r : EvRec) : c.Keeps (c.addEvent r) := by
  unfold Core.addEvent
  split
  · exact c.keeps_refl.of_eq rfl rfl
  · dsimp only
    repeat' split
    all_goals first
      | exact ((c.keeps_inc (k := Reg.CNT_EV_LATE) (by decide)).trans
          (Core.placeAll_keeps [{ r with flags := setBit r.flags 6 true }] _)).trans (Core.streamEvents_keeps _ _ _)
      | exact c.keeps_refl.of_eq rfl rfl

theorem Core.event_keeps (c : Core) (a b d e : Nat) : c.Keeps (c.event a b d e) := c.addEvent_keeps _

theorem Core.softEvent_keeps (c : Core) (a b d e : Nat) : c.Keeps (c.softEvent a b d e) := c.addEvent_keeps _

theorem Core.eventOnce_keeps (c : Core) (a b d e : Nat) : c.Keeps (c.eventOnce a b d e) := by
  unfold Core.eventOnce
  split
  · exact c.keeps_refl
  · exact Core.Keeps.trans (c.keeps_refl.of_eq rfl rfl) (Core.event_keeps _ _ _ _ _)

/-! Reports and clearings. -/

theorem Core.faultEvent_keeps (c : Core) (r : FaultRec) (a b d : Nat) (u : Bool) : c.Keeps (c.faultEvent r a b d u) := by
  unfold Core.faultEvent
  split
  · exact c.keeps_refl
  · exact c.addEvent_keeps _

theorem Core.sendFaults_keeps (c : Core) (tick n : Nat) (rs : List FaultRec) : c.Keeps (c.sendFaults tick n rs) := by
  induction n generalizing c rs with
  | zero => exact c.keeps_refl
  | succ n ih =>
    unfold Core.sendFaults
    split
    · exact c.keeps_refl
    · refine Core.Keeps.trans ?_ (ih _ _)
      refine Core.Keeps.trans ?_ (Core.originate_keeps _ _ _)
      exact c.numberFrame_keeps _ _ _ _

theorem Core.logFault_keeps (c : Core) (r : FaultRec) : c.Keeps (c.logFault r) := c.logAdd_keeps _

theorem Core.enqueueFault_keeps (c : Core) (r : FaultRec) : c.Keeps (c.enqueueFault r) := by
  unfold Core.enqueueFault
  refine Core.Keeps.setReg ?_ _ (by decide)
  split
  · exact c.keeps_refl.of_eq rfl rfl
  · dsimp only
    have h : c.Keeps (c.inc Reg.FQ_LOST) := c.keeps_inc (by decide)
    split <;> exact h.of_eq rfl rfl

/-- A clear record places no event and escalates nothing. -/
theorem Core.placeFault_keeps (c : Core) (r : FaultRec) (t : Nat) (b : Bool) (h : bit r.flags 6 = true) :
    c.Keeps (c.placeFault r t b).2 := by
  unfold Core.placeFault
  simp only [Core.escalate, bit_setBit_lost, h, if_true, or_true, not_true_eq_false]
  have w : ∀ (x : Core) (r : FaultRec) (p u : Bool) (k : Nat), c.Keeps x →
      c.Keeps (if p then x.faultEvent r 2 k 0 u else x) := by
    intro x r p u k h
    split
    · exact h.trans (x.faultEvent_keeps r _ _ _ _)
    · exact h
  refine w _ _ _ _ _ (Core.Keeps.setActive ?_ _)
  have g : c.Keeps ((c.setReg Reg.FQ_SEQ ((c.reg Reg.FQ_SEQ + 1) % 65536)).inc Reg.CNT_RECORDS) :=
    (c.keeps_setReg _ (by decide)).inc (by decide)
  have e : ∀ (x : Core) (r : FaultRec) (p : Bool), c.Keeps x → c.Keeps (if p then x.logFault r else x) := by
    intro x r p k
    split
    · exact k.trans (x.logFault_keeps r)
    · exact k
  refine e _ _ _ (Core.Keeps.trans ?_ (Core.enqueueFault_keeps _ _))
  split
  · exact g.setFirst _
  · exact g

theorem Core.placeFaults_keeps (rs : List FaultRec) : (∀ r ∈ rs, bit r.flags 6 = true) → ∀ c : Core,
    c.Keeps (c.placeFaults rs).1 := by
  induction rs with
  | nil => intro _ c; exact c.keeps_refl
  | cons r rs ih =>
    intro h c
    exact (c.placeFault_keeps r _ _ (h r (by simp))).trans (ih (fun x hx => h x (by simp [hx])) _)

theorem Core.sendPlaced_keeps (c : Core) (tick : Nat) (rs : List FaultRec) : c.Keeps (c.sendPlaced tick rs) :=
  c.sendFaults_keeps _ _ _

/-- A clear record that arrives. -/
theorem Core.arrive_keeps (c : Core) (r : FaultRec) (h : bit r.flags 6 = true) : c.Keeps (c.arrive r) := by
  have late (x : FaultRec) (hx : bit x.flags 6 = true) : c.Keeps (c.placeFaults [x]).1 :=
    c.placeFaults_keeps _ (fun y hy => by
      simp only [List.mem_singleton] at hy
      subst hy
      exact hx)
  unfold Core.arrive Core.placeLate
  dsimp only
  split
  · exact (late _ ((bit_setBit_late _).trans h)).trans (Core.sendPlaced_keeps _ _ _)
  · exact c.keeps_refl.of_eq rfl rfl

/-- A clear record's flags have CLEARED. -/
theorem bit_clear_record (b : Bool) : bit (b2n b * 4 + 64) 6 = true := by cases b <;> decide

/-- The clearing of a condition. -/
theorem Core.stepFirst_of_noTimer {c : Core} (h : c.noTimer = true) (q : Nat) : c.stepFirst q = c := by
  unfold Core.stepFirst
  rw [List.find?_eq_none.mpr]
  intro x hx
  have t := List.all_eq_true.mp h x hx
  cases e : x.timer <;> simp_all

theorem Core.clear_keeps {c : Core} (h : c.noTimer = true) (source inst cause : Nat) : c.Keeps (c.clear source inst cause) := by
  unfold Core.clear
  dsimp only
  split
  · exact c.keeps_refl
  · next a _ =>
    let b : Core := { c with fc := { c.fc with active := c.fc.active.filter (fun a =>
      !(a.source == source && a.inst == inst && a.cause == cause)) } }
    have s : ∀ q, b.stepFirst q = b := Core.stepFirst_of_noTimer h
    have none_slot : ∀ q : Nat, (c.fc.slots.map (fun (s : EscSlot) => if s.record.seq = q then { s with timer := none } else s)).all
        (fun x => x.timer.isNone) = true := by
      intro q
      simp only [List.all_map, List.all_eq_true]
      intro x hx
      have t := List.all_eq_true.mp h x hx
      simp only [Function.comp_apply]
      split
      · rfl
      · exact t
    split
    · exact c.keeps_refl.of_eq rfl rfl
    · simp only [show ({ c with fc := { c.fc with active := c.fc.active.filter (fun a =>
        !(a.source == source && a.inst == inst && a.cause == cause)) } } : Core) = b from rfl, s]
      split
      · refine Core.Keeps.trans ?_ (Core.faultEvent_keeps _ _ _ _ _ _)
        exact c.keeps_refl.of_eq rfl rfl (fun _ => none_slot _)
      · refine Core.Keeps.trans ?_ (Core.arrive_keeps _ _ (bit_clear_record _))
        refine Core.Keeps.trans ?_ (Core.faultEvent_keeps _ _ _ _ _ _)
        exact c.keeps_refl.of_eq rfl rfl (fun _ => none_slot _)

theorem Core.clearAll_keeps {c : Core} (h : c.noTimer = true) (source inst : Nat) : c.Keeps (c.clearAll source inst) := by
  unfold Core.clearAll
  generalize c.fc.active.filter (fun a => a.source == source && a.inst == inst) = l
  suffices h : ∀ (l : List Active) (d : Core), c.Keeps d →
      c.Keeps (l.foldl (fun c a => c.clear source inst a.cause) d) from h l c c.keeps_refl
  intro l
  induction l with
  | nil => intro d g; exact g
  | cons j l ih => intro d g; exact ih _ (g.trans (Core.clear_keeps (g.2.2 h) _ _ _))

/-! Reports in a tick that is still open at the collector only wait for its close. -/

theorem Core.arrive_open (c : Core) (r : FaultRec) (h : c.tickOpen = true) (t : r.placeTick = c.tick) :
    c.arrive r = { c with fc := { c.fc with arrivals := c.fc.arrivals ++ [{ r with unlocked := c.unlocked, clearUnlocked := c.unlocked }] } } := by
  have t' : (({ r with unlocked := c.unlocked, clearUnlocked := c.unlocked } : FaultRec)).placeTick = c.tick := t
  unfold Core.arrive
  unfold Core.tickOpen at h
  dsimp only
  rw [t']
  unfold Core.tick
  cases hl : c.time.lastTick <;> cases hc : c.fc.closed <;> cases ht : c.time.tag <;> simp_all [Core.closedFor]

/-! The parts of the core, one by one. -/

theorem Core.Keeps.free {c d : Core} (h : c.Keeps d) : d.free = c.free := by have := congrArg Core.free h.1; exact this
theorem Core.Keeps.blobs {c d : Core} (h : c.Keeps d) : d.blobs = c.blobs := by have := congrArg Core.blobs h.1; exact this
theorem Core.Keeps.inForce {c d : Core} (h : c.Keeps d) : d.inForce = c.inForce := by have := congrArg Core.inForce h.1; exact this
theorem Core.Keeps.time {c d : Core} (h : c.Keeps d) : d.time = c.time := by have := congrArg Core.time h.1; exact this
theorem Core.Keeps.sched {c d : Core} (h : c.Keeps d) : d.sched = c.sched := by have := congrArg Core.sched h.1; exact this
theorem Core.Keeps.node {c d : Core} (h : c.Keeps d) : d.node = c.node := by have := congrArg Core.node h.1; exact this
theorem Core.Keeps.dict {c d : Core} (h : c.Keeps d) : d.dict = c.dict := by have := congrArg Core.dict h.1; exact this
theorem Core.Keeps.ring {c d : Core} (h : c.Keeps d) : d.ring = c.ring := by have := congrArg Core.ring h.1; exact this
theorem Core.Keeps.integ {c d : Core} (h : c.Keeps d) : d.integ = c.integ := by have := congrArg Core.integ h.1; exact this
theorem Core.Keeps.chans {c d : Core} (h : c.Keeps d) : d.chans = c.chans := by have := congrArg Core.chans h.1; exact this
theorem Core.Keeps.cans {c d : Core} (h : c.Keeps d) : d.cans = c.cans := by have := congrArg Core.cans h.1; exact this
theorem Core.Keeps.fcLatch {c d : Core} (h : c.Keeps d) : d.fcLatch = c.fcLatch := by have := congrArg Core.fcLatch h.1; exact this
theorem Core.Keeps.engs {c d : Core} (h : c.Keeps d) : d.engs = c.engs := by have := congrArg Core.engs h.1; exact this
theorem Core.Keeps.disc {c d : Core} (h : c.Keeps d) : d.disc = c.disc := by have := congrArg Core.disc h.1; exact this
theorem Core.Keeps.meas {c d : Core} (h : c.Keeps d) : d.meas = c.meas := by have := congrArg Core.meas h.1; exact this
theorem Core.Keeps.map {c d : Core} (h : c.Keeps d) : d.map = c.map := by have := congrArg Core.map h.1; exact this
theorem Core.Keeps.fab {c d : Core} (h : c.Keeps d) : d.fab = c.fab := by have := congrArg Core.fab h.1; exact this
theorem Core.Keeps.lhp {c d : Core} (h : c.Keeps d) : d.lhp = c.lhp := by have := congrArg Core.lhp h.1; exact this
theorem Core.Keeps.pwr {c d : Core} (h : c.Keeps d) : d.pwr = c.pwr := by have := congrArg Core.pwr h.1; exact this
theorem Core.Keeps.mgmt {c d : Core} (h : c.Keeps d) : d.mgmt = c.mgmt := by have := congrArg Core.mgmt h.1; exact this
theorem Core.Keeps.test {c d : Core} (h : c.Keeps d) : d.test = c.test := by have := congrArg Core.test h.1; exact this
theorem Core.Keeps.jtag {c d : Core} (h : c.Keeps d) : d.jtag = c.jtag := by have := congrArg Core.jtag h.1; exact this
theorem Core.Keeps.fc_safe {c d : Core} (h : c.Keeps d) : d.fc.safe = c.fc.safe := by have := congrArg (fun x => x.fc.safe) h.1; exact this
theorem Core.Keeps.fc_isos {c d : Core} (h : c.Keeps d) : d.fc.isos = c.fc.isos := by have := congrArg (fun x => x.fc.isos) h.1; exact this
theorem Core.Keeps.fc_closed {c d : Core} (h : c.Keeps d) : d.fc.closed = c.fc.closed := by have := congrArg (fun x => x.fc.closed) h.1; exact this

@[simp] theorem Core.event_free (c : Core) (a b d e : Nat) : (c.event a b d e).free = c.free := (c.event_keeps a b d e).free
@[simp] theorem Core.event_blobs (c : Core) (a b d e : Nat) : (c.event a b d e).blobs = c.blobs := (c.event_keeps a b d e).blobs
@[simp] theorem Core.event_inForce (c : Core) (a b d e : Nat) : (c.event a b d e).inForce = c.inForce := (c.event_keeps a b d e).inForce
@[simp] theorem Core.event_time (c : Core) (a b d e : Nat) : (c.event a b d e).time = c.time := (c.event_keeps a b d e).time
@[simp] theorem Core.event_sched (c : Core) (a b d e : Nat) : (c.event a b d e).sched = c.sched := (c.event_keeps a b d e).sched
@[simp] theorem Core.event_node (c : Core) (a b d e : Nat) : (c.event a b d e).node = c.node := (c.event_keeps a b d e).node
@[simp] theorem Core.event_dict (c : Core) (a b d e : Nat) : (c.event a b d e).dict = c.dict := (c.event_keeps a b d e).dict
@[simp] theorem Core.event_ring (c : Core) (a b d e : Nat) : (c.event a b d e).ring = c.ring := (c.event_keeps a b d e).ring
@[simp] theorem Core.event_integ (c : Core) (a b d e : Nat) : (c.event a b d e).integ = c.integ := (c.event_keeps a b d e).integ
@[simp] theorem Core.event_chans (c : Core) (a b d e : Nat) : (c.event a b d e).chans = c.chans := (c.event_keeps a b d e).chans
@[simp] theorem Core.event_cans (c : Core) (a b d e : Nat) : (c.event a b d e).cans = c.cans := (c.event_keeps a b d e).cans
@[simp] theorem Core.event_fcLatch (c : Core) (a b d e : Nat) : (c.event a b d e).fcLatch = c.fcLatch := (c.event_keeps a b d e).fcLatch
@[simp] theorem Core.event_engs (c : Core) (a b d e : Nat) : (c.event a b d e).engs = c.engs := (c.event_keeps a b d e).engs
@[simp] theorem Core.event_disc (c : Core) (a b d e : Nat) : (c.event a b d e).disc = c.disc := (c.event_keeps a b d e).disc
@[simp] theorem Core.event_meas (c : Core) (a b d e : Nat) : (c.event a b d e).meas = c.meas := (c.event_keeps a b d e).meas
@[simp] theorem Core.event_map (c : Core) (a b d e : Nat) : (c.event a b d e).map = c.map := (c.event_keeps a b d e).map
@[simp] theorem Core.event_fab (c : Core) (a b d e : Nat) : (c.event a b d e).fab = c.fab := (c.event_keeps a b d e).fab
@[simp] theorem Core.event_lhp (c : Core) (a b d e : Nat) : (c.event a b d e).lhp = c.lhp := (c.event_keeps a b d e).lhp
@[simp] theorem Core.event_pwr (c : Core) (a b d e : Nat) : (c.event a b d e).pwr = c.pwr := (c.event_keeps a b d e).pwr
@[simp] theorem Core.event_mgmt (c : Core) (a b d e : Nat) : (c.event a b d e).mgmt = c.mgmt := (c.event_keeps a b d e).mgmt
@[simp] theorem Core.event_test (c : Core) (a b d e : Nat) : (c.event a b d e).test = c.test := (c.event_keeps a b d e).test
@[simp] theorem Core.event_jtag (c : Core) (a b d e : Nat) : (c.event a b d e).jtag = c.jtag := (c.event_keeps a b d e).jtag
@[simp] theorem Core.event_fc_safe (c : Core) (a b d e : Nat) : (c.event a b d e).fc.safe = c.fc.safe := (c.event_keeps a b d e).fc_safe
@[simp] theorem Core.event_fc_isos (c : Core) (a b d e : Nat) : (c.event a b d e).fc.isos = c.fc.isos := (c.event_keeps a b d e).fc_isos
@[simp] theorem Core.event_fc_closed (c : Core) (a b d e : Nat) : (c.event a b d e).fc.closed = c.fc.closed := (c.event_keeps a b d e).fc_closed
theorem Core.event_reg (c : Core) (a b d e : Nat) {k : Nat} (h : k ∉ reportKeys) : (c.event a b d e).reg k = c.reg k := (c.event_keeps a b d e).2.1 k h

@[simp] theorem Core.eventOnce_free (c : Core) (a b d e : Nat) : (c.eventOnce a b d e).free = c.free := (c.eventOnce_keeps a b d e).free
@[simp] theorem Core.eventOnce_blobs (c : Core) (a b d e : Nat) : (c.eventOnce a b d e).blobs = c.blobs := (c.eventOnce_keeps a b d e).blobs
@[simp] theorem Core.eventOnce_inForce (c : Core) (a b d e : Nat) : (c.eventOnce a b d e).inForce = c.inForce := (c.eventOnce_keeps a b d e).inForce
@[simp] theorem Core.eventOnce_time (c : Core) (a b d e : Nat) : (c.eventOnce a b d e).time = c.time := (c.eventOnce_keeps a b d e).time
@[simp] theorem Core.eventOnce_sched (c : Core) (a b d e : Nat) : (c.eventOnce a b d e).sched = c.sched := (c.eventOnce_keeps a b d e).sched
@[simp] theorem Core.eventOnce_node (c : Core) (a b d e : Nat) : (c.eventOnce a b d e).node = c.node := (c.eventOnce_keeps a b d e).node
@[simp] theorem Core.eventOnce_dict (c : Core) (a b d e : Nat) : (c.eventOnce a b d e).dict = c.dict := (c.eventOnce_keeps a b d e).dict
@[simp] theorem Core.eventOnce_ring (c : Core) (a b d e : Nat) : (c.eventOnce a b d e).ring = c.ring := (c.eventOnce_keeps a b d e).ring
@[simp] theorem Core.eventOnce_integ (c : Core) (a b d e : Nat) : (c.eventOnce a b d e).integ = c.integ := (c.eventOnce_keeps a b d e).integ
@[simp] theorem Core.eventOnce_chans (c : Core) (a b d e : Nat) : (c.eventOnce a b d e).chans = c.chans := (c.eventOnce_keeps a b d e).chans
@[simp] theorem Core.eventOnce_cans (c : Core) (a b d e : Nat) : (c.eventOnce a b d e).cans = c.cans := (c.eventOnce_keeps a b d e).cans
@[simp] theorem Core.eventOnce_fcLatch (c : Core) (a b d e : Nat) : (c.eventOnce a b d e).fcLatch = c.fcLatch := (c.eventOnce_keeps a b d e).fcLatch
@[simp] theorem Core.eventOnce_engs (c : Core) (a b d e : Nat) : (c.eventOnce a b d e).engs = c.engs := (c.eventOnce_keeps a b d e).engs
@[simp] theorem Core.eventOnce_disc (c : Core) (a b d e : Nat) : (c.eventOnce a b d e).disc = c.disc := (c.eventOnce_keeps a b d e).disc
@[simp] theorem Core.eventOnce_meas (c : Core) (a b d e : Nat) : (c.eventOnce a b d e).meas = c.meas := (c.eventOnce_keeps a b d e).meas
@[simp] theorem Core.eventOnce_map (c : Core) (a b d e : Nat) : (c.eventOnce a b d e).map = c.map := (c.eventOnce_keeps a b d e).map
@[simp] theorem Core.eventOnce_fab (c : Core) (a b d e : Nat) : (c.eventOnce a b d e).fab = c.fab := (c.eventOnce_keeps a b d e).fab
@[simp] theorem Core.eventOnce_lhp (c : Core) (a b d e : Nat) : (c.eventOnce a b d e).lhp = c.lhp := (c.eventOnce_keeps a b d e).lhp
@[simp] theorem Core.eventOnce_pwr (c : Core) (a b d e : Nat) : (c.eventOnce a b d e).pwr = c.pwr := (c.eventOnce_keeps a b d e).pwr
@[simp] theorem Core.eventOnce_mgmt (c : Core) (a b d e : Nat) : (c.eventOnce a b d e).mgmt = c.mgmt := (c.eventOnce_keeps a b d e).mgmt
@[simp] theorem Core.eventOnce_test (c : Core) (a b d e : Nat) : (c.eventOnce a b d e).test = c.test := (c.eventOnce_keeps a b d e).test
@[simp] theorem Core.eventOnce_jtag (c : Core) (a b d e : Nat) : (c.eventOnce a b d e).jtag = c.jtag := (c.eventOnce_keeps a b d e).jtag
@[simp] theorem Core.eventOnce_fc_safe (c : Core) (a b d e : Nat) : (c.eventOnce a b d e).fc.safe = c.fc.safe := (c.eventOnce_keeps a b d e).fc_safe
@[simp] theorem Core.eventOnce_fc_isos (c : Core) (a b d e : Nat) : (c.eventOnce a b d e).fc.isos = c.fc.isos := (c.eventOnce_keeps a b d e).fc_isos
@[simp] theorem Core.eventOnce_fc_closed (c : Core) (a b d e : Nat) : (c.eventOnce a b d e).fc.closed = c.fc.closed := (c.eventOnce_keeps a b d e).fc_closed
theorem Core.eventOnce_reg (c : Core) (a b d e : Nat) {k : Nat} (h : k ∉ reportKeys) : (c.eventOnce a b d e).reg k = c.reg k := (c.eventOnce_keeps a b d e).2.1 k h

@[simp] theorem Core.softEvent_free (c : Core) (a b d e : Nat) : (c.softEvent a b d e).free = c.free := (c.softEvent_keeps a b d e).free
@[simp] theorem Core.softEvent_blobs (c : Core) (a b d e : Nat) : (c.softEvent a b d e).blobs = c.blobs := (c.softEvent_keeps a b d e).blobs
@[simp] theorem Core.softEvent_inForce (c : Core) (a b d e : Nat) : (c.softEvent a b d e).inForce = c.inForce := (c.softEvent_keeps a b d e).inForce
@[simp] theorem Core.softEvent_time (c : Core) (a b d e : Nat) : (c.softEvent a b d e).time = c.time := (c.softEvent_keeps a b d e).time
@[simp] theorem Core.softEvent_sched (c : Core) (a b d e : Nat) : (c.softEvent a b d e).sched = c.sched := (c.softEvent_keeps a b d e).sched
@[simp] theorem Core.softEvent_node (c : Core) (a b d e : Nat) : (c.softEvent a b d e).node = c.node := (c.softEvent_keeps a b d e).node
@[simp] theorem Core.softEvent_dict (c : Core) (a b d e : Nat) : (c.softEvent a b d e).dict = c.dict := (c.softEvent_keeps a b d e).dict
@[simp] theorem Core.softEvent_ring (c : Core) (a b d e : Nat) : (c.softEvent a b d e).ring = c.ring := (c.softEvent_keeps a b d e).ring
@[simp] theorem Core.softEvent_integ (c : Core) (a b d e : Nat) : (c.softEvent a b d e).integ = c.integ := (c.softEvent_keeps a b d e).integ
@[simp] theorem Core.softEvent_chans (c : Core) (a b d e : Nat) : (c.softEvent a b d e).chans = c.chans := (c.softEvent_keeps a b d e).chans
@[simp] theorem Core.softEvent_cans (c : Core) (a b d e : Nat) : (c.softEvent a b d e).cans = c.cans := (c.softEvent_keeps a b d e).cans
@[simp] theorem Core.softEvent_fcLatch (c : Core) (a b d e : Nat) : (c.softEvent a b d e).fcLatch = c.fcLatch := (c.softEvent_keeps a b d e).fcLatch
@[simp] theorem Core.softEvent_engs (c : Core) (a b d e : Nat) : (c.softEvent a b d e).engs = c.engs := (c.softEvent_keeps a b d e).engs
@[simp] theorem Core.softEvent_disc (c : Core) (a b d e : Nat) : (c.softEvent a b d e).disc = c.disc := (c.softEvent_keeps a b d e).disc
@[simp] theorem Core.softEvent_meas (c : Core) (a b d e : Nat) : (c.softEvent a b d e).meas = c.meas := (c.softEvent_keeps a b d e).meas
@[simp] theorem Core.softEvent_map (c : Core) (a b d e : Nat) : (c.softEvent a b d e).map = c.map := (c.softEvent_keeps a b d e).map
@[simp] theorem Core.softEvent_fab (c : Core) (a b d e : Nat) : (c.softEvent a b d e).fab = c.fab := (c.softEvent_keeps a b d e).fab
@[simp] theorem Core.softEvent_lhp (c : Core) (a b d e : Nat) : (c.softEvent a b d e).lhp = c.lhp := (c.softEvent_keeps a b d e).lhp
@[simp] theorem Core.softEvent_pwr (c : Core) (a b d e : Nat) : (c.softEvent a b d e).pwr = c.pwr := (c.softEvent_keeps a b d e).pwr
@[simp] theorem Core.softEvent_mgmt (c : Core) (a b d e : Nat) : (c.softEvent a b d e).mgmt = c.mgmt := (c.softEvent_keeps a b d e).mgmt
@[simp] theorem Core.softEvent_test (c : Core) (a b d e : Nat) : (c.softEvent a b d e).test = c.test := (c.softEvent_keeps a b d e).test
@[simp] theorem Core.softEvent_jtag (c : Core) (a b d e : Nat) : (c.softEvent a b d e).jtag = c.jtag := (c.softEvent_keeps a b d e).jtag
@[simp] theorem Core.softEvent_fc_safe (c : Core) (a b d e : Nat) : (c.softEvent a b d e).fc.safe = c.fc.safe := (c.softEvent_keeps a b d e).fc_safe
@[simp] theorem Core.softEvent_fc_isos (c : Core) (a b d e : Nat) : (c.softEvent a b d e).fc.isos = c.fc.isos := (c.softEvent_keeps a b d e).fc_isos
@[simp] theorem Core.softEvent_fc_closed (c : Core) (a b d e : Nat) : (c.softEvent a b d e).fc.closed = c.fc.closed := (c.softEvent_keeps a b d e).fc_closed
theorem Core.softEvent_reg (c : Core) (a b d e : Nat) {k : Nat} (h : k ∉ reportKeys) : (c.softEvent a b d e).reg k = c.reg k := (c.softEvent_keeps a b d e).2.1 k h

@[simp] theorem Core.logNote_free (c : Core) (a : Nat) (b : Bytes) : (c.logNote a b).free = c.free := (c.logNote_keeps a b).free
@[simp] theorem Core.logNote_blobs (c : Core) (a : Nat) (b : Bytes) : (c.logNote a b).blobs = c.blobs := (c.logNote_keeps a b).blobs
@[simp] theorem Core.logNote_inForce (c : Core) (a : Nat) (b : Bytes) : (c.logNote a b).inForce = c.inForce := (c.logNote_keeps a b).inForce
@[simp] theorem Core.logNote_time (c : Core) (a : Nat) (b : Bytes) : (c.logNote a b).time = c.time := (c.logNote_keeps a b).time
@[simp] theorem Core.logNote_sched (c : Core) (a : Nat) (b : Bytes) : (c.logNote a b).sched = c.sched := (c.logNote_keeps a b).sched
@[simp] theorem Core.logNote_node (c : Core) (a : Nat) (b : Bytes) : (c.logNote a b).node = c.node := (c.logNote_keeps a b).node
@[simp] theorem Core.logNote_dict (c : Core) (a : Nat) (b : Bytes) : (c.logNote a b).dict = c.dict := (c.logNote_keeps a b).dict
@[simp] theorem Core.logNote_ring (c : Core) (a : Nat) (b : Bytes) : (c.logNote a b).ring = c.ring := (c.logNote_keeps a b).ring
@[simp] theorem Core.logNote_integ (c : Core) (a : Nat) (b : Bytes) : (c.logNote a b).integ = c.integ := (c.logNote_keeps a b).integ
@[simp] theorem Core.logNote_chans (c : Core) (a : Nat) (b : Bytes) : (c.logNote a b).chans = c.chans := (c.logNote_keeps a b).chans
@[simp] theorem Core.logNote_cans (c : Core) (a : Nat) (b : Bytes) : (c.logNote a b).cans = c.cans := (c.logNote_keeps a b).cans
@[simp] theorem Core.logNote_fcLatch (c : Core) (a : Nat) (b : Bytes) : (c.logNote a b).fcLatch = c.fcLatch := (c.logNote_keeps a b).fcLatch
@[simp] theorem Core.logNote_engs (c : Core) (a : Nat) (b : Bytes) : (c.logNote a b).engs = c.engs := (c.logNote_keeps a b).engs
@[simp] theorem Core.logNote_disc (c : Core) (a : Nat) (b : Bytes) : (c.logNote a b).disc = c.disc := (c.logNote_keeps a b).disc
@[simp] theorem Core.logNote_meas (c : Core) (a : Nat) (b : Bytes) : (c.logNote a b).meas = c.meas := (c.logNote_keeps a b).meas
@[simp] theorem Core.logNote_map (c : Core) (a : Nat) (b : Bytes) : (c.logNote a b).map = c.map := (c.logNote_keeps a b).map
@[simp] theorem Core.logNote_fab (c : Core) (a : Nat) (b : Bytes) : (c.logNote a b).fab = c.fab := (c.logNote_keeps a b).fab
@[simp] theorem Core.logNote_lhp (c : Core) (a : Nat) (b : Bytes) : (c.logNote a b).lhp = c.lhp := (c.logNote_keeps a b).lhp
@[simp] theorem Core.logNote_pwr (c : Core) (a : Nat) (b : Bytes) : (c.logNote a b).pwr = c.pwr := (c.logNote_keeps a b).pwr
@[simp] theorem Core.logNote_mgmt (c : Core) (a : Nat) (b : Bytes) : (c.logNote a b).mgmt = c.mgmt := (c.logNote_keeps a b).mgmt
@[simp] theorem Core.logNote_test (c : Core) (a : Nat) (b : Bytes) : (c.logNote a b).test = c.test := (c.logNote_keeps a b).test
@[simp] theorem Core.logNote_jtag (c : Core) (a : Nat) (b : Bytes) : (c.logNote a b).jtag = c.jtag := (c.logNote_keeps a b).jtag
@[simp] theorem Core.logNote_fc_safe (c : Core) (a : Nat) (b : Bytes) : (c.logNote a b).fc.safe = c.fc.safe := (c.logNote_keeps a b).fc_safe
@[simp] theorem Core.logNote_fc_isos (c : Core) (a : Nat) (b : Bytes) : (c.logNote a b).fc.isos = c.fc.isos := (c.logNote_keeps a b).fc_isos
@[simp] theorem Core.logNote_fc_closed (c : Core) (a : Nat) (b : Bytes) : (c.logNote a b).fc.closed = c.fc.closed := (c.logNote_keeps a b).fc_closed
theorem Core.logNote_reg (c : Core) (a : Nat) (b : Bytes) {k : Nat} (h : k ∉ reportKeys) : (c.logNote a b).reg k = c.reg k := (c.logNote_keeps a b).2.1 k h

@[simp] theorem Core.submit_free (c : Core) (i : Nat) (l : List Nat) (f : Frame) : (c.submit i l f).free = c.free := (c.submit_keeps i l f).free
@[simp] theorem Core.submit_blobs (c : Core) (i : Nat) (l : List Nat) (f : Frame) : (c.submit i l f).blobs = c.blobs := (c.submit_keeps i l f).blobs
@[simp] theorem Core.submit_inForce (c : Core) (i : Nat) (l : List Nat) (f : Frame) : (c.submit i l f).inForce = c.inForce := (c.submit_keeps i l f).inForce
@[simp] theorem Core.submit_time (c : Core) (i : Nat) (l : List Nat) (f : Frame) : (c.submit i l f).time = c.time := (c.submit_keeps i l f).time
@[simp] theorem Core.submit_sched (c : Core) (i : Nat) (l : List Nat) (f : Frame) : (c.submit i l f).sched = c.sched := (c.submit_keeps i l f).sched
@[simp] theorem Core.submit_node (c : Core) (i : Nat) (l : List Nat) (f : Frame) : (c.submit i l f).node = c.node := (c.submit_keeps i l f).node
@[simp] theorem Core.submit_dict (c : Core) (i : Nat) (l : List Nat) (f : Frame) : (c.submit i l f).dict = c.dict := (c.submit_keeps i l f).dict
@[simp] theorem Core.submit_ring (c : Core) (i : Nat) (l : List Nat) (f : Frame) : (c.submit i l f).ring = c.ring := (c.submit_keeps i l f).ring
@[simp] theorem Core.submit_integ (c : Core) (i : Nat) (l : List Nat) (f : Frame) : (c.submit i l f).integ = c.integ := (c.submit_keeps i l f).integ
@[simp] theorem Core.submit_chans (c : Core) (i : Nat) (l : List Nat) (f : Frame) : (c.submit i l f).chans = c.chans := (c.submit_keeps i l f).chans
@[simp] theorem Core.submit_cans (c : Core) (i : Nat) (l : List Nat) (f : Frame) : (c.submit i l f).cans = c.cans := (c.submit_keeps i l f).cans
@[simp] theorem Core.submit_fcLatch (c : Core) (i : Nat) (l : List Nat) (f : Frame) : (c.submit i l f).fcLatch = c.fcLatch := (c.submit_keeps i l f).fcLatch
@[simp] theorem Core.submit_engs (c : Core) (i : Nat) (l : List Nat) (f : Frame) : (c.submit i l f).engs = c.engs := (c.submit_keeps i l f).engs
@[simp] theorem Core.submit_disc (c : Core) (i : Nat) (l : List Nat) (f : Frame) : (c.submit i l f).disc = c.disc := (c.submit_keeps i l f).disc
@[simp] theorem Core.submit_meas (c : Core) (i : Nat) (l : List Nat) (f : Frame) : (c.submit i l f).meas = c.meas := (c.submit_keeps i l f).meas
@[simp] theorem Core.submit_map (c : Core) (i : Nat) (l : List Nat) (f : Frame) : (c.submit i l f).map = c.map := (c.submit_keeps i l f).map
@[simp] theorem Core.submit_fab (c : Core) (i : Nat) (l : List Nat) (f : Frame) : (c.submit i l f).fab = c.fab := (c.submit_keeps i l f).fab
@[simp] theorem Core.submit_lhp (c : Core) (i : Nat) (l : List Nat) (f : Frame) : (c.submit i l f).lhp = c.lhp := (c.submit_keeps i l f).lhp
@[simp] theorem Core.submit_pwr (c : Core) (i : Nat) (l : List Nat) (f : Frame) : (c.submit i l f).pwr = c.pwr := (c.submit_keeps i l f).pwr
@[simp] theorem Core.submit_mgmt (c : Core) (i : Nat) (l : List Nat) (f : Frame) : (c.submit i l f).mgmt = c.mgmt := (c.submit_keeps i l f).mgmt
@[simp] theorem Core.submit_test (c : Core) (i : Nat) (l : List Nat) (f : Frame) : (c.submit i l f).test = c.test := (c.submit_keeps i l f).test
@[simp] theorem Core.submit_jtag (c : Core) (i : Nat) (l : List Nat) (f : Frame) : (c.submit i l f).jtag = c.jtag := (c.submit_keeps i l f).jtag
@[simp] theorem Core.submit_fc_safe (c : Core) (i : Nat) (l : List Nat) (f : Frame) : (c.submit i l f).fc.safe = c.fc.safe := (c.submit_keeps i l f).fc_safe
@[simp] theorem Core.submit_fc_isos (c : Core) (i : Nat) (l : List Nat) (f : Frame) : (c.submit i l f).fc.isos = c.fc.isos := (c.submit_keeps i l f).fc_isos
@[simp] theorem Core.submit_fc_closed (c : Core) (i : Nat) (l : List Nat) (f : Frame) : (c.submit i l f).fc.closed = c.fc.closed := (c.submit_keeps i l f).fc_closed
theorem Core.submit_reg (c : Core) (i : Nat) (l : List Nat) (f : Frame) {k : Nat} (h : k ∉ reportKeys) : (c.submit i l f).reg k = c.reg k := (c.submit_keeps i l f).2.1 k h

@[simp] theorem Core.originate_free (c : Core) (i : Nat) (f : Frame) : (c.originate i f).free = c.free := (c.originate_keeps i f).free
@[simp] theorem Core.originate_blobs (c : Core) (i : Nat) (f : Frame) : (c.originate i f).blobs = c.blobs := (c.originate_keeps i f).blobs
@[simp] theorem Core.originate_inForce (c : Core) (i : Nat) (f : Frame) : (c.originate i f).inForce = c.inForce := (c.originate_keeps i f).inForce
@[simp] theorem Core.originate_time (c : Core) (i : Nat) (f : Frame) : (c.originate i f).time = c.time := (c.originate_keeps i f).time
@[simp] theorem Core.originate_sched (c : Core) (i : Nat) (f : Frame) : (c.originate i f).sched = c.sched := (c.originate_keeps i f).sched
@[simp] theorem Core.originate_node (c : Core) (i : Nat) (f : Frame) : (c.originate i f).node = c.node := (c.originate_keeps i f).node
@[simp] theorem Core.originate_dict (c : Core) (i : Nat) (f : Frame) : (c.originate i f).dict = c.dict := (c.originate_keeps i f).dict
@[simp] theorem Core.originate_ring (c : Core) (i : Nat) (f : Frame) : (c.originate i f).ring = c.ring := (c.originate_keeps i f).ring
@[simp] theorem Core.originate_integ (c : Core) (i : Nat) (f : Frame) : (c.originate i f).integ = c.integ := (c.originate_keeps i f).integ
@[simp] theorem Core.originate_chans (c : Core) (i : Nat) (f : Frame) : (c.originate i f).chans = c.chans := (c.originate_keeps i f).chans
@[simp] theorem Core.originate_cans (c : Core) (i : Nat) (f : Frame) : (c.originate i f).cans = c.cans := (c.originate_keeps i f).cans
@[simp] theorem Core.originate_fcLatch (c : Core) (i : Nat) (f : Frame) : (c.originate i f).fcLatch = c.fcLatch := (c.originate_keeps i f).fcLatch
@[simp] theorem Core.originate_engs (c : Core) (i : Nat) (f : Frame) : (c.originate i f).engs = c.engs := (c.originate_keeps i f).engs
@[simp] theorem Core.originate_disc (c : Core) (i : Nat) (f : Frame) : (c.originate i f).disc = c.disc := (c.originate_keeps i f).disc
@[simp] theorem Core.originate_meas (c : Core) (i : Nat) (f : Frame) : (c.originate i f).meas = c.meas := (c.originate_keeps i f).meas
@[simp] theorem Core.originate_map (c : Core) (i : Nat) (f : Frame) : (c.originate i f).map = c.map := (c.originate_keeps i f).map
@[simp] theorem Core.originate_fab (c : Core) (i : Nat) (f : Frame) : (c.originate i f).fab = c.fab := (c.originate_keeps i f).fab
@[simp] theorem Core.originate_lhp (c : Core) (i : Nat) (f : Frame) : (c.originate i f).lhp = c.lhp := (c.originate_keeps i f).lhp
@[simp] theorem Core.originate_pwr (c : Core) (i : Nat) (f : Frame) : (c.originate i f).pwr = c.pwr := (c.originate_keeps i f).pwr
@[simp] theorem Core.originate_mgmt (c : Core) (i : Nat) (f : Frame) : (c.originate i f).mgmt = c.mgmt := (c.originate_keeps i f).mgmt
@[simp] theorem Core.originate_test (c : Core) (i : Nat) (f : Frame) : (c.originate i f).test = c.test := (c.originate_keeps i f).test
@[simp] theorem Core.originate_jtag (c : Core) (i : Nat) (f : Frame) : (c.originate i f).jtag = c.jtag := (c.originate_keeps i f).jtag
@[simp] theorem Core.originate_fc_safe (c : Core) (i : Nat) (f : Frame) : (c.originate i f).fc.safe = c.fc.safe := (c.originate_keeps i f).fc_safe
@[simp] theorem Core.originate_fc_isos (c : Core) (i : Nat) (f : Frame) : (c.originate i f).fc.isos = c.fc.isos := (c.originate_keeps i f).fc_isos
@[simp] theorem Core.originate_fc_closed (c : Core) (i : Nat) (f : Frame) : (c.originate i f).fc.closed = c.fc.closed := (c.originate_keeps i f).fc_closed
theorem Core.originate_reg (c : Core) (i : Nat) (f : Frame) {k : Nat} (h : k ∉ reportKeys) : (c.originate i f).reg k = c.reg k := (c.originate_keeps i f).2.1 k h

@[simp] theorem Core.twSend_free (c : Core) (l : Nat) (b : TwBody) : (c.twSend l b).free = c.free := (c.twSend_keeps l b).free
@[simp] theorem Core.twSend_blobs (c : Core) (l : Nat) (b : TwBody) : (c.twSend l b).blobs = c.blobs := (c.twSend_keeps l b).blobs
@[simp] theorem Core.twSend_inForce (c : Core) (l : Nat) (b : TwBody) : (c.twSend l b).inForce = c.inForce := (c.twSend_keeps l b).inForce
@[simp] theorem Core.twSend_time (c : Core) (l : Nat) (b : TwBody) : (c.twSend l b).time = c.time := (c.twSend_keeps l b).time
@[simp] theorem Core.twSend_sched (c : Core) (l : Nat) (b : TwBody) : (c.twSend l b).sched = c.sched := (c.twSend_keeps l b).sched
@[simp] theorem Core.twSend_node (c : Core) (l : Nat) (b : TwBody) : (c.twSend l b).node = c.node := (c.twSend_keeps l b).node
@[simp] theorem Core.twSend_dict (c : Core) (l : Nat) (b : TwBody) : (c.twSend l b).dict = c.dict := (c.twSend_keeps l b).dict
@[simp] theorem Core.twSend_ring (c : Core) (l : Nat) (b : TwBody) : (c.twSend l b).ring = c.ring := (c.twSend_keeps l b).ring
@[simp] theorem Core.twSend_integ (c : Core) (l : Nat) (b : TwBody) : (c.twSend l b).integ = c.integ := (c.twSend_keeps l b).integ
@[simp] theorem Core.twSend_chans (c : Core) (l : Nat) (b : TwBody) : (c.twSend l b).chans = c.chans := (c.twSend_keeps l b).chans
@[simp] theorem Core.twSend_cans (c : Core) (l : Nat) (b : TwBody) : (c.twSend l b).cans = c.cans := (c.twSend_keeps l b).cans
@[simp] theorem Core.twSend_fcLatch (c : Core) (l : Nat) (b : TwBody) : (c.twSend l b).fcLatch = c.fcLatch := (c.twSend_keeps l b).fcLatch
@[simp] theorem Core.twSend_engs (c : Core) (l : Nat) (b : TwBody) : (c.twSend l b).engs = c.engs := (c.twSend_keeps l b).engs
@[simp] theorem Core.twSend_disc (c : Core) (l : Nat) (b : TwBody) : (c.twSend l b).disc = c.disc := (c.twSend_keeps l b).disc
@[simp] theorem Core.twSend_meas (c : Core) (l : Nat) (b : TwBody) : (c.twSend l b).meas = c.meas := (c.twSend_keeps l b).meas
@[simp] theorem Core.twSend_map (c : Core) (l : Nat) (b : TwBody) : (c.twSend l b).map = c.map := (c.twSend_keeps l b).map
@[simp] theorem Core.twSend_fab (c : Core) (l : Nat) (b : TwBody) : (c.twSend l b).fab = c.fab := (c.twSend_keeps l b).fab
@[simp] theorem Core.twSend_lhp (c : Core) (l : Nat) (b : TwBody) : (c.twSend l b).lhp = c.lhp := (c.twSend_keeps l b).lhp
@[simp] theorem Core.twSend_pwr (c : Core) (l : Nat) (b : TwBody) : (c.twSend l b).pwr = c.pwr := (c.twSend_keeps l b).pwr
@[simp] theorem Core.twSend_mgmt (c : Core) (l : Nat) (b : TwBody) : (c.twSend l b).mgmt = c.mgmt := (c.twSend_keeps l b).mgmt
@[simp] theorem Core.twSend_test (c : Core) (l : Nat) (b : TwBody) : (c.twSend l b).test = c.test := (c.twSend_keeps l b).test
@[simp] theorem Core.twSend_jtag (c : Core) (l : Nat) (b : TwBody) : (c.twSend l b).jtag = c.jtag := (c.twSend_keeps l b).jtag
@[simp] theorem Core.twSend_fc_safe (c : Core) (l : Nat) (b : TwBody) : (c.twSend l b).fc.safe = c.fc.safe := (c.twSend_keeps l b).fc_safe
@[simp] theorem Core.twSend_fc_isos (c : Core) (l : Nat) (b : TwBody) : (c.twSend l b).fc.isos = c.fc.isos := (c.twSend_keeps l b).fc_isos
@[simp] theorem Core.twSend_fc_closed (c : Core) (l : Nat) (b : TwBody) : (c.twSend l b).fc.closed = c.fc.closed := (c.twSend_keeps l b).fc_closed
theorem Core.twSend_reg (c : Core) (l : Nat) (b : TwBody) {k : Nat} (h : k ∉ reportKeys) : (c.twSend l b).reg k = c.reg k := (c.twSend_keeps l b).2.1 k h

@[simp] theorem Core.clear_free {c : Core} (h : c.noTimer = true) (a b d : Nat) : (c.clear a b d).free = c.free := (Core.clear_keeps h a b d).free
@[simp] theorem Core.clear_blobs {c : Core} (h : c.noTimer = true) (a b d : Nat) : (c.clear a b d).blobs = c.blobs := (Core.clear_keeps h a b d).blobs
@[simp] theorem Core.clear_inForce {c : Core} (h : c.noTimer = true) (a b d : Nat) : (c.clear a b d).inForce = c.inForce := (Core.clear_keeps h a b d).inForce
@[simp] theorem Core.clear_time {c : Core} (h : c.noTimer = true) (a b d : Nat) : (c.clear a b d).time = c.time := (Core.clear_keeps h a b d).time
@[simp] theorem Core.clear_sched {c : Core} (h : c.noTimer = true) (a b d : Nat) : (c.clear a b d).sched = c.sched := (Core.clear_keeps h a b d).sched
@[simp] theorem Core.clear_node {c : Core} (h : c.noTimer = true) (a b d : Nat) : (c.clear a b d).node = c.node := (Core.clear_keeps h a b d).node
@[simp] theorem Core.clear_dict {c : Core} (h : c.noTimer = true) (a b d : Nat) : (c.clear a b d).dict = c.dict := (Core.clear_keeps h a b d).dict
@[simp] theorem Core.clear_ring {c : Core} (h : c.noTimer = true) (a b d : Nat) : (c.clear a b d).ring = c.ring := (Core.clear_keeps h a b d).ring
@[simp] theorem Core.clear_integ {c : Core} (h : c.noTimer = true) (a b d : Nat) : (c.clear a b d).integ = c.integ := (Core.clear_keeps h a b d).integ
@[simp] theorem Core.clear_chans {c : Core} (h : c.noTimer = true) (a b d : Nat) : (c.clear a b d).chans = c.chans := (Core.clear_keeps h a b d).chans
@[simp] theorem Core.clear_cans {c : Core} (h : c.noTimer = true) (a b d : Nat) : (c.clear a b d).cans = c.cans := (Core.clear_keeps h a b d).cans
@[simp] theorem Core.clear_fcLatch {c : Core} (h : c.noTimer = true) (a b d : Nat) : (c.clear a b d).fcLatch = c.fcLatch := (Core.clear_keeps h a b d).fcLatch
@[simp] theorem Core.clear_engs {c : Core} (h : c.noTimer = true) (a b d : Nat) : (c.clear a b d).engs = c.engs := (Core.clear_keeps h a b d).engs
@[simp] theorem Core.clear_disc {c : Core} (h : c.noTimer = true) (a b d : Nat) : (c.clear a b d).disc = c.disc := (Core.clear_keeps h a b d).disc
@[simp] theorem Core.clear_meas {c : Core} (h : c.noTimer = true) (a b d : Nat) : (c.clear a b d).meas = c.meas := (Core.clear_keeps h a b d).meas
@[simp] theorem Core.clear_map {c : Core} (h : c.noTimer = true) (a b d : Nat) : (c.clear a b d).map = c.map := (Core.clear_keeps h a b d).map
@[simp] theorem Core.clear_fab {c : Core} (h : c.noTimer = true) (a b d : Nat) : (c.clear a b d).fab = c.fab := (Core.clear_keeps h a b d).fab
@[simp] theorem Core.clear_lhp {c : Core} (h : c.noTimer = true) (a b d : Nat) : (c.clear a b d).lhp = c.lhp := (Core.clear_keeps h a b d).lhp
@[simp] theorem Core.clear_pwr {c : Core} (h : c.noTimer = true) (a b d : Nat) : (c.clear a b d).pwr = c.pwr := (Core.clear_keeps h a b d).pwr
@[simp] theorem Core.clear_mgmt {c : Core} (h : c.noTimer = true) (a b d : Nat) : (c.clear a b d).mgmt = c.mgmt := (Core.clear_keeps h a b d).mgmt
@[simp] theorem Core.clear_test {c : Core} (h : c.noTimer = true) (a b d : Nat) : (c.clear a b d).test = c.test := (Core.clear_keeps h a b d).test
@[simp] theorem Core.clear_jtag {c : Core} (h : c.noTimer = true) (a b d : Nat) : (c.clear a b d).jtag = c.jtag := (Core.clear_keeps h a b d).jtag
@[simp] theorem Core.clear_fc_safe {c : Core} (h : c.noTimer = true) (a b d : Nat) : (c.clear a b d).fc.safe = c.fc.safe := (Core.clear_keeps h a b d).fc_safe
@[simp] theorem Core.clear_fc_isos {c : Core} (h : c.noTimer = true) (a b d : Nat) : (c.clear a b d).fc.isos = c.fc.isos := (Core.clear_keeps h a b d).fc_isos
@[simp] theorem Core.clear_fc_closed {c : Core} (h : c.noTimer = true) (a b d : Nat) : (c.clear a b d).fc.closed = c.fc.closed := (Core.clear_keeps h a b d).fc_closed
theorem Core.clear_reg {c : Core} (h : c.noTimer = true) (a b d : Nat) {k : Nat} (g : k ∉ reportKeys) : (c.clear a b d).reg k = c.reg k := (Core.clear_keeps h a b d).2.1 k g

@[simp] theorem Core.clearAll_free {c : Core} (h : c.noTimer = true) (a b : Nat) : (c.clearAll a b).free = c.free := (Core.clearAll_keeps h a b).free
@[simp] theorem Core.clearAll_blobs {c : Core} (h : c.noTimer = true) (a b : Nat) : (c.clearAll a b).blobs = c.blobs := (Core.clearAll_keeps h a b).blobs
@[simp] theorem Core.clearAll_inForce {c : Core} (h : c.noTimer = true) (a b : Nat) : (c.clearAll a b).inForce = c.inForce := (Core.clearAll_keeps h a b).inForce
@[simp] theorem Core.clearAll_time {c : Core} (h : c.noTimer = true) (a b : Nat) : (c.clearAll a b).time = c.time := (Core.clearAll_keeps h a b).time
@[simp] theorem Core.clearAll_sched {c : Core} (h : c.noTimer = true) (a b : Nat) : (c.clearAll a b).sched = c.sched := (Core.clearAll_keeps h a b).sched
@[simp] theorem Core.clearAll_node {c : Core} (h : c.noTimer = true) (a b : Nat) : (c.clearAll a b).node = c.node := (Core.clearAll_keeps h a b).node
@[simp] theorem Core.clearAll_dict {c : Core} (h : c.noTimer = true) (a b : Nat) : (c.clearAll a b).dict = c.dict := (Core.clearAll_keeps h a b).dict
@[simp] theorem Core.clearAll_ring {c : Core} (h : c.noTimer = true) (a b : Nat) : (c.clearAll a b).ring = c.ring := (Core.clearAll_keeps h a b).ring
@[simp] theorem Core.clearAll_integ {c : Core} (h : c.noTimer = true) (a b : Nat) : (c.clearAll a b).integ = c.integ := (Core.clearAll_keeps h a b).integ
@[simp] theorem Core.clearAll_chans {c : Core} (h : c.noTimer = true) (a b : Nat) : (c.clearAll a b).chans = c.chans := (Core.clearAll_keeps h a b).chans
@[simp] theorem Core.clearAll_cans {c : Core} (h : c.noTimer = true) (a b : Nat) : (c.clearAll a b).cans = c.cans := (Core.clearAll_keeps h a b).cans
@[simp] theorem Core.clearAll_fcLatch {c : Core} (h : c.noTimer = true) (a b : Nat) : (c.clearAll a b).fcLatch = c.fcLatch := (Core.clearAll_keeps h a b).fcLatch
@[simp] theorem Core.clearAll_engs {c : Core} (h : c.noTimer = true) (a b : Nat) : (c.clearAll a b).engs = c.engs := (Core.clearAll_keeps h a b).engs
@[simp] theorem Core.clearAll_disc {c : Core} (h : c.noTimer = true) (a b : Nat) : (c.clearAll a b).disc = c.disc := (Core.clearAll_keeps h a b).disc
@[simp] theorem Core.clearAll_meas {c : Core} (h : c.noTimer = true) (a b : Nat) : (c.clearAll a b).meas = c.meas := (Core.clearAll_keeps h a b).meas
@[simp] theorem Core.clearAll_map {c : Core} (h : c.noTimer = true) (a b : Nat) : (c.clearAll a b).map = c.map := (Core.clearAll_keeps h a b).map
@[simp] theorem Core.clearAll_fab {c : Core} (h : c.noTimer = true) (a b : Nat) : (c.clearAll a b).fab = c.fab := (Core.clearAll_keeps h a b).fab
@[simp] theorem Core.clearAll_lhp {c : Core} (h : c.noTimer = true) (a b : Nat) : (c.clearAll a b).lhp = c.lhp := (Core.clearAll_keeps h a b).lhp
@[simp] theorem Core.clearAll_pwr {c : Core} (h : c.noTimer = true) (a b : Nat) : (c.clearAll a b).pwr = c.pwr := (Core.clearAll_keeps h a b).pwr
@[simp] theorem Core.clearAll_mgmt {c : Core} (h : c.noTimer = true) (a b : Nat) : (c.clearAll a b).mgmt = c.mgmt := (Core.clearAll_keeps h a b).mgmt
@[simp] theorem Core.clearAll_test {c : Core} (h : c.noTimer = true) (a b : Nat) : (c.clearAll a b).test = c.test := (Core.clearAll_keeps h a b).test
@[simp] theorem Core.clearAll_jtag {c : Core} (h : c.noTimer = true) (a b : Nat) : (c.clearAll a b).jtag = c.jtag := (Core.clearAll_keeps h a b).jtag
@[simp] theorem Core.clearAll_fc_safe {c : Core} (h : c.noTimer = true) (a b : Nat) : (c.clearAll a b).fc.safe = c.fc.safe := (Core.clearAll_keeps h a b).fc_safe
@[simp] theorem Core.clearAll_fc_isos {c : Core} (h : c.noTimer = true) (a b : Nat) : (c.clearAll a b).fc.isos = c.fc.isos := (Core.clearAll_keeps h a b).fc_isos
@[simp] theorem Core.clearAll_fc_closed {c : Core} (h : c.noTimer = true) (a b : Nat) : (c.clearAll a b).fc.closed = c.fc.closed := (Core.clearAll_keeps h a b).fc_closed
theorem Core.clearAll_reg {c : Core} (h : c.noTimer = true) (a b : Nat) {k : Nat} (g : k ∉ reportKeys) : (c.clearAll a b).reg k = c.reg k := (Core.clearAll_keeps h a b).2.1 k g

/-! Reports while the tick is open at the collector. -/

theorem Core.reportSev_open (c : Core) (source inst sev cause detail : Nat) (inj no : Bool) (h : c.tickOpen = true) :
    ∃ l, c.reportSev source inst sev cause detail inj no = { c with fc := { c.fc with arrivals := c.fc.arrivals ++ l } } := by
  refine ⟨_, c.arrive_open _ h ?_⟩
  cases inj <;> simp [FaultRec.placeTick, bit, b2n]

theorem Core.report_open (c : Core) (source inst cause : Nat) (h : c.tickOpen = true) :
    ∃ l, c.report source inst cause = { c with fc := { c.fc with arrivals := c.fc.arrivals ++ l } } :=
  c.reportSev_open _ _ _ _ _ _ _ h

theorem Core.raiseSev_open (c : Core) (source inst sev cause detail : Nat) (inj no : Bool) (h : c.tickOpen = true) :
    ∃ a l, c.raiseSev source inst sev cause detail inj no
      = { c with fc := { c.fc with active := c.fc.active ++ a, arrivals := c.fc.arrivals ++ l } } := by
  unfold Core.raiseSev
  split
  · exact ⟨[], [], by simp⟩
  · refine ⟨_, _, Core.arrive_open _ _ h ?_⟩
    cases inj <;> simp [FaultRec.placeTick, bit, b2n]

theorem Core.raise_open (c : Core) (source inst cause : Nat) (h : c.tickOpen = true) :
    ∃ a l, c.raise source inst cause
      = { c with fc := { c.fc with active := c.fc.active ++ a, arrivals := c.fc.arrivals ++ l } } :=
  c.raiseSev_open _ _ _ _ _ _ _ h

end Sys2Proof.Machine
end

