-- ==== Sys2Proof/Machine/Balls.lean ====
section
/-! DEFINITION. The balls (chapter 20, R657, R658) and what the chip puts on each of them: the use and level of serial channel
balls (R275, R277, R283, R287), CAN balls (R319), pin engine groups (R352, R353, R355), discrete lines (R377), field rail gates
(R556), ring-port management (R91), the host port (R472, R493), the heartbeat (R501), TB_PPS_OUT (R255) and the reset states
(R533, R647, R658). The bits of a record, frame or bus cycle under way are not a level: `traffic` stands for them. -/

namespace Sys2Proof.Machine

/-- The signals of R658. -/
inductive Signal where
  | channel (n pin : Nat)
  | line (bank l : Nat)
  | lineSupply (bank : Nat)
  | faultIn (n : Nat) (neg : Bool)
  | canTx (n : Nat)
  | canRx (n : Nat)
  | meas (n : Nat) (neg : Bool)
  | rail (n sig : Nat)
  | ring (p sig : Nat)
  | refClock (neg : Bool)
  | host (i : Nat)
  | twin (i : Nat)
  | feed (f sig : Nat)
  | ppsIn
  | ppsOut
  | strap (i : Nat)
  | flash (i : Nat)
  | jtag (i : Nat)
  | crystal (i : Nat)
  | supply (i : Nat)
  deriving DecidableEq, Repr

/-- R658: the signal of ball index k. -/
def signalAt (k : Nat) : Signal :=
  if k < 384 then .channel (k / 3) (k % 3)
  else if k < 672 then (if (k - 384) % 9 = 8 then .lineSupply ((k - 384) / 9) else .line ((k - 384) / 9) ((k - 384) % 9))
  else if k < 928 then .faultIn ((k - 672) / 2) (k % 2 == 1)
  else if k < 992 then (if k % 2 = 0 then .canTx ((k - 928) / 2) else .canRx ((k - 928) / 2))
  else if k < 1056 then .meas ((k - 992) / 2) (k % 2 == 1)
  else if k < 1120 then .rail ((k - 1056) / 4) (k % 4)
  else if k < 1160 then .ring ((k - 1120) / 10) (k % 10)
  else if k < 1162 then .refClock (k == 1161)
  else if k < 1199 then .host (k - 1162)
  else if k < 1207 then .twin (k - 1199)
  else if k < 1213 then .feed ((k - 1207) / 3) ((k - 1207) % 3)
  else if k = 1213 then .ppsIn
  else if k = 1214 then .ppsOut
  else if k < 1230 then .strap (k - 1215)
  else if k < 1236 then .flash (k - 1230)
  else if k < 1241 then .jtag (k - 1236)
  else if k < 1247 then .crystal (k - 1241)
  else .supply (k - 1247)

/-- The letters of the rows (R657). -/
def ballRows : List String :=
  ["A", "B", "C", "D", "E", "F", "G", "H", "J", "K", "L", "M", "N", "P", "T", "U", "V", "W"]
    ++ ["Y", "AA", "AB", "AC", "AD", "AE", "AF", "AG", "AH", "AJ", "AK", "AL", "AM", "AN", "AP", "AT", "AU", "AV"]

/-- R657: the row and column of ball index k. -/
def ballPlace (k : Nat) : String × Nat := (ballRows.getD (k / 36) "", k % 36 + 1)

/-- What the chip does at a ball: nothing, reads it, ignores it, drives it to a level, pulls it low or releases it under the
protocol of the role, carries the bits of a record, frame or cycle under way, or has it for an analog signal, a clock, a SerDes
pair or a supply. A ball that is `released` is an open-drain output at its high level; `ignored` is a high-impedance input. -/
inductive Ball where
  | highZ
  | input
  | ignored
  | level (high : Bool)
  | released
  | traffic
  | analog
  | differential
  | supply
  deriving DecidableEq, Repr

/-! Serial channels and pin engines. -/

/-- R275, R282 to R292: what channel n's role does at pin j, without the inversion of CH_PINS; a chip select of the neighbour on
pin C (R287). -/
def Core.roleBall (c : Core) (n j : Nat) : Ball :=
  let x := c.chan n
  let pins := c.cfg (Reg.CH_PINS n)
  let mate := if n % 2 = 0 then n + 1 else n - 1
  if j == 2 && c.chRole mate == 3 && c.cfg (Reg.CH_SPI_CS mate) % 512 == 0x100 then
    .level ((c.chan mate).cs == bit (c.cfg (Reg.CH_SPI_CS mate)) 9)
  else
    match c.chRole n, j with
    | 1, 0 => if x.busy || Nat.blt c.now x.sentEnd then .traffic else .level true
    | 1, 1 => if bit pins 3 then .ignored else .input
    | 1, 2 => if bit pins 5 then .input else .ignored
    | 2, 0 => if x.busy || Nat.blt c.now x.sentEnd then .traffic else .level true
    | 2, 1 => .input
    | 2, 2 => .level (x.de || Nat.blt c.now x.deUntil)
    | 3, 0 => if x.busy then .traffic else .level (bit (c.cfg (Reg.CH_SPI n)) 17)
    | 3, 1 => if x.busy then .traffic else .level true
    | 3, 2 => .input
    | 4, 0 | 4, 1 | 5, 0 | 5, 1 | 6, 0 | 6, 1 | 7, 0 | 7, 1 => if x.busy then .traffic else .released
    | 6, 2 => .input
    | _, _ => .ignored

/-- R275: the inversion of CH_PINS comes after the role's own polarity: an open-drain output that releases its line drives it low
when inverted (DEDUCED, log entry 113). -/
def Ball.invert (b : Ball) (inv : Bool) : Ball :=
  match b with
  | .level h => .level (h != inv)
  | .released => if inv then .level false else .released
  | b => b

/-- The engine that has taken cluster pin i of cluster k, and the place of the pin in its group (R351, R355). -/
def Core.takenBy (c : Core) (k i : Nat) : Option (Nat × Nat) :=
  (List.range 8).findSome? (fun e =>
    let n := 8 * k + e
    if c.engState n == 0 then none else ((c.engPins n).idxOf? i).map (fun g => (n, g)))

/-- What engine n puts on pin g of its group: a pin set as input is high-impedance (R353); an open-drain output drives low or
releases (R352). -/
def Core.engBall (c : Core) (n g : Nat) : Ball :=
  let x := c.eng n
  if !bit x.dirs g || !c.drivesField 3 n then .input
  else if bit (c.reg (Reg.ENG_CFG n)) 16 && bit x.levels g then .released
  else .level (bit x.levels g)

/-- Ball CH_n_A (j = 0), CH_n_B (1) or CH_n_C (2): high-impedance in reset and BOOT; under the engine that has taken the pin over
(R277); under the role else, and high-impedance where its output is not this unit's to drive (R505). -/
def Core.chanBall (c : Core) (n j : Nat) : Ball :=
  if !c.up then .highZ
  else match c.takenBy (n / 16) (3 * (n % 16) + j) with
    | some (e, g) => c.engBall e g
    | none =>
      match (c.roleBall n j).invert (bit (c.cfg (Reg.CH_PINS n)) j) with
      | .input => .input
      | .ignored => .ignored
      | b => if c.drivesField 1 n then b else .highZ

/-! CAN controllers. -/

/-- CAN_n_TX (R319, R505): high-impedance in reset and BOOT, recessive (high) while the controller is off, in CONFIG_ERR or
bus-off and while it sends nothing. -/
def Core.canTxBall (c : Core) (n : Nat) : Ball :=
  if !c.up then .highZ
  else if c.canOn n && (c.can n).started && c.drivesField 2 n then .traffic
  else .level true

/-- CAN_n_RX is an input (R319). -/
def Core.canRxBall (c : Core) : Ball := if c.up then .input else .ignored

/-! Every ball. -/

/-- A discrete line (R377, R385). -/
def Core.lineBall (c : Core) (b l : Nat) : Ball :=
  if !c.up then .highZ
  else match c.discBall b l with
    | some v => .level v
    | none => if bit (c.bank b).driven l && !c.disc.mute && c.bankActs b then .released else .input

/-- Ring port p (R91): the pairs, module present, loss of signal, transmitter fault, transmitter disable and the two wires of the
module's management bus. TX_DIS is high-impedance in reset (R658). -/
def Core.ringBall (c : Core) (p sig : Nat) : Ball :=
  if sig < 4 then .differential
  else if sig < 7 then (if c.up then .input else .ignored)
  else if sig = 7 then (if c.up then .level (c.port p).txDis else .highZ)
  else if c.up then .released else .highZ

/-- BOOT has begun, and no reset holds. -/
def Core.awake (c : Core) : Bool := c.up || c.node.phase == .boot

/-- The local host port (R471, R472, R493): nothing of the bus is driven while LHP_ENABLE is 0, but for LHP_BREQ_N, which is
high; the interrupt wires are low in reset. Signals in the order of R658. -/
def Core.hostBall (c : Core) (i : Nat) : Ball :=
  let own := c.lhp.master
  if i = 0 then (if c.hostOn then .input else .ignored)
  else if i < 17 then (if c.hostOn && (own || c.lhp.cycle.isSome) then .traffic else if c.hostOn then .input else .ignored)
  else if i < 20 then (if !c.hostOn then .ignored else if own then .traffic else .input)
  else if i = 20 ∨ i = 22 then (if !c.hostOn then .highZ else if c.lhp.cycle.isSome then .traffic else .released)
  else if i = 21 ∨ i = 24 then (if c.hostOn then .input else .ignored)
  else if i = 23 then (if c.up then .level (!(c.hostOn && c.lhp.breqSince.isSome)) else .highZ)
  else if i < 33 then .level (c.awake && c.irqPin (i - 25))
  else if c.awake then .input else .ignored

/-- The twin pair (R498, R501): the heartbeat outputs are at opposite levels, and low in reset, in BOOT and with TW_ENABLE 0. -/
def Core.twinBall (c : Core) (i : Nat) : Ball :=
  match i with
  | 4 => .level (c.twRuns && c.twin.hb == some true)
  | 5 => .level (c.twRuns && c.twin.hb != some true)
  | 6 | 7 => if c.up then .input else .ignored
  | _ => .differential

/-- What the chip does at a signal's ball. -/
def Core.signalBall (c : Core) : Signal → Ball
  | .channel n j => c.chanBall n j
  | .line b l => c.lineBall b l
  | .lineSupply _ => .supply
  | .faultIn _ _ => if c.up then .input else .ignored
  | .canTx n => c.canTxBall n
  | .canRx _ => c.canRxBall
  | .meas _ _ => .analog
  | .rail n sig => if sig = 0 then .level (c.gatePin n) else if sig = 1 then .analog else if c.up then .input else .ignored
  | .ring p sig => c.ringBall p sig
  | .refClock _ => .differential
  | .host i => c.hostBall i
  | .twin i => c.twinBall i
  | .feed f sig => if sig = 0 then .level (c.reg (Reg.FEED_STATE f) == 2) else .analog
  | .ppsIn => if c.up then .input else .ignored
  | .ppsOut => .level (c.up && c.time.ppsOut)
  | .strap _ => .input
  | .flash i => if c.node.phase != .boot && !c.up then .highZ else if i = 1 then .level true else .traffic
  | .jtag i => if i = 3 then .traffic else .input
  | .crystal _ => .analog
  | .supply _ => .supply

/-- A digital ball, which the boundary register covers (R671). -/
def Ball.digital : Ball → Bool
  | .analog | .differential | .supply => false
  | _ => true

/-- What the chip does at ball k. An instruction of the test access port that takes the balls (R672) puts its boundary register,
or high impedance, on every digital ball. -/
def Core.ball (c : Core) (k : Nat) : Ball :=
  let b := c.signalBall (signalAt k)
  if c.jtagTakes && b.digital then (if c.jtag.instr = .highz then .highZ else .traffic) else b

end Sys2Proof.Machine
end

