-- ==== Sys2Proof/Tests/Slice0.lean ====
section
/-! SUPPORT. Tests: an ill-formed command for each check of well-formedness, the spec's own vectors and worked examples, single
steps, and, for every statement with hypotheses, states and operands that meet them. -/

namespace Sys2Proof.Machine

set_option Elab.async false

/-- A node in operation in ACTIVE. -/
def opRun : Core := { node := { phase := .run, base := 5, ioHold := false, sources := [] } }

/-- A core in which the setting with key k has had the value v since the last reset. -/
def Core.inforce (c : Core) (k v : Nat) : Core := { c with inForce := mapSet (regDefault k) k v c.inForce }

/-- What a command leaves of a core without memory: P of the core after it. -/
def after (i : Instr) (c : Core) (P : Core → Bool) : Bool := match exec i ⟨[], [], c⟩ with
  | .next t => P t.core
  | _ => false

theorem Frame.seal_check (f : Frame) : f.seal.check = f.seal.transitCrc := rfl

theorem TwBody.head_good {b : TwBody} {l seq ack s a : Nat} (hs : s = seq) (ha : a = ack) :
    (b.head l seq ack).good s a b = true := by
  subst hs ha; simp [TwBody.head, TwHead.good]

theorem zeros_length (n : Nat) : (zeros n).length = n := List.length_replicate ..

/-- A head of a twin record whose fields fit. -/
def anyHead : TwHead := { len := 0, crc := 0 }

/-! Well-formedness: one ill-formed command for each check. -/

theorem wf_frame_ok : (Instr.dictReqEnqueue {}).wf = true := by decide
theorem wf_version : (Instr.dictReqEnqueue { version := 16 }).wf = false := by decide
theorem wf_kind : (Instr.frameRxHeader 0 { kind := 16 }).wf = false := by decide
theorem wf_class : (Instr.frameRxHeader 0 { cls := 8 }).wf = false := by decide
theorem wf_hop : (Instr.fabricRead { hop := 256 }).wf = false := by decide
theorem wf_residence : (Instr.fabricRead { res := 256 }).wf = false := by decide
theorem wf_destination : (Instr.fabricRead { dst := 65536 }).wf = false := by decide
theorem wf_source : (Instr.faultFrameRx { src := 65536 }).wf = false := by decide
theorem wf_origin : (Instr.faultFrameRx { okey := 65536 }).wf = false := by decide
theorem wf_stream : (Instr.updQuery { stream := 65536 }).wf = false := by decide
theorem wf_sequence : (Instr.updQuery { seq := 65536 }).wf = false := by decide
theorem wf_length : (Instr.updEnd { len := 65536 }).wf = false := by decide
theorem wf_tick : (Instr.updBegin { tick := 2 ^ 48 }).wf = false := by decide
theorem wf_correction : (Instr.timeSyncRx 0 { corr := 2 ^ 64 } .good 0).wf = false := by decide
theorem wf_hop_check : (Instr.dictRspRx { hopCheck := 65536 }).wf = false := by decide
theorem wf_check : (Instr.dictRspRx { check := 2 ^ 32 }).wf = false := by decide
theorem wf_payload : (Instr.c7RuntDiscard { payload := zeros 1025 }).wf = false := by decide +kernel
theorem wf_mapper_item : (Instr.mapperInputItem (some { kind := 16 })).wf = false := by decide
theorem wf_register_data : (Instr.registerWrite 2 0 1 (zeros 1009)).wf = false := by decide +kernel
theorem wf_module_id : (Instr.portModulePresent 0 (some [1])).wf = false := by decide
theorem wf_module_diag : (Instr.sfpDiagPoll 0 none (some [1])).wf = false := by decide
theorem wf_trunk_block : (Instr.trunkBlockRx 0 (zeros 4097)).wf = false := by decide +kernel
theorem wf_spi : (Instr.spiTransactionDone 0 (zeros 1025)).wf = false := by decide +kernel
theorem wf_i2c : (Instr.i2cTransactionDone 0 0 (zeros 256) 0).wf = false := by decide +kernel
theorem wf_i2c_target : (Instr.i2cTargetWrite 0 { bytes := zeros 513, ago := 0 }).wf = false := by decide +kernel
theorem wf_can_identifier : (Instr.canFrameRxComplete 0 (2 ^ 31) 0 [] 0).wf = false := by decide
theorem wf_can_data : (Instr.canFrameRxComplete 0 5 0 (zeros 65) 0).wf = false := by decide
theorem wf_millivolts : (Instr.discVioSense 0 65536).wf = false := by decide
theorem wf_route_entry : (Instr.routeTableWrite 0 (zeros 31)).wf = false := by decide
theorem wf_mapping_entry : (Instr.mappingEntryWrite 0 (zeros 17)).wf = false := by decide
theorem wf_window_bytes : (Instr.windowAccess 0 true 4 { bytes := [1] }).wf = false := by decide
theorem wf_host_odd : (Instr.hostReadCycle 1 2).wf = false := by decide
theorem wf_host_long : (Instr.hostReadCycle 0 514).wf = false := by decide
theorem wf_host_write : (Instr.hostWriteCycle 0 { bytes := [1] }).wf = false := by decide
theorem wf_master_cycle : (Instr.deviceMasterCycle none { bytes := zeros 257 }).wf = false := by decide +kernel
theorem wf_twin_head : (Instr.twAbort 0 0 { len := 0, crc := 2 ^ 32 }).wf = false := by decide
theorem wf_status_period : (Instr.twStatus 0 0 anyHead ⟨5, 1, 0, false, 9, 0, 0, 0⟩).wf = false := by decide
theorem wf_image_lines : (Instr.twImage 0 0 anyHead ⟨0, 2 ^ 256, 0⟩).wf = false := by decide
theorem wf_accept_tick : (Instr.twAccept 0 0 anyHead (2 ^ 48)).wf = false := by decide
theorem wf_grant_class : (Instr.twGrant 0 0 0 anyHead ⟨8, 0, 0, 0, 0, 0⟩).wf = false := by decide
theorem wf_journal_bank : (Instr.twJournal 0 0 0 anyHead ⟨0, 32, {}⟩).wf = false := by decide
theorem wf_number_id : (Instr.twNumber 0 0 0 anyHead false 131072 0 0 0).wf = false := by decide
theorem wf_sent_journal : (Instr.twSent 0 0 0 anyHead (2 ^ 32) 0 0 0 0).wf = false := by decide
theorem wf_mark_epoch : (Instr.twMark 0 0 anyHead (2 ^ 32) 0 0).wf = false := by decide
theorem wf_chunk_size : (Instr.twChunk 0 0 anyHead 0 0 [1]).wf = false := by decide
theorem wf_commit_count : (Instr.twCommit 0 0 anyHead 0 256 0).wf = false := by decide
theorem wf_fault_detail : (Instr.faultReport .onset 0 0 0 (2 ^ 64)).wf = false := by decide
theorem wf_return_record : (Instr.lcReturn 3 (zeros 1009)).wf = false := by decide +kernel
theorem wf_boundary : (Instr.jtagSample [1] [1, 2]).wf = false := by decide

/-! The spec's check vectors (R146, R199 and the Modbus check of chapter 08), over "123456789", and a poll and its reply. -/

/-- The ASCII string "123456789". -/
def nineDigits : Bytes := [0x31, 0x32, 0x33, 0x34, 0x35, 0x36, 0x37, 0x38, 0x39]

theorem test_hop_check_vector : crc16 nineDigits = 0x29B1 := by decide +kernel
theorem test_transit_check_vector : crc32c nineDigits = 0xE3069283 := by decide +kernel
theorem test_modbus_vector : crcModbus nineDigits = 0x4B37 := by decide +kernel
theorem test_modbus_poll : leBytes 2 (crcModbus [1, 3, 0, 0, 0, 1]) = [0x84, 0x0A] := by decide +kernel
theorem test_modbus_reply : leBytes 2 (crcModbus [1, 3, 2, 0x0B, 0xB8]) = [0xBF, 0x06] := by decide +kernel

/-! The dictionary's tables. -/

/-- Every object lies in the range of its piece, so that the ranges hide none. -/
theorem test_pieces_hold_their_rows :
    objTable.all (fun p => p.rows.all (fun r => Nat.ble p.lo r.base && Nat.ble (r.base + r.stride * (r.count - 1)) p.hi)) = true := by
  decide +kernel

/-! Reset (R644, R646). -/

theorem test_reset_safe : State.reset.Safe := by unfold State.Safe; decide
theorem test_reset_holds_io : State.reset.core.node.ioHold = true := by decide
theorem test_reset_link_wait : State.reset.core.reg Reg.LINK_WAIT = 2000 := by decide +kernel
theorem test_power_on_counts : after .powerOn opRun (fun c => c.reg Reg.RESET_CAUSE == 1 && c.node.phase == .reset) = true := by
  decide +kernel

/-! Worked examples of the spec. -/

/-- Chapter 07: the tick at T0 = 1,800,000,000 s with a period of 1 µs. -/
theorem test_tick_of_t0 :
    ({ opRun with time := { sys := 1800000000000000000 * 2 ^ 32 } } : Core).tickNow = 0x651728988000 := by decide +kernel

/-- Chapter 07: the SCHED_POST value of node 0x040C. -/
theorem test_sched_post : after (.schedPost 2 ([0x20, 0x21, 0xA0, 0x28, 0x17, 0x65, 6, 4, 0] ++ zeros 7)) opRun
    (fun c => c.sched.post == some ⟨0x651728A02120, 6, 4, 0⟩) = true := by decide +kernel

/-- Chapter 02: the write of 60,000 ms to 0x0233.01. -/
theorem test_write_trunk_timeout : after (.registerWrite 2 0x0233 1 (leBytes 4 60000)) opRun
    (fun c => c.reg Reg.SEG_TIMEOUT_TRUNK == 60000) = true := by decide +kernel

/-- The same write without an open session's level is refused with LEVEL. -/
theorem test_write_level : after (.registerWrite 0 0x0233 1 (leBytes 4 60000)) opRun
    (fun c => c.reg Reg.SEG_TIMEOUT_TRUNK == 30000 && c.dict.answer.any (fun a => a.status == 6)) = true := by decide +kernel

/-- Chapter 16: the jammed pump's rail: full scale 20 A, its trip curve, 10 s of cooling. -/
def pumpRail : Core :=
  ((opRun.inforce (Reg.RAIL_FS_MA 1) 20000).setReg (Reg.RAIL_COOL 1) 10000).setBlob (Reg.RAIL_CURVE 1)
    ([(5000, 60000000), (6000, 20000000), (7500, 5000000), (10000, 1000000), (12500, 300000), (15000, 100000), (17000, 20000),
      (17500, 10000)].flatMap (fun x => leBytes 2 x.1 ++ leBytes 4 x.2))

theorem test_pump_heat : pumpRail.heatStep 1 0 8999 = 219902 := by decide +kernel
theorem test_pump_cools : pumpRail.heatStep 1 (2 ^ 40) 0 = 2 ^ 40 - 109951 := by decide +kernel
theorem test_pump_current : after (.railSample 1 1843 true) (pumpRail.setReg (Reg.RAIL_STATE 1) 4)
    (fun c => c.reg (Reg.RAIL_I_MA 1) == 8999) = true := by decide +kernel

/-- Chapter 12: registers 0 and 1 of the oxygen analyser. -/
def oxygen : Bytes := [1, 3, 4, 0, 0xF5, 0, 0xB3]

theorem test_oxygen_unpacks : unpack oxygen 31 0x4F = some 245 ∧ unpack oxygen 47 0x6F = some 179 := by decide +kernel
theorem test_oxygen_scales : scaled ⟨31, 0x4F, 0, 10, 0, 0, 0x0F, 64⟩ 245 = 2450 ∧
    scaled ⟨47, 0x6F, 0, 13107, 32768, 16, 0x27, 80⟩ 179 = 36 := by decide +kernel
theorem test_oxygen_packs : (pack (zeros 12) 64 0x0F 2450).map (fun b => b.drop 8) = some [0x92, 0x09, 0, 0] := by decide +kernel

/-- Chapter 10: the encoder's program holds a WAIT, a SHIFT_IN and a MOVE that R359 allows. -/
theorem test_encoder_program : progOk ([0x06, 0x61, 0x01, 0x39, 0x00, 0xAC] ++ zeros 58) = true := by decide +kernel

/-! Single steps. -/

theorem test_idle_before_boot_ends : step State.reset = .next State.reset := by rfl
theorem test_step_takes_front : (match step ⟨[.feedReverse 0 9, .powerOn], [], opRun⟩ with
    | .next t => t.pending == [Instr.powerOn]
    | _ => false) = true := by decide +kernel
theorem test_can_recover_refused : after (.canRecover 2 3) opRun
    (fun c => c.dict.answer.any (fun a => a.status == 0x11)) = true := by decide +kernel
theorem test_rail_cmd_pending : after (.registerWrite 2 0x9110 1 [1]) opRun
    (fun c => c.dict.answer.any (fun a => a.status == 0 && a.data.length == 6) && c.dict.rwt.length == 1) = true := by decide +kernel
theorem test_capability_read_only : after (.registerWrite 3 0x0001 1 [0]) opRun
    (fun c => c.dict.answer.any (fun a => a.status == 3)) = true := by decide +kernel
theorem test_disc_safe_write : after (.discSafeWrite 2 31 0x5A) opRun (fun c => c.reg (Reg.DISC_SAFE 31) == 0x5A) = true := by
  decide +kernel
theorem test_no_word_spells_a_command : State.reset.withFetchWord 16 5 = State.reset := by rfl

/-! States and operands that meet the hypotheses of each statement. -/

theorem meets_RingPortsQualifyAndJoin :
  (∃ (p : Fin 4) (_id : Option Bytes) (s : State), s.core.portOn p = true ∧ s.core.reg (Reg.RP_STATE p) = 1) ∧
  (∃ (p : Fin 4) (s : State), s.core.portOn p = true ∧ 2 ≤ s.core.reg (Reg.RP_STATE p) ∧ s.core.reg (Reg.RP_STATE p) ≠ 5) ∧
  (∃ (p : LinkLock) (s : State), s.core.reg (Reg.RP_STATE p.port) = 2 ∧ bit (s.core.reg Reg.SUPPLY_FLAGS) 0 = false ∧
      p.still = none ∧ s.core.linkPartner p.port p.sets = true) ∧
  (∃ (p : Fin 4) (_cause : LinkLoss) (s : State), ((s.core.reg (Reg.RP_STATE p) = 3 ∨ s.core.reg (Reg.RP_STATE p) = 4 ∨
      s.core.reg (Reg.RP_STATE p) = 6))) ∧
  (∃ (p : Fin 4) (e : Nat) (s : State), s.core.reg (Reg.RP_STATE p) = 3 ∧ (s.core.port p).qualEnd = some e) ∧
  (∃ (p : Fin 4) (_id : Option Bytes) (diag : Option Bytes) (e : Nat) (x : Bytes) (s : State),
      (s.core.port p).sfpNext = some e ∧ (s.core.port p).present = true ∧ s.core.firmware = true ∧
      bit (fieldAt (s.core.blob (Reg.RP_SFP_ID p)) 92 1) 6 = true ∧ diag = some x ∧ s.core.tickOpen = true) ∧
  (∃ (p : Fin 4) (e : Nat) (s : State), s.core.reg (Reg.RP_STATE p) = 4 ∧ (s.core.port p).reqNext = some e) ∧
  (∃ (p : Fin 4) (f : Frame) (s : State), ((s.core.reg (Reg.RP_STATE p) = 4 ∨ s.core.reg (Reg.RP_STATE p) = 5)) ∧
      s.core.reg Reg.INJ_LEFT = 0 ∧ f.hopCheck = f.hopCrc ∧ f.badHeader = false ∧ f.check = f.transitCrc ∧ f.kind = 8 ∧
      (headOf f.payload).phase = 2) ∧
  (∃ (p : Fin 4) (f : Frame) (s : State), s.core.reg (Reg.RP_STATE p) = 4 ∧ (s.core.port p).reqSent = true ∧
      s.core.reg Reg.INJ_LEFT = 0 ∧ f.hopCheck = f.hopCrc ∧ f.badHeader = false ∧ f.check = f.transitCrc ∧ f.kind = 8 ∧
      (headOf f.payload).phase = 3 ∧ s.core.spliceAccepts p (memberOfBytes (slice f.payload 16 32)) = true) ∧
  (∃ (p : Fin 4) (e : Nat) (s : State), s.core.reg (Reg.RP_STATE p) = 4 ∧ (s.core.port p).holdEnd = some e) ∧
  (∃ (p : Fin 4) (s : State), s.core.joined p = true ∧ (s.core.port p).wrapped = true) :=
  ⟨⟨0, none, ⟨[], [], (opRun.setReg (Reg.RP_STATE 0) 1).inforce (Reg.RP_ENABLE 0) 1⟩, by decide +kernel⟩,
  ⟨0, ⟨[], [], (opRun.setReg (Reg.RP_STATE 0) 2).inforce (Reg.RP_ENABLE 0) 1⟩, by decide +kernel⟩,
  ⟨⟨1, [], none⟩, ⟨[], [], opRun.setReg (Reg.RP_STATE 1) 2⟩, by decide +kernel⟩,
  ⟨2, { cause := .lock }, ⟨[], [], opRun.setReg (Reg.RP_STATE 2) 4⟩, by decide +kernel⟩,
  ⟨0, 5, ⟨[], [], (opRun.setReg (Reg.RP_STATE 0) 3).setPort 0 { qualEnd := some 5 }⟩, by decide +kernel⟩,
  ⟨0, none, some [1, 2, 3], 5, [1, 2, 3], ⟨[], [], (opRun.setPort 0 { sfpNext := some 5, present := true }).setBlob
      (Reg.RP_SFP_ID 0) (zeros 92 ++ [0x40, 0, 0, 0])⟩, by decide +kernel⟩,
  ⟨0, 9, ⟨[], [], (opRun.setReg (Reg.RP_STATE 0) 4).setPort 0 { reqNext := some 9 }⟩, by decide +kernel⟩,
  ⟨0, ({ kind := 8, cls := 4, mcast := true, dst := 0x07FF, src := 0x0402, okey := 0x0402, payload := censusPayload { gen := 0, origin := 0, phase := 2, batch := 0, cause := 0, apply := 0, base := 0 } [{ addr := 0x0402, ports := 0x10, segment := 1, uid := zeros 16 }] }
      : Frame).seal, ⟨[], [], opRun.setReg (Reg.RP_STATE 0) 4⟩,
      (by and_intros <;> first | with_reducible exact Frame.seal_check _ | decide +kernel)⟩,
  ⟨0, ({ kind := 8, cls := 4, mcast := true, dst := 0x07FF, src := 0x0402, okey := 0x0402, payload := censusPayload { gen := 0, origin := 0, phase := 3, batch := 0, cause := 0, apply := 0, base := 0 } [{ addr := 0x0402, ports := 0x10, segment := 1, uid := zeros 16 }] }
      : Frame).seal, ⟨[], [], ((opRun.setReg (Reg.RP_STATE 0) 4).setPort 0 { reqSent := true }).inforce Reg.SEGMENT 1⟩,
      (by and_intros <;> first | with_reducible exact Frame.seal_check _ | decide +kernel)⟩,
  ⟨0, 9, ⟨[], [], (opRun.setReg (Reg.RP_STATE 0) 4).setPort 0 { holdEnd := some 9 }⟩, by decide +kernel⟩,
  ⟨1, ⟨[], [], (opRun.setReg (Reg.RP_STATE 1) 5).setPort 1 { wrapped := true }⟩, by decide +kernel⟩⟩

theorem meets_LinkFailureWrapsTheRing :
  (∃ (p : Fin 4) (_cause : LinkLoss) (s : State), s.core.joined p = true ∧ (s.core.port p).failing = false ∧
      s.core.tickOpen = true) ∧
  (∃ (p : Fin 4) (e : Nat) (s : State), s.core.joined p = true ∧ (s.core.port p).wrapEnd = some e ∧ s.core.now < e) ∧
  (∃ (p : Fin 4) (e : Nat) (s : State), s.core.joined p = true ∧ s.core.joined (otherPort p) = true ∧
      (s.core.port p).wrapEnd = some e) ∧
  (∃ (p : Fin 4) (s : State), (s.core.port p).wrapDue = true ∧ s.core.joined (otherPort p) = true ∧ s.core.tickOpen = true ∧
      s.core.up = true ∧ s.core.addrOn (pairOf p) ≠ 0xFFFF ∧ s.core.ring.lone = false) ∧
  (∃ (e : Nat) (s : State), s.core.ring.linkWaitEnd = some e ∧ s.core.joined 0 = false ∧ s.core.joined 1 = false ∧
      s.core.ring.lone = false ∧ s.core.tickOpen = true) ∧
  (∃ (p : Fin 4) (h : Hold) (s : State), s.core.fwd.holds.find? (fun x => x.1 == p.val) = some (p.val, h)) ∧
  (∃ (p : Fin 4) (h : Hold) (s : State), s.core.fwd.holds.find? (fun x => x.1 == p.val) = some (p.val, h) ∧
      s.core.joined p = true ∧ (s.core.port p).failing = false ∧ s.core.now ≤ h.ends) :=
  ⟨⟨0, { cause := .los }, ⟨[], [], opRun.setReg (Reg.RP_STATE 0) 5⟩, by decide +kernel⟩,
  ⟨0, 9, ⟨[], [], (opRun.setReg (Reg.RP_STATE 0) 5).setPort 0 { failing := true, wrapEnd := some 9 }⟩, by decide +kernel⟩,
  ⟨0, 9, ⟨[], [], ((opRun.setReg (Reg.RP_STATE 0) 5).setReg (Reg.RP_STATE 1) 5).setPort 0
      { failing := true, wrapEnd := some 9 }⟩, by decide +kernel⟩,
  ⟨0, ⟨[], [], ((opRun.setReg (Reg.RP_STATE 1) 5).setReg Reg.NODE_ADDR 0x401).setPort 0 { wrapDue := true }⟩, by decide +kernel⟩,
  ⟨9, ⟨[], [], { opRun with ring := { linkWaitEnd := some 9 } }⟩, by decide +kernel⟩,
  ⟨0, { since := 1, ends := 9 }, ⟨[], [], { opRun with fwd := { holds := [(0, { since := 1, ends := 9 })] } }⟩,
      by decide +kernel⟩,
  ⟨0, { since := 1, ends := 9 }, ⟨[], [],
      { opRun.setReg (Reg.RP_STATE 0) 5 with fwd := { holds := [(0, { since := 1, ends := 9 })] } }⟩, by decide +kernel⟩⟩

theorem meets_CensusBuildsTheSegmentTable :
  (∃ (lvl : Fin 4) (s : State), s.core.takes lvl Reg.CENSUS_START = true ∧ s.core.addrOn 0 ≠ 0xFFFF ∧
      (s.core.turn 0).isSome = true ∧ s.core.ring.lone = false) ∧
  (∃ (p : Fin 4) (f : Frame) (s : State), s.core.up = true ∧ s.core.joined p = true ∧ s.core.reg Reg.INJ_LEFT = 0 ∧
      f.check = f.transitCrc ∧ s.core.censusStale (pairOf p) f = false ∧ (headOf f.payload).phase = 0 ∧ f.last = false ∧
      (s.core.census (pairOf p)).handled ≠ some ((headOf f.payload).gen, (headOf f.payload).origin)) ∧
  (∃ (p : Fin 4) (f : Frame) (s : State), s.core.up = true ∧ s.core.joined p = true ∧ s.core.reg Reg.INJ_LEFT = 0 ∧
      f.check = f.transitCrc ∧ s.core.censusStale (pairOf p) f = false ∧ s.core.leavesAsOwn p f = true ∧
      (headOf f.payload).phase = 0 ∧ f.last = true ∧ (s.core.census (pairOf p)).own = true ∧
      (s.core.census (pairOf p)).handled = some ((headOf f.payload).gen, (headOf f.payload).origin)) ∧
  (∃ (p : Fin 4) (f : Frame) (s : State), s.core.up = true ∧ s.core.joined p = true ∧ s.core.reg Reg.INJ_LEFT = 0 ∧
      f.check = f.transitCrc ∧ s.core.censusStale (pairOf p) f = false ∧ (headOf f.payload).phase = 1 ∧ f.last = true ∧
      (headOf f.payload).batch = 0 ∧ f.src ≠ s.core.addrOn (pairOf p) ∧
      (s.core.census (pairOf p)).handled = some ((headOf f.payload).gen, (headOf f.payload).origin) ∧
      (s.core.census (pairOf p)).pending = none ∧ (s.core.census (pairOf p)).finals = [] ∧
      tickAhead (headOf f.payload).apply s.core.tickNow = true) ∧
  (∃ (pair : Fin 2) (x : PendTable) (s : State), (s.core.census pair).pending = some x ∧ s.core.tickOpen = true) ∧
  (∃ (pair : Fin 2) (e : Nat) (s : State), s.core.up = true ∧ s.core.addrOn pair ≠ 0xFFFF ∧
      (s.core.turn (2 * pair.val)).isSome = true ∧ s.core.ring.lone = false ∧ (s.core.census pair).deadline = some e) ∧
  (∃ (pair : Fin 2) (e : Nat) (s : State), s.core.up = true ∧ s.core.addrOn pair ≠ 0xFFFF ∧
      (s.core.turn (2 * pair.val)).isSome = true ∧ s.core.ring.lone = false ∧ (s.core.census pair).finalEnd = some e) :=
  ⟨⟨3, ⟨[], [], (((opRun.setReg (Reg.RP_STATE 0) 5).setReg (Reg.RP_STATE 1) 5).setReg Reg.NODE_ADDR 0x401).inforce Reg.SEGMENT
      1⟩, by decide +kernel⟩,
  ⟨1, censusFrame 0x402 1 0 0 false { gen := 7, origin := 0x402, phase := 0, batch := 0, cause := 0, apply := 50, base := 0 }
      [{ addr := 0x402, uid := zeros 16 }], ⟨[], [], (((opRun.setReg (Reg.RP_STATE 0) 5).setReg (Reg.RP_STATE 1) 5).setReg
      Reg.NODE_ADDR 0x401).inforce Reg.SEGMENT 1⟩, by decide +kernel⟩,
  ⟨1, censusFrame 0x401 1 0 0 true { gen := 7, origin := 0x401, phase := 0, batch := 255, cause := 0, apply := 50, base := 0 }
      [], ⟨[], [],
      { (((opRun.setReg (Reg.RP_STATE 0) 5).setReg (Reg.RP_STATE 1) 5).setReg Reg.NODE_ADDR 0x401).inforce Reg.SEGMENT 1 with ring := { home := { own := true, appended := true, handled := some (7, 0x401), returned := [{ addr := 0x401, uid := zeros 16 }] } } }⟩,
      by decide +kernel⟩,
  ⟨1, censusFrame 0x402 1 0 0 true { gen := 7, origin := 0x402, phase := 1, batch := 0, cause := 0, apply := 50, base := 0 }
      [{ addr := 0x402, uid := zeros 16 }], ⟨[], [],
      { (((opRun.setReg (Reg.RP_STATE 0) 5).setReg (Reg.RP_STATE 1) 5).setReg Reg.NODE_ADDR 0x401).inforce Reg.SEGMENT 1 with ring := { home := { appended := true, handled := some (7, 0x402) } } }⟩,
      by decide +kernel⟩,
  ⟨0, { tick := 50, gen := 7, origin := 0x402, members := [{ addr := 0x402, uid := zeros 16 }] }, ⟨[], [],
      { (((opRun.setReg (Reg.RP_STATE 0) 5).setReg (Reg.RP_STATE 1) 5).setReg Reg.NODE_ADDR 0x401).inforce Reg.SEGMENT 1 with ring := { home := { pending := some { tick := 50, gen := 7, origin := 0x402, members := [{ addr := 0x402, uid := zeros 16 }] } } } }⟩,
      by decide +kernel⟩,
  ⟨0, 9, ⟨[], [],
      { (((opRun.setReg (Reg.RP_STATE 0) 5).setReg (Reg.RP_STATE 1) 5).setReg Reg.NODE_ADDR 0x401).inforce Reg.SEGMENT 1 with ring := { home := { own := true, deadline := some 9 } } }⟩,
      by decide +kernel⟩,
  ⟨0, 9, ⟨[], [],
      { (((opRun.setReg (Reg.RP_STATE 0) 5).setReg (Reg.RP_STATE 1) 5).setReg Reg.NODE_ADDR 0x401).inforce Reg.SEGMENT 1 with ring := { home := { appended := true, finalEnd := some 9 } } }⟩,
      by decide +kernel⟩⟩

theorem meets_TrunksCarryFramesInBlocks :
  (∃ (t : Fin 8) (f : Frame) (s : State), s.core.up = true ∧ s.core.trunkActive t = true ∧ ((f.cls = 3 ∨ f.cls = 4 ∨
      f.cls = 6)) ∧ s.core.reg Reg.INJ_LEFT = 0 ∧ f.check = f.transitCrc ∧
      s.core.classQueued f.cls + f.queueBytes ≤ trunkPart f.cls) ∧
  (∃ (t : Fin 8) (s : State), s.core.up = true ∧ s.core.trunkActive t = true ∧ (s.core.trunk t).slot = 3 ∧
      (s.core.trunk t).resetDue = true) ∧
  (∃ (t : Fin 8) (chars : Bytes) (octets : Bytes) (s : State), s.core.up = true ∧ s.core.trunkActive t = true ∧
      (s.core.trunk t).rx = [] ∧ chars = 0x7E :: octets.flatMap escape ++ [0x7E] ∧ 6 ≤ octets.length ∧
      fieldAt octets (octets.length - 2) 2 = fcs16 (octets.take (octets.length - 2)) ∧ fieldAt octets 2 1 ≠ 3 ∧
      s.core.tickOpen = true) ∧
  (∃ (t : Fin 8) (plane : Fin 2) (x : TrunkSent) (xs : List TrunkSent) (s : State),
      ((s.core.trunk t).plane plane).unacked = x :: xs ∧ ((((s.core.trunk t).plane plane).frames.find? (fun g => g.fid ==
      x.fid)).map (fun g => g.retries)).getD 0 ≥ x.times) ∧
  (∃ (t : Fin 8) (_plane : Fin 2) (s : State), s.core.up = true ∧ s.core.trunkActive t = true ∧
      s.core.reg (Reg.TRUNK_STATE t) = 2 ∧ (s.core.trunk t).resetWait = false) ∧
  (∃ (t : Fin 8) (s : State), s.core.up = true ∧ s.core.trunkActive t = true ∧ s.core.tickOpen = true) :=
  ⟨⟨0, ({ kind := 2, cls := 3, dst := 0x0801, src := 0x0402, okey := 0x0402 } : Frame).seal, ⟨[], [],
      ((((opRun.inforce (Reg.CH_ROLE 5) 1).inforce (Reg.CH_BAUD 5) 9600).inforce (Reg.TRUNK_CHANNEL 0) 5).inforce
      (Reg.TRUNK_PEER 0) 0x801).setReg (Reg.TRUNK_STATE 0) 2⟩,
      (by and_intros <;> first | with_reducible exact Frame.seal_check _ | decide +kernel)⟩,
  ⟨0, ⟨[], [], (((((opRun.inforce (Reg.CH_ROLE 5) 1).inforce (Reg.CH_BAUD 5) 9600).inforce (Reg.TRUNK_CHANNEL 0) 5).inforce
      (Reg.TRUNK_PEER 0) 0x801).setReg (Reg.TRUNK_STATE 0) 2).setTrunk 0 { resetDue := true }⟩, by decide +kernel⟩,
  ⟨0, ({ ack := 0, format := 1 } : TrunkBlock).line, ({ ack := 0, format := 1 } : TrunkBlock).octets, ⟨[], [],
      ((((opRun.inforce (Reg.CH_ROLE 5) 1).inforce (Reg.CH_BAUD 5) 9600).inforce (Reg.TRUNK_CHANNEL 0) 5).inforce
      (Reg.TRUNK_PEER 0) 0x801).setReg (Reg.TRUNK_STATE 0) 2⟩, by decide +kernel⟩,
  ⟨0, 0, { block := {}, fid := 0, deadline := 9 }, [], ⟨[], [], (((((opRun.inforce (Reg.CH_ROLE 5) 1).inforce (Reg.CH_BAUD 5)
      9600).inforce (Reg.TRUNK_CHANNEL 0) 5).inforce (Reg.TRUNK_PEER 0) 0x801).setReg (Reg.TRUNK_STATE 0) 2).setTrunk 0
      { control := { unacked := [{ block := {}, fid := 0, deadline := 9 }], frames := [{ fid := 0, frame := {}, entered := 0, retries := 4 }] } }⟩,
      by decide +kernel⟩,
  ⟨0, 1, ⟨[], [], ((((opRun.inforce (Reg.CH_ROLE 5) 1).inforce (Reg.CH_BAUD 5) 9600).inforce (Reg.TRUNK_CHANNEL 0) 5).inforce
      (Reg.TRUNK_PEER 0) 0x801).setReg (Reg.TRUNK_STATE 0) 2⟩, by decide +kernel⟩,
  ⟨0, ⟨[], [], ((((opRun.inforce (Reg.CH_ROLE 5) 1).inforce (Reg.CH_BAUD 5) 9600).inforce (Reg.TRUNK_CHANNEL 0) 5).inforce
      (Reg.TRUNK_PEER 0) 0x801).setReg (Reg.TRUNK_STATE 0) 2⟩, by decide +kernel⟩⟩

theorem meets_FramesAreReceivedAndOriginated :
  (∃ (p : Fin 4) (f : Frame) (s : State), s.core.up = true ∧ s.core.reg (Reg.RP_STATE p) = 5 ∧ s.core.reg Reg.INJ_LEFT = 0 ∧
      f.hopCheck = f.hopCrc ∧ f.badHeader = false ∧ s.core.consumed p f = false ∧ s.core.ownFrame (pairOf p) f = false ∧
      isMember (s.core.census (pairOf p)).table f.src = true ∧ s.core.aged f = false ∧ f.kind ≠ 8 ∧
      f.dst = s.core.addrOn (pairOf p) ∧ f.dst ≠ 0xFFFF ∧ isMcast f.dst = false) ∧
  (∃ (p : Fin 4) (f : Frame) (e : EndKind) (a : Arriving) (s : State), s.core.fwd.arriving.find? (fun x => x.1 == p.val) = some
      (p.val, a) ∧ e = .good ∧ f.payload.length = a.frame.len ∧ s.core.reg Reg.INJ_LEFT = 0 ∧
      f.check = ({ a.frame with payload := f.payload } : Frame).transitCrc ∧ a.deliver = true ∧ s.core.fwd.tracker = []) ∧
  (∃ (o : Fin 4) (s : State), s.core.sw.entries.any (fun e => e.ended.isNone && e.outs.any (fun x => x.out == o.val && !x.done
      && Nat.blt 0 x.gone)) = true ∧ s.core.tickOpen = true) ∧
  (∃ (_sp : Fin 12) (f : Frame) (g : Frame) (s : State), s.core.up = true ∧ s.core.mayOriginate f = true ∧
      s.core.standby = false ∧ s.core.fwd.seqs = [] ∧ s.core.ownAddress f.dst = false ∧ isMcast f.dst = false ∧
      segOf f.dst = s.core.segmentOn 0 ∧ s.core.ring.lone = false ∧ f.kind ≠ 6 ∧ f.kind ≠ 7 ∧
      (s.core.make f.kind f.cls f.dst f.stream f.tick f.urgent f.segm f.last f.payload).1 = g ∧ g.badHeader = false ∧
      (s.core.ringOuts 0 g).any (fun q => ! s.core.discarding q) = true) ∧
  (∃ (s : State), s.core.fwd.tracker ≠ []) :=
  ⟨⟨1, ({ kind := 4, cls := 4, dst := 0x401, src := 0x402, okey := 0x402, payload := zeros 16 } : Frame).seal, ⟨[], [],
      { ((((opRun.setReg (Reg.RP_STATE 0) 5).setReg (Reg.RP_STATE 1) 5).setReg Reg.NODE_ADDR 0x401).inforce Reg.SEGMENT 1) with ring := { home := { table := [{ addr := 0x401 }, { addr := 0x402 }] } } }⟩,
      by decide +kernel⟩,
  ⟨1, ({ kind := 4, cls := 4, dst := 0x401, src := 0x402, okey := 0x402, payload := zeros 16 } : Frame).seal, .good,
      { frame := ({ kind := 4, cls := 4, dst := 0x401, src := 0x402, okey := 0x402, payload := zeros 16 } : Frame).seal, deliver := true },
      ⟨[], [],
      { { ((((opRun.setReg (Reg.RP_STATE 0) 5).setReg (Reg.RP_STATE 1) 5).setReg Reg.NODE_ADDR 0x401).inforce Reg.SEGMENT 1) with ring := { home := { table := [{ addr := 0x401 }, { addr := 0x402 }] } } } with fwd := { arriving := [(1, { frame := ({ kind := 4, cls := 4, dst := 0x401, src := 0x402, okey := 0x402, payload := zeros 16 } : Frame).seal, deliver := true })] } }⟩,
      by decide +kernel⟩,
  ⟨0, ⟨[], [],
      { ((((opRun.setReg (Reg.RP_STATE 0) 5).setReg (Reg.RP_STATE 1) 5).setReg Reg.NODE_ADDR 0x401).inforce Reg.SEGMENT 1) with sw := { entries := [{ id := 0, inp := 1, frame := {}, cells := 2, since := 0, ended := none, outs := [{ out := 0, sent := 1, gone := 1 }] }] } }⟩,
      by decide +kernel⟩,
  ⟨10, ({ kind := 4, cls := 4, dst := 0x402, payload := zeros 16 } : Frame),
      (({ ((((opRun.setReg (Reg.RP_STATE 0) 5).setReg (Reg.RP_STATE 1) 5).setReg Reg.NODE_ADDR 0x401).inforce Reg.SEGMENT 1) with ring := { home := { table := [{ addr := 0x401 }, { addr := 0x402 }] } } }
      : Core).make 4 4 0x402 0 0 false false false (zeros 16)).1, ⟨[], [],
      { ((((opRun.setReg (Reg.RP_STATE 0) 5).setReg (Reg.RP_STATE 1) 5).setReg Reg.NODE_ADDR 0x401).inforce Reg.SEGMENT 1) with ring := { home := { table := [{ addr := 0x401 }, { addr := 0x402 }] } } }⟩,
      by decide +kernel⟩,
  ⟨⟨[], [], { opRun with fwd := { tracker := [{ okey := 1, cls := 2, stream := 3, last := 4, used := 5 }] } }⟩,
      by decide +kernel⟩⟩

theorem meets_DictionaryExecutesRequests :
  (∃ (f : Frame) (s : State), s.core.up = true ∧ f.kind = 4 ∧ s.core.reg Reg.INJ_LEFT = 0 ∧ f.check = f.transitCrc ∧
      16 ≤ f.payload.length ∧ s.core.dict.queue.length < 64) ∧
  (∃ (r : Req) (rest : List Req) (l : Nat) (x : MemRow) (s : State), s.core.dict.queue = r :: rest ∧ s.core.up = true ∧
      s.core.engineHeld = false ∧ r.cmd = 1 ∧ r.mcast = false ∧ s.core.reqLevel r = some l ∧ s.core.keptReq r = none ∧
      findMember r.obj r.mem l = (0, x) ∧ s.core.accessStatus r.obj l x false = 0 ∧
      (s.core.readValue r.obj r.mem x).length ≤ 1008 ∧ s.core.ownerPaused r.obj = false) ∧
  (∃ (r : Req) (rest : List Req) (l : Nat) (x : MemRow) (s : State), s.core.dict.queue = r :: rest ∧ s.core.up = true ∧
      s.core.engineHeld = false ∧ r.cmd = 2 ∧ r.mcast = false ∧ s.core.reqLevel r = some l ∧ s.core.keptReq r = none ∧
      findMember r.obj r.mem l = (0, x) ∧ s.core.accessStatus r.obj l x true = 0 ∧ x.valueStatus r.obj r.data = 0 ∧
      s.core.ownerPaused r.obj = false ∧ x.acc = .rwt ∧ s.core.rwtRefused r.obj = false) ∧
  (∃ (r : Req) (rest : List Req) (l : Nat) (x : MemRow) (s : State), s.core.dict.queue = r :: rest ∧ s.core.up = true ∧
      s.core.engineHeld = false ∧ r.cmd = 2 ∧ r.mcast = false ∧ s.core.reqLevel r = some l ∧ s.core.keptReq r = none ∧
      findMember r.obj r.mem l = (0, x) ∧ s.core.accessStatus r.obj l x true = 0 ∧ x.valueStatus r.obj r.data = 0 ∧
      x.acc = .rw ∧ 0x1201 ≤ r.obj ∧ r.obj ≤ 0x120F) ∧
  (∃ (r : Req) (rest : List Req) (l : Nat) (x : MemRow) (s : State), s.core.dict.queue = r :: rest ∧ s.core.up = true ∧
      s.core.engineHeld = false ∧ r.cmd = 3 ∧ r.mcast = false ∧ s.core.reqLevel r = some l ∧ s.core.keptReq r = none ∧
      findMember r.obj r.mem l = (0, x)) ∧
  (∃ (r : Req) (rest : List Req) (l : Nat) (s : State), s.core.dict.queue = r :: rest ∧ s.core.up = true ∧
      s.core.engineHeld = false ∧ r.cmd = 4 ∧ r.mcast = false ∧ s.core.reqLevel r = some l ∧ s.core.keptReq r = none ∧
      s.core.dict.lockEnd = none ∧ ((r.mem = 1 ∨ r.mem = 2)) ∧ s.core.tokenOpens r.mem r.data = true ∧
      s.core.freeNumbers ≠ [] ∧ s.core.silentUnit r = false) ∧
  (∃ (r : Req) (rest : List Req) (l : Nat) (s : State), s.core.dict.queue = r :: rest ∧ s.core.up = true ∧
      s.core.engineHeld = false ∧ r.cmd = 5 ∧ r.mcast = false ∧ s.core.reqLevel r = some l ∧ s.core.keptReq r = none ∧
      s.core.inSession r = true) :=
  ⟨⟨({ kind := 4, cls := 4, payload := zeros 16 } : Frame).seal, ⟨[], [], opRun⟩,
      (by and_intros <;> first | with_reducible exact Frame.seal_check _ | decide +kernel)⟩,
  ⟨(ownReq 2 1 Reg.CNT_DUP []), [], 2, (findMember 0x1250 1 2).2, ⟨[], [],
      { opRun with dict := { queue := [(ownReq 2 1 Reg.CNT_DUP [])] } }.setReg Reg.CNT_DUP 5⟩, by decide +kernel⟩,
  ⟨(ownReq 2 2 (Reg.DISC_OUT 3) [0x55]), [], 2, (findMember 0x401B 1 2).2, ⟨[], [],
      { opRun with dict := { queue := [(ownReq 2 2 (Reg.DISC_OUT 3) [0x55])] } }⟩, by decide +kernel⟩,
  ⟨(ownReq 2 2 Reg.LINK_HOLD [1, 2, 0, 0]), [], 2, (findMember 0x1202 1 2).2, ⟨[], [],
      { opRun with dict := { queue := [(ownReq 2 2 Reg.LINK_HOLD [1, 2, 0, 0])] } }⟩, by decide +kernel⟩,
  ⟨(ownReq 2 3 Reg.LINK_HOLD []), [], 2, (findMember 0x1202 1 2).2, ⟨[], [],
      { opRun with dict := { queue := [(ownReq 2 3 Reg.LINK_HOLD [])] } }⟩, by decide +kernel⟩,
  ⟨{ f := { payload := dictReqBytes 0 4 0 0 2 0 [1, 2, 3, 4, 5, 6, 7, 8] }, lvl := some 0 }, [], 0, ⟨[], [],
      ({ opRun with dict := { queue := [{ f := { payload := dictReqBytes 0 4 0 0 2 0 [1, 2, 3, 4, 5, 6, 7, 8] }, lvl := some 0 }] } }).setBlob
      Reg.TOKEN_L2 [1, 2, 3, 4, 5, 6, 7, 8]⟩, by decide +kernel⟩,
  ⟨{ f := { src := 5, payload := dictReqBytes 7 5 3 0 0 0 [] } }, [], 2, ⟨[], [],
      { opRun with dict := { queue := [{ f := { src := 5, payload := dictReqBytes 7 5 3 0 0 0 [] } }], sessions := [(3, { level := 2, src := 5, lastReq := 0 })] } }⟩,
      by decide +kernel⟩⟩

theorem meets_DictionaryMovesSegmentsAndTimers :
  (∃ (r : Req) (rest : List Req) (l : Nat) (x : MemRow) (s : State), s.core.dict.queue = r :: rest ∧ s.core.up = true ∧
      s.core.engineHeld = false ∧ r.cmd = 6 ∧ r.mcast = false ∧ s.core.reqLevel r = some l ∧ s.core.keptReq r = none ∧
      findMember r.obj r.mem l = (0, x) ∧ s.core.accessStatus r.obj l x false = 0 ∧ s.core.ownerPaused r.obj = false ∧
      s.core.segOf r.owner = none ∧ r.off = 0 ∧ s.core.dict.xfers.length < 4 ∧ s.core.idleStage.isSome = true ∧
      1008 < (s.core.readValue r.obj r.mem x).length) ∧
  (∃ (r : Req) (rest : List Req) (l : Nat) (x : MemRow) (s : State), s.core.dict.queue = r :: rest ∧ s.core.up = true ∧
      s.core.engineHeld = false ∧ r.cmd = 7 ∧ r.mcast = false ∧ s.core.reqLevel r = some l ∧ s.core.keptReq r = none ∧
      findMember r.obj r.mem l = (0, x) ∧ s.core.accessStatus r.obj l x true = 0 ∧ s.core.ownerPaused r.obj = false ∧
      s.core.segOf r.owner = none ∧ s.core.dict.xfers.any (fun y => y.write && y.key == r.key && y.owner != r.owner) = false ∧
      r.off = 0 ∧ 1 ≤ r.tot ∧ r.tot ≤ x.span ∧ s.core.dict.xfers.length < 4 ∧ s.core.idleStage.isSome = true ∧
      r.f.last = false ∧ r.data.length ≤ r.tot) ∧
  (∃ (r : Req) (rest : List Req) (l : Nat) (y : SegXfer) (s : State), s.core.dict.queue = r :: rest ∧ s.core.up = true ∧
      s.core.engineHeld = false ∧ r.cmd = 8 ∧ r.mcast = false ∧ s.core.reqLevel r = some l ∧ s.core.keptReq r = none ∧
      s.core.segOf r.owner = some y) ∧
  (∃ (y : SegXfer) (s : State), s.core.dict.xfers = [y]) ∧
  (∃ (n : Nat) (y : Session) (s : State), s.core.dict.sessions = [(n, y)]) ∧
  (∃ (e : Nat) (s : State), s.core.dict.lockEnd = some e) ∧
  (∃ (b : Nat) (w : PendRwt) (s : State), s.core.up = true ∧ s.core.dict.rwt = [w] ∧ w.key / 256 < 0x4100 ∧
      0x4000 ≤ w.key / 256 ∧ w.key = Reg.DISC_OUT b ∧ b < 32 ∧ w.value < 256 ∧ w.done + 10 ≤ s.core.now ∧
      tickAhead w.tick s.core.tickNow = false ∧ tickDiff w.tick s.core.tickNow = 0) :=
  ⟨⟨{ f := { segm := true, payload := dictReqBytes 7 6 0 0x9014 1 0 [] }, lvl := some 2 }, [], 2, (findMember 0x9014 1 2).2, ⟨[],
      [],
      ({ opRun with dict := { queue := [{ f := { segm := true, payload := dictReqBytes 7 6 0 0x9014 1 0 [] }, lvl := some 2 }] } }).inforce
      Reg.STAGE_SET 0xF0⟩, by decide +kernel⟩,
  ⟨{ f := { segm := true, payload := dictReqBytes 7 7 0 0x1120 1 0 (zeros 100) |> fun b => splice b 12 [128, 0] }, lvl := some 2 },
      [], 2, (findMember 0x1120 1 2).2, ⟨[], [],
      ({ opRun with node := { opRun.node with base := 3 }, dict := { queue := [{ f := { segm := true, payload := dictReqBytes 7 7 0 0x1120 1 0 (zeros 100) |> fun b => splice b 12 [128, 0] }, lvl := some 2 }] } }
      : Core).inforce Reg.STAGE_SET 0xF0⟩, by decide +kernel⟩,
  ⟨{ f := { payload := dictReqBytes 7 8 0 0 0 0 [] }, lvl := some 2 }, [], 2,
      { owner := 0x10000, write := true, key := 5, bank := 7, buf := [], total := 9, next := 0, lastAt := 0, timeout := 9 },
      ⟨[], [],
      { opRun with dict := { queue := [{ f := { payload := dictReqBytes 7 8 0 0 0 0 [] }, lvl := some 2 }], xfers := [{ owner := 0x10000, write := true, key := 5, bank := 7, buf := [], total := 9, next := 0, lastAt := 0, timeout := 9 }] } }⟩,
      by decide +kernel⟩,
  ⟨{ owner := 0x10000, write := true, key := 5, bank := 7, buf := [], total := 9, next := 0, lastAt := 0, timeout := 9 }, ⟨[],
      [],
      { opRun with dict := { xfers := [{ owner := 0x10000, write := true, key := 5, bank := 7, buf := [], total := 9, next := 0, lastAt := 0, timeout := 9 }] } }⟩,
      by decide +kernel⟩,
  ⟨3, { level := 2, src := 5, lastReq := 0 }, ⟨[], [],
      { opRun with dict := { sessions := [(3, { level := 2, src := 5, lastReq := 0 })] } }⟩, by decide +kernel⟩,
  ⟨9, ⟨[], [], { opRun with dict := { lockEnd := some 9, fails := 5 } }⟩, by decide +kernel⟩,
  ⟨3, { key := Reg.DISC_OUT 3, value := 0x55, tick := 0, done := 0, src := 0 }, ⟨[], [],
      { opRun with dict := { rwt := [{ key := Reg.DISC_OUT 3, value := 0x55, tick := 0, done := 0, src := 0 }] }, time := { now := 20 } }⟩,
      by decide +kernel⟩⟩

theorem meets_SwitchAdmitsAndMovesFrames :
  (∃ (e : SwEntry) (o : Fin 16) (s : State), s.core.up = true ∧ s.core.sw.entries = [e] ∧ s.core.sw.outs = [] ∧ e.cells = 1 ∧
      e.freed = 0 ∧ e.ended = some true ∧ e.outs = [{ out := o.val }] ∧ 4 ≤ o.val ∧ e.inp < 16 ∧
      (s.core.advance 8).aged e.frame = false ∧ s.core.sw.pipe = [] ∧ e.frame.kind ≠ 8 ∧ s.core.integ.armed.1 < 0x0D) ∧
  (∃ (e : SwEntry) (s : State), s.core.sw.seeking = [e] ∧ e.waitEnd = none ∧ e.outs ≠ [] ∧ ((∀ x ∈ e.outs,
      s.core.fits x.out e.frame.cls e.cells = true))) ∧
  (∃ (e : SwEntry) (s : State), s.core.sw.seeking = [e] ∧ e.waitEnd.isSome = true ∧ e.outs ≠ [] ∧ ((∀ x ∈ e.outs,
      s.core.fits x.out e.frame.cls e.cells = true))) ∧
  (∃ (e : SwEntry) (o : Fin 16) (w : Nat) (s : State), s.core.sw.seeking = [e] ∧ e.waitEnd = some w ∧
      e.outs = [{ out := o.val }] ∧ s.core.tickOpen = true) ∧
  (∃ (p : Nat) (k : Nat) (s : State), s.core.up = true ∧ p < 16 ∧ 1 ≤ k ∧ k < 8) ∧
  (∃ (s : State), s.core.up = true ∧ s.core.tickOpen = true ∧ s.core.reg Reg.SW_FREE + s.core.sw.entries.foldl (fun a e => a +
      (e.cells - e.freed)) 0 ≠ s.core.reg Reg.SW_POOL) ∧
  (∃ (lvl : Fin 4) (out : Fin 16) (cls : Fin 8) (v : BitVec 32) (s : State), s.core.takes lvl (limitKey out cls) = true ∧
      v.toNat ≤ 32768 ∧ v.toNat ≤ s.core.reg Reg.SW_POOL ∧ s.core.limitSum out cls v.toNat ≤ s.core.reg Reg.SW_POOL) :=
  ⟨⟨{ id := 0, inp := 12, frame := {}, cells := 1, since := 0, outs := [{ out := 14 }] }, 14, ⟨[], [],
      { opRun with sw := { entries := [{ id := 0, inp := 12, frame := {}, cells := 1, since := 0, outs := [{ out := 14 }] }] } }⟩,
      by decide +kernel⟩,
  ⟨{ id := 0, inp := 12, frame := { cls := 2 }, cells := 1, since := 0, outs := [{ out := 0 }] }, ⟨[], [],
      { opRun with sw := { seeking := [{ id := 0, inp := 12, frame := { cls := 2 }, cells := 1, since := 0, outs := [{ out := 0 }] }] } }⟩,
      by decide +kernel⟩,
  ⟨{ id := 0, inp := 12, frame := { cls := 2 }, cells := 1, since := 0, outs := [{ out := 0 }], waitEnd := some 9 }, ⟨[], [],
      { opRun with sw := { seeking := [{ id := 0, inp := 12, frame := { cls := 2 }, cells := 1, since := 0, outs := [{ out := 0 }], waitEnd := some 9 }] } }⟩,
      by decide +kernel⟩,
  ⟨{ id := 0, inp := 12, frame := {}, cells := 1, since := 0, outs := [{ out := 0 }], waitEnd := some 9 }, 0, 9, ⟨[], [],
      { opRun with sw := { seeking := [{ id := 0, inp := 12, frame := {}, cells := 1, since := 0, outs := [{ out := 0 }], waitEnd := some 9 }] } }⟩,
      by decide +kernel⟩,
  ⟨3, 2, ⟨[], [], { opRun with sw := { srcKeys := [(3, 2, 5), (3, 2, 6), (3, 1, 6)] } }⟩, by decide +kernel⟩,
  ⟨⟨[], [], opRun.setReg Reg.SW_FREE 5⟩, by decide +kernel⟩,
  ⟨2, 3, 2, 100, ⟨[], [], opRun⟩, by decide +kernel⟩⟩

theorem meets_TimeBaseFollowsItsMaster :
  (∃ (s : State), s.core.up = true ∧ s.core.mayOriginate { kind := 6 } = true ∧ s.core.reg Reg.TIME_STATE = 1 ∧
      s.core.time.bridgeInForce = 0) ∧
  (∃ (p : Fin 4) (f : Frame) (e : EndKind) (_residence : Nat) (q : Nat) (s : State), s.core.up = true ∧ s.core.joined p = true ∧
      s.core.reg (Reg.PD_DELAY_VALID p) = 1 ∧ e = .good ∧ pairOf p = s.core.timePair ∧ s.core.addrOn (pairOf p) ≠ 0xFFFF ∧
      s.core.reg Reg.INJ_LEFT = 0 ∧ f.hopCheck = f.hopCrc ∧ f.badHeader = false ∧ f.check = f.transitCrc ∧
      f.payload.length = f.len ∧ f.src ≠ s.core.addrOn (pairOf p) ∧ isMember (s.core.census (pairOf p)).table f.src = true ∧
      s.core.syncPort (syncMsg f).master = some p.val ∧ (s.core.dedup f).1 = true ∧ (syncMsg f).master ≠ 0xFFFF ∧
      s.core.reg Reg.TIME_STATE ≠ 1 ∧ s.core.bestHeard (syncMsg f).master (syncMsg f).prio = true ∧
      (syncMsg f).code = s.core.time.periodCode ∧ s.core.turn (otherPort p) = some q ∧ s.core.tickOpen = true) ∧
  (∃ (p : Fin 4) (f : Frame) (e : EndKind) (_residence : Nat) (q : Nat) (s : State), s.core.up = true ∧ s.core.joined p = true ∧
      s.core.reg (Reg.PD_DELAY_VALID p) = 1 ∧ e = .good ∧ s.core.reg Reg.INJ_LEFT = 0 ∧ f.hopCheck = f.hopCrc ∧
      f.badHeader = false ∧ f.check = f.transitCrc ∧ f.payload.length = f.len ∧ f.src ≠ s.core.addrOn (pairOf p) ∧
      isMember (s.core.census (pairOf p)).table f.src = true ∧ s.core.syncPort (syncMsg f).master ≠ some p.val ∧
      s.core.turn (otherPort p) = some q ∧ s.core.frozenPort q = false) ∧
  (∃ (s : State), s.core.up = true ∧ ((s.core.reg Reg.TIME_STATE = 2 ∨ s.core.reg Reg.TIME_STATE = 3)) ∧
      s.core.time.prioInForce = 255 ∧ s.core.tickOpen = true) ∧
  (∃ (lvl : Fin 4) (_v : BitVec 64) (s : State), s.core.takes lvl Reg.TIME_SET = true) ∧
  (∃ (x : Nat) (s : State), s.core.time.newPeriod = some x) :=
  ⟨⟨⟨[], [],
      ({ (((((((opRun.setReg (Reg.RP_STATE 0) 5).setReg (Reg.RP_STATE 1) 5).setReg Reg.NODE_ADDR 0x401).setReg (Reg.PD_DELAY_VALID 1) 1).setReg (Reg.PD_DELAY_VALID 0) 1).inforce Reg.SEGMENT 1).setReg (Reg.RP_NEIGHBOUR 1) 0x402) with ring := { home := { table := [{ addr := 0x401 }, { addr := 0x402 }] } }, time := { opRun.time with nextSync := 5 } }).setReg
      Reg.TIME_STATE 1⟩, by decide +kernel⟩,
  ⟨1, ({ kind := 6, cls := 0, mcast := true, dst := 0x07FF, src := 0x0402, okey := 0x0402, len := 20, payload := zeros 8 ++ leBytes 2 0x402 ++ [7, 8, 0, 0] ++ leBytes 2 4 ++ zeros 4 }
      : Frame).seal, .good, 100, 0, ⟨[], [],
      { (((((((opRun.setReg (Reg.RP_STATE 0) 5).setReg (Reg.RP_STATE 1) 5).setReg Reg.NODE_ADDR 0x401).setReg (Reg.PD_DELAY_VALID 1) 1).setReg (Reg.PD_DELAY_VALID 0) 1).inforce Reg.SEGMENT 1).setReg (Reg.RP_NEIGHBOUR 1) 0x402) with ring := { home := { table := [{ addr := 0x401 }, { addr := 0x402 }] } }, time := { opRun.time with  } }⟩,
      (by and_intros <;> first | with_reducible exact Frame.seal_check _ | decide +kernel)⟩,
  ⟨0, ({ kind := 6, cls := 0, mcast := true, dst := 0x07FF, src := 0x0402, okey := 0x0402, len := 20, payload := zeros 8 ++ leBytes 2 0x402 ++ [7, 8, 0, 0] ++ leBytes 2 4 ++ zeros 4 }
      : Frame).seal, .good, 100, 1, ⟨[], [],
      { (((((((opRun.setReg (Reg.RP_STATE 0) 5).setReg (Reg.RP_STATE 1) 5).setReg Reg.NODE_ADDR 0x401).setReg (Reg.PD_DELAY_VALID 1) 1).setReg (Reg.PD_DELAY_VALID 0) 1).inforce Reg.SEGMENT 1).setReg (Reg.RP_NEIGHBOUR 1) 0x402) with ring := { home := { table := [{ addr := 0x401 }, { addr := 0x402 }] } }, time := { opRun.time with  } }⟩,
      (by and_intros <;> first | with_reducible exact Frame.seal_check _ | decide +kernel)⟩,
  ⟨⟨[], [],
      ({ (((((((opRun.setReg (Reg.RP_STATE 0) 5).setReg (Reg.RP_STATE 1) 5).setReg Reg.NODE_ADDR 0x401).setReg (Reg.PD_DELAY_VALID 1) 1).setReg (Reg.PD_DELAY_VALID 0) 1).inforce Reg.SEGMENT 1).setReg (Reg.RP_NEIGHBOUR 1) 0x402) with ring := { home := { table := [{ addr := 0x401 }, { addr := 0x402 }] } }, time := { opRun.time with prioInForce := 255 } }).setReg
      Reg.TIME_STATE 3⟩, by decide +kernel⟩,
  ⟨2, 12345678901234, ⟨[], [], { opRun with node := { opRun.node with base := 3, ioHold := true } }⟩, by decide +kernel⟩,
  ⟨3, ⟨[], [], { opRun with time := { opRun.time with newPeriod := some 3, sys := 5 * 2 ^ 32 } }⟩, by decide +kernel⟩⟩

theorem meets_LinkDelayAnd1PPS :
  (∃ (p : Fin 4) (e : Nat) (s : State), s.core.up = true ∧ s.core.joined p = true ∧ s.core.addrOn (pairOf p) ≠ 0xFFFF ∧
      (s.core.peer p).nextAt = some e ∧ s.core.frozenPort p = false) ∧
  (∃ (p : Fin 4) (f : Frame) (_turnaround : Nat) (s : State), s.core.up = true ∧ s.core.joined p = true ∧
      s.core.addrOn (pairOf p) ≠ 0xFFFF ∧ s.core.reg Reg.INJ_LEFT = 0 ∧ f.hopCheck = f.hopCrc ∧ f.badHeader = false ∧
      f.check = f.transitCrc ∧ f.payload.length = f.len ∧ s.core.frozenPort p = false) ∧
  (∃ (p : Fin 4) (f : Frame) (id : Nat) (t1 : Nat) (due : Nat) (s : State), s.core.up = true ∧ s.core.joined p = true ∧
      s.core.addrOn (pairOf p) ≠ 0xFFFF ∧ s.core.reg Reg.INJ_LEFT = 0 ∧ f.hopCheck = f.hopCrc ∧ f.badHeader = false ∧
      f.check = f.transitCrc ∧ f.payload.length = f.len ∧ (s.core.peer p).waiting = [(id, t1, due)] ∧ s.core.now ≤ due ∧
      fieldAt f.payload 2 2 = id ∧ s.core.reg (Reg.PD_DELAY_VALID p) = 0 ∧ (s.core.peer p).taken = 7 ∧
      (s.core.peer p).results.length = 7) ∧
  (∃ (p : Fin 4) (id : Nat) (t1 : Nat) (due : Nat) (rest : List (Nat × Nat × Nat)) (s : State), (s.core.peer p).waiting = (id,
      t1, due) :: rest ∧ (s.core.peer p).misses = 2) ∧
  (∃ (s : State), s.core.up = true ∧ s.core.cfg Reg.PPS_ENABLE = 1 ∧ s.core.reg Reg.PPS_STATE = 1 ∧
      s.core.time.ppsExpected = false ∧ s.core.time.ppsValid = 3 ∧ s.core.reg Reg.TIME_STATE ≠ 1) ∧
  (∃ (s : State), s.core.up = true ∧ s.core.cfg Reg.PPS_ENABLE = 1 ∧ ((s.core.reg Reg.PPS_STATE = 1 ∨
      s.core.reg Reg.PPS_STATE = 2)) ∧ s.core.tickOpen = true) ∧
  (∃ (s : State), s.core.up = true) ∧
  (∃ (s : State), s.core.up = true) :=
  ⟨⟨1, 9, ⟨[], [],
      ({ (((((((opRun.setReg (Reg.RP_STATE 0) 5).setReg (Reg.RP_STATE 1) 5).setReg Reg.NODE_ADDR 0x401).setReg (Reg.PD_DELAY_VALID 1) 1).setReg (Reg.PD_DELAY_VALID 0) 1).inforce Reg.SEGMENT 1).setReg (Reg.RP_NEIGHBOUR 1) 0x402) with ring := { home := { table := [{ addr := 0x401 }, { addr := 0x402 }] } }, time := { opRun.time with  } }).setPeer
      1 { nextAt := some 9 }⟩, by decide +kernel⟩,
  ⟨1, ({ kind := 7, cls := 0, dst := 0x0401, src := 0x0402, okey := 0x0402, len := 8, payload := [0, 3, 5, 0, 0, 0, 0, 0] } :
      Frame).seal, 700, ⟨[], [],
      { (((((((opRun.setReg (Reg.RP_STATE 0) 5).setReg (Reg.RP_STATE 1) 5).setReg Reg.NODE_ADDR 0x401).setReg (Reg.PD_DELAY_VALID 1) 1).setReg (Reg.PD_DELAY_VALID 0) 1).inforce Reg.SEGMENT 1).setReg (Reg.RP_NEIGHBOUR 1) 0x402) with ring := { home := { table := [{ addr := 0x401 }, { addr := 0x402 }] } }, time := { opRun.time with  } }⟩,
      (by and_intros <;> first | with_reducible exact Frame.seal_check _ | decide +kernel)⟩,
  ⟨1, ({ kind := 7, cls := 0, dst := 0x0401, src := 0x0402, okey := 0x0402, len := 8, payload := [1, 3, 5, 0, 0, 0, 0, 0] } :
      Frame).seal, 5, 0, 9, ⟨[], [],
      (({ (((((((opRun.setReg (Reg.RP_STATE 0) 5).setReg (Reg.RP_STATE 1) 5).setReg Reg.NODE_ADDR 0x401).setReg (Reg.PD_DELAY_VALID 1) 1).setReg (Reg.PD_DELAY_VALID 0) 1).inforce Reg.SEGMENT 1).setReg (Reg.RP_NEIGHBOUR 1) 0x402) with ring := { home := { table := [{ addr := 0x401 }, { addr := 0x402 }] } }, time := { opRun.time with  } }).setReg
      (Reg.PD_DELAY_VALID 1) 0).setPeer 1 { waiting := [(5, 0, 9)], taken := 7, results := [1, 2, 3, 4, 5, 6, 7] }⟩,
      (by and_intros <;> first | with_reducible exact Frame.seal_check _ | decide +kernel)⟩,
  ⟨1, 5, 0, 9, [], ⟨[], [],
      ({ (((((((opRun.setReg (Reg.RP_STATE 0) 5).setReg (Reg.RP_STATE 1) 5).setReg Reg.NODE_ADDR 0x401).setReg (Reg.PD_DELAY_VALID 1) 1).setReg (Reg.PD_DELAY_VALID 0) 1).inforce Reg.SEGMENT 1).setReg (Reg.RP_NEIGHBOUR 1) 0x402) with ring := { home := { table := [{ addr := 0x401 }, { addr := 0x402 }] } }, time := { opRun.time with  } }).setPeer
      1 { waiting := [(5, 0, 9)], misses := 2 }⟩, by decide +kernel⟩,
  ⟨⟨[], [],
      ((({ (((((((opRun.setReg (Reg.RP_STATE 0) 5).setReg (Reg.RP_STATE 1) 5).setReg Reg.NODE_ADDR 0x401).setReg (Reg.PD_DELAY_VALID 1) 1).setReg (Reg.PD_DELAY_VALID 0) 1).inforce Reg.SEGMENT 1).setReg (Reg.RP_NEIGHBOUR 1) 0x402) with ring := { home := { table := [{ addr := 0x401 }, { addr := 0x402 }] } }, time := { opRun.time with ppsValid := 3 } }).inforce
      Reg.PPS_ENABLE 1).setReg Reg.PPS_STATE 1).setReg Reg.TIME_STATE 5⟩, by decide +kernel⟩,
  ⟨⟨[], [],
      (({ (((((((opRun.setReg (Reg.RP_STATE 0) 5).setReg (Reg.RP_STATE 1) 5).setReg Reg.NODE_ADDR 0x401).setReg (Reg.PD_DELAY_VALID 1) 1).setReg (Reg.PD_DELAY_VALID 0) 1).inforce Reg.SEGMENT 1).setReg (Reg.RP_NEIGHBOUR 1) 0x402) with ring := { home := { table := [{ addr := 0x401 }, { addr := 0x402 }] } }, time := { opRun.time with  } }).inforce
      Reg.PPS_ENABLE 1).setReg Reg.PPS_STATE 2⟩, by decide +kernel⟩,
  ⟨⟨[], [], opRun.setReg Reg.PPS_OUT_ENABLE 1⟩, by decide +kernel⟩,
  ⟨⟨[], [], { opRun with time := { opRun.time with ppsOut := true } }⟩, by decide +kernel⟩⟩

theorem meets_EventStreamCollectsAndReleases :
  (∃ (_source : Fin 65536) (_kind : Fin 256) (_sev : Fin 5) (tick : BitVec 48) (_flags : BitVec 16) (_value : BitVec 64) (n :
      Nat) (k : Nat) (s : State), s.core.up = true ∧ s.core.time.lastTick = some n ∧ s.core.ev.closed = some k ∧
      tickAhead tick.toNat k = true ∧ s.core.ev.opened.length < 512) ∧
  (∃ (n : Nat) (e : Nat) (rest : List (Nat × Nat)) (r : EvRec) (s : State), s.core.ev.waiting = (n, e) :: rest ∧
      s.core.fc.waiting = [] ∧ s.core.fc.leaving = [] ∧ s.core.ev.opened = [r] ∧ r.tick = n ∧ s.core.ev.moving = false ∧
      s.core.reg Reg.EVQ_COUNT < 1024 ∧ ((s.core.up = false ∨ (s.core.fc.isos = [] ∧ s.core.fab.movers = [] ∧ ∀ p ∈ ([0, 1, 2,
      3] : List Nat), (s.core.portOn p = false ∧ s.core.reg (Reg.RP_STATE p) = 0) ∨ (s.core.portOn p = true ∧
      (s.core.port p).present = false ∧ s.core.reg (Reg.RP_STATE p) = 1) ∨ (s.core.portOn p = true ∧
      (s.core.port p).present = true ∧ 2 ≤ s.core.reg (Reg.RP_STATE p))))) ∧ s.core.flag Reg.EVS_ENABLE = false ∧ r.seq = 0) ∧
  (∃ (v : Nat) (s : State), s.core.ev.moving = true ∧ s.core.ev.held = [] ∧ s.core.ev.heldRd = [v]) ∧
  (∃ (lvl : Fin 4) (v : Fin 65536) (s : State), s.core.takes lvl Reg.EVQ_RD = true ∧ v.val < 1024 ∧
      (v.val + 1024 - s.core.reg Reg.EVQ_RD) % 1024 ≤ s.core.reg Reg.EVQ_COUNT ∧ s.core.ev.moving = false ∧
      s.core.ev.heldRd = []) :=
  ⟨⟨5, 1, 2, 7, 0, 9, 9, 3, ⟨[], [], { opRun with time := { opRun.time with lastTick := some 9 }, ev := { closed := some 3 } }⟩,
      by decide +kernel⟩,
  ⟨7, 9, [], { tick := 7, node := 0x401, source := 5, kind := 1, sev := 2 }, ⟨[], [],
      (({ opRun with ev := { waiting := [(7, 9)], opened := [{ tick := 7, node := 0x401, source := 5, kind := 1, sev := 2 }] } }).setReg
      (Reg.RP_STATE 0) 1).setReg (Reg.RP_STATE 1) 1⟩, by decide +kernel⟩,
  ⟨4, ⟨[], [], ({ opRun with ev := { moving := true, heldRd := [4] } }).setReg Reg.EVQ_COUNT 9⟩, by decide +kernel⟩,
  ⟨2, 4, ⟨[], [], opRun.setReg Reg.EVQ_COUNT 9⟩, by decide +kernel⟩⟩

theorem meets_ScheduleTableTakesAndLoads :
  (∃ (s : State), s.core.up = true) ∧
  (∃ (_dio : BitVec 256) (_fiP : BitVec 128) (_fiN : BitVec 128) (n : Nat) (s : State), s.core.up = true ∧
      s.core.time.armed = some (s.core.nextTick % tickMod) ∧ s.core.time.lastTick = some n ∧ True) ∧
  (∃ (res : Fin 33) (e : SchedEntry) (s : State), res.val = 32 ∧ s.core.sched.post = some e ∧
      tickDiff e.target s.core.tickNow ≠ 0 ∧ tickDiff e.target s.core.tickNow ≤ 2 ^ 20 ∧ s.core.time.armed ≠ some e.target ∧
      s.core.sched.table.any (fun x => x.target == e.target && x.bank == e.bank) = false ∧ s.core.sched.table.length < 256) ∧
  (∃ (b : Fin 32) (f : Frame) (s : State), s.core.up = true ∧ s.core.reg Reg.INJ_LEFT = 0 ∧ f.check = f.transitCrc ∧
      f.payload.length = 4 ∧ s.core.supplied b = true ∧ bit (s.core.cfg Reg.SCHED_BANKS) b = true ∧
      tickDiff f.tick s.core.tickNow ≠ 0 ∧ tickDiff f.tick s.core.tickNow ≤ 2 ^ 20 ∧ s.core.time.armed ≠ some f.tick ∧
      s.core.sched.table = []) ∧
  (∃ (lvl : Fin 4) (data : Bytes) (s : State), s.core.takes lvl Reg.SCHED_POST = true ∧ data.length = 16 ∧
      fieldAt data 6 1 ≤ 31 ∧ s.core.sched.post = none) ∧
  (∃ (lvl : Fin 4) (s : State), s.core.takes lvl Reg.SCHED_CANCEL = true) ∧
  (∃ (lvl : Fin 4) (s : State), s.core.takes lvl Reg.INJ_ARM = true ∧ s.core.reg Reg.INJ_LEFT = 0 ∧
      s.core.reg Reg.INJ_TARGET = 2 ∧ s.core.reg Reg.INJ_INDEX < 4 ∧ s.core.reg Reg.INJ_COUNT ≠ 0 ∧
      s.core.node.updating = false ∧ s.core.fc.safe = false) ∧
  (∃ (lvl : Fin 4) (s : State), s.core.takes lvl Reg.INJ_ARM = true) :=
  ⟨⟨⟨[], [],
      { opRun with sched := { table := [{ target := 1, bank := 3, mask := 2, value := 2 }, { target := 5, bank := 3, mask := 2, value := 2 }] } }⟩,
      by decide +kernel⟩,
  ⟨0, 0, 0, 0, ⟨[], [], { opRun with time := { opRun.time with lastTick := some 0, tag := some 0, armed := some 1 } }⟩,
      by decide +kernel⟩,
  ⟨32, { target := 9, bank := 3, mask := 2, value := 2 }, ⟨[], [],
      { opRun with sched := { post := some { target := 9, bank := 3, mask := 2, value := 2 } } }⟩, by decide +kernel⟩,
  ⟨3, ({ kind := 1, tick := 9, payload := [2, 2, 0, 0] } : Frame).seal, ⟨[], [],
      (opRun.inforce Reg.SCHED_BANKS 8).setReg (Reg.DISC_VIO 3) 1⟩,
      (by and_intros <;> first | with_reducible exact Frame.seal_check _ | decide +kernel)⟩,
  ⟨2, [9, 0, 0, 0, 0, 0, 3, 2, 2, 0, 0, 0, 0, 0, 0, 0], ⟨[], [], opRun⟩, by decide +kernel⟩,
  ⟨2, ⟨[], [], { opRun with sched := { table := [{ target := 1, bank := 3, mask := 2, value := 2 }] } }⟩, by decide +kernel⟩,
  ⟨3, ⟨[], [], (opRun.setReg Reg.INJ_COUNT 5).setReg Reg.INJ_TARGET 2⟩, by decide +kernel⟩,
  ⟨3, ⟨[], [], (opRun.setReg Reg.INJ_LEFT 5).setReg Reg.INJ_ACTIVE 1⟩, by decide +kernel⟩⟩

theorem meets_SerialChannelsReceiveRecords :
  (∃ (n : Fin 128) (_b : Byte) (_ok : Bool) (_silence : Nat) (p : Packet) (s : State), s.core.chanOn n = true ∧
      s.core.chRole n = 1 ∧ bit (s.core.cfg (Reg.CH_PINS n)) 3 = false ∧ ((s.core.framing n = 1 ∨ s.core.framing n = 2)) ∧
      (s.core.chan n).packet = some p ∧ p.skip = false ∧ p.bytes.length < p.cap ∧
      bit (s.core.cfg (Reg.CH_FORMAT n)) 0 = false) ∧
  (∃ (n : Fin 128) (p : Packet) (s : State), s.core.chanOn n = true ∧ ((s.core.chRole n = 1 ∨ s.core.chRole n = 2)) ∧
      s.core.framing n = 1 ∧ (s.core.chan n).packet = some p ∧ p.skip = false) ∧
  (∃ (n : Fin 128) (p : Packet) (s : State), s.core.chanOn n = true ∧ s.core.framing n = 1 ∧ (s.core.chan n).packet = some p ∧
      p.skip = false) ∧
  (∃ (n : Fin 128) (p : Packet) (s : State), s.core.chanOn n = true ∧ s.core.framing n = 2 ∧ (s.core.chan n).packet = some p ∧
      p.skip = false ∧ 4 ≤ p.bytes.length ∧ crcModbus (p.bytes.take (p.bytes.length - 2)) = fieldAt p.bytes (p.bytes.length -
      2) 2 ∧ bit p.mb 0 = true ∧ p.flags = 0) ∧
  (∃ (n : Fin 128) (p : Packet) (s : State), s.core.chanOn n = true ∧ s.core.framing n = 0 ∧
      s.core.reg (Reg.CH_FLUSH_AGE n) ≠ 0 ∧ (s.core.chan n).rxFill = [] ∧ (s.core.chan n).rxDrain = [] ∧
      (s.core.chan n).packet = some p ∧ p.bytes ≠ []) ∧
  (∃ (n : Fin 128) (_miso : Bytes) (s : State), s.core.chanOn n = true ∧ s.core.chRole n = 3 ∧ (s.core.chan n).busy = true ∧
      (s.core.chan n).packet = none ∧ (s.core.chan n).rxFill = [] ∧ (s.core.chan n).rxDrain = [] ∧
      (s.core.chan n).line.length ≤ s.core.reg (Reg.CH_RX_MAX n) ∧ rxSize (s.core.reg (Reg.CH_RX_MAX n)) ≤ 512) ∧
  (∃ (n : Fin 128) (data : TargetData) (s : State), s.core.chanOn n = true ∧ ((s.core.chRole n = 5 ∨ s.core.chRole n = 7)) ∧
      (s.core.chan n).packet = none ∧ (s.core.chan n).rxFill = [] ∧ (s.core.chan n).rxDrain = [] ∧
      bit (s.core.cfg (Reg.CH_I2C n)) 9 = false ∧ data.bytes.length ≤ s.core.reg (Reg.CH_RX_MAX n) ∧
      rxSize (s.core.reg (Reg.CH_RX_MAX n)) ≤ 512) ∧
  (∃ (n : Fin 128) (s : State), s.core.fieldRuns = true ∧ s.core.chRole n ≠ 0 ∧ s.core.reg (Reg.CH_SILENCE n) ≠ 0 ∧
      (s.core.chan n).silent = false) :=
  ⟨⟨5, 4, true, 0, { bytes := [1, 2, 3], cap := 20 }, ⟨[], [], ((opRun.inforce (Reg.CH_ROLE 5) 1).setReg (Reg.CH_STATE 5)
      1).setChan 5 { packet := some { bytes := [1, 2, 3], cap := 20 } } |>.inforce (Reg.CH_FRAMING 5) 2⟩, by decide +kernel⟩,
  ⟨5, { bytes := [1, 2, 3], cap := 20 }, ⟨[], [], (((opRun.inforce (Reg.CH_ROLE 5) 1).setReg (Reg.CH_STATE 5) 1).setChan 5
      { packet := some { bytes := [1, 2, 3], cap := 20 } }).inforce (Reg.CH_FRAMING 5) 1⟩, by decide +kernel⟩,
  ⟨5, { bytes := [1, 2, 3], cap := 20 }, ⟨[], [], (((opRun.inforce (Reg.CH_ROLE 5) 1).setReg (Reg.CH_STATE 5) 1).setChan 5
      { packet := some { bytes := [1, 2, 3], cap := 20 } }).inforce (Reg.CH_FRAMING 5) 1⟩, by decide +kernel⟩,
  ⟨5, { bytes := [0x01, 0x03, 0x02, 0x0B, 0xB8, 0xBF, 0x06], mb := 7, cap := 20 }, ⟨[], [],
      (((opRun.inforce (Reg.CH_ROLE 5) 1).setReg (Reg.CH_STATE 5) 1).setChan 5
      { packet := some { bytes := [0x01, 0x03, 0x02, 0x0B, 0xB8, 0xBF, 0x06], mb := 7, cap := 20 } }).inforce (Reg.CH_FRAMING
      5) 2⟩, by decide +kernel⟩,
  ⟨5, { bytes := [1, 2, 3], cap := 20 }, ⟨[], [], ((opRun.inforce (Reg.CH_ROLE 5) 1).setReg (Reg.CH_STATE 5) 1).setChan 5
      { packet := some { bytes := [1, 2, 3], cap := 20 } }⟩, by decide +kernel⟩,
  ⟨5, [9, 8], ⟨[], [], ((opRun.inforce (Reg.CH_ROLE 5) 3).setReg (Reg.CH_STATE 5) 1).setChan 5
      { busy := true, line := [1, 2], txDrain := [{ data := [1, 2] }] }⟩, by decide +kernel⟩,
  ⟨5, ⟨[9, 8, 7], 0, false⟩, ⟨[], [], ((opRun.inforce (Reg.CH_ROLE 5) 5).setReg (Reg.CH_STATE 5) 1)⟩, by decide +kernel⟩,
  ⟨5, ⟨[], [], (((opRun.inforce (Reg.CH_ROLE 5) 1).setReg (Reg.CH_STATE 5) 1) |>.setReg (Reg.CH_SILENCE 5) 10)⟩,
      by decide +kernel⟩⟩

theorem meets_SerialBanksDrainAndClear :
  (∃ (n : Fin 128) (r : RxRec) (s : State), s.core.fieldRuns = true ∧ s.core.chRole n ≠ 0 ∧ s.core.trunkOf n = none ∧
      s.core.cfg (Reg.CH_RX_SINK n) = 0 ∧ (s.core.chan n).rxDrain = [r] ∧ bits r.flags 14 9 = 0 ∧ r.key = 0xFFFF ∧
      (s.core.chan n).rxFill = []) ∧
  (∃ (n : Fin 128) (r : RxRec) (s : State), s.core.fieldRuns = true ∧ s.core.chRole n ≠ 0 ∧ s.core.trunkOf n = none ∧
      s.core.cfg (Reg.CH_RX_SINK n) = 0 ∧ (s.core.chan n).rxDrain = [r] ∧ bits r.flags 14 9 = 0 ∧ r.key ≠ 0xFFFF ∧
      (s.core.chan n).rxFill = []) ∧
  (∃ (n : Fin 128) (size : Fin 9) (s : State), s.core.portOpen n = true ∧ ((size.val = 1 ∨ size.val = 2 ∨ size.val = 4 ∨
      size.val = 8)) ∧ size.val < (s.core.chan n).drainLeft) ∧
  (∃ (n : Fin 128) (count : Fin 65536) (r : RxRec) (s : State), s.core.portOpen n = true ∧ (s.core.chan n).rxDrain = [r] ∧
      (s.core.chan n).rxRead = 0 ∧ count.val = rxSize r.payload.length ∧ (s.core.chan n).rxFill = []) ∧
  (∃ (n : Fin 128) (tx : Bool) (s : State), s.core.fieldRuns = true ∧ s.core.chRole n ≠ 0 ∧ tx = false ∧ s.core.tickOpen = true) ∧
  (∃ (lvl : Fin 4) (n : Fin 128) (s : State), s.core.takes lvl (Reg.CH_RESET n) = true) :=
  ⟨⟨5, { key := 0xFFFF, payload := [7, 8] }, ⟨[], [], ((opRun.inforce (Reg.CH_ROLE 5) 1).setReg (Reg.CH_STATE 5) 1).setChan 5
      { rxDrain := [{ key := 0xFFFF, payload := [7, 8] }] }⟩, by decide +kernel⟩,
  ⟨5, { key := 0x211, payload := [7, 8] }, ⟨[], [], ((opRun.inforce (Reg.CH_ROLE 5) 1).setReg (Reg.CH_STATE 5) 1).setChan 5
      { rxDrain := [{ key := 0x211, payload := [7, 8] }] }⟩, by decide +kernel⟩,
  ⟨5, 2, ⟨[], [], (((opRun.inforce (Reg.CH_ROLE 5) 1).setReg (Reg.CH_STATE 5) 1).setChan 5
      { rxDrain := [{ key := 0x211, payload := [7, 8] }] }).inforce (Reg.CH_RX_SINK 5) 1⟩, by decide +kernel⟩,
  ⟨5, 18, { key := 0x211, payload := [7, 8] }, ⟨[], [], (((opRun.inforce (Reg.CH_ROLE 5) 1).setReg (Reg.CH_STATE 5) 1).setChan 5
      { rxDrain := [{ key := 0x211, payload := [7, 8] }] }).inforce (Reg.CH_RX_SINK 5) 1⟩, by decide +kernel⟩,
  ⟨5, false, ⟨[], [], ((opRun.inforce (Reg.CH_ROLE 5) 1).setReg (Reg.CH_STATE 5) 1).setChan 5
      { rxFill := [{ key := 0x211, payload := [7, 8] }], rxDrain := [{ key := 0x211, payload := [7, 8] }] }⟩,
      by decide +kernel⟩,
  ⟨2, 5, ⟨[], [], ((opRun.inforce (Reg.CH_ROLE 5) 1).setReg (Reg.CH_STATE 5) 1).setChan 5
      { rxFill := [{ key := 0x211, payload := [7, 8] }], txFill := [{ data := [1] }] }⟩, by decide +kernel⟩⟩

theorem meets_SerialChannelsTransmitRecords :
  (∃ (n : Fin 128) (f : Frame) (s : State), s.core.up = true ∧ s.core.fieldRuns = true ∧ s.core.chRole n ≠ 0 ∧
      s.core.fc.safe = false ∧ s.core.trunkOf n = none ∧ f.payload.length ≤ 510 ∧ (s.core.chan n).staged + f.itemBytes ≤ 1024) ∧
  (∃ (n : Fin 128) (bs : Bytes) (s : State), s.core.fieldRuns = true ∧ s.core.chRole n ≠ 0 ∧ s.core.fc.safe = false ∧
      s.core.trunkOf n = none ∧ bs ≠ [] ∧ bs.length ≤ 510 ∧ (s.core.chan n).staged + bs.length + 36 ≤ 1024) ∧
  (∃ (n : Fin 128) (f : Frame) (s : State), s.core.fieldRuns = true ∧ s.core.chRole n ≠ 0 ∧ (s.core.chan n).staging = [f] ∧
      (s.core.chan n).txFill = [] ∧ (s.core.chan n).txDrain = [] ∧ f.payload.length ≤ 510 ∧ s.core.reg Reg.INJ_LEFT = 0 ∧
      f.check = f.transitCrc) ∧
  (∃ (n : Fin 128) (ballC : Bool) (t : TxRec) (rest : List TxRec) (s : State), s.core.chanOn n = true ∧
      (s.core.chan n).busy = false ∧ ((s.core.chRole n = 1 ∨ s.core.chRole n = 2)) ∧ s.core.framing n ≠ 2 ∧
      bit (s.core.cfg (Reg.CH_FORMAT n)) 0 = false ∧ s.core.mayStart 1 n = true ∧ (s.core.chan n).txDrain = t :: rest ∧
      s.core.ctsAllows n ballC = true) ∧
  (∃ (n : Fin 128) (ballC : Bool) (t : TxRec) (rest : List TxRec) (s : State), s.core.chanOn n = true ∧
      (s.core.chan n).busy = false ∧ ((s.core.chRole n = 1 ∨ s.core.chRole n = 2)) ∧ s.core.framing n = 2 ∧
      bit (s.core.reg (Reg.CH_MB n)) 1 = true ∧ bit (s.core.cfg (Reg.CH_FORMAT n)) 0 = false ∧ s.core.mayStart 1 n = true ∧
      (s.core.chan n).txDrain = t :: rest ∧ s.core.ctsAllows n ballC = true) ∧
  (∃ (e : TxEnd) (t : TxRec) (x : TxRec) (rest : List TxRec) (s : State), s.core.chanOn e.chan = true ∧
      (s.core.chan e.chan).busy = true ∧ s.core.chRole e.chan = 2 ∧ (s.core.chan e.chan).txDrain = t :: x :: rest) ∧
  (∃ (n : Fin 128) (status : Fin 5) (_data : Bytes) (_pec : Byte) (s : State), s.core.chanOn n = true ∧ ((s.core.chRole n = 4 ∨
      s.core.chRole n = 6)) ∧ (s.core.chan n).busy = true ∧ (s.core.chan n).arbEnd = none ∧ ((status.val = 1 ∨
      status.val = 2 ∨ status.val = 4)) ∧ (s.core.chan n).packet = none ∧ (s.core.chan n).rxFill = [] ∧
      (s.core.chan n).rxDrain = [] ∧ rxSize (s.core.reg (Reg.CH_RX_MAX n)) ≤ 512 ∧ 300 ≤ s.core.reg (Reg.CH_RX_MAX n) ∧
      fieldAt (s.core.chan n).line 2 1 = 0) ∧
  (∃ (n : Fin 128) (e : Nat) (s : State), (s.core.chan n).arbEnd = some e) ∧
  (∃ (n : Fin 128) (count : Fin 512) (t : TxRec) (rest : List TxRec) (s : State), s.core.chanOn n = true ∧
      ((s.core.chRole n = 5 ∨ s.core.chRole n = 7)) ∧ s.core.mayStart 1 n = true ∧ (s.core.chan n).txDrain = t :: rest ∧
      t.data.length = count.val) ∧
  (∃ (n : Fin 128) (low : HeldLow) (s : State), s.core.chanOn n = true ∧ ((s.core.chRole n = 4 ∨ s.core.chRole n = 6)) ∧
      low.still = true ∧ s.core.stuckLimit n < low.ns ∧ s.core.chanConflict n = false) ∧
  (∃ (n : Fin 128) (low : Bool) (e : Nat) (s : State), s.core.chanOn n = true ∧ (s.core.chan n).stuckNext = some e ∧
      low = false ∧ s.core.chanConflict n = false ∧ s.core.trunkOf n = none) ∧
  (∃ (n : Fin 128) (t : Nat) (s : State), s.core.chanOn n = true ∧ s.core.chRole n = 6 ∧ s.core.time.lastTick = some t ∧
      s.core.ev.closed = none ∧ s.core.ev.opened = [] ∧ s.core.ev.limited = []) :=
  ⟨⟨5, ({ cls := 5, stream := 0x211, payload := [1, 3, 0, 0, 0, 1] } : Frame).seal, ⟨[], [],
      ((opRun.inforce (Reg.CH_ROLE 5) 1).setReg (Reg.CH_STATE 5) 1)⟩, by decide +kernel⟩,
  ⟨5, [1, 2, 3], ⟨[], [], ((opRun.inforce (Reg.CH_ROLE 5) 1).setReg (Reg.CH_STATE 5) 1)⟩, by decide +kernel⟩,
  ⟨5, ({ cls := 5, stream := 0x211, payload := [1, 3, 0, 0, 0, 1] } : Frame).seal, ⟨[], [],
      ((opRun.inforce (Reg.CH_ROLE 5) 1).setReg (Reg.CH_STATE 5) 1).setChan 5
      { staging := [({ cls := 5, stream := 0x211, payload := [1, 3, 0, 0, 0, 1] } : Frame).seal] }⟩,
      (by and_intros <;> first | with_reducible exact Frame.seal_check _ | decide +kernel)⟩,
  ⟨5, true, { data := [1, 2] }, [], ⟨[], [], ((opRun.inforce (Reg.CH_ROLE 5) 2).setReg (Reg.CH_STATE 5) 1).setChan 5
      { txDrain := [{ data := [1, 2] }] }⟩, by decide +kernel⟩,
  ⟨5, true, { data := [1, 2] }, [], ⟨[], [], (((opRun.inforce (Reg.CH_ROLE 5) 2).setReg (Reg.CH_STATE 5) 1).setChan 5
      { txDrain := [{ data := [1, 2] }] }).inforce (Reg.CH_FRAMING 5) 2⟩, by decide +kernel⟩,
  ⟨⟨5, 0⟩, { data := [1, 2] }, { data := [3] }, [], ⟨[], [], ((opRun.inforce (Reg.CH_ROLE 5) 2).setReg (Reg.CH_STATE 5)
      1).setChan 5 { busy := true, de := true, txDrain := [{ data := [1, 2] }, { data := [3] }] }⟩, by decide +kernel⟩,
  ⟨5, 2, [], 0, ⟨[], [], (((opRun.inforce (Reg.CH_ROLE 5) 4).setReg (Reg.CH_STATE 5) 1).setReg (Reg.CH_RX_MAX 5) 300).setChan 5
      { busy := true, line := [0x50, 1, 0, 9], txDrain := [{ data := [0x50, 1, 0, 9] }] }⟩, by decide +kernel⟩,
  ⟨5, 9, ⟨[], [], ((opRun.inforce (Reg.CH_ROLE 5) 4).setReg (Reg.CH_STATE 5) 1).setChan 5 { busy := true, arbEnd := some 9 }⟩,
      by decide +kernel⟩,
  ⟨5, 2, { data := [1, 2] }, [], ⟨[], [], ((opRun.inforce (Reg.CH_ROLE 5) 5).setReg (Reg.CH_STATE 5) 1).setChan 5
      { txDrain := [{ data := [1, 2] }] }⟩, by decide +kernel⟩,
  ⟨5, ⟨40000000, true⟩, ⟨[], [], ((opRun.inforce (Reg.CH_ROLE 5) 4).setReg (Reg.CH_STATE 5) 1)⟩, by decide +kernel⟩,
  ⟨5, false, 9, ⟨[], [], ((opRun.inforce (Reg.CH_ROLE 5) 4).setReg (Reg.CH_STATE 5) 4).setChan 5 { stuckNext := some 9 }⟩,
      by decide +kernel⟩,
  ⟨5, 9, ⟨[], [],
      { ((opRun.inforce (Reg.CH_ROLE 5) 6).setReg (Reg.CH_STATE 5) 1) with time := { opRun.time with lastTick := some 9 } }⟩,
      by decide +kernel⟩⟩

theorem meets_CanMailboxesTakeAndSend :
  (∃ (lvl : Fin 4) (n : Fin 32) (data : Bytes) (s : State), s.core.takes lvl (Reg.CAN_TX_POST n) = true ∧ 8 ≤ data.length ∧
      data.length ≤ 72 ∧ (s.core.can n).post = none) ∧
  (∃ (n : Fin 32) (f : Frame) (m : Nat) (s : State), s.core.up = true ∧ (s.core.can n).staging = [] ∧
      s.core.canRefuses n f.payload = false ∧ f.payload.length ≤ 72 ∧ s.core.reg Reg.INJ_LEFT = 0 ∧ f.check = f.transitCrc ∧
      fieldAt f.payload 5 1 = m ∧ m < 64 ∧ ((s.core.can n).box m).state ≠ 2) ∧
  (∃ (n : Fin 32) (m : Nat) (b : Mailbox) (s : State), s.core.canOn n = true ∧ s.core.canMute n = false ∧
      s.core.reg Reg.INJ_LEFT = 0 ∧ (s.core.can n).active = none ∧ s.core.mayStart 2 n = true ∧
      bestBox (s.core.can n).boxes none = some (m, b)) ∧
  (∃ (n : Fin 32) (m : Nat) (s : State), s.core.canOn n = true ∧ s.core.canMute n = false ∧ s.core.mayStart 2 n = true ∧
      s.core.time.lastTick.isSome = true ∧ (s.core.can n).active = some m ∧ (s.core.can n).started = false) ∧
  (∃ (n : Fin 32) (_delay : Nat) (m : Nat) (s : State), s.core.canOn n = true ∧ (s.core.can n).active = some m ∧
      (s.core.can n).started = true ∧ (s.core.can n).lateAbort = false ∧ (s.core.can n).tec < 128 ∧
      (s.core.can n).rxErr < 128) ∧
  (∃ (n : Fin 32) (_delay : Nat) (m : Nat) (s : State), s.core.canOn n = true ∧ (s.core.can n).active = some m ∧
      (s.core.can n).started = true ∧ (s.core.can n).lateAbort = true ∧ (s.core.can n).tec < 128 ∧ (s.core.can n).rxErr < 128) ∧
  (∃ (n : Fin 32) (m : Nat) (s : State), s.core.canOn n = true ∧ (s.core.can n).active = some m ∧
      (s.core.can n).started = true ∧ (s.core.can n).lateAbort = false) ∧
  (∃ (n : Fin 32) (e : TxFault) (m : Nat) (s : State), s.core.canOn n = true ∧ (s.core.can n).active = some m ∧
      (s.core.can n).started = true ∧ (s.core.can n).lateAbort = false ∧ e.kind = .ack ∧
      s.core.bitWrong n (s.core.canLoop n ((s.core.can n).box m) e.measured) e.seen = true ∧
      s.core.reg (Reg.CAN_STATE n) = 1 ∧ (s.core.can n).tec < 120 ∧ (s.core.can n).rxErr < 128) :=
  ⟨⟨2, 2, [5, 0, 0, 0, 2, 3, 0, 0, 0xAA, 0xBB], ⟨[], [], ((((opRun.inforce (Reg.CAN_MODE 2) 2).setReg (Reg.CAN_STATE 2) 1).setReg
      (Reg.MM_BASE 2) 0x2C4000))⟩, by decide +kernel⟩,
  ⟨2, ({ cls := 5, stream := 0x211, payload := [5, 0, 0, 0, 2, 3, 0, 0, 0xAA, 0xBB] } : Frame).seal, 3, ⟨[], [],
      ((((opRun.inforce (Reg.CAN_MODE 2) 2).setReg (Reg.CAN_STATE 2) 1).setReg (Reg.MM_BASE 2) 0x2C4000))⟩,
      (by and_intros <;> first | with_reducible exact Frame.seal_check _ | decide +kernel)⟩,
  ⟨2, 3, { ident := 5, state := 1 }, ⟨[], [], ((((opRun.inforce (Reg.CAN_MODE 2) 2).setReg (Reg.CAN_STATE 2) 1).setReg
      (Reg.MM_BASE 2) 0x2C4000)).setCan 2 { boxes := [(3, { ident := 5, state := 1 })] }⟩, by decide +kernel⟩,
  ⟨2, 3, ⟨[], [],
      { ((((opRun.inforce (Reg.CAN_MODE 2) 2).setReg (Reg.CAN_STATE 2) 1).setReg (Reg.MM_BASE 2) 0x2C4000)).setCan 2 { active := some 3, started := false, boxes := [(3, { ident := 5, frame := 2, state := 2, data := [1, 2] })] } with time := { opRun.time with lastTick := some 9 } }⟩,
      by decide +kernel⟩,
  ⟨2, 0, 3, ⟨[], [], ((((opRun.inforce (Reg.CAN_MODE 2) 2).setReg (Reg.CAN_STATE 2) 1).setReg (Reg.MM_BASE 2) 0x2C4000)).setCan
      2 { active := some 3, started := true, boxes := [(3, { ident := 5, frame := 2, state := 2, data := [1, 2] })], tec := 9 }⟩,
      by decide +kernel⟩,
  ⟨2, 0, 3, ⟨[], [], ((((opRun.inforce (Reg.CAN_MODE 2) 2).setReg (Reg.CAN_STATE 2) 1).setReg (Reg.MM_BASE 2) 0x2C4000)).setCan
      2 { active := some 3, started := true, boxes := [(3, { ident := 5, frame := 2, state := 2, data := [1, 2] })], lateAbort := true }⟩,
      by decide +kernel⟩,
  ⟨2, 3, ⟨[], [], ((((opRun.inforce (Reg.CAN_MODE 2) 2).setReg (Reg.CAN_STATE 2) 1).setReg (Reg.MM_BASE 2) 0x2C4000)).setCan 2
      { active := some 3, started := true, boxes := [(3, { ident := 5, frame := 2, state := 2, data := [1, 2] })] }⟩,
      by decide +kernel⟩,
  ⟨2, ⟨.ack, .nominal true true true, none⟩, 3, ⟨[], [], ((((opRun.inforce (Reg.CAN_MODE 2) 2).setReg (Reg.CAN_STATE 2)
      1).setReg (Reg.MM_BASE 2) 0x2C4000)).setCan 2
      { active := some 3, started := true, boxes := [(3, { ident := 5, frame := 2, state := 2, data := [1, 2] })] }⟩,
      by decide +kernel⟩⟩

theorem meets_CanAbortsRecoversAndReceives :
  (∃ (lvl : Fin 4) (n : Fin 32) (mask : BitVec 64) (m : Nat) (b : Mailbox) (s : State),
      s.core.takes lvl (Reg.CAN_ABORT n) = true ∧ (s.core.can n).boxes = [(m, b)] ∧ b.state = 1 ∧ m < 64 ∧
      bit mask.toNat m = true) ∧
  (∃ (lvl : Fin 4) (n : Fin 32) (m : Nat) (b : Mailbox) (s : State), s.core.takes lvl (Reg.CAN_CMD n) = true ∧
      (s.core.can n).boxes = [(m, b)] ∧ b.state = 1 ∧ m < 64) ∧
  (∃ (lvl : Fin 4) (n : Fin 32) (s : State), s.core.takes lvl (Reg.CAN_CMD n) = true ∧ s.core.reg (Reg.CAN_STATE n) = 3) ∧
  (∃ (n : Fin 32) (s : State), s.core.fieldRuns = true ∧ s.core.reg (Reg.CAN_STATE n) = 4) ∧
  (∃ (n : Fin 32) (ident : Nat) (frame : Byte) (_data : Bytes) (ago : Nat) (i : Nat) (key : Nat) (s : State),
      s.core.canOn n = true ∧ ident < 2 ^ 11 ∧ frame.toNat ≤ 8 ∧ Core.filterHit s.mem s.core n (2 * s.core.now - 25 * ago)
      ident = (some (i, key, 2), s.core.dropFilters n (2 * s.core.now - 25 * ago)) ∧ s.core.reg (Reg.CAN_RX_COUNT n) < 10 ∧
      (s.core.can n).rxErr = 0) ∧
  (∃ (n : Fin 32) (ident : Nat) (frame : Byte) (_data : Bytes) (ago : Nat) (s : State), s.core.canOn n = true ∧ ident < 2 ^ 11 ∧
      frame.toNat ≤ 8 ∧ Core.filterHit s.mem s.core n (2 * s.core.now - 25 * ago) ident = (none,
      s.core.dropFilters n (2 * s.core.now - 25 * ago))) ∧
  (∃ (lvl : Fin 4) (n : Fin 32) (v : Fin 256) (s : State), s.core.takes lvl (Reg.CAN_RX_RD n) = true ∧ v.val ≤ 9 ∧
      (v.val + 10 - s.core.reg (Reg.CAN_RX_RD n)) % 10 ≤ s.core.reg (Reg.CAN_RX_COUNT n)) ∧
  (∃ (n : Fin 32) (e : RxFault) (s : State), s.core.canOn n = true ∧ s.core.canMute n = false ∧
      s.core.bitWrong n none e.seen = true ∧ (s.core.can n).rxErr < 100 ∧ (s.core.can n).tec < 128) :=
  ⟨⟨2, 2, 8, 3, { ident := 5, state := 1 }, ⟨[], [], ((((opRun.inforce (Reg.CAN_MODE 2) 2).setReg (Reg.CAN_STATE 2) 1).setReg
      (Reg.MM_BASE 2) 0x2C4000)).setCan 2 { boxes := [(3, { ident := 5, state := 1 })] }⟩, by decide +kernel⟩,
  ⟨2, 2, 3, { ident := 5, state := 1 }, ⟨[], [], ((((opRun.inforce (Reg.CAN_MODE 2) 2).setReg (Reg.CAN_STATE 2) 1).setReg
      (Reg.MM_BASE 2) 0x2C4000)).setCan 2 { boxes := [(3, { ident := 5, state := 1 })] }⟩, by decide +kernel⟩,
  ⟨2, 2, ⟨[], [], ((((opRun.inforce (Reg.CAN_MODE 2) 2).setReg (Reg.CAN_STATE 2) 3).setReg (Reg.MM_BASE 2) 0x2C4000))⟩,
      by decide +kernel⟩,
  ⟨2, ⟨[], [], ((((opRun.inforce (Reg.CAN_MODE 2) 2).setReg (Reg.CAN_STATE 2) 4).setReg (Reg.MM_BASE 2) 0x2C4000)).setCan 2
      { tec := 256 }⟩, by decide +kernel⟩,
  ⟨2, 5, 2, [1, 2], 100, 0, 0x211, ⟨[], (Memory.store [] 0x2C5600 [5, 0, 0, 0, 0xFF, 0xFF, 0xFF, 0xFF, 0x11, 2, 0x82, 0]),
      ((((opRun.inforce (Reg.CAN_MODE 2) 2).setReg (Reg.CAN_STATE 2) 1).setReg (Reg.MM_BASE 2) 0x2C4000))⟩, by decide +kernel⟩,
  ⟨2, 5, 2, [1, 2], 100, ⟨[], [], ((((opRun.inforce (Reg.CAN_MODE 2) 2).setReg (Reg.CAN_STATE 2) 1).setReg (Reg.MM_BASE 2)
      0x2C4000))⟩, by decide +kernel⟩,
  ⟨2, 2, 2, ⟨[], [], ((((opRun.inforce (Reg.CAN_MODE 2) 2).setReg (Reg.CAN_STATE 2) 1).setReg (Reg.MM_BASE 2) 0x2C4000).setReg
      (Reg.CAN_RX_COUNT 2) 3)⟩, by decide +kernel⟩,
  ⟨2, ⟨false, .nominal true true true⟩, ⟨[], [], ((((opRun.inforce (Reg.CAN_MODE 2) 2).setReg (Reg.CAN_STATE 2) 1).setReg
      (Reg.MM_BASE 2) 0x2C4000))⟩, by decide +kernel⟩⟩

theorem meets_EnginesExecuteInstructions :
  (∃ (n : Fin 64) (w : Nat) (s : State), s.core.engAt n 0 = some w ∧ (s.core.eng n).pc ≠ bits (s.core.reg (Reg.ENG_WRAP n)) 9 5
      ∧ bit (s.core.reg (Reg.ENG_CFG n)) 14 = false ∧ bit (s.core.reg (Reg.ENG_CFG n)) 13 = false ∧ bits w 12 8 = 0 ∧
      (s.core.eng n).bitsDone = 0) ∧
  (∃ (n : Fin 64) (_ins : BitVec 32) (w : Nat) (s : State), s.core.engAt n 1 = some w ∧
      (s.core.eng n).pc ≠ bits (s.core.reg (Reg.ENG_WRAP n)) 9 5 ∧ bit (s.core.reg (Reg.ENG_CFG n)) 15 = false ∧
      bit (s.core.reg (Reg.ENG_CFG n)) 13 = false ∧ bit (s.core.reg (Reg.ENG_CFG n)) 10 = true ∧ bits w 12 8 = 0 ∧
      (s.core.eng n).bitsDone = 0) ∧
  (∃ (n : Fin 64) (w : Nat) (s : State), s.core.engAt n 2 = some w ∧ (s.core.eng n).pc ≠ bits (s.core.reg (Reg.ENG_WRAP n)) 9 5) ∧
  (∃ (n : Fin 64) (_k : Nat) (levels : BitVec 8) (w : Nat) (s : State), s.core.engAt n 3 = some w ∧
      (s.core.eng n).pc ≠ bits (s.core.reg (Reg.ENG_WRAP n)) 9 5 ∧ bits w 8 7 = 0 ∧ levels.getLsbD (bits w 12 10) = bit w 9) ∧
  (∃ (n : Fin 64) (w : Nat) (s : State), s.core.engAt n 4 = some w ∧ (s.core.eng n).pc ≠ bits (s.core.reg (Reg.ENG_WRAP n)) 9 5
      ∧ bits w 12 11 = 1) ∧
  (∃ (n : Fin 64) (w : Nat) (v : Nat) (rest : List Nat) (s : State), s.core.engAt n 5 = some w ∧
      (s.core.eng n).pc ≠ bits (s.core.reg (Reg.ENG_WRAP n)) 9 5 ∧ bits w 12 11 = 0 ∧ (s.core.eng n).tx = v :: rest) ∧
  (∃ (n : Fin 64) (w : Nat) (s : State), s.core.engAt n 5 = some w ∧ (s.core.eng n).pc ≠ bits (s.core.reg (Reg.ENG_WRAP n)) 9 5
      ∧ bits w 12 11 = 0 ∧ (s.core.eng n).tx = []) ∧
  (∃ (n : Fin 64) (_levels : BitVec 8) (w : Nat) (s : State), s.core.engAt n 6 = some w ∧
      (s.core.eng n).pc ≠ bits (s.core.reg (Reg.ENG_WRAP n)) 9 5 ∧ bits w 12 11 = 2) ∧
  (∃ (n : Fin 64) (w : Nat) (s : State), s.core.engAt n 7 = some w ∧ (s.core.eng n).pc ≠ bits (s.core.reg (Reg.ENG_WRAP n)) 9 5
      ∧ bit w 11 = true ∧ bit w 12 = true ∧ (s.core.eng n).eq = true ∧ (s.core.eng n).pc + 1 ≠ bits (s.core.reg (Reg.ENG_WRAP
      n)) 9 5 ∧ (s.core.eng n).pc < 30) ∧
  (∃ (n : Fin 64) (_k : Nat) (_ins : BitVec 32) (w : Nat) (v : Nat) (rest : List Nat) (s : State), s.core.engState n = 3 ∧
      s.core.fieldRuns = true ∧ s.core.passBarred n = false ∧ fieldAt (s.core.blob (Reg.ENG_PROG n)) (2 * (s.core.eng n).pc) 2
      = w ∧ w / 2 ^ 11 = 20 ∧ (s.core.eng n).overrun = false ∧ (s.core.eng n).tx = v :: rest ∧
      (s.core.eng n).pc ≠ bits (s.core.reg (Reg.ENG_WRAP n)) 9 5) :=
  ⟨⟨2, 0, ⟨[], [], ((((opRun.setReg (Reg.ENG_STATE 2) 1).setReg (Reg.ENG_WRAP 2) 0x60).setBlob (Reg.ENG_PROG 2) (leBytes 2 0 ++
      zeros 62))).setEng 2 { sr := 5, fill := 3 }⟩, by decide +kernel⟩,
  ⟨2, 1, 8192, ⟨[], [], ((((opRun.setReg (Reg.ENG_STATE 2) 1).setReg (Reg.ENG_WRAP 2) 0x60).setBlob (Reg.ENG_PROG 2) (leBytes 2
      8192 ++ zeros 62)).setReg (Reg.ENG_CFG 2) 0x400).setEng 2 { sr := 5, fill := 3 }⟩, by decide +kernel⟩,
  ⟨2, 16387, ⟨[], [], ((((opRun.setReg (Reg.ENG_STATE 2) 1).setReg (Reg.ENG_WRAP 2) 0x60).setBlob (Reg.ENG_PROG 2) (leBytes 2
      16387 ++ zeros 62))).setEng 2 {  }⟩, by decide +kernel⟩,
  ⟨2, 3, 1, 25088, ⟨[], [], ((((opRun.setReg (Reg.ENG_STATE 2) 1).setReg (Reg.ENG_WRAP 2) 0x60).setBlob (Reg.ENG_PROG 2)
      (leBytes 2 25088 ++ zeros 62))).setEng 2 {  }⟩, by decide +kernel⟩,
  ⟨2, 34817, ⟨[], [], ((((opRun.setReg (Reg.ENG_STATE 2) 1).setReg (Reg.ENG_WRAP 2) 0x60).setBlob (Reg.ENG_PROG 2) (leBytes 2
      34817 ++ zeros 62))).setEng 2 { dirs := 1 }⟩, by decide +kernel⟩,
  ⟨2, 40960, 7, [8], ⟨[], [], ((((opRun.setReg (Reg.ENG_STATE 2) 1).setReg (Reg.ENG_WRAP 2) 0x60).setBlob (Reg.ENG_PROG 2)
      (leBytes 2 40960 ++ zeros 62))).setEng 2 { tx := [7, 8] }⟩, by decide +kernel⟩,
  ⟨2, 40960, ⟨[], [], ((((opRun.setReg (Reg.ENG_STATE 2) 1).setReg (Reg.ENG_WRAP 2) 0x60).setBlob (Reg.ENG_PROG 2) (leBytes 2
      40960 ++ zeros 62))).setEng 2 {  }⟩, by decide +kernel⟩,
  ⟨2, 0, 53248, ⟨[], [], ((((opRun.setReg (Reg.ENG_STATE 2) 1).setReg (Reg.ENG_WRAP 2) 0x60).setBlob (Reg.ENG_PROG 2) (leBytes 2
      53248 ++ zeros 62))).setEng 2 {  }⟩, by decide +kernel⟩,
  ⟨2, 63488, ⟨[], [], ((((opRun.setReg (Reg.ENG_STATE 2) 1).setReg (Reg.ENG_WRAP 2) 0x60).setBlob (Reg.ENG_PROG 2) (leBytes 2
      63488 ++ zeros 62))).setEng 2 { eq := true }⟩, by decide +kernel⟩,
  ⟨2, 4, 0, 40960, 7, [8], ⟨[], [], ((((opRun.setReg (Reg.ENG_STATE 2) 3).setReg (Reg.ENG_WRAP 2) 0x60).setBlob (Reg.ENG_PROG 2)
      (leBytes 2 40960 ++ zeros 62))).setEng 2 { tx := [7, 8] }⟩, by decide +kernel⟩⟩

theorem meets_EnginesAreControlledAndFed :
  (∃ (lvl : Fin 4) (n : Fin 64) (s : State), s.core.takes lvl (Reg.ENG_CTRL n) = true ∧ ((s.core.engState n = 0 ∨
      s.core.engState n = 4)) ∧ s.core.fc.safe = false ∧ s.core.startBarred n = false ∧ s.core.isolatedKind .engine n = false) ∧
  (∃ (lvl : Fin 4) (n : Fin 64) (s : State), s.core.takes lvl (Reg.ENG_CTRL n) = true ∧ s.core.engState n ≠ 0) ∧
  (∃ (lvl : Fin 4) (n : Fin 64) (s : State), s.core.takes lvl (Reg.ENG_CTRL n) = true ∧ ((s.core.engState n = 1 ∨
      s.core.engState n = 2 ∨ s.core.engState n = 3))) ∧
  (∃ (lvl : Fin 4) (n : Fin 64) (s : State), s.core.takes lvl (Reg.ENG_CTRL n) = true ∧ s.core.engState n = 0) ∧
  (∃ (n : Fin 64) (bs : Bytes) (s : State), bs.length = 4 ∧ (s.core.eng n).tx.length < 4 ∧ s.core.reg Reg.INJ_LEFT = 0) ∧
  (∃ (n : Fin 64) (v : Nat) (rest : List Nat) (s : State), (s.core.eng n).rx = v :: rest) ∧
  (∃ (n : Fin 64) (v : Nat) (rest : List Nat) (s : State), (s.core.eng n).rx = v :: rest) ∧
  (∃ (lvl : Fin 4) (n : Fin 64) (data : Bytes) (s : State), s.core.takes lvl (Reg.ENG_PROG n) = true ∧ s.core.engState n = 0 ∧
      progOk data = true) ∧
  (∃ (lvl : Fin 4) (n : Fin 64) (data : Bytes) (s : State), s.core.takes lvl (Reg.ENG_PROG n) = true ∧ s.core.engState n = 1 ∧
      progOk data = true) ∧
  (∃ (lvl : Fin 4) (n : Fin 64) (v : BitVec 32) (s : State), s.core.takes lvl (Reg.ENG_WRAP n) = true ∧ s.core.engState n = 0 ∧
      bits v.toNat 4 0 ≤ bits v.toNat 9 5 ∧ bits v.toNat 31 16 ≤ 1023) ∧
  (∃ (lvl : Fin 4) (n : Fin 64) (v : BitVec 32) (s : State), s.core.takes lvl (Reg.ENG_DIV n) = true ∧ s.core.engState n = 0 ∧
      bits v.toNat 15 0 ≠ 0) ∧
  (∃ (lvl : Fin 4) (n : Fin 64) (data : Bytes) (s : State), s.core.takes lvl (Reg.ENG_PROG_FORCE n) = true ∧
      s.core.engState n = 1 ∧ progOk data = true ∧ 2 ≤ fieldAt (s.core.blob (Reg.ENG_PROG n)) (2 * (s.core.eng n).pc) 2 / 2 ^
      13) :=
  ⟨⟨2, 2, ⟨[], [], ((((opRun.setReg (Reg.ENG_STATE 2) 0).setReg (Reg.ENG_WRAP 2) 0x60).setBlob (Reg.ENG_PROG 2) (leBytes 2 0 ++
      zeros 62))).setEng 2 { sr := 5, cnt := 9, tx := [1] }⟩, by decide +kernel⟩,
  ⟨2, 2, ⟨[], [], ((((opRun.setReg (Reg.ENG_STATE 2) 1).setReg (Reg.ENG_WRAP 2) 0x60).setBlob (Reg.ENG_PROG 2) (leBytes 2 0 ++
      zeros 62))).setEng 2 {  }⟩, by decide +kernel⟩,
  ⟨2, 2, ⟨[], [], ((((opRun.setReg (Reg.ENG_STATE 2) 1).setReg (Reg.ENG_WRAP 2) 0x60).setBlob (Reg.ENG_PROG 2) (leBytes 2 0 ++
      zeros 62))).setEng 2 {  }⟩, by decide +kernel⟩,
  ⟨2, 2, ⟨[], [], ((((opRun.setReg (Reg.ENG_STATE 2) 0).setReg (Reg.ENG_WRAP 2) 0x60).setBlob (Reg.ENG_PROG 2) (leBytes 2 0 ++
      zeros 62))).setEng 2 { tx := [1], rx := [2] }⟩, by decide +kernel⟩,
  ⟨2, [1, 2, 3, 4], ⟨[], [], ((((opRun.setReg (Reg.ENG_STATE 2) 1).setReg (Reg.ENG_WRAP 2) 0x60).setBlob (Reg.ENG_PROG 2)
      (leBytes 2 0 ++ zeros 62))).setEng 2 {  }⟩, by decide +kernel⟩,
  ⟨2, 7, [8], ⟨[], [], ((((opRun.setReg (Reg.ENG_STATE 2) 1).setReg (Reg.ENG_WRAP 2) 0x60).setBlob (Reg.ENG_PROG 2) (leBytes 2 0
      ++ zeros 62))).setEng 2 { rx := [7, 8] }⟩, by decide +kernel⟩,
  ⟨2, 7, [8], ⟨[], [], ((((opRun.setReg (Reg.ENG_STATE 2) 1).setReg (Reg.ENG_WRAP 2) 0x60).setBlob (Reg.ENG_PROG 2) (leBytes 2 0
      ++ zeros 62))).setEng 2 { rx := [7, 8] }⟩, by decide +kernel⟩,
  ⟨2, 2, (leBytes 2 0x4001 ++ zeros 62), ⟨[], [], ((((opRun.setReg (Reg.ENG_STATE 2) 0).setReg (Reg.ENG_WRAP 2) 0x60).setBlob
      (Reg.ENG_PROG 2) (leBytes 2 0 ++ zeros 62))).setEng 2 {  }⟩, by decide +kernel⟩,
  ⟨2, 2, (leBytes 2 0x4001 ++ zeros 62), ⟨[], [], ((((opRun.setReg (Reg.ENG_STATE 2) 1).setReg (Reg.ENG_WRAP 2) 0x60).setBlob
      (Reg.ENG_PROG 2) (leBytes 2 0 ++ zeros 62))).setEng 2 {  }⟩, by decide +kernel⟩,
  ⟨2, 2, 0x40, ⟨[], [], ((((opRun.setReg (Reg.ENG_STATE 2) 0).setReg (Reg.ENG_WRAP 2) 0x60).setBlob (Reg.ENG_PROG 2) (leBytes 2
      0 ++ zeros 62))).setEng 2 {  }⟩, by decide +kernel⟩,
  ⟨2, 2, 100, ⟨[], [], ((((opRun.setReg (Reg.ENG_STATE 2) 0).setReg (Reg.ENG_WRAP 2) 0x60).setBlob (Reg.ENG_PROG 2) (leBytes 2 0
      ++ zeros 62))).setEng 2 {  }⟩, by decide +kernel⟩,
  ⟨2, 2, (leBytes 2 0x4001 ++ zeros 62), ⟨[], [], ((((opRun.setReg (Reg.ENG_STATE 2) 1).setReg (Reg.ENG_WRAP 2) 0x60).setBlob
      (Reg.ENG_PROG 2) (leBytes 2 16387 ++ zeros 62))).setEng 2 {  }⟩, by decide +kernel⟩⟩

theorem meets_DiscreteAndMeasurementFollow :
  (∃ (b : Fin 32) (f : Frame) (s : State), s.core.up = true ∧ s.core.reg Reg.INJ_LEFT = 0 ∧ f.check = f.transitCrc ∧
      f.payload.length = 4 ∧ s.core.supplied b = true ∧ bit (s.core.cfg Reg.SCHED_BANKS) b = false) ∧
  (∃ (b : Fin 32) (f : Frame) (s : State), s.core.up = true ∧ s.core.reg Reg.INJ_LEFT = 0 ∧ f.check = f.transitCrc ∧
      ((f.payload.length ≠ 4 ∨ s.core.supplied b = false))) ∧
  (∃ (lvl : Fin 4) (b : Fin 32) (_v : Fin 256) (s : State), s.core.takes lvl (Reg.DISC_SAFE b) = true) ∧
  (∃ (b : Fin 32) (mv : Nat) (s : State), s.core.up = true ∧ (s.core.bank b).sensed = some (vioCode mv) ∧
      s.core.reg (Reg.DISC_VIO b) = 0 ∧ (s.core.bank b).gone = false ∧ 1620 ≤ mv ∧ mv ≤ 1980) ∧
  (∃ (n : Fin 32) (x : Int) (s : State), (s.core.measIn n).running = true ∧ s.core.regI 16 (Reg.MEAS_CAL_OFFSET n) = 0 ∧
      s.core.reg (Reg.MEAS_CAL_GAIN n) = 32768 ∧ -32768 ≤ x ∧ x ≤ 32767 ∧ (s.core.nextSample n).2 = false ∧
      bit (s.core.reg Reg.SUPPLY_FLAGS) 1 = false) ∧
  (∃ (n : Fin 32) (s : State), s.core.fieldRuns = true ∧ s.core.cfg (Reg.MEAS_OPEN_EN n) = 1 ∧ (s.core.measIn n).opened = false) ∧
  (∃ (n : Fin 32) (s : State), s.core.fieldRuns = true ∧ s.core.cfg (Reg.MEAS_OPEN_EN n) = 1 ∧ (s.core.measIn n).opened = true) :=
  ⟨⟨3, ({ kind := 1, tick := 9, payload := [2, 3, 0, 0] } : Frame).seal, ⟨[], [], opRun.setReg (Reg.DISC_VIO 3) 1⟩,
      (by and_intros <;> first | with_reducible exact Frame.seal_check _ | decide +kernel)⟩,
  ⟨3, ({ kind := 1, tick := 9, payload := [2, 3, 0, 0] } : Frame).seal, ⟨[], [], opRun⟩,
      (by and_intros <;> first | with_reducible exact Frame.seal_check _ | decide +kernel)⟩,
  ⟨2, 3, 0x81, ⟨[], [], opRun⟩, by decide +kernel⟩,
  ⟨3, 1800, ⟨[], [], opRun.setBank 3 { sensed := some 1 }⟩, by decide +kernel⟩,
  ⟨2, 6501, ⟨[], [], ((opRun.inforce (Reg.MEAS_ENABLE 2) 1).inforce (Reg.MEAS_RATE 2) 3).setMeas 2
      { running := true, settle := 12 }⟩, by decide +kernel⟩,
  ⟨2, ⟨[], [], ((opRun.inforce (Reg.MEAS_ENABLE 2) 1).inforce (Reg.MEAS_RATE 2) 3).setMeas 2 { running := true,  } |>.inforce
      (Reg.MEAS_OPEN_EN 2) 1⟩, by decide +kernel⟩,
  ⟨2, ⟨[], [], ((opRun.inforce (Reg.MEAS_ENABLE 2) 1).inforce (Reg.MEAS_RATE 2) 3).setMeas 2 { running := true, opened := true }
      |>.inforce (Reg.MEAS_OPEN_EN 2) 1⟩, by decide +kernel⟩⟩

theorem meets_MapperRunsAndReleases :
  (∃ (arrived : Option Frame) (f : Frame) (r : MapRoute) (x : MapRun) (s : State), s.core.up = true ∧ s.core.mapRuns = true ∧
      arrived = none ∧ nextItem s.core.atMapper = some f ∧ s.core.reg Reg.INJ_LEFT = 0 ∧ f.stream < 2048 * s.core.routeBanks ∧
      s.core.wordsClean s.mem (s.core.routeBase + f.stream * 32) 32 = true ∧ s.core.route s.mem f.stream = some r ∧
      ((r.origin = 0xFFFF ∨ r.origin = f.okey)) ∧ s.core.map.runs = [] ∧
      Core.runChain s.mem s.core.now chainSteps
      { item := f, due := s.core.now, at_ := some { key := f.stream, route := r, left := 8 } } ((s.core.undeliver 12 f).inc
      Reg.CNT_IN) = (x, ((s.core.undeliver 12 f).inc Reg.CNT_IN))) ∧
  (∃ (arrived : Option Frame) (f : Frame) (s : State), s.core.up = true ∧ s.core.mapRuns = true ∧ arrived = none ∧
      s.core.map.runs = [] ∧ nextItem s.core.atMapper = some f ∧ s.core.reg Reg.INJ_LEFT = 0 ∧ f.check = f.transitCrc ∧
      ((2048 * s.core.routeBanks ≤ f.stream ∨ (s.core.wordsClean s.mem (s.core.routeBase + f.stream * 32) 32 = true ∧
      s.core.route s.mem f.stream = none)))) ∧
  (∃ (r : MapRun) (x : SlotStore) (s : State), s.core.map.runs = [r] ∧ r.at_ = none ∧ r.hits = [] ∧ r.inverted = false ∧
      r.item.check = r.item.transitCrc ∧ r.fault = none ∧ r.outs = [] ∧ r.stores = [x] ∧ r.item.tick ≠ tickUnknown ∧
      tickAhead r.item.tick s.core.tickNow = false) ∧
  (∃ (r : MapRun) (e : Nat) (k : Nat) (i : Nat) (s : State), s.core.map.runs = [r] ∧ r.at_ = none ∧ r.hits = [] ∧
      r.inverted = false ∧ r.item.check = r.item.transitCrc ∧ r.fault = some (e, k, i)) ∧
  (∃ (key : Fin 65536) (entry : Bytes) (s : State), s.core.up = true ∧ entry.length = 32 ∧
      Core.writeStatus s.mem s.core 1 (s.core.routeBase + key.val * 32) entry = Fab.OK ∧ key.val < 2048 * s.core.routeBanks ∧
      s.core.routeBanks ≤ 32 ∧ bits (fieldAt entry 0 2) 5 4 ≠ 3) ∧
  (∃ (k : Fin 16384) (entry : Bytes) (s : State), s.core.up = true ∧ entry.length = 16 ∧
      Core.writeStatus s.mem s.core 1 (entryBase + k.val * 16) entry = Fab.OK ∧ s.core.routeBanks ≤ 32) ∧
  (∃ (t : Nat) (r : Nat) (x : Rule) (s : State), s.core.mapRuns = true ∧ s.core.time.lastTick = some t ∧
      s.core.map.lastPass ≠ some t ∧ s.core.map.rules = [(r, x)] ∧ x.st = 1 ∧ x.reset = false ∧ x.stale = false ∧
      s.core.reg (Reg.RULE_STALE r) = 0 ∧ s.core.reg (Reg.RULE_COUNT r) = 1 ∧ x.run = 0 ∧
      bit (s.core.reg (Reg.RULE_CTRL r)) 1 = false ∧ s.core.regI 32 (Reg.RULE_TRIP r) ≤ s.core.regI 32 (Reg.SIG_VALUE
      (s.core.reg (Reg.RULE_SLOT r))) ∧ r < 1024) ∧
  (∃ (lvl : Fin 4) (r : Fin 1024) (s : State), s.core.takes lvl (Reg.RULE_RESET r) = true ∧ (s.core.rule r).st = 3 ∧
      (s.core.rule r).reset = false) ∧
  (∃ (s : State), s.core.up = true ∧ s.core.map.runs = []) :=
  ⟨⟨none, ({ kind := 1, cls := 2, stream := 5, tick := 0, payload := [1, 2] } : Frame).seal,
      { flags := 1, dest := 0, outId := 0, canFrame := 0, canMailbox := 0, outLen := 0, program := 0xFFFF, outKey := 0, origin := 0xFFFF, next := 0xFFFF, lead := 0, tail := 0 },
      (Core.runChain (Memory.store [] 0x2000A0 ([1, 0, 0, 0, 0, 0, 0, 0, 0, 0, 0, 0, 0xFF, 0xFF, 0, 0, 0xFF, 0xFF, 0xFF,
      0xFF] ++ zeros 12)) 0 chainSteps
      { item := ({ kind := 1, cls := 2, stream := 5, tick := 0, payload := [1, 2] } : Frame).seal, due := 0, at_ := some { key := 5, route := { flags := 1, dest := 0, outId := 0, canFrame := 0, canMailbox := 0, outLen := 0, program := 0xFFFF, outKey := 0, origin := 0xFFFF, next := 0xFFFF, lead := 0, tail := 0 }, left := 8 } }
      (((({ opRun with sw := { delivered := [(12, ({ kind := 1, cls := 2, stream := 5, tick := 0, payload := [1, 2] } : Frame).seal)] } })
      : Core).undeliver 12 (({ kind := 1, cls := 2, stream := 5, tick := 0, payload := [1, 2] } : Frame).seal)).inc
      Reg.CNT_IN)).1, ⟨[], (Memory.store [] 0x2000A0 ([1, 0, 0, 0, 0, 0, 0, 0, 0, 0, 0, 0, 0xFF, 0xFF, 0, 0, 0xFF, 0xFF, 0xFF,
      0xFF] ++ zeros 12)),
      { opRun with sw := { delivered := [(12, ({ kind := 1, cls := 2, stream := 5, tick := 0, payload := [1, 2] } : Frame).seal)] } }⟩,
      by decide +kernel⟩,
  ⟨none, ({ kind := 1, cls := 2, stream := 5, tick := 0, payload := [1, 2] } : Frame).seal, ⟨[], [],
      { opRun with sw := { delivered := [(12, ({ kind := 1, cls := 2, stream := 5, tick := 0, payload := [1, 2] } : Frame).seal)] } }⟩,
      (by and_intros <;> first | with_reducible exact Frame.seal_check _ | decide +kernel)⟩,
  ⟨{ item := ({ kind := 1, cls := 2, stream := 5, tick := 0, payload := [1, 2] } : Frame).seal, outs := [], stores := [{ slot := 7, value := 9, sat := false, route := 5 }], fault := none },
      { slot := 7, value := 9, sat := false, route := 5 }, ⟨[], [],
      { opRun with map := { runs := [{ item := ({ kind := 1, cls := 2, stream := 5, tick := 0, payload := [1, 2] } : Frame).seal, outs := [], stores := [{ slot := 7, value := 9, sat := false, route := 5 }], fault := none }] } }⟩,
      by decide +kernel⟩,
  ⟨{ item := ({ kind := 1, cls := 2, stream := 5, tick := 0, payload := [1, 2] } : Frame).seal, outs := [], stores := [{ slot := 7, value := 9, sat := false, route := 5 }], fault := some (2, 5, 6) },
      2, 5, 6, ⟨[], [],
      { opRun with map := { runs := [{ item := ({ kind := 1, cls := 2, stream := 5, tick := 0, payload := [1, 2] } : Frame).seal, outs := [], stores := [{ slot := 7, value := 9, sat := false, route := 5 }], fault := some (2, 5, 6) }] } }⟩,
      by decide +kernel⟩,
  ⟨5, [1, 0, 0, 0, 0, 0, 0, 0, 0, 0, 0, 0, 0xFF, 0xFF, 0, 0, 0xFF, 0xFF, 0xFF, 0xFF, 0, 0, 9, 9, 9, 9, 9, 9, 0, 0, 0, 0], ⟨[],
      [], opRun⟩, by decide +kernel⟩,
  ⟨5, [1, 2, 3, 4, 5, 6, 7, 8, 9, 10, 11, 12, 13, 14, 15, 16], ⟨[], [], opRun⟩, by decide +kernel⟩,
  ⟨9, 3, { st := 1 }, ⟨[], [],
      { (opRun.setReg (Reg.RULE_COUNT 3) 1).setReg (Reg.RULE_CTRL 3) 9 with map := { rules := [(3, { st := 1 })] }, time := { opRun.time with lastTick := some 9, tag := some 9 } }⟩,
      by decide +kernel⟩,
  ⟨2, 3, ⟨[], [], { opRun with map := { rules := [(3, { st := 3 })] } }⟩, by decide +kernel⟩,
  ⟨⟨[], [], { opRun with map := { ops := 7 } }⟩, by decide +kernel⟩⟩

theorem meets_FabricServesItsRequests :
  (∃ (f : Frame) (s : State), s.core.up = true ∧ 16 ≤ f.payload.length ∧ fabFormOk f = true ∧ fabOp f = Op.READ ∧
      s.core.semHeld none (s.core.homeAddr * 2 ^ 48 + fieldAt f.payload 4 6) (fieldAt f.payload 10 2) = false ∧
      fieldAt f.payload 4 6 % 65536 + fieldAt f.payload 10 2 ≤ 65536 ∧ s.core.reg (Reg.BANK_OWNER (fieldAt f.payload 4 6 /
      65536)) = 2 ∧ fieldAt f.payload 4 6 / 65536 < 64 ∧ bit (s.core.cfg Reg.STAGE_SET) (fieldAt f.payload 4 6 / 65536) =
      false ∧ f.check = f.transitCrc ∧ s.core.wordsClean s.mem (fieldAt f.payload 4 6) (fieldAt f.payload 10 2) = true ∧
      s.core.mayOriginate f = true ∧ s.core.standby = false ∧ segOf f.src = s.core.segmentOn 0 ∧ isMcast f.src = false ∧
      f.src ≠ s.core.homeAddr ∧ f.kind = 0 ∧ f.cls = 7 ∧ s.core.ring.lone = false ∧ s.core.joined 0 = true ∧
      s.core.fwd.seqs = []) ∧
  (∃ (f : Frame) (clash : Option Nat) (s : State), s.core.up = true ∧ 16 ≤ f.payload.length ∧ fabFormOk f = true ∧
      fabOp f = Op.WRITE ∧ s.core.semHeld none (s.core.homeAddr * 2 ^ 48 + fieldAt f.payload 4 6) (fieldAt f.payload 10 2) =
      false ∧ fieldAt f.payload 4 6 % 65536 + fieldAt f.payload 10 2 ≤ 65536 ∧
      s.core.reg (Reg.BANK_OWNER (fieldAt f.payload 4 6 / 65536)) = 2 ∧ fieldAt f.payload 4 6 / 65536 < 64 ∧
      bit (s.core.cfg Reg.STAGE_SET) (fieldAt f.payload 4 6 / 65536) = false ∧ f.check = f.transitCrc ∧ clash = none ∧
      s.core.mapTableWrite s.mem (fieldAt f.payload 4 6) (f.payload.drop 16) Fab.ADDRESS Fab.ACCESS = none ∧
      s.core.mayOriginate f = true ∧ s.core.standby = false ∧ segOf f.src = s.core.segmentOn 0 ∧ isMcast f.src = false ∧
      f.src ≠ s.core.homeAddr ∧ f.kind = 0 ∧ f.cls = 7 ∧ s.core.ring.lone = false ∧ s.core.joined 0 = true ∧
      s.core.fwd.seqs = []) ∧
  (∃ (f : Frame) (clash : Option Nat) (s : State), s.core.up = true ∧ 16 ≤ f.payload.length ∧ fabFormOk f = true ∧
      fabOp f = Op.WRITE_POSTED ∧ s.core.semHeld none (s.core.homeAddr * 2 ^ 48 + fieldAt f.payload 4 6) (fieldAt f.payload 10
      2) = false ∧ fieldAt f.payload 4 6 % 65536 + fieldAt f.payload 10 2 ≤ 65536 ∧
      s.core.reg (Reg.BANK_OWNER (fieldAt f.payload 4 6 / 65536)) = 2 ∧ fieldAt f.payload 4 6 / 65536 < 64 ∧
      bit (s.core.cfg Reg.STAGE_SET) (fieldAt f.payload 4 6 / 65536) = false ∧ f.check = f.transitCrc ∧ clash = none ∧
      s.core.mapTableWrite s.mem (fieldAt f.payload 4 6) (f.payload.drop 16) Fab.ADDRESS Fab.ACCESS = none) ∧
  (∃ (f : Frame) (s : State), s.core.up = true ∧ f.payload.length < 16) ∧
  (∃ (f : DataAnswer) (a : FabAccess) (w : Nat) (s : State), s.core.up = true ∧ 16 ≤ f.frame.payload.length ∧
      f.frame.check = f.frame.transitCrc ∧ s.core.reg Reg.LHP_STATE = 0 ∧ s.core.lhp.cycle = none ∧ s.core.fab.hostDone = [] ∧
      s.core.accessOf (fieldAt f.frame.payload 2 2) = some a ∧ s.core.now < a.deadline ∧ a.owner = .window w false ∧
      a.dict = false ∧ s.core.fab.accesses = [a] ∧ fabOp f.frame = Op.READ_DATA ∧ a.write = false ∧ a.want = none ∧
      a.owner ≠ .opener) ∧
  (∃ (f : Frame) (a : FabAccess) (w : Nat) (s : State), s.core.up = true ∧ 16 ≤ f.payload.length ∧ f.check = f.transitCrc ∧
      s.core.reg Reg.LHP_STATE = 0 ∧ s.core.lhp.cycle = none ∧ s.core.fab.hostDone = [] ∧
      s.core.accessOf (fieldAt f.payload 2 2) = some a ∧ s.core.now < a.deadline ∧ a.owner = .window w false ∧
      a.dict = false ∧ s.core.fab.accesses = [a] ∧ fabOp f = Op.WRITE_DONE ∧ a.write = true ∧ a.want = none) ∧
  (∃ (f : Frame) (a : FabAccess) (w : Nat) (e : Nat) (s : State), s.core.up = true ∧ 16 ≤ f.payload.length ∧
      f.check = f.transitCrc ∧ s.core.reg Reg.LHP_STATE = 0 ∧ s.core.lhp.cycle = none ∧ s.core.fab.hostDone = [] ∧
      s.core.accessOf (fieldAt f.payload 2 2) = some a ∧ s.core.now < a.deadline ∧ a.owner = .window w false ∧
      a.dict = false ∧ s.core.fab.accesses = [a] ∧ fabOp f = Op.ERROR ∧ a.want = none ∧ fieldAt f.payload 1 1 = e ∧ e ≠ 0) ∧
  (∃ (a : FabAccess) (w : Nat) (s : State), s.core.up = true ∧ s.core.fab.accesses = [a] ∧ a.owner = .window w false ∧
      a.tag.isSome = true ∧ a.want = none ∧ s.core.lhp.cycle = none ∧ s.core.fab.hostDone = [] ∧ s.core.tickOpen = true) :=
  ⟨⟨({ kind := 0, cls := 7, dst := 0x401, src := 0x402, okey := 0x402, stream := 3, payload := fabHead 1 0 7 0x360000 4 ++ [] } :
      Frame).seal, ⟨[], (Memory.store [] 0x360001 [5]),
      { (((((opRun.setReg (Reg.RP_STATE 0) 5).setReg (Reg.RP_STATE 1) 5).setReg Reg.NODE_ADDR 0x401).inforce Reg.SEGMENT 1)) with ring := { home := { table := [{ addr := 0x401 }, { addr := 0x402 }] } } }⟩,
      (by and_intros <;> first | with_reducible exact Frame.seal_check _ | decide +kernel)⟩,
  ⟨({ kind := 0, cls := 7, dst := 0x401, src := 0x402, okey := 0x402, stream := 3, payload := fabHead 4 0 7 0x360000 2 ++ [8, 9] }
      : Frame).seal, none, ⟨[], [],
      { (((((opRun.setReg (Reg.RP_STATE 0) 5).setReg (Reg.RP_STATE 1) 5).setReg Reg.NODE_ADDR 0x401).inforce Reg.SEGMENT 1)) with ring := { home := { table := [{ addr := 0x401 }, { addr := 0x402 }] } } }⟩,
      (by and_intros <;> first | with_reducible exact Frame.seal_check _ | decide +kernel)⟩,
  ⟨({ kind := 0, cls := 7, dst := 0x401, src := 0x402, okey := 0x402, stream := 3, payload := fabHead 3 0 0 0x360000 2 ++ [8, 9] }
      : Frame).seal, none, ⟨[], [],
      { (((((opRun.setReg (Reg.RP_STATE 0) 5).setReg (Reg.RP_STATE 1) 5).setReg Reg.NODE_ADDR 0x401).inforce Reg.SEGMENT 1)) with ring := { home := { table := [{ addr := 0x401 }, { addr := 0x402 }] } } }⟩,
      (by and_intros <;> first | with_reducible exact Frame.seal_check _ | decide +kernel)⟩,
  ⟨{ payload := [1] }, ⟨[], [],
      { (((((opRun.setReg (Reg.RP_STATE 0) 5).setReg (Reg.RP_STATE 1) 5).setReg Reg.NODE_ADDR 0x401).inforce Reg.SEGMENT 1)) with ring := { home := { table := [{ addr := 0x401 }, { addr := 0x402 }] } } }⟩,
      by decide +kernel⟩,
  ⟨{ frame := ({ kind := 0, cls := 7, dst := 0x401, src := 0x402, okey := 0x402, stream := 3, payload := fabHead 2 0 7 0x360000 4 ++ [1, 2, 3, 4] } : Frame).seal },
      ({ id := 1, owner := .window 3 false, node := 0x402, off := 0x360000, count := 4, tag := some 7, txn := 7, deadline := 9 }
      : FabAccess), 3, ⟨[], [],
      { (((((opRun.setReg (Reg.RP_STATE 0) 5).setReg (Reg.RP_STATE 1) 5).setReg Reg.NODE_ADDR 0x401).inforce Reg.SEGMENT 1)) with ring := { home := { table := [{ addr := 0x401 }, { addr := 0x402 }] } }, fab := { accesses := [({ id := 1, owner := .window 3 false, node := 0x402, off := 0x360000, count := 4, tag := some 7, txn := 7, deadline := 9 } : FabAccess)] } }⟩,
      by decide +kernel⟩,
  ⟨({ kind := 0, cls := 7, dst := 0x401, src := 0x402, okey := 0x402, stream := 3, payload := fabHead 5 0 7 0x360000 4 ++ [] } :
      Frame).seal,
      ({ id := 1, owner := .window 3 false, node := 0x402, off := 0x360000, count := 4, tag := some 7, txn := 7, deadline := 9, write := true }
      : FabAccess), 3, ⟨[], [],
      { (((((opRun.setReg (Reg.RP_STATE 0) 5).setReg (Reg.RP_STATE 1) 5).setReg Reg.NODE_ADDR 0x401).inforce Reg.SEGMENT 1)) with ring := { home := { table := [{ addr := 0x401 }, { addr := 0x402 }] } }, fab := { accesses := [({ id := 1, owner := .window 3 false, node := 0x402, off := 0x360000, count := 4, tag := some 7, txn := 7, deadline := 9, write := true } : FabAccess)] } }⟩,
      (by and_intros <;> first | with_reducible exact Frame.seal_check _ | decide +kernel)⟩,
  ⟨({ kind := 0, cls := 7, dst := 0x401, src := 0x402, okey := 0x402, stream := 3, payload := fabHead 6 2 7 0x360000 4 ++ [] } :
      Frame).seal,
      ({ id := 1, owner := .window 3 false, node := 0x402, off := 0x360000, count := 4, tag := some 7, txn := 7, deadline := 9 }
      : FabAccess), 3, 2, ⟨[], [],
      { (((((opRun.setReg (Reg.RP_STATE 0) 5).setReg (Reg.RP_STATE 1) 5).setReg Reg.NODE_ADDR 0x401).inforce Reg.SEGMENT 1)) with ring := { home := { table := [{ addr := 0x401 }, { addr := 0x402 }] } }, fab := { accesses := [({ id := 1, owner := .window 3 false, node := 0x402, off := 0x360000, count := 4, tag := some 7, txn := 7, deadline := 9 } : FabAccess)] } }⟩,
      (by and_intros <;> first | with_reducible exact Frame.seal_check _ | decide +kernel)⟩,
  ⟨({ id := 1, owner := .window 3 false, node := 0x402, off := 0x360000, count := 4, tag := some 7, txn := 7, deadline := 9 } :
      FabAccess), 3, ⟨[], [],
      { (((((opRun.setReg (Reg.RP_STATE 0) 5).setReg (Reg.RP_STATE 1) 5).setReg Reg.NODE_ADDR 0x401).inforce Reg.SEGMENT 1)) with ring := { home := { table := [{ addr := 0x401 }, { addr := 0x402 }] } }, fab := { accesses := [({ id := 1, owner := .window 3 false, node := 0x402, off := 0x360000, count := 4, tag := some 7, txn := 7, deadline := 9 } : FabAccess)] } }⟩,
      by decide +kernel⟩⟩

theorem meets_WindowsReachTheFabric :
  (∃ (a : BitVec 32) (write : Bool) (n : Fin 1009) (_bs : PortWrite) (w : Nat) (x : Nat) (s : State), s.core.firmware = true ∧
      s.core.heatherBarred a.toNat n = false ∧ write = false ∧ s.core.winMatches a.toNat = [w] ∧
      s.core.reg (Reg.WIN_CTRL w) % 256 = 0x19 ∧ a.toNat + n ≤ s.core.reg (Reg.WIN_BASE w) + s.core.winSize w ∧ 0 < n.val ∧
      x = s.core.reg (Reg.WIN_TARGET w) + (a.toNat - s.core.reg (Reg.WIN_BASE w)) ∧ x / 2 ^ 48 = s.core.homeAddr ∧
      isMcast s.core.homeAddr = false ∧ x % 2 ^ 48 % 65536 + n ≤ 65536 ∧
      s.core.reg (Reg.BANK_OWNER (x % 2 ^ 48 / 65536)) = 2 ∧ x % 2 ^ 48 / 65536 < 64 ∧
      bit (s.core.cfg Reg.STAGE_SET) (x % 2 ^ 48 / 65536) = false ∧ s.core.wordsClean s.mem (x % 2 ^ 48) n = true) ∧
  (∃ (a : BitVec 32) (write : Bool) (n : Fin 1009) (_bs : PortWrite) (s : State), s.core.firmware = true ∧
      s.core.heatherBarred a.toNat n = false ∧ write = false ∧ s.core.winMatches a.toNat = []) ∧
  (∃ (lvl : Fin 4) (w : Fin 256) (v : BitVec 32) (s : State), s.core.takes lvl (Reg.WIN_CTRL w) = true ∧ v.toNat < 2 ^ 18 ∧
      winSettingsOk (s.core.reg (Reg.WIN_BASE w)) (s.core.reg (Reg.WIN_TARGET w)) v.toNat = true ∧ bit v.toNat 7 = false) ∧
  (∃ (lvl : Fin 4) (data : Bytes) (s : State), s.core.takes lvl (Reg.FO_TOKEN) = true ∧ data.length = 8) ∧
  (∃ (f : Frame) (a : FabAccess) (s : State), s.core.up = true ∧ f.kind = 5 ∧ 16 ≤ f.payload.length ∧
      s.core.accessOfTxn (fieldAt f.payload 0 2) = some a ∧ s.core.now < a.deadline ∧ a.owner = .opener ∧
      s.core.reg Reg.INJ_LEFT = 0 ∧ f.check = f.transitCrc ∧ s.core.fab.accesses = [a]) ∧
  (∃ (f : Frame) (a : FabAccess) (w : Nat) (s : State), s.core.up = true ∧ f.kind = 5 ∧ 16 ≤ f.payload.length ∧
      s.core.accessOfTxn (fieldAt f.payload 0 2) = some a ∧ s.core.now < a.deadline ∧ a.owner = .window w false ∧
      a.dict = true ∧ a.want = none ∧ s.core.reg Reg.INJ_LEFT = 0 ∧ f.check = f.transitCrc ∧ s.core.fab.accesses = [a] ∧
      fieldAt f.payload 7 1 = 0 ∧ s.core.lhp.cycle = none ∧ s.core.fab.hostDone = [] ∧ s.core.reg Reg.LHP_STATE = 0) :=
  ⟨⟨4, false, 2, {}, 3, 0x0401000000360004, ⟨[], (Memory.store [] 0x360004 [5]),
      { (((((opRun.setReg (Reg.RP_STATE 0) 5).setReg (Reg.RP_STATE 1) 5).setReg Reg.NODE_ADDR 0x401).inforce Reg.SEGMENT 1) |>.setReg (Reg.WIN_CTRL 3) 0x19 |>.setReg (Reg.WIN_TARGET 3) 0x0401000000360000) with ring := { home := { table := [{ addr := 0x401 }, { addr := 0x402 }] } } }⟩,
      by decide +kernel⟩,
  ⟨4, false, 2, {}, ⟨[], [],
      { (((((opRun.setReg (Reg.RP_STATE 0) 5).setReg (Reg.RP_STATE 1) 5).setReg Reg.NODE_ADDR 0x401).inforce Reg.SEGMENT 1)) with ring := { home := { table := [{ addr := 0x401 }, { addr := 0x402 }] } } }⟩,
      by decide +kernel⟩,
  ⟨2, 3, 0x19, ⟨[], [],
      { (((((opRun.setReg (Reg.RP_STATE 0) 5).setReg (Reg.RP_STATE 1) 5).setReg Reg.NODE_ADDR 0x401).inforce Reg.SEGMENT 1)) with ring := { home := { table := [{ addr := 0x401 }, { addr := 0x402 }] } } }⟩,
      by decide +kernel⟩,
  ⟨2, [1, 2, 3, 4, 5, 6, 7, 8], ⟨[], [],
      { (((((opRun.setReg (Reg.RP_STATE 0) 5).setReg (Reg.RP_STATE 1) 5).setReg Reg.NODE_ADDR 0x401).inforce Reg.SEGMENT 1) |>.setReg Reg.FO_NODE 0x402) with ring := { home := { table := [{ addr := 0x401 }, { addr := 0x402 }] } } }⟩,
      by decide +kernel⟩,
  ⟨({ kind := 5, payload := [7, 0, 4, 9] ++ zeros 12 } : Frame).seal,
      ({ id := 1, owner := .opener, node := 0x402, off := 0x360000, count := 4, tag := some 7, txn := 7, deadline := 9 } :
      FabAccess), ⟨[], [],
      { (((((opRun.setReg (Reg.RP_STATE 0) 5).setReg (Reg.RP_STATE 1) 5).setReg Reg.NODE_ADDR 0x401).inforce Reg.SEGMENT 1)) with ring := { home := { table := [{ addr := 0x401 }, { addr := 0x402 }] } }, fab := { accesses := [({ id := 1, owner := .opener, node := 0x402, off := 0x360000, count := 4, tag := some 7, txn := 7, deadline := 9 } : FabAccess)] } }⟩,
      (by and_intros <;> first | with_reducible exact Frame.seal_check _ | decide +kernel)⟩,
  ⟨({ kind := 5, payload := [7, 0, 1, 0] ++ zeros 12 ++ [5] } : Frame).seal,
      ({ id := 1, owner := .window 3 false, node := 0x402, off := 0x100001000, count := 4, tag := some 7, txn := 7, deadline := 9, dict := true }
      : FabAccess), 3, ⟨[], [],
      { (((((opRun.setReg (Reg.RP_STATE 0) 5).setReg (Reg.RP_STATE 1) 5).setReg Reg.NODE_ADDR 0x401).inforce Reg.SEGMENT 1)) with ring := { home := { table := [{ addr := 0x401 }, { addr := 0x402 }] } }, fab := { accesses := [({ id := 1, owner := .window 3 false, node := 0x402, off := 0x100001000, count := 4, tag := some 7, txn := 7, deadline := 9, dict := true } : FabAccess)] } }⟩,
      (by and_intros <;> first | with_reducible exact Frame.seal_check _ | decide +kernel)⟩⟩

theorem meets_MoversRunTheirQueues :
  (∃ (lvl : Fin 4) (k : Fin 16) (q : Fin 4) (v : Fin 65536) (s : State), s.core.takes lvl (Reg.Q_TAIL k q) = true ∧
      v.val < s.core.reg (Reg.Q_SIZE k q) ∧ s.core.reg (Reg.MV_MODE k) ≠ 2) ∧
  (∃ (k : MoverStart) (q : Fin 4) (x : Mover) (s : State), s.core.up = true ∧ s.core.reg (Reg.MV_MODE k.mover) = 1 ∧
      s.core.isolatedKind .mover k.mover = false ∧ s.core.queued k.mover q ≠ 0 ∧ ((∀ p < q.val,
      s.core.queued k.mover p = 0)) ∧ s.core.ringOk (s.core.reg (Reg.Q_BASE k.mover q)) (s.core.reg (Reg.Q_SIZE k.mover q)) =
      true ∧ x = s.core.readDesc s.mem (s.core.headDesc k.mover q) q ∧ s.core.reg Reg.INJ_LEFT = 0 ∧
      s.core.wordsClean s.mem (s.core.headDesc k.mover q) 64 = true ∧ Core.descValid s.mem s.core (s.core.headDesc k.mover q)
      x = false) ∧
  (∃ (k : MoverStart) (q : Fin 4) (d0 : Nat) (x : Mover) (s : State), s.core.up = true ∧ s.core.reg (Reg.MV_MODE k.mover) = 1 ∧
      s.core.isolatedKind .mover k.mover = false ∧ s.core.queued k.mover q ≠ 0 ∧ ((∀ p < q.val,
      s.core.queued k.mover p = 0)) ∧ s.core.ringOk (s.core.reg (Reg.Q_BASE k.mover q)) (s.core.reg (Reg.Q_SIZE k.mover q)) =
      true ∧ d0 = s.core.headDesc k.mover q ∧ x = s.core.readDesc s.mem d0 q ∧ s.core.reg Reg.INJ_LEFT = 0 ∧
      s.core.wordsClean s.mem d0 64 = true ∧ Core.descValid s.mem s.core d0 x = true ∧ s.mem.field (d0 + 40) 1 = 0 ∧
      x.src / 2 ^ 48 ≠ s.core.homeAddr ∧ isMcast (x.src / 2 ^ 48) = false ∧ x.burst = 0 ∧ bits x.ctrl 3 2 = 0 ∧ x.len = 64 ∧
      x.src % 4096 = 0 ∧ x.dst % 4096 = 0 ∧ readEffect (x.src % 2 ^ 48) 64 = false ∧ s.core.freeTag.isSome = true ∧
      s.core.mvWaits (x.src, 64) = false) ∧
  (∃ (k : Fin 16) (x : Mover) (p : Nat) (s : State), s.core.reg (Reg.MV_MODE k) = 2 ∧ x = s.core.mover k ∧ x.stop = 0 ∧
      x.fail = none ∧ x.reads = [] ∧ x.pieces = [] ∧ x.writing = none ∧ x.done < x.len ∧ p < x.cls ∧ s.core.queued k p ≠ 0 ∧
      s.core.mvWaits x.nextRead = false) ∧
  (∃ (k : Fin 16) (x : Mover) (s : State), s.core.reg (Reg.MV_MODE k) = 2 ∧ x = s.core.mover k ∧ x.done = x.len ∧
      x.len < 2 ^ 32) ∧
  (∃ (lvl : Fin 4) (k : Fin 16) (s : State), s.core.takes lvl (Reg.MV_CMD k) = true ∧ s.core.reg (Reg.MV_MODE k) = 0 ∧
      s.core.isolatedKind .mover k = false) ∧
  (∃ (lvl : Fin 4) (k : Fin 16) (s : State), s.core.takes lvl (Reg.MV_CMD k) = true ∧ s.core.reg (Reg.MV_MODE k) = 1) ∧
  (∃ (lvl : Fin 4) (k : Fin 16) (x : Mover) (s : State), s.core.takes lvl (Reg.MV_CMD k) = true ∧
      s.core.reg (Reg.MV_MODE k) = 3 ∧ x = s.core.mover k ∧ s.core.fetchNum s.mem (x.desc + 40) 1 = 3 ∧
      x.src / 2 ^ 48 ≠ s.core.homeAddr ∧ isMcast (x.src / 2 ^ 48) = false ∧ inObjectSpace (x.src % 2 ^ 48) = false ∧
      x.fail = none ∧ x.stop = 0 ∧ x.reads = [] ∧ x.pieces = [] ∧ x.writing = none ∧ x.done = 0 ∧ x.len = 64 ∧
      bits x.ctrl 3 2 = 0 ∧ x.src % 4096 = 0 ∧ x.dst % 4096 = 0 ∧ x.burst = 0 ∧ readEffect (x.src % 2 ^ 48) 64 = false ∧
      s.core.freeTag.isSome = true ∧ s.core.mvWaits (x.src, 64) = false) ∧
  (∃ (lvl : Fin 4) (k : Fin 16) (x : Mover) (s : State), s.core.takes lvl (Reg.MV_CMD k) = true ∧
      s.core.reg (Reg.MV_MODE k) = 3 ∧ x = s.core.mover k) ∧
  (∃ (lvl : Fin 4) (k : Fin 16) (x : Mover) (s : State), s.core.takes lvl (Reg.MV_CMD k) = true ∧
      s.core.reg (Reg.MV_MODE k) = 2 ∧ x = s.core.mover k ∧ x.fail = none ∧ x.reads = [] ∧ x.pieces = [] ∧ x.writing = none ∧
      x.done ≠ x.len ∧ s.core.mvWaits x.nextRead = false) :=
  ⟨⟨2, 3, 1, 5, ⟨[], [],
      { (((((opRun.setReg (Reg.RP_STATE 0) 5).setReg (Reg.RP_STATE 1) 5).setReg Reg.NODE_ADDR 0x401).inforce Reg.SEGMENT 1)) with ring := { home := { table := [{ addr := 0x401 }, { addr := 0x402 }] } } }⟩,
      by decide +kernel⟩,
  ⟨{ mover := 3 }, 1, { cls := 1, desc := 0x360000 }, ⟨[], [],
      { (((((opRun.setReg (Reg.RP_STATE 0) 5).setReg (Reg.RP_STATE 1) 5).setReg Reg.NODE_ADDR 0x401).inforce Reg.SEGMENT 1) |>.setReg (Reg.Q_BASE 3 1) 0x0401000000360000 |>.setReg (Reg.MV_MODE 3) 1 |>.setReg (Reg.Q_TAIL 3 1) 1) with ring := { home := { table := [{ addr := 0x401 }, { addr := 0x402 }] } } }⟩,
      by decide +kernel⟩,
  ⟨{ mover := 3 }, 1, 0x360000, { cls := 1, desc := 0x360000, src := 0x0402000000370000, dst := 0x0401000000370000, len := 64 },
      ⟨[], (Memory.store [] 0x360000 ([0, 0, 0x37, 0, 0, 0, 2, 4, 0, 0, 0x37, 0, 0, 0, 1, 4, 64] ++ zeros 47)),
      { (((((opRun.setReg (Reg.RP_STATE 0) 5).setReg (Reg.RP_STATE 1) 5).setReg Reg.NODE_ADDR 0x401).inforce Reg.SEGMENT 1) |>.setReg (Reg.Q_BASE 3 1) 0x0401000000360000 |>.setReg (Reg.MV_MODE 3) 1 |>.setReg (Reg.Q_TAIL 3 1) 1) with ring := { home := { table := [{ addr := 0x401 }, { addr := 0x402 }] } } }⟩,
      by decide +kernel⟩,
  ⟨3, { cls := 1, desc := 0x360000, src := 0x0402000000360000, dst := 0x0401000000370000, len := 16, next := 4, done := 4 }, 0,
      ⟨[], [],
      { (((((opRun.setReg (Reg.RP_STATE 0) 5).setReg (Reg.RP_STATE 1) 5).setReg Reg.NODE_ADDR 0x401).inforce Reg.SEGMENT 1) |>.setReg (Reg.Q_BASE 3 1) 0x0401000000360000 |>.setReg (Reg.MV_MODE 3) 2 |>.setReg (Reg.Q_TAIL 3 0) 1) with ring := { home := { table := [{ addr := 0x401 }, { addr := 0x402 }] } }, fab := { movers := [(3, { cls := 1, desc := 0x360000, src := 0x0402000000360000, dst := 0x0401000000370000, len := 16, next := 4, done := 4 })] } }⟩,
      by decide +kernel⟩,
  ⟨3, { cls := 1, desc := 0x360000, src := 0x0402000000360000, dst := 0x0401000000370000, len := 16, next := 16, done := 16 },
      ⟨[], [],
      { (((((opRun.setReg (Reg.RP_STATE 0) 5).setReg (Reg.RP_STATE 1) 5).setReg Reg.NODE_ADDR 0x401).inforce Reg.SEGMENT 1) |>.setReg (Reg.MV_MODE 3) 2) with ring := { home := { table := [{ addr := 0x401 }, { addr := 0x402 }] } }, fab := { movers := [(3, { cls := 1, desc := 0x360000, src := 0x0402000000360000, dst := 0x0401000000370000, len := 16, next := 16, done := 16 })] } }⟩,
      by decide +kernel⟩,
  ⟨2, 3, ⟨[], [],
      { (((((opRun.setReg (Reg.RP_STATE 0) 5).setReg (Reg.RP_STATE 1) 5).setReg Reg.NODE_ADDR 0x401).inforce Reg.SEGMENT 1)) with ring := { home := { table := [{ addr := 0x401 }, { addr := 0x402 }] } } }⟩,
      by decide +kernel⟩,
  ⟨2, 3, ⟨[], [],
      { (((((opRun.setReg (Reg.RP_STATE 0) 5).setReg (Reg.RP_STATE 1) 5).setReg Reg.NODE_ADDR 0x401).inforce Reg.SEGMENT 1) |>.setReg (Reg.MV_MODE 3) 1) with ring := { home := { table := [{ addr := 0x401 }, { addr := 0x402 }] } } }⟩,
      by decide +kernel⟩,
  ⟨2, 3, { cls := 1, desc := 0x360000, src := 0x0402000000360000, dst := 0x0401000000370000, len := 64 }, ⟨[],
      (Memory.store [] 0x360028 [3]),
      { (((((opRun.setReg (Reg.RP_STATE 0) 5).setReg (Reg.RP_STATE 1) 5).setReg Reg.NODE_ADDR 0x401).inforce Reg.SEGMENT 1) |>.setReg (Reg.MV_MODE 3) 3) with ring := { home := { table := [{ addr := 0x401 }, { addr := 0x402 }] } }, fab := { movers := [(3, { cls := 1, desc := 0x360000, src := 0x0402000000360000, dst := 0x0401000000370000, len := 64 })] } }⟩,
      by decide +kernel⟩,
  ⟨2, 3, { cls := 1, desc := 0x360000, src := 0x0402000000360000, dst := 0x0401000000370000, len := 16 }, ⟨[], [],
      { (((((opRun.setReg (Reg.RP_STATE 0) 5).setReg (Reg.RP_STATE 1) 5).setReg Reg.NODE_ADDR 0x401).inforce Reg.SEGMENT 1) |>.setReg (Reg.MV_MODE 3) 3) with ring := { home := { table := [{ addr := 0x401 }, { addr := 0x402 }] } }, fab := { movers := [(3, { cls := 1, desc := 0x360000, src := 0x0402000000360000, dst := 0x0401000000370000, len := 16 })] } }⟩,
      by decide +kernel⟩,
  ⟨2, 3, { cls := 1, desc := 0x360000, src := 0x0402000000360000, dst := 0x0401000000370000, len := 16, next := 4, done := 4 },
      ⟨[], [],
      { (((((opRun.setReg (Reg.RP_STATE 0) 5).setReg (Reg.RP_STATE 1) 5).setReg Reg.NODE_ADDR 0x401).inforce Reg.SEGMENT 1) |>.setReg (Reg.MV_MODE 3) 2) with ring := { home := { table := [{ addr := 0x401 }, { addr := 0x402 }] } }, fab := { movers := [(3, { cls := 1, desc := 0x360000, src := 0x0402000000360000, dst := 0x0401000000370000, len := 16, next := 4, done := 4 })] } }⟩,
      by decide +kernel⟩⟩

theorem meets_BanksAreHandedOverAndBorrowed :
  (∃ (lvl : Fin 4) (b : Fin 64) (v : Fin 256) (s : State), s.core.takes lvl (Reg.BANK_OWNER b) = true ∧ ((v.val = 0 ∨
      v.val = 2 ∨ v.val = 5)) ∧ s.core.reg (Reg.BANK_OWNER b) = 5 ∧ bit (s.core.cfg Reg.STAGE_SET) b = false ∧
      (List.range 2).all (fun n => s.core.swapFor n != some b.val) = true ∧
      s.core.fab.handovers.all (fun h => h.bank != b) = true) ∧
  (∃ (h : Handover) (s : State), s.core.fab.handovers = [h] ∧ s.core.now ≤ h.deadline ∧
      ((s.core.reg (Reg.BANK_OWNER h.bank) = 5 ∨ s.core.reg (Reg.BANK_OWNER h.bank) = 2)) ∧ h.owner ≠ 0 ∧ h.req = none) ∧
  (∃ (h : Handover) (s : State), s.core.fab.handovers = [h] ∧ h.req = none) ∧
  (∃ (lane : Fin 2) (b : Nat) (rest : List (Nat × Bool)) (s : State), s.core.sweepRuns = true ∧ s.core.test.sweeping = true ∧
      (s.core.stLane lane).phase = .idle ∧ (s.core.stLane lane).todo = (b, false) :: rest ∧ s.core.canBorrow lane b = true) ∧
  (∃ (lane : Fin 2) (s : State), (s.core.stLane lane).phase = .copyIn ∧ s.core.reg (Reg.SWAP_PHASE lane) = 1 ∧
      s.core.tickOpen = true) ∧
  (∃ (lane : Fin 2) (b : Nat) (rest : List (Nat × Bool)) (s : State), (s.core.stLane lane).phase = .copyIn ∧
      s.core.reg Reg.RUN_STATE = 0 ∧ (s.core.stLane lane).todo = (b, false) :: rest) ∧
  (∃ (lane : Fin 2) (failWord : BitVec 16) (_sig : BitVec 32) (s : State), (s.core.stLane lane).phase = .test ∧
      failWord.toNat = 0xFFFF) ∧
  (∃ (lane : Fin 2) (s : State), (s.core.stLane lane).phase = .copyBack ∧ s.core.reg Reg.RUN_STATE = 0) :=
  ⟨⟨2, 55, 2, ⟨[], [],
      { (((((opRun.setReg (Reg.RP_STATE 0) 5).setReg (Reg.RP_STATE 1) 5).setReg Reg.NODE_ADDR 0x401).inforce Reg.SEGMENT 1) |>.setReg (Reg.BANK_OWNER 55) 5) with ring := { home := { table := [{ addr := 0x401 }, { addr := 0x402 }] } } }⟩,
      by decide +kernel⟩,
  ⟨{ bank := 55, owner := 2, deadline := 2000 }, ⟨[], [],
      { (((((opRun.setReg (Reg.RP_STATE 0) 5).setReg (Reg.RP_STATE 1) 5).setReg Reg.NODE_ADDR 0x401).inforce Reg.SEGMENT 1) |>.setReg (Reg.BANK_OWNER 55) 5) with ring := { home := { table := [{ addr := 0x401 }, { addr := 0x402 }] } }, fab := { handovers := [{ bank := 55, owner := 2, deadline := 2000 }] } }⟩,
      by decide +kernel⟩,
  ⟨{ bank := 55, owner := 2, deadline := 2000 }, ⟨[], [],
      { (((((opRun.setReg (Reg.RP_STATE 0) 5).setReg (Reg.RP_STATE 1) 5).setReg Reg.NODE_ADDR 0x401).inforce Reg.SEGMENT 1) |>.setReg (Reg.BANK_OWNER 55) 5) with ring := { home := { table := [{ addr := 0x401 }, { addr := 0x402 }] } }, fab := { handovers := [{ bank := 55, owner := 2, deadline := 2000 }] } }⟩,
      by decide +kernel⟩,
  ⟨1, 3, [], ⟨[], [],
      { (((((opRun.setReg (Reg.RP_STATE 0) 5).setReg (Reg.RP_STATE 1) 5).setReg Reg.NODE_ADDR 0x401).inforce Reg.SEGMENT 1)) with ring := { home := { table := [{ addr := 0x401 }, { addr := 0x402 }] } }, test := { sweeping := true, lanes := [(1, { todo := [(3, false)] })] } }⟩,
      by decide +kernel⟩,
  ⟨1, ⟨[], [],
      { (((((opRun.setReg (Reg.RP_STATE 0) 5).setReg (Reg.RP_STATE 1) 5).setReg Reg.NODE_ADDR 0x401).inforce Reg.SEGMENT 1) |>.setReg (Reg.SWAP_FOR 1) 3 |>.setReg (Reg.SWAP_PHASE 1) 1) with ring := { home := { table := [{ addr := 0x401 }, { addr := 0x402 }] } }, test := { lanes := [(1, { phase := .copyIn, bank := 3 })] } }⟩,
      by decide +kernel⟩,
  ⟨1, 3, [(5, false)], ⟨[], [],
      { (((((opRun.setReg (Reg.RP_STATE 0) 5).setReg (Reg.RP_STATE 1) 5).setReg Reg.NODE_ADDR 0x401).inforce Reg.SEGMENT 1) |>.setReg (Reg.SWAP_FOR 1) 3 |>.setReg (Reg.SWAP_PHASE 1) 1) with ring := { home := { table := [{ addr := 0x401 }, { addr := 0x402 }] } }, test := { lanes := [(1, { phase := .copyIn, bank := 3, todo := [(3, false), (5, false)] })] } }⟩,
      by decide +kernel⟩,
  ⟨1, 0xFFFF, 0, ⟨[], [],
      { (((((opRun.setReg (Reg.RP_STATE 0) 5).setReg (Reg.RP_STATE 1) 5).setReg Reg.NODE_ADDR 0x401).inforce Reg.SEGMENT 1) |>.setReg (Reg.SWAP_FOR 1) 3 |>.setReg (Reg.SWAP_PHASE 1) 2) with ring := { home := { table := [{ addr := 0x401 }, { addr := 0x402 }] } }, test := { lanes := [(1, { phase := .test, bank := 3 })] } }⟩,
      by decide +kernel⟩,
  ⟨1, ⟨[], [],
      { (((((opRun.setReg (Reg.RP_STATE 0) 5).setReg (Reg.RP_STATE 1) 5).setReg Reg.NODE_ADDR 0x401).inforce Reg.SEGMENT 1) |>.setReg (Reg.SWAP_FOR 1) 3 |>.setReg (Reg.SWAP_PHASE 1) 3) with ring := { home := { table := [{ addr := 0x401 }, { addr := 0x402 }] } }, test := { lanes := [(1, { phase := .copyBack, bank := 3, todo := [(3, false)] })] } }⟩,
      by decide +kernel⟩⟩

theorem meets_HostCyclesReachTheHostBanks :
  (∃ (a : BitVec 32) (n : Nat) (r : Nat) (off : Nat) (s : State), s.core.hostOn = true ∧ s.core.lhp.clock = true ∧
      s.core.lhp.cycle = none ∧ s.core.lhp.lock = none ∧ s.core.lhp.kept = [] ∧ s.core.fab.hostDone = [] ∧
      a.toNat % 256 + n ≤ 256 ∧ a.toNat % 2 = 0 ∧ 0 < n ∧ s.core.hostRange a.toNat = some r ∧
      bits (s.core.reg (Reg.HR_CTRL r)) 1 0 = 2 ∧ s.core.hostOff (a.toNat - s.core.reg (Reg.HR_BASE r)) = some off ∧
      s.core.handing off = false ∧ off % 65536 + n ≤ 65536 ∧ s.core.reg Reg.INJ_LEFT = 0 ∧
      s.core.wordsClean s.mem off n = true ∧ s.core.fab.accesses = []) ∧
  (∃ (a : BitVec 32) (n : Nat) (s : State), s.core.hostOn = true ∧ s.core.lhp.clock = true ∧ s.core.lhp.cycle = none ∧
      s.core.lhp.lock = none ∧ s.core.lhp.kept = [] ∧ s.core.fab.hostDone = [] ∧ 0 < n ∧ s.core.hostRange a.toNat = none ∧
      s.core.tickOpen = true) ∧
  (∃ (a : BitVec 32) (bs : PortWrite) (r : Nat) (off : Nat) (s : State), s.core.hostOn = true ∧ s.core.lhp.clock = true ∧
      s.core.lhp.cycle = none ∧ s.core.lhp.lock = none ∧ s.core.lhp.kept = [] ∧ s.core.fab.hostDone = [] ∧
      a.toNat % 256 + bs.bytes.length ≤ 256 ∧ a.toNat % 2 = 0 ∧ 0 < bs.bytes.length ∧ s.core.hostRange a.toNat = some r ∧
      bits (s.core.reg (Reg.HR_CTRL r)) 1 0 = 2 ∧ s.core.hostOff (a.toNat - s.core.reg (Reg.HR_BASE r)) = some off ∧
      s.core.handing off = false ∧ off % 65536 + bs.bytes.length ≤ 65536 ∧ s.core.reg Reg.INJ_LEFT = 0) ∧
  (∃ (s : State), s.core.hostOn = true) ∧
  (∃ (_khz : Fin 66001) (s : State), s.core.hostOn = true ∧ s.core.lhp.cycle = none) ∧
  (∃ (x : HostCycle) (id : Nat) (t : Nat) (s : State), s.core.hostOn = true ∧ s.core.lhp.cycle = some x ∧
      x.wait = .access id true ∧ x.write = false ∧ s.core.lhp.breqSince = some t ∧ s.core.lhp.kept = [] ∧
      s.core.now ≤ max t x.since + 2000) ∧
  (∃ (y : Kept) (s : State), s.core.lhp.kept = [y] ∧ y.cycle.effect = false) :=
  ⟨⟨0x1004, 4, 2, 0x3A0004, ⟨[], (Memory.store [] 0x3A0005 [9]),
      { (((((opRun.setReg (Reg.RP_STATE 0) 5).setReg (Reg.RP_STATE 1) 5).setReg Reg.NODE_ADDR 0x401).inforce Reg.SEGMENT 1) |>.inforce Reg.LHP_ENABLE 1 |>.setReg (Reg.BANK_OWNER 58) 5 |>.setReg (Reg.HR_SIZE_EXP 2) 12 |>.setReg (Reg.HR_CTRL 2) 2 |>.setReg (Reg.HR_BASE 2) 0x1000) with ring := { home := { table := [{ addr := 0x401 }, { addr := 0x402 }] } }, lhp := { clock := true } }⟩,
      by decide +kernel⟩,
  ⟨0x8000, 4, ⟨[], [],
      { (((((opRun.setReg (Reg.RP_STATE 0) 5).setReg (Reg.RP_STATE 1) 5).setReg Reg.NODE_ADDR 0x401).inforce Reg.SEGMENT 1) |>.inforce Reg.LHP_ENABLE 1 |>.setReg (Reg.BANK_OWNER 58) 5 |>.setReg (Reg.HR_SIZE_EXP 2) 12 |>.setReg (Reg.HR_CTRL 2) 2 |>.setReg (Reg.HR_BASE 2) 0x1000) with ring := { home := { table := [{ addr := 0x401 }, { addr := 0x402 }] } }, lhp := { clock := true } }⟩,
      by decide +kernel⟩,
  ⟨0x1004, { bytes := [5, 0, 7, 8] }, 2, 0x3A0004, ⟨[], [],
      { (((((opRun.setReg (Reg.RP_STATE 0) 5).setReg (Reg.RP_STATE 1) 5).setReg Reg.NODE_ADDR 0x401).inforce Reg.SEGMENT 1) |>.inforce Reg.LHP_ENABLE 1 |>.setReg (Reg.BANK_OWNER 58) 5 |>.setReg (Reg.HR_SIZE_EXP 2) 12 |>.setReg (Reg.HR_CTRL 2) 2 |>.setReg (Reg.HR_BASE 2) 0x1000) with ring := { home := { table := [{ addr := 0x401 }, { addr := 0x402 }] } }, lhp := { clock := true } }⟩,
      by decide +kernel⟩,
  ⟨⟨[], [],
      { (((((opRun.setReg (Reg.RP_STATE 0) 5).setReg (Reg.RP_STATE 1) 5).setReg Reg.NODE_ADDR 0x401).inforce Reg.SEGMENT 1) |>.inforce Reg.LHP_ENABLE 1) with ring := { home := { table := [{ addr := 0x401 }, { addr := 0x402 }] } }, lhp := { clock := true } }⟩,
      by decide +kernel⟩,
  ⟨66000, ⟨[], [],
      { (((((opRun.setReg (Reg.RP_STATE 0) 5).setReg (Reg.RP_STATE 1) 5).setReg Reg.NODE_ADDR 0x401).inforce Reg.SEGMENT 1) |>.inforce Reg.LHP_ENABLE 1) with ring := { home := { table := [{ addr := 0x401 }, { addr := 0x402 }] } } }⟩,
      by decide +kernel⟩,
  ⟨{ addr := 0x2000, write := false, count := 4, wait := .access 7 true, since := 5 }, 7, 9, ⟨[], [],
      { (((((opRun.setReg (Reg.RP_STATE 0) 5).setReg (Reg.RP_STATE 1) 5).setReg Reg.NODE_ADDR 0x401).inforce Reg.SEGMENT 1) |>.inforce Reg.LHP_ENABLE 1) with ring := { home := { table := [{ addr := 0x401 }, { addr := 0x402 }] } }, lhp := { clock := true, cycle := some { addr := 0x2000, write := false, count := 4, wait := .access 7 true, since := 5 }, breqSince := some 9 } }⟩,
      by decide +kernel⟩,
  ⟨{ cycle := { addr := 0x2000, write := false, count := 4, wait := .access 7 true, since := 5 }, ends := 99 }, ⟨[], [],
      { (((((opRun.setReg (Reg.RP_STATE 0) 5).setReg (Reg.RP_STATE 1) 5).setReg Reg.NODE_ADDR 0x401).inforce Reg.SEGMENT 1) |>.inforce Reg.LHP_ENABLE 1) with ring := { home := { table := [{ addr := 0x401 }, { addr := 0x402 }] } }, lhp := { clock := true, kept := [{ cycle := { addr := 0x2000, write := false, count := 4, wait := .access 7 true, since := 5 }, ends := 99 }] } }⟩,
      by decide +kernel⟩⟩

theorem meets_LocksDescriptorsAndWires :
  (∃ (s : State), s.core.hostOn = true ∧ s.core.lhp.clock = true ∧ s.core.lhp.lock = none ∧ s.core.lhp.cycle = none) ∧
  (∃ (l : HostLock) (s : State), s.core.lhp.lock = some l ∧ s.core.lhp.cycle = none ∧ s.core.fab.retried = [] ∧
      (List.range 16).all (fun k => (s.core.mover k).barred.isEmpty) = true) ∧
  (∃ (l : HostLock) (s : State), s.core.lhp.lock = some l ∧ l.broken = false ∧ s.core.lhp.cycle = none ∧
      s.core.fab.retried = [] ∧ (List.range 16).all (fun k => (s.core.mover k).barred.isEmpty) = true ∧
      s.core.tickOpen = true) ∧
  (∃ (lvl : Fin 4) (v : Fin 65536) (s : State), s.core.takes lvl (Reg.XQ_TAIL) = true ∧ v.val < s.core.cfg Reg.XQ_SIZE ∧
      s.core.hostOn = false) ∧
  (∃ (done : Option (Fin 129)) (bus : BusCycle) (x : Xfer) (off : Nat) (s : State), s.core.breq = true ∧
      s.core.lhp.cycle = none ∧ s.core.lhp.xfer = some x ∧ x.again = none ∧ x.pos = 0 ∧ x.host % 256 = 0 ∧ x.len ≤ 256 ∧
      0 < x.len ∧ bit x.ctrl 0 = true ∧ bit x.ctrl 1 = false ∧ s.core.hostOff x.loc = some off ∧ s.core.handing off = false ∧
      off % 65536 + x.len ≤ 65536 ∧ done = none ∧ bus.bytes.length = x.len ∧ bus.withdrawn = false ∧ x.desc + 12 ≤ off ∧
      (s.core.reg Reg.XQ_HEAD + 1) % s.core.cfg Reg.XQ_SIZE = s.core.reg Reg.XQ_TAIL) ∧
  (∃ (done : Option (Fin 129)) (_bus : BusCycle) (x : Xfer) (off : Nat) (t : Nat) (s : State), s.core.breq = true ∧
      s.core.lhp.cycle = none ∧ s.core.lhp.xfer = some x ∧ x.again = some t ∧ x.tries < 7 ∧ done = some 0 ∧ x.pos < x.len ∧
      bit x.ctrl 0 = true ∧ s.core.hostOff (x.loc + x.pos) = some off ∧ s.core.handing off = false ∧ t ≤ s.core.now) :=
  ⟨⟨⟨[], [],
      { (((((opRun.setReg (Reg.RP_STATE 0) 5).setReg (Reg.RP_STATE 1) 5).setReg Reg.NODE_ADDR 0x401).inforce Reg.SEGMENT 1) |>.inforce Reg.LHP_ENABLE 1) with ring := { home := { table := [{ addr := 0x401 }, { addr := 0x402 }] } }, lhp := { clock := true } }⟩,
      by decide +kernel⟩,
  ⟨{ ends := 9 }, ⟨[], [],
      { (((((opRun.setReg (Reg.RP_STATE 0) 5).setReg (Reg.RP_STATE 1) 5).setReg Reg.NODE_ADDR 0x401).inforce Reg.SEGMENT 1) |>.inforce Reg.LHP_ENABLE 1 |>.setReg Reg.LHP_SEM_HELD 3) with ring := { home := { table := [{ addr := 0x401 }, { addr := 0x402 }] } }, lhp := { clock := true, lock := some { ends := 9 } } }⟩,
      by decide +kernel⟩,
  ⟨{ ends := 9 }, ⟨[], [],
      { (((((opRun.setReg (Reg.RP_STATE 0) 5).setReg (Reg.RP_STATE 1) 5).setReg Reg.NODE_ADDR 0x401).inforce Reg.SEGMENT 1) |>.inforce Reg.LHP_ENABLE 1 |>.setReg Reg.LHP_SEM_HELD 3) with ring := { home := { table := [{ addr := 0x401 }, { addr := 0x402 }] } }, lhp := { clock := true, lock := some { ends := 9 } } }⟩,
      by decide +kernel⟩,
  ⟨2, 5, ⟨[], [],
      { (((((opRun.setReg (Reg.RP_STATE 0) 5).setReg (Reg.RP_STATE 1) 5).setReg Reg.NODE_ADDR 0x401).inforce Reg.SEGMENT 1)) with ring := { home := { table := [{ addr := 0x401 }, { addr := 0x402 }] } } }⟩,
      by decide +kernel⟩,
  ⟨none, { bytes := [1, 2, 3, 4] }, { desc := 0x3A0000, host := 0x2000, loc := 256, len := 4, ctrl := 1 }, 0x3A0100, ⟨[], [],
      { (((((opRun.setReg (Reg.RP_STATE 0) 5).setReg (Reg.RP_STATE 1) 5).setReg Reg.NODE_ADDR 0x401).inforce Reg.SEGMENT 1) |>.inforce Reg.LHP_ENABLE 1 |>.setReg (Reg.BANK_OWNER 58) 5 |>.setReg (Reg.HR_SIZE_EXP 2) 12 |>.setReg (Reg.HR_CTRL 2) 2 |>.setReg (Reg.HR_BASE 2) 0x1000 |>.setReg Reg.XQ_TAIL 1) with ring := { home := { table := [{ addr := 0x401 }, { addr := 0x402 }] } }, lhp := { clock := true, xfer := some { desc := 0x3A0000, host := 0x2000, loc := 256, len := 4, ctrl := 1 } } }⟩,
      by decide +kernel⟩,
  ⟨some 0, {}, { desc := 0x3A0000, host := 0x2000, loc := 0, len := 4, ctrl := 1, again := some 0 }, 0x3A0000, 0, ⟨[], [],
      { (((((opRun.setReg (Reg.RP_STATE 0) 5).setReg (Reg.RP_STATE 1) 5).setReg Reg.NODE_ADDR 0x401).inforce Reg.SEGMENT 1) |>.inforce Reg.LHP_ENABLE 1 |>.setReg (Reg.BANK_OWNER 58) 5 |>.setReg (Reg.HR_SIZE_EXP 2) 12 |>.setReg (Reg.HR_CTRL 2) 2 |>.setReg (Reg.HR_BASE 2) 0x1000 |>.setReg Reg.XQ_TAIL 1) with ring := { home := { table := [{ addr := 0x401 }, { addr := 0x402 }] } }, lhp := { clock := true, xfer := some { desc := 0x3A0000, host := 0x2000, loc := 0, len := 4, ctrl := 1, again := some 0 } } }⟩,
      by decide +kernel⟩⟩

theorem meets_LifeSignsAndStatusAreExchanged :
  (∃ (s : State), s.core.up = true ∧ s.core.cfg Reg.TW_ENABLE = 1) ∧
  (∃ (s : State), s.core.twOn = true ∧ (s.core.lane 0).queue = [] ∧ (s.core.lane 0).unacked.length < 16) ∧
  (∃ (s : State), s.core.up = true ∧ s.core.cfg Reg.TW_ENABLE = 1 ∧ bit (s.core.reg Reg.TW_PATHS) 3 = false ∧
      ((s.core.reg Reg.TW_PEER_ADDR ≠ 0xFFFF ∨ s.core.twin.heard = true))) ∧
  (∃ (s : State), s.core.up = true ∧ s.core.cfg Reg.TW_ENABLE = 1 ∧ bit (s.core.reg Reg.TW_PATHS) 3 = false ∧
      s.core.tickOpen = true) ∧
  (∃ (l : Fin 4) (t : Nat) (s : State), s.core.twLine = true ∧ (s.core.lane l).deadline = some t) ∧
  (∃ (s : State), s.core.twOn = true ∧ s.core.linkLive = true ∧ s.core.tickOpen = true ∧ s.core.reg Reg.SWITCH_STATE = 0 ∧
      s.core.twin.strobeT = none) ∧
  (∃ (seq : Fin 65536) (ack : Fin 65536) (h : TwHead) (r : TwStatus) (s : State), s.core.twLine = true ∧
      h.good seq ack (.status r) = true ∧ s.core.twin.granting = [] ∧ (((s.core.lane 0).fresh = true ∨
      seq = ((s.core.lane 0).rxSeq + 1) % 65536)) ∧ s.core.twin.joinEnd = none ∧ r.st = 2 ∧
      r.period = s.core.cfg Reg.HB_PERIOD) ∧
  (∃ (seq : Fin 65536) (ack : Fin 65536) (h : TwHead) (r : TwStatus) (s : State), s.core.twLine = true ∧
      h.good seq ack (.status r) = true ∧ s.core.twin.granting = [] ∧ (((s.core.lane 0).fresh = true ∨
      seq = ((s.core.lane 0).rxSeq + 1) % 65536)) ∧ s.core.twin.joinEnd.isSome = true ∧ r.st = 2 ∧
      r.rank ≠ s.core.reg Reg.TW_RANK ∧ s.core.twin.rank = 0 ∧ s.core.tickOpen = true) ∧
  (∃ (t : Nat) (s : State), s.core.twOn = true ∧ s.core.twin.joinEnd = some t ∧ s.core.reg Reg.TW_PEER_ADDR = 0xFFFF) ∧
  (∃ (s : State), s.core.twOn = true ∧ ((s.core.reg Reg.TW_PEER_ADDR ≠ 0xFFFF ∨ s.core.twin.heard = true)) ∧
      s.core.twin.settleEnd = none ∧ ((s.core.reg Reg.TW_STATE = 1 ∨ s.core.reg Reg.TW_STATE = 2)) ∧
      s.core.reg Reg.SWITCH_STATE = 0 ∧ s.core.twin.strobeT = none) :=
  ⟨⟨⟨[], [],
      { (((((((((opRun.setReg (Reg.RP_STATE 0) 5).setReg (Reg.RP_STATE 1) 5).setReg Reg.NODE_ADDR 0x403).inforce Reg.SEGMENT 1).inforce Reg.TW_ENABLE 1).inforce Reg.TW_SERVICE_ADDR 0x410).setReg Reg.TW_STATE 2).setReg Reg.TW_PEER_ADDR 0x402).setReg Reg.TW_PATHS 2) with ring := { home := { table := [{ addr := 0x402, service := 0x410 }, { addr := 0x403, service := 0x410 }] } }, twin := {  } }⟩,
      by decide +kernel⟩,
  ⟨⟨[], [],
      { (((((((((opRun.setReg (Reg.RP_STATE 0) 5).setReg (Reg.RP_STATE 1) 5).setReg Reg.NODE_ADDR 0x403).inforce Reg.SEGMENT 1).inforce Reg.TW_ENABLE 1).inforce Reg.TW_SERVICE_ADDR 0x410).setReg Reg.TW_STATE 2).setReg Reg.TW_PEER_ADDR 0x402).setReg Reg.TW_PATHS 2) with ring := { home := { table := [{ addr := 0x402, service := 0x410 }, { addr := 0x403, service := 0x410 }] } }, twin := {  } }⟩,
      by decide +kernel⟩,
  ⟨⟨[], [],
      { (((((((((opRun.setReg (Reg.RP_STATE 0) 5).setReg (Reg.RP_STATE 1) 5).setReg Reg.NODE_ADDR 0x403).inforce Reg.SEGMENT 1).inforce Reg.TW_ENABLE 1).inforce Reg.TW_SERVICE_ADDR 0x410).setReg Reg.TW_STATE 2).setReg Reg.TW_PEER_ADDR 0x402).setReg Reg.TW_PATHS 2) with ring := { home := { table := [{ addr := 0x402, service := 0x410 }, { addr := 0x403, service := 0x410 }] } }, twin := {  } }⟩,
      by decide +kernel⟩,
  ⟨⟨[], [],
      { (((((((((opRun.setReg (Reg.RP_STATE 0) 5).setReg (Reg.RP_STATE 1) 5).setReg Reg.NODE_ADDR 0x403).inforce Reg.SEGMENT 1).inforce Reg.TW_ENABLE 1).inforce Reg.TW_SERVICE_ADDR 0x410).setReg Reg.TW_STATE 2).setReg Reg.TW_PEER_ADDR 0x402).setReg Reg.TW_PATHS 2) with ring := { home := { table := [{ addr := 0x402, service := 0x410 }, { addr := 0x403, service := 0x410 }] } }, twin := {  } }⟩,
      by decide +kernel⟩,
  ⟨1, 9, ⟨[], [],
      { (((((((((opRun.setReg (Reg.RP_STATE 0) 5).setReg (Reg.RP_STATE 1) 5).setReg Reg.NODE_ADDR 0x403).inforce Reg.SEGMENT 1).inforce Reg.TW_ENABLE 1).inforce Reg.TW_SERVICE_ADDR 0x410).setReg Reg.TW_STATE 2).setReg Reg.TW_PEER_ADDR 0x402).setReg Reg.TW_PATHS 2) with ring := { home := { table := [{ addr := 0x402, service := 0x410 }, { addr := 0x403, service := 0x410 }] } }, twin := { lanes := [(1, { deadline := some 9, unacked := [{ seq := 1, ack := 0, body := .mark 1 2 3 }] })] } }⟩,
      by decide +kernel⟩,
  ⟨⟨[], [],
      { (((((((((opRun.setReg (Reg.RP_STATE 0) 5).setReg (Reg.RP_STATE 1) 5).setReg Reg.NODE_ADDR 0x403).inforce Reg.SEGMENT 1).inforce Reg.TW_ENABLE 1).inforce Reg.TW_SERVICE_ADDR 0x410).setReg Reg.TW_STATE 2).setReg Reg.TW_PEER_ADDR 0x402).setReg Reg.TW_PATHS 2) with ring := { home := { table := [{ addr := 0x402, service := 0x410 }, { addr := 0x403, service := 0x410 }] } }, twin := {  } }⟩,
      by decide +kernel⟩,
  ⟨0, 0, (TwBody.status
      { mode := 6, st := 2, rank := 0, token := false, period := 100, epoch := 3, jseq := 0, digest := 0 }).head 0 0 0,
      { mode := 6, st := 2, rank := 0, token := false, period := 100, epoch := 3, jseq := 0, digest := 0 }, ⟨[], [],
      { (((((((((opRun.setReg (Reg.RP_STATE 0) 5).setReg (Reg.RP_STATE 1) 5).setReg Reg.NODE_ADDR 0x403).inforce Reg.SEGMENT 1).inforce Reg.TW_ENABLE 1).inforce Reg.TW_SERVICE_ADDR 0x410).setReg Reg.TW_STATE 2).setReg Reg.TW_PEER_ADDR 0x402).setReg Reg.TW_PATHS 2) with ring := { home := { table := [{ addr := 0x402, service := 0x410 }, { addr := 0x403, service := 0x410 }] } }, twin := { peer := some { mode := 6, st := 1, rank := 0, token := false, period := 100, epoch := 3, jseq := 0, digest := 0 } } }⟩,
      (by and_intros <;> first | with_reducible exact TwBody.head_good rfl rfl | with_reducible exact zeros_length _ | decide +kernel)⟩,
  ⟨0, 0, (TwBody.status
      { mode := 6, st := 2, rank := 1, token := false, period := 100, epoch := 3, jseq := 0, digest := 0 }).head 0 0 0,
      { mode := 6, st := 2, rank := 1, token := false, period := 100, epoch := 3, jseq := 0, digest := 0 }, ⟨[], [],
      { (((((((((opRun.setReg (Reg.RP_STATE 0) 5).setReg (Reg.RP_STATE 1) 5).setReg Reg.NODE_ADDR 0x403).inforce Reg.SEGMENT 1).inforce Reg.TW_ENABLE 1).inforce Reg.TW_SERVICE_ADDR 0x410).setReg Reg.TW_STATE 2).setReg Reg.TW_PEER_ADDR 0x402).setReg Reg.TW_PATHS 2) with ring := { home := { table := [{ addr := 0x402, service := 0x410 }, { addr := 0x403, service := 0x410 }] } }, twin := { joinEnd := some 5 } }⟩,
      (by and_intros <;> first | with_reducible exact TwBody.head_good rfl rfl | with_reducible exact zeros_length _ | decide +kernel)⟩,
  ⟨5, ⟨[], [],
      { (((((((((opRun.setReg (Reg.RP_STATE 0) 5).setReg (Reg.RP_STATE 1) 5).setReg Reg.NODE_ADDR 0x403).inforce Reg.SEGMENT 1).inforce Reg.TW_ENABLE 1).inforce Reg.TW_SERVICE_ADDR 0x410).setReg Reg.TW_STATE 2).setReg Reg.TW_PEER_ADDR 0x402).setReg Reg.TW_PATHS 2 |>.setReg Reg.TW_PEER_ADDR 0xFFFF) with ring := { home := { table := [{ addr := 0x402, service := 0x410 }, { addr := 0x403, service := 0x410 }] } }, twin := { joinEnd := some 5 } }⟩,
      by decide +kernel⟩,
  ⟨⟨[], [],
      { (((((((((opRun.setReg (Reg.RP_STATE 0) 5).setReg (Reg.RP_STATE 1) 5).setReg Reg.NODE_ADDR 0x403).inforce Reg.SEGMENT 1).inforce Reg.TW_ENABLE 1).inforce Reg.TW_SERVICE_ADDR 0x410).setReg Reg.TW_STATE 2).setReg Reg.TW_PEER_ADDR 0x402).setReg Reg.TW_PATHS 2) with ring := { home := { table := [{ addr := 0x402, service := 0x410 }, { addr := 0x403, service := 0x410 }] } }, twin := {  } }⟩,
      by decide +kernel⟩⟩

theorem meets_SnapshotsAndJournalAreKept :
  (∃ (seq : Fin 65536) (ack : Fin 65536) (h : TwHead) (e : Nat) (t : Nat) (j : Nat) (s : State), s.core.twLine = true ∧
      h.good seq ack (.mark e t j) = true ∧ s.core.twin.granting = [] ∧ (((s.core.lane 0).fresh = true ∨
      seq = ((s.core.lane 0).rxSeq + 1) % 65536)) ∧ s.core.standby = true) ∧
  (∃ (seq : Fin 65536) (ack : Fin 65536) (h : TwHead) (e : Nat) (k : Nat) (data : Bytes) (p : Shadow) (s : State),
      s.core.twLine = true ∧ h.good seq ack (.chunk e k data) = true ∧ s.core.twin.granting = [] ∧
      (((s.core.lane 0).fresh = true ∨ seq = ((s.core.lane 0).rxSeq + 1) % 65536)) ∧ s.core.standby = true ∧
      s.core.twin.pend = some p ∧ p.epoch = e ∧ k < 4 ∧ data.length = 4096) ∧
  (∃ (seq : Fin 65536) (ack : Fin 65536) (h : TwHead) (e : Nat) (n : Nat) (crc : Nat) (p : Shadow) (s : State),
      s.core.twLine = true ∧ h.good seq ack (.commit e n crc) = true ∧ s.core.twin.granting = [] ∧
      (((s.core.lane 0).fresh = true ∨ seq = ((s.core.lane 0).rxSeq + 1) % 65536)) ∧ s.core.standby = true ∧
      s.core.twin.pend = some p ∧ p.epoch = e ∧ n = 4 ∧ p.chunks.length = 4 ∧ crc32c p.image = crc) ∧
  (∃ (seq : Fin 65536) (ack : Fin 65536) (h : TwHead) (e : Nat) (n : Nat) (crc : Nat) (s : State), s.core.twLine = true ∧
      h.good seq ack (.commit e n crc) = true ∧ s.core.twin.granting = [] ∧ (((s.core.lane 0).fresh = true ∨
      seq = ((s.core.lane 0).rxSeq + 1) % 65536)) ∧ s.core.standby = true ∧ s.core.twin.pend.isSome = true ∧ n ≠ 4) ∧
  (∃ (l : Fin 3) (seq : Fin 65536) (ack : Fin 65536) (h : TwHead) (r : JournalRec) (s : State), s.core.twLine = true ∧
      h.good seq ack (.journal r.jseq r.inst r.frame) = true ∧ s.core.twin.granting = [] ∧
      (((s.core.lane (l + 1)).fresh = true ∨ seq = ((s.core.lane (l + 1)).rxSeq + 1) % 65536)) ∧ s.core.standby = true ∧
      s.core.twin.applying = false ∧ s.core.twin.comm = none ∧ s.core.twin.journal = [] ∧ r.frame.payload.length ≤ 1012) ∧
  (∃ (t : Nat) (s : State), s.core.twOn = true ∧ s.core.holder = true ∧ s.core.twin.snapNext = some t) ∧
  (∃ (lvl : Fin 4) (s : State), s.core.takes lvl (Reg.TW_CMD) = true ∧ s.core.twOn = true ∧ s.core.holder = true) ∧
  (∃ (s : State), s.core.twOn = true ∧ s.core.twin.shot.isSome = true ∧ (s.core.lane 0).queue = [] ∧
      (s.core.lane 0).unacked.length < 16 ∧ s.core.reg Reg.SWITCH_STATE = 1) :=
  ⟨⟨0, 0, (TwBody.mark 4 9 2).head 0 0 0, 4, 9, 2, ⟨[], [],
      { (((((((((opRun.setReg (Reg.RP_STATE 0) 5).setReg (Reg.RP_STATE 1) 5).setReg Reg.NODE_ADDR 0x403).inforce Reg.SEGMENT 1).inforce Reg.TW_ENABLE 1).inforce Reg.TW_SERVICE_ADDR 0x410).setReg Reg.TW_STATE 2).setReg Reg.TW_PEER_ADDR 0x402).setReg Reg.TW_PATHS 2) with ring := { home := { table := [{ addr := 0x402, service := 0x410 }, { addr := 0x403, service := 0x410 }] } }, twin := {  } }⟩,
      (by and_intros <;> first | with_reducible exact TwBody.head_good rfl rfl | with_reducible exact zeros_length _ | decide +kernel)⟩,
  ⟨0, 0, (TwBody.chunk 4 1 (zeros 4096)).head 0 0 0, 4, 1, zeros 4096, { epoch := 4, j := 0 }, ⟨[], [],
      { (((((((((opRun.setReg (Reg.RP_STATE 0) 5).setReg (Reg.RP_STATE 1) 5).setReg Reg.NODE_ADDR 0x403).inforce Reg.SEGMENT 1).inforce Reg.TW_ENABLE 1).inforce Reg.TW_SERVICE_ADDR 0x410).setReg Reg.TW_STATE 2).setReg Reg.TW_PEER_ADDR 0x402).setReg Reg.TW_PATHS 2) with ring := { home := { table := [{ addr := 0x402, service := 0x410 }, { addr := 0x403, service := 0x410 }] } }, twin := { pend := some { epoch := 4, j := 0 } } }⟩,
      (by and_intros <;> first | with_reducible exact TwBody.head_good rfl rfl | with_reducible exact zeros_length _ | decide +kernel)⟩,
  ⟨0, 0, (TwBody.commit 4 4 (crc32c [1, 2, 3, 4])).head 0 0 0, 4, 4, crc32c [1, 2, 3, 4],
      { epoch := 4, j := 0, chunks := [(0, [1]), (1, [2]), (2, [3]), (3, [4])] }, ⟨[], [],
      { (((((((((opRun.setReg (Reg.RP_STATE 0) 5).setReg (Reg.RP_STATE 1) 5).setReg Reg.NODE_ADDR 0x403).inforce Reg.SEGMENT 1).inforce Reg.TW_ENABLE 1).inforce Reg.TW_SERVICE_ADDR 0x410).setReg Reg.TW_STATE 2).setReg Reg.TW_PEER_ADDR 0x402).setReg Reg.TW_PATHS 2) with ring := { home := { table := [{ addr := 0x402, service := 0x410 }, { addr := 0x403, service := 0x410 }] } }, twin := { pend := some { epoch := 4, j := 0, chunks := [(0, [1]), (1, [2]), (2, [3]), (3, [4])] } } }⟩,
      (by and_intros <;> first | with_reducible exact TwBody.head_good rfl rfl | with_reducible exact zeros_length _ | decide +kernel)⟩,
  ⟨0, 0, (TwBody.commit 4 3 0).head 0 0 0, 4, 3, 0, ⟨[], [],
      { (((((((((opRun.setReg (Reg.RP_STATE 0) 5).setReg (Reg.RP_STATE 1) 5).setReg Reg.NODE_ADDR 0x403).inforce Reg.SEGMENT 1).inforce Reg.TW_ENABLE 1).inforce Reg.TW_SERVICE_ADDR 0x410).setReg Reg.TW_STATE 2).setReg Reg.TW_PEER_ADDR 0x402).setReg Reg.TW_PATHS 2) with ring := { home := { table := [{ addr := 0x402, service := 0x410 }, { addr := 0x403, service := 0x410 }] } }, twin := { pend := some { epoch := 4, j := 0 } } }⟩,
      (by and_intros <;> first | with_reducible exact TwBody.head_good rfl rfl | with_reducible exact zeros_length _ | decide +kernel)⟩,
  ⟨2, 0, 0, (TwBody.journal 1 0 { payload := [1, 2] }).head 3 0 0, { jseq := 1, inst := 0, frame := { payload := [1, 2] } },
      ⟨[], [],
      { (((((((((opRun.setReg (Reg.RP_STATE 0) 5).setReg (Reg.RP_STATE 1) 5).setReg Reg.NODE_ADDR 0x403).inforce Reg.SEGMENT 1).inforce Reg.TW_ENABLE 1).inforce Reg.TW_SERVICE_ADDR 0x410).setReg Reg.TW_STATE 2).setReg Reg.TW_PEER_ADDR 0x402).setReg Reg.TW_PATHS 2) with ring := { home := { table := [{ addr := 0x402, service := 0x410 }, { addr := 0x403, service := 0x410 }] } }, twin := {  } }⟩,
      (by and_intros <;> first | with_reducible exact TwBody.head_good rfl rfl | with_reducible exact zeros_length _ | decide +kernel)⟩,
  ⟨9, ⟨[], [],
      { ((((((((((opRun.setReg (Reg.RP_STATE 0) 5).setReg (Reg.RP_STATE 1) 5).setReg Reg.NODE_ADDR 0x403).inforce Reg.SEGMENT 1).inforce Reg.TW_ENABLE 1).inforce Reg.TW_SERVICE_ADDR 0x410).setReg Reg.TW_STATE 1).setReg Reg.TW_TOKEN 1).setReg Reg.TW_PEER_ADDR 0x402).setReg Reg.TW_PATHS 2) with ring := { home := { table := [{ addr := 0x402, service := 0x410 }, { addr := 0x403, service := 0x410 }] } }, twin := { snapNext := some 9 } }⟩,
      by decide +kernel⟩,
  ⟨1, ⟨[], [],
      { ((((((((((opRun.setReg (Reg.RP_STATE 0) 5).setReg (Reg.RP_STATE 1) 5).setReg Reg.NODE_ADDR 0x403).inforce Reg.SEGMENT 1).inforce Reg.TW_ENABLE 1).inforce Reg.TW_SERVICE_ADDR 0x410).setReg Reg.TW_STATE 1).setReg Reg.TW_TOKEN 1).setReg Reg.TW_PEER_ADDR 0x402).setReg Reg.TW_PATHS 2) with ring := { home := { table := [{ addr := 0x402, service := 0x410 }, { addr := 0x403, service := 0x410 }] } }, twin := {  } }⟩,
      by decide +kernel⟩,
  ⟨⟨[], [],
      { ((((((((((opRun.setReg (Reg.RP_STATE 0) 5).setReg (Reg.RP_STATE 1) 5).setReg Reg.NODE_ADDR 0x403).inforce Reg.SEGMENT 1).inforce Reg.TW_ENABLE 1).inforce Reg.TW_SERVICE_ADDR 0x410).setReg Reg.TW_STATE 1).setReg Reg.TW_TOKEN 1).setReg Reg.TW_PEER_ADDR 0x402).setReg Reg.TW_PATHS 2 |>.setReg Reg.SWITCH_STATE 1) with ring := { home := { table := [{ addr := 0x402, service := 0x410 }, { addr := 0x403, service := 0x410 }] } }, twin := { shot := some [], cause := 1 } }⟩,
      by decide +kernel⟩⟩

theorem meets_PairSwitchesOverByOffer :
  (∃ (lvl : Fin 4) (s : State), s.core.takes lvl (Reg.TW_CMD) = true ∧ s.core.twOn = true ∧ s.core.holder = true ∧
      s.core.linkLive = true ∧ s.core.peerReady = true ∧ bit (s.core.reg Reg.TW_PATHS) 5 = false ∧
      bit (s.core.reg Reg.TW_PATHS) 6 = false ∧ s.core.twin.releaseEnd = none ∧ s.core.reg Reg.SWITCH_STATE = 0 ∧
      s.core.twin.strobeT = none) ∧
  (∃ (lvl : Fin 4) (s : State), s.core.takes lvl (Reg.TW_CMD) = true ∧ s.core.twOn = true ∧ s.core.reg Reg.TW_STATE = 1 ∧
      s.core.linkLive = false ∧ s.core.twin.releaseEnd = none ∧ s.core.reg Reg.SWITCH_STATE = 0 ∧ s.core.twin.strobeT = none) ∧
  (∃ (seq : Fin 65536) (ack : Fin 65536) (h : TwHead) (cause : Fin 8) (s : State), s.core.twLine = true ∧
      h.good seq ack (.switch 1 h.tick 0 cause) = true ∧ s.core.twin.granting = [] ∧ (((s.core.lane 0).fresh = true ∨
      seq = ((s.core.lane 0).rxSeq + 1) % 65536)) ∧ s.core.standby = true ∧ s.core.offerBarred = false ∧
      s.core.twin.journal = [] ∧ s.core.twin.comm = none ∧ (s.core.lane 0).queue = [] ∧ (s.core.lane 0).unacked.length < 16) ∧
  (∃ (seq : Fin 65536) (ack : Fin 65536) (h : TwHead) (cause : Fin 8) (s : State), s.core.twLine = true ∧
      h.good seq ack (.switch 1 h.tick 0 cause) = true ∧ s.core.twin.granting = [] ∧ (((s.core.lane 0).fresh = true ∨
      seq = ((s.core.lane 0).rxSeq + 1) % 65536)) ∧ s.core.standby = true ∧ s.core.offerBarred = true ∧
      (s.core.lane 0).queue = [] ∧ (s.core.lane 0).unacked.length < 16) ∧
  (∃ (seq : Fin 65536) (ack : Fin 65536) (h : TwHead) (t : Nat) (s : State), s.core.twLine = true ∧
      h.good seq ack (.switch 2 t 0 0) = true ∧ s.core.twin.granting = [] ∧ (((s.core.lane 0).fresh = true ∨
      seq = ((s.core.lane 0).rxSeq + 1) % 65536)) ∧ s.core.holder = true ∧ s.core.reg Reg.SWITCH_STATE = 2) ∧
  (∃ (t : Nat) (s : State), s.core.twOn = true ∧ s.core.twin.strobeT = some t ∧ s.core.reg Reg.SWITCH_STATE = 2 ∧
      s.core.holder = true ∧ s.core.twin.sent = [] ∧ s.core.twin.got = [] ∧ (s.core.lane 0).queue = [] ∧
      (s.core.lane 0).unacked.length < 16) ∧
  (∃ (t : Nat) (s : State), s.core.twOn = true ∧ s.core.twin.strobeT = some t ∧ s.core.reg Reg.SWITCH_STATE = 0 ∧
      s.core.standby = true ∧ s.core.twin.sent = [] ∧ s.core.twin.got = []) ∧
  (∃ (seq : Fin 65536) (ack : Fin 65536) (h : TwHead) (img : OutImage) (s : State), s.core.twLine = true ∧
      h.good seq ack (.image img) = true ∧ s.core.twin.granting = [] ∧ (((s.core.lane 0).fresh = true ∨
      seq = ((s.core.lane 0).rxSeq + 1) % 65536)) ∧ s.core.standby = true ∧ s.core.twin.sent = []) ∧
  (∃ (seq : Fin 65536) (ack : Fin 65536) (h : TwHead) (img : OutImage) (i : OutImage) (s : State), s.core.twLine = true ∧
      h.good seq ack (.image img) = true ∧ s.core.twin.granting = [] ∧ (((s.core.lane 0).fresh = true ∨
      seq = ((s.core.lane 0).rxSeq + 1) % 65536)) ∧ s.core.twin.sent = [i] ∧ i.tick = img.tick ∧ i ≠ img ∧
      s.core.reg Reg.SWITCH_STATE = 3) ∧
  (∃ (t : Nat) (s : State), s.core.twOn = true ∧ s.core.twin.strobeT = some t ∧ s.core.reg Reg.SWITCH_STATE = 3 ∧
      s.core.standby = true) ∧
  (∃ (t : Nat) (s : State), s.core.twOn = true ∧ s.core.twin.strobeT = some t ∧ s.core.reg Reg.SWITCH_STATE = 3 ∧
      s.core.holder = true) ∧
  (∃ (kind : Fin 3) (n : Fin 128) (s : State), s.core.twin.held.contains (kind.val + 1, n.val) = true ∧
      s.core.underWay (kind.val + 1) n = false ∧ s.core.up = true ∧ s.core.inPair = true ∧ (s.core.lane 0).queue = [] ∧
      (s.core.lane 0).unacked.length < 16) ∧
  (∃ (t : Nat) (s : State), s.core.twin.releaseEnd = some t) ∧
  (∃ (seq : Fin 65536) (ack : Fin 65536) (h : TwHead) (t : Nat) (kind : Fin 4) (inst : Fin 128) (s : State),
      s.core.twLine = true ∧ h.good seq ack (.switch 3 t kind inst) = true ∧ s.core.twin.granting = [] ∧
      (((s.core.lane 0).fresh = true ∨ seq = ((s.core.lane 0).rxSeq + 1) % 65536)) ∧ kind ≠ 0) ∧
  (∃ (seq : Fin 65536) (ack : Fin 65536) (h : TwHead) (s : State), s.core.twLine = true ∧
      h.good seq ack (.switch 4 h.tick 0 0) = true ∧ s.core.twin.granting = [] ∧ (((s.core.lane 0).fresh = true ∨
      seq = ((s.core.lane 0).rxSeq + 1) % 65536)) ∧ s.core.twin.strobeT.isSome = true) ∧
  (∃ (t : Nat) (s : State), s.core.twOn = true ∧ s.core.twin.safeAt = some t ∧ s.core.tickOpen = true) :=
  ⟨⟨1, ⟨[], [],
      { ((((((((((opRun.setReg (Reg.RP_STATE 0) 5).setReg (Reg.RP_STATE 1) 5).setReg Reg.NODE_ADDR 0x403).inforce Reg.SEGMENT 1).inforce Reg.TW_ENABLE 1).inforce Reg.TW_SERVICE_ADDR 0x410).setReg Reg.TW_STATE 1).setReg Reg.TW_TOKEN 1).setReg Reg.TW_PEER_ADDR 0x402).setReg Reg.TW_PATHS 2) with ring := { home := { table := [{ addr := 0x402, service := 0x410 }, { addr := 0x403, service := 0x410 }] } }, twin := { peer := some { mode := 6, st := 2, rank := 1, token := false, period := 100, epoch := 3, jseq := 0, digest := 0 } } }⟩,
      by decide +kernel⟩,
  ⟨1, ⟨[], [],
      { ((((((((((opRun.setReg (Reg.RP_STATE 0) 5).setReg (Reg.RP_STATE 1) 5).setReg Reg.NODE_ADDR 0x403).inforce Reg.SEGMENT 1).inforce Reg.TW_ENABLE 1).inforce Reg.TW_SERVICE_ADDR 0x410).setReg Reg.TW_STATE 1).setReg Reg.TW_TOKEN 1).setReg Reg.TW_PEER_ADDR 0x402).setReg Reg.TW_PATHS 2 |>.setReg Reg.TW_PATHS 0) with ring := { home := { table := [{ addr := 0x402, service := 0x410 }, { addr := 0x403, service := 0x410 }] } }, twin := {  } }⟩,
      by decide +kernel⟩,
  ⟨0, 0, (TwBody.switch 1 5 0 1).head 0 0 0 5, 1, ⟨[], [],
      { (((((((((opRun.setReg (Reg.RP_STATE 0) 5).setReg (Reg.RP_STATE 1) 5).setReg Reg.NODE_ADDR 0x403).inforce Reg.SEGMENT 1).inforce Reg.TW_ENABLE 1).inforce Reg.TW_SERVICE_ADDR 0x410).setReg Reg.TW_STATE 2).setReg Reg.TW_PEER_ADDR 0x402).setReg Reg.TW_PATHS 2 |>.setReg Reg.TW_READY 1) with ring := { home := { table := [{ addr := 0x402, service := 0x410 }, { addr := 0x403, service := 0x410 }] } }, twin := {  } }⟩,
      (by and_intros <;> first | with_reducible exact TwBody.head_good rfl rfl | with_reducible exact zeros_length _ | decide +kernel)⟩,
  ⟨0, 0, (TwBody.switch 1 5 0 1).head 0 0 0 5, 1, ⟨[], [],
      { (((((((((opRun.setReg (Reg.RP_STATE 0) 5).setReg (Reg.RP_STATE 1) 5).setReg Reg.NODE_ADDR 0x403).inforce Reg.SEGMENT 1).inforce Reg.TW_ENABLE 1).inforce Reg.TW_SERVICE_ADDR 0x410).setReg Reg.TW_STATE 2).setReg Reg.TW_PEER_ADDR 0x402).setReg Reg.TW_PATHS 2) with ring := { home := { table := [{ addr := 0x402, service := 0x410 }, { addr := 0x403, service := 0x410 }] } }, twin := {  } }⟩,
      (by and_intros <;> first | with_reducible exact TwBody.head_good rfl rfl | with_reducible exact zeros_length _ | decide +kernel)⟩,
  ⟨0, 0, (TwBody.switch 2 9 0 0).head 0 0 0, 9, ⟨[], [],
      { ((((((((((opRun.setReg (Reg.RP_STATE 0) 5).setReg (Reg.RP_STATE 1) 5).setReg Reg.NODE_ADDR 0x403).inforce Reg.SEGMENT 1).inforce Reg.TW_ENABLE 1).inforce Reg.TW_SERVICE_ADDR 0x410).setReg Reg.TW_STATE 1).setReg Reg.TW_TOKEN 1).setReg Reg.TW_PEER_ADDR 0x402).setReg Reg.TW_PATHS 2 |>.setReg Reg.SWITCH_STATE 2) with ring := { home := { table := [{ addr := 0x402, service := 0x410 }, { addr := 0x403, service := 0x410 }] } }, twin := {  } }⟩,
      (by and_intros <;> first | with_reducible exact TwBody.head_good rfl rfl | with_reducible exact zeros_length _ | decide +kernel)⟩,
  ⟨9, ⟨[], [],
      { ((((((((((opRun.setReg (Reg.RP_STATE 0) 5).setReg (Reg.RP_STATE 1) 5).setReg Reg.NODE_ADDR 0x403).inforce Reg.SEGMENT 1).inforce Reg.TW_ENABLE 1).inforce Reg.TW_SERVICE_ADDR 0x410).setReg Reg.TW_STATE 1).setReg Reg.TW_TOKEN 1).setReg Reg.TW_PEER_ADDR 0x402).setReg Reg.TW_PATHS 2 |>.setReg Reg.SWITCH_STATE 2) with ring := { home := { table := [{ addr := 0x402, service := 0x410 }, { addr := 0x403, service := 0x410 }] } }, twin := { strobeT := some 9 } }⟩,
      by decide +kernel⟩,
  ⟨9, ⟨[], [],
      { (((((((((opRun.setReg (Reg.RP_STATE 0) 5).setReg (Reg.RP_STATE 1) 5).setReg Reg.NODE_ADDR 0x403).inforce Reg.SEGMENT 1).inforce Reg.TW_ENABLE 1).inforce Reg.TW_SERVICE_ADDR 0x410).setReg Reg.TW_STATE 2).setReg Reg.TW_PEER_ADDR 0x402).setReg Reg.TW_PATHS 2) with ring := { home := { table := [{ addr := 0x402, service := 0x410 }, { addr := 0x403, service := 0x410 }] } }, twin := { strobeT := some 9 } }⟩,
      by decide +kernel⟩,
  ⟨0, 0, (TwBody.image { tick := 9, lines := 3, rails := 0 }).head 0 0 0, { tick := 9, lines := 3, rails := 0 }, ⟨[], [],
      { (((((((((opRun.setReg (Reg.RP_STATE 0) 5).setReg (Reg.RP_STATE 1) 5).setReg Reg.NODE_ADDR 0x403).inforce Reg.SEGMENT 1).inforce Reg.TW_ENABLE 1).inforce Reg.TW_SERVICE_ADDR 0x410).setReg Reg.TW_STATE 2).setReg Reg.TW_PEER_ADDR 0x402).setReg Reg.TW_PATHS 2) with ring := { home := { table := [{ addr := 0x402, service := 0x410 }, { addr := 0x403, service := 0x410 }] } }, twin := {  } }⟩,
      (by and_intros <;> first | with_reducible exact TwBody.head_good rfl rfl | with_reducible exact zeros_length _ | decide +kernel)⟩,
  ⟨0, 0, (TwBody.image { tick := 9, lines := 3, rails := 0 }).head 0 0 0, { tick := 9, lines := 3, rails := 0 },
      { tick := 9, lines := 2, rails := 0 }, ⟨[], [],
      { ((((((((((opRun.setReg (Reg.RP_STATE 0) 5).setReg (Reg.RP_STATE 1) 5).setReg Reg.NODE_ADDR 0x403).inforce Reg.SEGMENT 1).inforce Reg.TW_ENABLE 1).inforce Reg.TW_SERVICE_ADDR 0x410).setReg Reg.TW_STATE 1).setReg Reg.TW_TOKEN 1).setReg Reg.TW_PEER_ADDR 0x402).setReg Reg.TW_PATHS 2 |>.setReg Reg.SWITCH_STATE 3) with ring := { home := { table := [{ addr := 0x402, service := 0x410 }, { addr := 0x403, service := 0x410 }] } }, twin := { strobeT := some 9, sent := [{ tick := 9, lines := 2, rails := 0 }] } }⟩,
      (by and_intros <;> first | with_reducible exact TwBody.head_good rfl rfl | with_reducible exact zeros_length _ | decide +kernel)⟩,
  ⟨9, ⟨[], [],
      { (((((((((opRun.setReg (Reg.RP_STATE 0) 5).setReg (Reg.RP_STATE 1) 5).setReg Reg.NODE_ADDR 0x403).inforce Reg.SEGMENT 1).inforce Reg.TW_ENABLE 1).inforce Reg.TW_SERVICE_ADDR 0x410).setReg Reg.TW_STATE 2).setReg Reg.TW_PEER_ADDR 0x402).setReg Reg.TW_PATHS 2 |>.setReg Reg.SWITCH_STATE 3) with ring := { home := { table := [{ addr := 0x402, service := 0x410 }, { addr := 0x403, service := 0x410 }] } }, twin := { strobeT := some 9 } }⟩,
      by decide +kernel⟩,
  ⟨9, ⟨[], [],
      { ((((((((((opRun.setReg (Reg.RP_STATE 0) 5).setReg (Reg.RP_STATE 1) 5).setReg Reg.NODE_ADDR 0x403).inforce Reg.SEGMENT 1).inforce Reg.TW_ENABLE 1).inforce Reg.TW_SERVICE_ADDR 0x410).setReg Reg.TW_STATE 1).setReg Reg.TW_TOKEN 1).setReg Reg.TW_PEER_ADDR 0x402).setReg Reg.TW_PATHS 2 |>.setReg Reg.SWITCH_STATE 3 |>.setChan 4 { busy := true }) with ring := { home := { table := [{ addr := 0x402, service := 0x410 }, { addr := 0x403, service := 0x410 }] } }, twin := { strobeT := some 9 } }⟩,
      by decide +kernel⟩,
  ⟨1, 6, ⟨[], [],
      { (((((((((opRun.setReg (Reg.RP_STATE 0) 5).setReg (Reg.RP_STATE 1) 5).setReg Reg.NODE_ADDR 0x403).inforce Reg.SEGMENT 1).inforce Reg.TW_ENABLE 1).inforce Reg.TW_SERVICE_ADDR 0x410).setReg Reg.TW_STATE 2).setReg Reg.TW_PEER_ADDR 0x402).setReg Reg.TW_PATHS 2) with ring := { home := { table := [{ addr := 0x402, service := 0x410 }, { addr := 0x403, service := 0x410 }] } }, twin := { held := [(2, 6), (3, 1)] } }⟩,
      by decide +kernel⟩,
  ⟨5, ⟨[], [],
      { (((((((((opRun.setReg (Reg.RP_STATE 0) 5).setReg (Reg.RP_STATE 1) 5).setReg Reg.NODE_ADDR 0x403).inforce Reg.SEGMENT 1).inforce Reg.TW_ENABLE 1).inforce Reg.TW_SERVICE_ADDR 0x410).setReg Reg.TW_STATE 2).setReg Reg.TW_PEER_ADDR 0x402).setReg Reg.TW_PATHS 2) with ring := { home := { table := [{ addr := 0x402, service := 0x410 }, { addr := 0x403, service := 0x410 }] } }, twin := { held := [(2, 6), (3, 1)], releaseEnd := some 5 } }⟩,
      by decide +kernel⟩,
  ⟨0, 0, (TwBody.switch 3 9 2 6).head 0 0 0, 9, 2, 6, ⟨[], [],
      { ((((((((((opRun.setReg (Reg.RP_STATE 0) 5).setReg (Reg.RP_STATE 1) 5).setReg Reg.NODE_ADDR 0x403).inforce Reg.SEGMENT 1).inforce Reg.TW_ENABLE 1).inforce Reg.TW_SERVICE_ADDR 0x410).setReg Reg.TW_STATE 1).setReg Reg.TW_TOKEN 1).setReg Reg.TW_PEER_ADDR 0x402).setReg Reg.TW_PATHS 2) with ring := { home := { table := [{ addr := 0x402, service := 0x410 }, { addr := 0x403, service := 0x410 }] } }, twin := { awaiting := [(2, 6), (3, 1)] } }⟩,
      (by and_intros <;> first | with_reducible exact TwBody.head_good rfl rfl | with_reducible exact zeros_length _ | decide +kernel)⟩,
  ⟨0, 0, (TwBody.switch 4 5 0 0).head 0 0 0 5, ⟨[], [],
      { (((((((((opRun.setReg (Reg.RP_STATE 0) 5).setReg (Reg.RP_STATE 1) 5).setReg Reg.NODE_ADDR 0x403).inforce Reg.SEGMENT 1).inforce Reg.TW_ENABLE 1).inforce Reg.TW_SERVICE_ADDR 0x410).setReg Reg.TW_STATE 2).setReg Reg.TW_PEER_ADDR 0x402).setReg Reg.TW_PATHS 2) with ring := { home := { table := [{ addr := 0x402, service := 0x410 }, { addr := 0x403, service := 0x410 }] } }, twin := { strobeT := some 9 } }⟩,
      (by and_intros <;> first | with_reducible exact TwBody.head_good rfl rfl | with_reducible exact zeros_length _ | decide +kernel)⟩,
  ⟨9, ⟨[], [],
      { ((((((((((opRun.setReg (Reg.RP_STATE 0) 5).setReg (Reg.RP_STATE 1) 5).setReg Reg.NODE_ADDR 0x403).inforce Reg.SEGMENT 1).inforce Reg.TW_ENABLE 1).inforce Reg.TW_SERVICE_ADDR 0x410).setReg Reg.TW_STATE 1).setReg Reg.TW_TOKEN 1).setReg Reg.TW_PEER_ADDR 0x402).setReg Reg.TW_PATHS 2) with ring := { home := { table := [{ addr := 0x402, service := 0x410 }, { addr := 0x403, service := 0x410 }] } }, twin := { safeAt := some 9 } }⟩,
      by decide +kernel⟩⟩

theorem meets_PairNumbersContestsAndTakesOver :
  (∃ (l : Fin 3) (seq : Fin 65536) (ack : Fin 65536) (h : TwHead) (g : TwGrant) (x : HeldOut) (s : State),
      s.core.twLine = true ∧ h.good seq ack (.grant g) = true ∧ s.core.twin.granting = [] ∧
      (((s.core.lane (l + 1)).fresh = true ∨ seq = ((s.core.lane (l + 1)).rxSeq + 1) % 65536)) ∧ s.core.standby = true ∧
      g.key ≠ 0xFFFF ∧ g.cls ≠ 4 ∧ s.core.twin.grants = [] ∧ s.core.twin.hold = [x] ∧ x.over s.core.now = false ∧
      g.names x.frame x.occ = true ∧ x.frame.seq = g.seq) ∧
  (∃ (l : Fin 3) (seq : Fin 65536) (ack : Fin 65536) (h : TwHead) (g : TwGrant) (x : HeldOut) (s : State),
      s.core.twLine = true ∧ h.good seq ack (.grant g) = true ∧ s.core.twin.granting = [] ∧
      (((s.core.lane (l + 1)).fresh = true ∨ seq = ((s.core.lane (l + 1)).rxSeq + 1) % 65536)) ∧ s.core.standby = true ∧
      g.key ≠ 0xFFFF ∧ g.cls ≠ 4 ∧ s.core.twin.grants = [] ∧ s.core.twin.hold = [x] ∧ x.over s.core.now = false ∧
      g.names x.frame x.occ = true ∧ x.frame.seq ≠ g.seq) ∧
  (∃ (l : Fin 3) (seq : Fin 65536) (ack : Fin 65536) (h : TwHead) (answer : Bool) (id : Nat) (cls : Fin 8) (stream : Fin 65536)
      (num : Fin 65536) (s : State), s.core.twLine = true ∧ h.good seq ack (.number answer id cls stream num) = true ∧
      s.core.twin.granting = [] ∧ (((s.core.lane (l + 1)).fresh = true ∨ seq = ((s.core.lane (l + 1)).rxSeq + 1) % 65536)) ∧
      s.core.holder = true ∧ answer = false ∧ s.core.fwd.seqs = [] ∧ (s.core.lane (l + 1)).queue = [] ∧
      (s.core.lane (l + 1)).unacked.length < 16) ∧
  (∃ (l : Fin 3) (seq : Fin 65536) (ack : Fin 65536) (h : TwHead) (answer : Bool) (id : Nat) (cls : Fin 8) (stream : Fin 65536)
      (num : Fin 65536) (x : Nat × Nat × Frame) (s : State), s.core.twLine = true ∧
      h.good seq ack (.number answer id cls stream num) = true ∧ s.core.twin.granting = [] ∧
      (((s.core.lane (l + 1)).fresh = true ∨ seq = ((s.core.lane (l + 1)).rxSeq + 1) % 65536)) ∧ answer = true ∧
      s.core.twin.waiting = [x] ∧ x.1 = id) ∧
  (∃ (l : Fin 3) (seq : Fin 65536) (ack : Fin 65536) (h : TwHead) (j : Nat) (kind : Fin 5) (inst : Fin 128) (stream : Fin 65536)
      (num : Fin 65536) (s : State), s.core.twLine = true ∧ h.good seq ack (.sent j kind inst stream num) = true ∧
      s.core.twin.granting = [] ∧ (((s.core.lane (l + 1)).fresh = true ∨ seq = ((s.core.lane (l + 1)).rxSeq + 1) % 65536)) ∧
      s.core.standby = true ∧ kind = 4) ∧
  (∃ (h : HeldOut) (s : State), s.core.twOn = true ∧ s.core.linkLive = true ∧ s.core.twin.hold = [h]) ∧
  (∃ (t : Nat) (s : State), s.core.twOn = true ∧ s.core.twin.settleEnd = some t ∧ s.core.witnessOk = true ∧
      s.core.twin.witnessBad = false ∧ s.core.tickOpen = true) ∧
  (∃ (t : Nat) (s : State), s.core.twOn = true ∧ s.core.twin.settleEnd = some t ∧ s.core.witnessOk = false ∧
      s.core.flag Reg.TW_TOKEN = true ∧ s.core.tickOpen = true) ∧
  (∃ (t : Nat) (s : State), s.core.twOn = true ∧ s.core.twin.settleEnd = some t ∧ s.core.witnessOk = false ∧
      s.core.flag Reg.TW_TOKEN = false ∧ s.core.twin.journal = [] ∧ s.core.twin.comm = none ∧ s.core.twin.hold = [] ∧
      s.core.tickOpen = true) ∧
  (∃ (t : Nat) (s : State), s.core.twOn = true ∧ s.core.twin.holdEnd = some t ∧ s.core.twin.rank = 0) ∧
  (∃ (t : Nat) (s : State), s.core.twOn = true ∧ s.core.twin.holdEnd = some t ∧ s.core.twin.rank ≠ 0 ∧ s.core.witnessOk = true) :=
  ⟨⟨1, 0, 0, (TwBody.grant { cls := 5, stream := 7, seq := 2, tick := 9, occ := 0, key := 3 }).head 2 0 0,
      { cls := 5, stream := 7, seq := 2, tick := 9, occ := 0, key := 3 },
      { route := 3, frame := { cls := 5, stream := 7, seq := 2, tick := 9 }, occ := 0, since := 0, left := 50000 }, ⟨[], [],
      { (((((((((opRun.setReg (Reg.RP_STATE 0) 5).setReg (Reg.RP_STATE 1) 5).setReg Reg.NODE_ADDR 0x403).inforce Reg.SEGMENT 1).inforce Reg.TW_ENABLE 1).inforce Reg.TW_SERVICE_ADDR 0x410).setReg Reg.TW_STATE 2).setReg Reg.TW_PEER_ADDR 0x402).setReg Reg.TW_PATHS 2) with ring := { home := { table := [{ addr := 0x402, service := 0x410 }, { addr := 0x403, service := 0x410 }] } }, twin := { hold := [{ route := 3, frame := { cls := 5, stream := 7, seq := 2, tick := 9 }, occ := 0, since := 0, left := 50000 }] } }⟩,
      (by and_intros <;> first | with_reducible exact TwBody.head_good rfl rfl | with_reducible exact zeros_length _ | decide +kernel)⟩,
  ⟨1, 0, 0, (TwBody.grant { cls := 5, stream := 7, seq := 3, tick := 9, occ := 0, key := 3 }).head 2 0 0,
      { cls := 5, stream := 7, seq := 3, tick := 9, occ := 0, key := 3 },
      { route := 3, frame := { cls := 5, stream := 7, seq := 2, tick := 9 }, occ := 0, since := 0, left := 50000 }, ⟨[], [],
      { (((((((((opRun.setReg (Reg.RP_STATE 0) 5).setReg (Reg.RP_STATE 1) 5).setReg Reg.NODE_ADDR 0x403).inforce Reg.SEGMENT 1).inforce Reg.TW_ENABLE 1).inforce Reg.TW_SERVICE_ADDR 0x410).setReg Reg.TW_STATE 2).setReg Reg.TW_PEER_ADDR 0x402).setReg Reg.TW_PATHS 2) with ring := { home := { table := [{ addr := 0x402, service := 0x410 }, { addr := 0x403, service := 0x410 }] } }, twin := { hold := [{ route := 3, frame := { cls := 5, stream := 7, seq := 2, tick := 9 }, occ := 0, since := 0, left := 50000 }] } }⟩,
      (by and_intros <;> first | with_reducible exact TwBody.head_good rfl rfl | with_reducible exact zeros_length _ | decide +kernel)⟩,
  ⟨1, 0, 0, (TwBody.number false 5 2 3 0).head 2 0 0, false, 5, 2, 3, 0, ⟨[], [],
      { ((((((((((opRun.setReg (Reg.RP_STATE 0) 5).setReg (Reg.RP_STATE 1) 5).setReg Reg.NODE_ADDR 0x403).inforce Reg.SEGMENT 1).inforce Reg.TW_ENABLE 1).inforce Reg.TW_SERVICE_ADDR 0x410).setReg Reg.TW_STATE 1).setReg Reg.TW_TOKEN 1).setReg Reg.TW_PEER_ADDR 0x402).setReg Reg.TW_PATHS 2) with ring := { home := { table := [{ addr := 0x402, service := 0x410 }, { addr := 0x403, service := 0x410 }] } }, twin := {  } }⟩,
      (by and_intros <;> first | with_reducible exact TwBody.head_good rfl rfl | with_reducible exact zeros_length _ | decide +kernel)⟩,
  ⟨1, 0, 0, (TwBody.number true 5 2 3 0).head 2 0 0, true, 5, 2, 3, 0, (5, 7, { kind := 8 }), ⟨[], [],
      { (((((((((opRun.setReg (Reg.RP_STATE 0) 5).setReg (Reg.RP_STATE 1) 5).setReg Reg.NODE_ADDR 0x403).inforce Reg.SEGMENT 1).inforce Reg.TW_ENABLE 1).inforce Reg.TW_SERVICE_ADDR 0x410).setReg Reg.TW_STATE 2).setReg Reg.TW_PEER_ADDR 0x402).setReg Reg.TW_PATHS 2) with ring := { home := { table := [{ addr := 0x402, service := 0x410 }, { addr := 0x403, service := 0x410 }] } }, twin := { waiting := [(5, 7, { kind := 8 })] } }⟩,
      (by and_intros <;> first | with_reducible exact TwBody.head_good rfl rfl | with_reducible exact zeros_length _ | decide +kernel)⟩,
  ⟨1, 0, 0, (TwBody.sent 1 4 2 7 0).head 2 0 0, 1, 4, 2, 7, 0, ⟨[], [],
      { (((((((((opRun.setReg (Reg.RP_STATE 0) 5).setReg (Reg.RP_STATE 1) 5).setReg Reg.NODE_ADDR 0x403).inforce Reg.SEGMENT 1).inforce Reg.TW_ENABLE 1).inforce Reg.TW_SERVICE_ADDR 0x410).setReg Reg.TW_STATE 2).setReg Reg.TW_PEER_ADDR 0x402).setReg Reg.TW_PATHS 2) with ring := { home := { table := [{ addr := 0x402, service := 0x410 }, { addr := 0x403, service := 0x410 }] } }, twin := {  }, sched := { table := [{ target := 7, bank := 2, mask := 1, value := 1 }] } }⟩,
      (by and_intros <;> first | with_reducible exact TwBody.head_good rfl rfl | with_reducible exact zeros_length _ | decide +kernel)⟩,
  ⟨{ route := 3, frame := { cls := 5, stream := 7, seq := 2, tick := 9 }, occ := 0, since := 0, left := 50000 }, ⟨[], [],
      { (((((((((opRun.setReg (Reg.RP_STATE 0) 5).setReg (Reg.RP_STATE 1) 5).setReg Reg.NODE_ADDR 0x403).inforce Reg.SEGMENT 1).inforce Reg.TW_ENABLE 1).inforce Reg.TW_SERVICE_ADDR 0x410).setReg Reg.TW_STATE 2).setReg Reg.TW_PEER_ADDR 0x402).setReg Reg.TW_PATHS 2) with ring := { home := { table := [{ addr := 0x402, service := 0x410 }, { addr := 0x403, service := 0x410 }] } }, twin := { hold := [{ route := 3, frame := { cls := 5, stream := 7, seq := 2, tick := 9 }, occ := 0, since := 0, left := 50000 }] } }⟩,
      by decide +kernel⟩,
  ⟨5, ⟨[], [],
      { (((((((((opRun.setReg (Reg.RP_STATE 0) 5).setReg (Reg.RP_STATE 1) 5).setReg Reg.NODE_ADDR 0x403).inforce Reg.SEGMENT 1).inforce Reg.TW_ENABLE 1).inforce Reg.TW_SERVICE_ADDR 0x410).setReg Reg.TW_STATE 2).setReg Reg.TW_PEER_ADDR 0x402).setReg Reg.TW_PATHS 2 |>.setReg (Reg.RP_NEIGHBOUR 0) 0x402) with ring := { home := { table := [{ addr := 0x402, service := 0x410 }, { addr := 0x403, service := 0x410 }] } }, twin := { settleEnd := some 5 } }⟩,
      by decide +kernel⟩,
  ⟨5, ⟨[], [],
      { ((((((((((opRun.setReg (Reg.RP_STATE 0) 5).setReg (Reg.RP_STATE 1) 5).setReg Reg.NODE_ADDR 0x403).inforce Reg.SEGMENT 1).inforce Reg.TW_ENABLE 1).inforce Reg.TW_SERVICE_ADDR 0x410).setReg Reg.TW_STATE 1).setReg Reg.TW_TOKEN 1).setReg Reg.TW_PEER_ADDR 0x402).setReg Reg.TW_PATHS 2) with ring := { home := { table := [{ addr := 0x402, service := 0x410 }, { addr := 0x403, service := 0x410 }] } }, twin := { settleEnd := some 5 } }⟩,
      by decide +kernel⟩,
  ⟨5, ⟨[], [],
      { (((((((((opRun.setReg (Reg.RP_STATE 0) 5).setReg (Reg.RP_STATE 1) 5).setReg Reg.NODE_ADDR 0x403).inforce Reg.SEGMENT 1).inforce Reg.TW_ENABLE 1).inforce Reg.TW_SERVICE_ADDR 0x410).setReg Reg.TW_STATE 2).setReg Reg.TW_PEER_ADDR 0x402).setReg Reg.TW_PATHS 2) with ring := { home := { table := [{ addr := 0x402, service := 0x410 }, { addr := 0x403, service := 0x410 }] } }, twin := { settleEnd := some 5 } }⟩,
      by decide +kernel⟩,
  ⟨5, ⟨[], [],
      { (((((((((opRun.setReg (Reg.RP_STATE 0) 5).setReg (Reg.RP_STATE 1) 5).setReg Reg.NODE_ADDR 0x403).inforce Reg.SEGMENT 1).inforce Reg.TW_ENABLE 1).inforce Reg.TW_SERVICE_ADDR 0x410).setReg Reg.TW_STATE 2).setReg Reg.TW_PEER_ADDR 0x402).setReg Reg.TW_PATHS 2 |>.setReg Reg.TW_STATE 3) with ring := { home := { table := [{ addr := 0x402, service := 0x410 }, { addr := 0x403, service := 0x410 }] } }, twin := { holdEnd := some 5 } }⟩,
      by decide +kernel⟩,
  ⟨5, ⟨[], [],
      { (((((((((opRun.setReg (Reg.RP_STATE 0) 5).setReg (Reg.RP_STATE 1) 5).setReg Reg.NODE_ADDR 0x403).inforce Reg.SEGMENT 1).inforce Reg.TW_ENABLE 1).inforce Reg.TW_SERVICE_ADDR 0x410).setReg Reg.TW_STATE 2).setReg Reg.TW_PEER_ADDR 0x402).setReg Reg.TW_PATHS 2 |>.setReg (Reg.RP_NEIGHBOUR 0) 0x402 |>.setReg Reg.TW_STATE 3) with ring := { home := { table := [{ addr := 0x402, service := 0x410 }, { addr := 0x403, service := 0x410 }] } }, twin := { holdEnd := some 5, rank := 1 } }⟩,
      by decide +kernel⟩⟩

theorem meets_SuppliesFeedsDipsAndDegradation :
  (∃ (_mv : Fin 65536) (s : State), s.core.supervised = true ∧ s.core.pwr.dip = none ∧ s.core.tickOpen = true) ∧
  (∃ (_mv : Fin 65536) (_low : Fin 65536) (x : Dip) (d0 : Nat) (s : State), s.core.supervised = true ∧ s.core.pwr.dip = some x ∧
      x.low < 65536 ∧ d0 = max s.core.now (x.start + 100000)) ∧
  (∃ (x : Dip) (s : State), s.core.pwr.dip = some x ∧ s.core.pwr.degSince = none ∧ s.core.holder = false ∧
      s.core.tickOpen = true) ∧
  (∃ (mv : Fin 65536) (t : Nat) (s : State), s.core.pwr.degSince = some t ∧ s.core.pwr.dip = none ∧ 3100 ≤ mv.val) ∧
  (∃ (meas : Bool) (out : Bool) (s : State), s.core.supervised = true ∧ meas = true ∧
      bit (s.core.reg Reg.SUPPLY_FLAGS) 1 ≠ out ∧ bit (s.core.reg Reg.SUPPLY_FLAGS) 0 = false) ∧
  (∃ (meas : Bool) (out : Bool) (s : State), s.core.supervised = true ∧ meas = false ∧
      bit (s.core.reg Reg.SUPPLY_FLAGS) 0 = false ∧ out = true) ∧
  (∃ (mv : Fin 65536) (s : State), s.core.supervised = true ∧ mv.val < 2200 ∧ bit (s.core.reg Reg.SUPPLY_FLAGS) 3 = false ∧
      s.core.tickOpen = true) ∧
  (∃ (s : State), s.core.supervised = true ∧ s.core.flag Reg.TIME_VALID = true) ∧
  (∃ (s : State), s.core.node.phase = .off) ∧
  (∃ (lvl : Fin 4) (s : State), s.core.takes lvl (Reg.PL_CLEAR) = true) ∧
  (∃ (x : Fin 2) (_code : Fin 4096) (s : State), s.core.supervised = true ∧ s.core.reg (Reg.FEED_STATE x) = 2 ∧
      s.core.tickOpen = true) ∧
  (∃ (x : Fin 2) (_code : Fin 4096) (s : State), s.core.supervised = true ∧ s.core.reg (Reg.FEED_STATE x) = 3) ∧
  (∃ (x : Fin 2) (code : Fin 4096) (s : State), s.core.supervised = true ∧ ((s.core.reg (Reg.FEED_STATE x) = 2 ∨
      s.core.reg (Reg.FEED_STATE x) = 3)) ∧ code.val * s.core.cfg (Reg.FEED_SCALE x) / 4096 < s.core.reg (Reg.FEED_MIN_MV x) ∧
      s.core.tickOpen = true) ∧
  (∃ (x : Fin 2) (code : Fin 4096) (s : State), s.core.supervised = true ∧ s.core.reg (Reg.FEED_STATE x) = 1 ∧
      s.core.reg (Reg.FEED_MIN_MV x) ≤ code.val * s.core.cfg (Reg.FEED_SCALE x) / 4096) :=
  ⟨⟨3040, ⟨[], [], opRun⟩, by decide +kernel⟩,
  ⟨3120, 2990, { start := 5, tick := 0, low := 3040 }, 100005, ⟨[], [],
      { opRun with pwr := { dip := some { start := 5, tick := 0, low := 3040 } } }⟩, by decide +kernel⟩,
  ⟨{ start := 5, tick := 0, low := 3040 }, ⟨[], [],
      { opRun with pwr := { dip := some { start := 5, tick := 0, low := 3040 } } }⟩, by decide +kernel⟩,
  ⟨3200, 5, ⟨[], [], { opRun with pwr := { degSince := some 5 } }⟩, by decide +kernel⟩,
  ⟨true, true, ⟨[], [], opRun⟩, by decide +kernel⟩,
  ⟨false, true, ⟨[], [],
      { (((((((((opRun.setReg (Reg.RP_STATE 0) 5).setReg (Reg.RP_STATE 1) 5).setReg Reg.NODE_ADDR 0x403).inforce Reg.SEGMENT 1).inforce Reg.TW_ENABLE 1).inforce Reg.TW_SERVICE_ADDR 0x410).setReg Reg.TW_STATE 2).setReg Reg.TW_PEER_ADDR 0x402).setReg Reg.TW_PATHS 2) with ring := { home := { table := [{ addr := 0x402, service := 0x410 }, { addr := 0x403, service := 0x410 }] } }, twin := {  } }⟩,
      by decide +kernel⟩,
  ⟨2100, ⟨[], [], opRun⟩, by decide +kernel⟩,
  ⟨⟨[], [], opRun |>.setReg Reg.TIME_VALID 1⟩, by decide +kernel⟩,
  ⟨⟨[], [], { opRun with node := { phase := .off } }⟩, by decide +kernel⟩,
  ⟨2, ⟨[], [], opRun |>.setReg Reg.PL_NEXT 4⟩, by decide +kernel⟩,
  ⟨1, 3141, ⟨[], [], opRun |>.setReg (Reg.FEED_STATE 1) 2⟩, by decide +kernel⟩,
  ⟨1, 3277, ⟨[], [], opRun |>.setReg (Reg.FEED_STATE 1) 3⟩, by decide +kernel⟩,
  ⟨1, 2322, ⟨[], [], opRun |>.setReg (Reg.FEED_STATE 1) 2⟩, by decide +kernel⟩,
  ⟨1, 2458, ⟨[], [], opRun |>.setReg (Reg.FEED_STATE 1) 1⟩, by decide +kernel⟩⟩

theorem meets_RailsTurnOnAndOff :
  (∃ (n : Fin 16) (s : State), s.core.up = true ∧ s.core.disc.left = true ∧ s.core.disc.frozen = false ∧
      s.core.reg (Reg.RAIL_STATE n) = 1 ∧ s.core.railCommand n = true ∧ s.core.pwr.dip = none) ∧
  (∃ (n : Fin 16) (s : State), s.core.up = true ∧ s.core.disc.left = true ∧ s.core.disc.frozen = false ∧
      2 ≤ s.core.reg (Reg.RAIL_STATE n) ∧ s.core.reg (Reg.RAIL_STATE n) ≤ 6 ∧ s.core.railCommand n = false) ∧
  (∃ (n : Fin 16) (s : State), s.core.up = true ∧ s.core.reg (Reg.RAIL_STATE n) = 2) ∧
  (∃ (n : Fin 16) (s : State), s.core.up = true ∧ s.core.reg (Reg.RAIL_STATE n) = 3 ∧
      s.core.reg (Reg.RAIL_RETRIES n) < s.core.reg (Reg.RETRY_COUNT n) ∧ s.core.tickOpen = true) ∧
  (∃ (n : Fin 16) (s : State), s.core.up = true ∧ s.core.reg (Reg.RAIL_STATE n) = 3 ∧
      s.core.reg (Reg.RAIL_RETRIES n) = s.core.reg (Reg.RETRY_COUNT n) ∧ s.core.reg (Reg.RETRY_COUNT n) < 255 ∧
      s.core.tickOpen = true) ∧
  (∃ (n : Fin 16) (t : Nat) (s : State), s.core.up = true ∧ s.core.disc.left = true ∧ s.core.disc.frozen = false ∧
      s.core.reg (Reg.RAIL_STATE n) = 3 ∧ (s.core.rail n).settle = some t ∧ t + 1000000 ≤ s.core.now ∧
      (s.core.rail n).fresh = false ∧ s.core.railCommand n = true) ∧
  (∃ (n : Fin 16) (s : State), s.core.up = true ∧ s.core.disc.left = true ∧ s.core.disc.frozen = false ∧
      s.core.reg (Reg.RAIL_STATE n) = 5 ∧ s.core.reg (Reg.RAIL_CMD n) = 1 ∧ s.core.reg (Reg.RAIL_FOLLOW n) = 0xFFFF ∧
      s.core.node.ioHold = false ∧ s.core.fc.safe = false ∧ s.core.pwr.dip = none ∧ s.core.reg (Reg.RAIL_RETRIES n) < 255 ∧
      (s.core.rail n).settle = none) ∧
  (∃ (n : Fin 16) (t : Nat) (s : State), s.core.up = true ∧ s.core.reg (Reg.RAIL_STATE n) = 4 ∧ (s.core.rail n).good = some t) :=
  ⟨⟨3, ⟨[], [],
      { (opRun |>.setReg (Reg.RAIL_STATE 3) 1 |>.setReg (Reg.RAIL_CMD 3) 1) with disc := { left := true }, pwr := { rails := [(3, {  })] } }⟩,
      by decide +kernel⟩,
  ⟨3, ⟨[], [],
      { (opRun |>.setReg (Reg.RAIL_STATE 3) 1 |>.setReg (Reg.RAIL_STATE 3) 4) with disc := { left := true }, pwr := { rails := [(3, { gate := true })] } }⟩,
      by decide +kernel⟩,
  ⟨3, ⟨[], [],
      { (opRun |>.setReg (Reg.RAIL_STATE 3) 1 |>.setReg (Reg.RAIL_STATE 3) 2) with disc := { left := true }, pwr := { rails := [(3, { gate := true, onAt := 5, inrush := 10000000 })] } }⟩,
      by decide +kernel⟩,
  ⟨3, ⟨[], [],
      { (opRun |>.setReg (Reg.RAIL_STATE 3) 1 |>.setReg (Reg.RAIL_STATE 3) 3) with disc := { left := true }, pwr := { rails := [(3, { gate := true })] } }⟩,
      by decide +kernel⟩,
  ⟨3, ⟨[], [],
      { (opRun |>.setReg (Reg.RAIL_STATE 3) 1 |>.setReg (Reg.RAIL_STATE 3) 3 |>.setReg (Reg.RAIL_RETRIES 3) 3) with disc := { left := true }, pwr := { rails := [(3, { gate := true })] } }⟩,
      by decide +kernel⟩,
  ⟨3, 0, ⟨[], [],
      { (opRun |>.setReg (Reg.RAIL_STATE 3) 1 |>.setReg (Reg.RAIL_STATE 3) 3 |>.setReg (Reg.RAIL_CMD 3) 1) with time := { now := 1000000 }, disc := { left := true }, pwr := { rails := [(3, { gate := true, settle := some 0 })] } }⟩,
      by decide +kernel⟩,
  ⟨3, ⟨[], [],
      { (opRun |>.setReg (Reg.RAIL_STATE 3) 1 |>.setReg (Reg.RAIL_STATE 3) 5 |>.setReg (Reg.RAIL_CMD 3) 1) with disc := { left := true }, pwr := { rails := [(3, { offAt := 5, interval := 1000 })] } }⟩,
      by decide +kernel⟩,
  ⟨3, 5, ⟨[], [],
      { (opRun |>.setReg (Reg.RAIL_STATE 3) 1 |>.setReg (Reg.RAIL_STATE 3) 4 |>.setReg (Reg.RAIL_RETRIES 3) 2) with disc := { left := true }, pwr := { rails := [(3, { gate := true, good := some 5 })] } }⟩,
      by decide +kernel⟩⟩

theorem meets_RailBreakersTripAndPresenceActs :
  (∃ (n : Fin 16) (code : Fin 4096) (_pg : Bool) (i : Nat) (h : Nat) (s : State), s.core.up = true ∧
      ((s.core.reg (Reg.RAIL_STATE n) = 1 ∨ s.core.reg (Reg.RAIL_STATE n) = 5)) ∧
      i = code.val * s.core.cfg (Reg.RAIL_FS_MA n) / 4096 ∧ h = min (s.core.heatStep n (s.core.rail n).heat i) (2 ^ 48 - 1)) ∧
  (∃ (n : Fin 16) (code : Fin 4096) (_pg : Bool) (s : State), s.core.up = true ∧ ((s.core.reg (Reg.RAIL_STATE n) = 3 ∨
      s.core.reg (Reg.RAIL_STATE n) = 4)) ∧ s.core.reg (Reg.RAIL_INSTANT n) ≤ code.val * s.core.cfg (Reg.RAIL_FS_MA n) / 4096
      ∧ s.core.reg (Reg.RAIL_RETRIES n) < s.core.reg (Reg.RETRY_COUNT n) ∧ s.core.tickOpen = true) ∧
  (∃ (n : Fin 16) (code : Fin 4096) (_pg : Bool) (i : Nat) (s : State), s.core.up = true ∧ ((s.core.reg (Reg.RAIL_STATE n) = 3 ∨
      s.core.reg (Reg.RAIL_STATE n) = 4)) ∧ i = code.val * s.core.cfg (Reg.RAIL_FS_MA n) / 4096 ∧
      i < s.core.reg (Reg.RAIL_INSTANT n) ∧ code.val ≠ 4095 ∧ 2 ^ 40 ≤ s.core.heatStep n (s.core.rail n).heat i ∧
      s.core.reg (Reg.RAIL_RETRIES n) < s.core.reg (Reg.RETRY_COUNT n) ∧ s.core.tickOpen = true) ∧
  (∃ (n : Fin 16) (code : Fin 4096) (_pg : Bool) (s : State), s.core.up = true ∧ s.core.reg (Reg.RAIL_STATE n) = 2 ∧
      s.core.reg (Reg.INRUSH_TRIP n) ≤ code.val * s.core.cfg (Reg.RAIL_FS_MA n) / 4096 ∧
      s.core.reg (Reg.RAIL_RETRIES n) < s.core.reg (Reg.RETRY_COUNT n) ∧ s.core.tickOpen = true) ∧
  (∃ (n : Fin 16) (s : State), s.core.up = true ∧ s.core.reg (Reg.RAIL_STATE n) = 4 ∧
      bit (s.core.cfg (Reg.RAIL_CFG n)) 2 = true ∧ s.core.reg (Reg.RAIL_RETRIES n) < s.core.reg (Reg.RETRY_COUNT n) ∧
      s.core.tickOpen = true) ∧
  (∃ (n : Fin 16) (s : State), s.core.up = true ∧ s.core.presUsed n = true ∧ 1 ≤ s.core.reg (Reg.RAIL_STATE n) ∧
      s.core.reg (Reg.RAIL_STATE n) ≤ 6 ∧ (s.core.rail n).gate = true ∧ s.core.tickOpen = true) ∧
  (∃ (n : Fin 16) (t : Nat) (st : Nat) (s : State), s.core.reg (Reg.RAIL_STATE n) = 7 ∧ (s.core.rail n).away = some (t, st) ∧
      st ≠ 1 ∧ st ≠ 6) ∧
  (∃ (n : Fin 16) (t : Nat) (st : Nat) (s : State), s.core.reg (Reg.RAIL_STATE n) = 7 ∧ (s.core.rail n).away = some (t, st)) ∧
  (∃ (n : Fin 16) (s : State), s.core.up = true ∧ s.core.disc.left = true ∧ s.core.disc.frozen = false ∧
      s.core.reg (Reg.RAIL_STATE n) = 8 ∧ s.core.reg (Reg.RAIL_CMD n) = 1 ∧ s.core.reg (Reg.RAIL_FOLLOW n) = 0xFFFF ∧
      s.core.node.ioHold = false ∧ s.core.fc.safe = false ∧ s.core.pwr.dip = none) :=
  ⟨⟨3, 1843, true, 4499, 5003665038, ⟨[], [],
      { (opRun |>.setReg (Reg.RAIL_STATE 3) 1) with disc := { left := true }, pwr := { rails := [(3, { heat := 5000000000 })] } }⟩,
      by decide +kernel⟩,
  ⟨3, 4000, true, ⟨[], [],
      { (opRun |>.setReg (Reg.RAIL_STATE 3) 1 |>.setReg (Reg.RAIL_STATE 3) 4) with disc := { left := true }, pwr := { rails := [(3, { gate := true })] } }⟩,
      by decide +kernel⟩,
  ⟨3, 1843, true, 4499, ⟨[], [],
      { (opRun |>.setReg (Reg.RAIL_STATE 3) 1 |>.setReg (Reg.RAIL_STATE 3) 4) with disc := { left := true }, pwr := { rails := [(3, { gate := true, heat := 1099511627775 })] } }⟩,
      by decide +kernel⟩,
  ⟨3, 3000, true, ⟨[], [],
      { (opRun |>.setReg (Reg.RAIL_STATE 3) 1 |>.setReg (Reg.RAIL_STATE 3) 2) with disc := { left := true }, pwr := { rails := [(3, { gate := true })] } }⟩,
      by decide +kernel⟩,
  ⟨3, ⟨[], [],
      { (opRun |>.setReg (Reg.RAIL_STATE 3) 1 |>.setReg (Reg.RAIL_STATE 3) 4) with disc := { left := true }, pwr := { rails := [(3, { gate := true })] } }⟩,
      by decide +kernel⟩,
  ⟨3, ⟨[], [],
      { ((opRun).inforce (Reg.RAIL_CFG 3) 7 |>.setReg (Reg.RAIL_STATE 3) 1 |>.setReg (Reg.RAIL_STATE 3) 4) with disc := { left := true }, pwr := { rails := [(3, { gate := true })] } }⟩,
      by decide +kernel⟩,
  ⟨3, 5, 4, ⟨[], [],
      { (opRun |>.setReg (Reg.RAIL_STATE 3) 1 |>.setReg (Reg.RAIL_STATE 3) 7) with disc := { left := true }, pwr := { rails := [(3, { away := some (5, 4) })] } }⟩,
      by decide +kernel⟩,
  ⟨3, 5, 4, ⟨[], [],
      { (opRun |>.setReg (Reg.RAIL_STATE 3) 1 |>.setReg (Reg.RAIL_STATE 3) 7) with disc := { left := true }, pwr := { rails := [(3, { away := some (5, 4) })] } }⟩,
      by decide +kernel⟩,
  ⟨3, ⟨[], [],
      { (opRun |>.setReg (Reg.RAIL_STATE 3) 1 |>.setReg (Reg.RAIL_STATE 3) 8 |>.setReg (Reg.RAIL_CMD 3) 1) with disc := { left := true }, pwr := { rails := [(3, {  })] } }⟩,
      by decide +kernel⟩⟩

theorem meets_FaultsAreReportedPlacedAndRead :
  (∃ (r : ReportKind) (source : Fin 512) (inst : Fin 65536) (cause : Fin 256) (_detail : Nat) (s : State),
      s.core.tickOpen = true ∧ r = .onset ∧ s.core.fc.active.any (fun a => a.source == source && a.inst == inst && a.cause ==
      cause) = false) ∧
  (∃ (r : ReportKind) (_source : Fin 512) (_inst : Fin 65536) (_cause : Fin 256) (_detail : Nat) (s : State),
      s.core.tickOpen = true ∧ r = .oneShot) ∧
  (∃ (r : ReportKind) (_source : Fin 512) (_inst : Fin 65536) (_cause : Fin 256) (_detail : Nat) (_s : State), r = .clearing) ∧
  (∃ (n : Nat) (t : Nat) (rest : List (Nat × Nat)) (x : FaultRec) (s : State), s.core.fc.waiting = (n, t) :: rest ∧
      s.core.fc.arrivals = [x] ∧ x.placeTick = n ∧ bit x.flags 6 = false ∧ s.core.reg (Reg.FC_CEILING x.sev) = 0 ∧
      s.core.fc.queue.length < 32) ∧
  (∃ (lvl : Fin 4) (r : FaultRec) (s : State), s.core.dict.queue = [] ∧ s.core.up = true ∧ s.core.engineHeld = false ∧
      1 ≤ lvl.val ∧ s.core.fc.first = some r) ∧
  (∃ (lvl : Fin 4) (r : FaultRec) (rest : List FaultRec) (s : State), s.core.dict.queue = [] ∧ s.core.up = true ∧
      s.core.engineHeld = false ∧ 1 ≤ lvl.val ∧ s.core.fc.queue = r :: rest) ∧
  (∃ (f : Frame) (s : State), s.core.up = true ∧ f.check = f.transitCrc ∧ s.core.reg Reg.INJ_LEFT = 0) :=
  ⟨⟨.onset, 0x128, 0xFFFF, 0, 0, ⟨[], [], opRun⟩, by decide +kernel⟩,
  ⟨.oneShot, 0x12D, 3, 0, 0, ⟨[], [], opRun⟩, by decide +kernel⟩,
  ⟨.clearing, 0x128, 0xFFFF, 0, 0, ⟨[], [],
      { (opRun) with fc := { active := [{ source := 0x128, inst := 0xFFFF, cause := 0, onset := 3, sev := 2 }] } }⟩,
      by decide +kernel⟩,
  ⟨5, 10000, [], { source := 0x12D, sev := 1, inst := 1, seq := 7, onset := 5, clear := 5, flags := 16 }, ⟨[], [],
      { (opRun) with fc := { waiting := [(5, 10000)], arrivals := [{ source := 0x12D, sev := 1, inst := 1, seq := 7, onset := 5, clear := 5, flags := 16 }] } }⟩,
      by decide +kernel⟩,
  ⟨1, { source := 0x12D, sev := 1, inst := 1, seq := 7, onset := 5, clear := 5, flags := 16 }, ⟨[], [],
      { (opRun) with fc := { first := some { source := 0x12D, sev := 1, inst := 1, seq := 7, onset := 5, clear := 5, flags := 16 } } }⟩,
      by decide +kernel⟩,
  ⟨1, { source := 0x12D, sev := 1, inst := 1, seq := 7, onset := 5, clear := 5, flags := 16 }, [], ⟨[], [],
      { (opRun) with fc := { queue := [{ source := 0x12D, sev := 1, inst := 1, seq := 7, onset := 5, clear := 5, flags := 16 }] } }⟩,
      by decide +kernel⟩,
  ⟨({ kind := 3, cls := 1, payload := ({ source := 0x12D, sev := 1, inst := 1, seq := 7, onset := 5, clear := 5, flags := 16 } : FaultRec).bytes }
      : Frame).seal, ⟨[], [], opRun⟩, (by and_intros <;> first | with_reducible exact Frame.seal_check _ | decide +kernel)⟩⟩

theorem meets_FaultsEscalateAndAreReleased :
  (∃ (x : EscSlot) (t : Nat) (s : State), s.core.tickOpen = true ∧ s.core.fc.slots = [x] ∧ x.timer = some t ∧ x.step = 0 ∧
      x.ceiling = 1 ∧ isoKind x.record.source (x.record.detail % 256) = .window ∧ s.core.fc.isos = []) ∧
  (∃ (x : EscSlot) (t : Nat) (s : State), s.core.fc.slots = [x] ∧ x.timer = some t ∧ x.step = 1 ∧ x.ceiling = 2 ∧
      s.core.fc.safe = false) ∧
  (∃ (x : EscSlot) (t : Nat) (s : State), s.core.fc.slots = [x] ∧ x.timer = some t ∧ x.step = 2 ∧ x.ceiling = 3 ∧
      s.core.fc.resetAt = none) ∧
  (∃ (t : Nat) (s : State), s.core.fc.resetAt = some t ∧ s.core.node.phase = .run) ∧
  (∃ (lvl : Fin 4) (_q : Fin 65536) (s : State), s.core.takes lvl (Reg.FC_ACK) = true) ∧
  (∃ (lvl : Fin 4) (v : BitVec 32) (s : State), s.core.takes lvl (Reg.FC_UNISOLATE) = true ∧
      s.core.fc.isos.any (fun e => e.2.1 == v.toNat % 65536 && e.1 == v.toNat / 65536) = true ∧ v.toNat ≠ 0xFFFFFFFF) ∧
  (∃ (lvl : Fin 4) (v : BitVec 32) (s : State), s.core.takes lvl (Reg.FC_UNISOLATE) = true ∧
      s.core.fc.isos.any (fun e => e.2.1 == v.toNat % 65536 && e.1 == v.toNat / 65536) = false ∧ v.toNat ≠ 0xFFFFFFFF) :=
  ⟨⟨{ record := { source := 0x119, sev := 1, inst := 1, seq := 7, onset := 5, clear := 5, flags := 16 }, timer := some 9000, ceiling := 1, period := 10000, step := 0 },
      9000, ⟨[], [],
      { (opRun) with fc := { slots := [{ record := { source := 0x119, sev := 1, inst := 1, seq := 7, onset := 5, clear := 5, flags := 16 }, timer := some 9000, ceiling := 1, period := 10000, step := 0 }] } }⟩,
      by decide +kernel⟩,
  ⟨{ record := { source := 0x12D, sev := 1, inst := 1, seq := 7, onset := 5, clear := 5, flags := 16 }, timer := some 9000, ceiling := 2, period := 10000, step := 1 },
      9000, ⟨[], [],
      { (opRun) with fc := { slots := [{ record := { source := 0x12D, sev := 1, inst := 1, seq := 7, onset := 5, clear := 5, flags := 16 }, timer := some 9000, ceiling := 2, period := 10000, step := 1 }] } }⟩,
      by decide +kernel⟩,
  ⟨{ record := { source := 0x12D, sev := 1, inst := 1, seq := 7, onset := 5, clear := 5, flags := 16 }, timer := some 9000, ceiling := 3, period := 10000, step := 2 },
      9000, ⟨[], [],
      { (opRun) with fc := { slots := [{ record := { source := 0x12D, sev := 1, inst := 1, seq := 7, onset := 5, clear := 5, flags := 16 }, timer := some 9000, ceiling := 3, period := 10000, step := 2 }] } }⟩,
      by decide +kernel⟩,
  ⟨9, ⟨[], [], { (opRun) with fc := { resetAt := some 9 } }⟩, by decide +kernel⟩,
  ⟨1, 7, ⟨[], [],
      { (opRun) with fc := { slots := [{ record := { source := 0x12D, sev := 1, inst := 1, seq := 7, onset := 5, clear := 5, flags := 16 }, timer := some 9000, ceiling := 1, period := 10000, step := 0 }] } }⟩,
      by decide +kernel⟩,
  ⟨2, 0x01190003, ⟨[], [], { (opRun) with fc := { isos := [(0x119, 3, 0), (0x12D, 1, 0)] } }⟩, by decide +kernel⟩,
  ⟨2, 0x01190003, ⟨[], [], { (opRun) with fc := { isos := [(0x12D, 1, 0)] } }⟩, by decide +kernel⟩⟩

theorem meets_SafeStateBeginsAndEnds :
  (∃ (_cause : Fin 4) (s : State), s.core.fc.safe = false) ∧
  (∃ (lvl : Fin 4) (s : State), s.core.takes lvl (Reg.FC_SAFE_CMD) = true ∧ s.core.fc.safe = false) ∧
  (∃ (s : State), s.core.fc.safe = false) ∧
  (∃ (lvl : Fin 4) (s : State), s.core.takes lvl (Reg.FC_SAFE_CMD) = true ∧ s.core.fc.safe = true ∧ s.core.exitBarred = false ∧
      s.core.fc.exitPending = none) ∧
  (∃ (lvl : Fin 4) (s : State), s.core.takes lvl (Reg.FC_SAFE_CMD) = true ∧ s.core.fc.safe = true ∧ s.core.exitBarred = true) ∧
  (∃ (s : State), s.core.fc.exitPending.isSome = true ∧ s.core.fc.safe = true ∧ s.core.exitBarred = false) ∧
  (∃ (s : State), s.core.fc.exitPending.isSome = true ∧ s.core.fc.safe = true ∧ s.core.exitBarred = true) ∧
  (∃ (lvl : Fin 4) (s : State), s.core.takes lvl (Reg.FCINJ_ARM) = true ∧ s.core.modeCode ≠ 2 ∧ s.core.modeCode ≠ 11 ∧
      s.core.fc.injLeft = 0 ∧ knownSource (s.core.reg Reg.FCINJ_SOURCE) = true ∧ s.core.tickOpen = true) ∧
  (∃ (lvl : Fin 4) (s : State), s.core.takes lvl (Reg.FCINJ_ARM) = true ∧ s.core.modeCode ≠ 2 ∧ s.core.modeCode ≠ 11 ∧
      s.core.fc.injLeft = 0 ∧ s.core.reg Reg.FCINJ_SOURCE ≤ 0x7F) ∧
  (∃ (lvl : Fin 4) (s : State), s.core.takes lvl (Reg.FCINJ_ARM) = true ∧ ((s.core.modeCode = 3 ∨ s.core.modeCode = 4)) ∧
      s.core.fc.injLeft = 0 ∧ s.core.fc.safe = false) :=
  ⟨⟨2, ⟨[], [], opRun⟩, by decide +kernel⟩,
  ⟨2, ⟨[], [], opRun⟩, by decide +kernel⟩,
  ⟨⟨[], [], opRun⟩, by decide +kernel⟩,
  ⟨2, ⟨[], [], { (opRun) with fc := { safe := true, safeCopy := true } }⟩, by decide +kernel⟩,
  ⟨2, ⟨[], [], { (opRun) with fc := { safe := true, safeCopy := true, selfFail := true } }⟩, by decide +kernel⟩,
  ⟨⟨[], [], { (opRun |>.setReg Reg.FC_STATE 1) with fc := { safe := true, safeCopy := true, exitPending := some 5 } }⟩,
      by decide +kernel⟩,
  ⟨⟨[], [],
      { (opRun |>.setReg Reg.FC_STATE 1) with fc := { safe := true, safeCopy := true, exitPending := some 5, selfFail := true } }⟩,
      by decide +kernel⟩,
  ⟨2, ⟨[], [], opRun |>.setReg Reg.FCINJ_SOURCE 0x12D⟩, by decide +kernel⟩,
  ⟨2, ⟨[], [], opRun |>.setReg Reg.FCINJ_SOURCE 12⟩, by decide +kernel⟩,
  ⟨2, ⟨[], [], { opRun with node := { phase := .run, base := 3 } }⟩, by decide +kernel⟩⟩

theorem meets_HeatherRestartsSensorsAndLogs :
  (∃ (s : State), s.core.firmware = true ∧ s.core.tickOpen = true ∧ s.core.mgmt.trial = none) ∧
  (∃ (_inst : Fin 2) (s : State), s.core.firmware = true ∧ s.core.tickOpen = true ∧ s.core.mgmt.trial = none) ∧
  (∃ (_inst : Fin 2) (s : State), s.core.firmware = true ∧ s.core.tickOpen = true) ∧
  (∃ (e : Nat) (s : State), s.core.up = true ∧ s.core.node.heatherEnd = some e ∧ s.core.mgmt.trial = none ∧
      s.core.romPass s.core.mgmt.boot = true ∧ s.core.tickOpen = true) ∧
  (∃ (e : Nat) (t : Trial) (s : State), s.core.up = true ∧ s.core.node.heatherEnd = some e ∧ s.core.mgmt.trial = some t ∧
      s.core.romPass s.core.mgmt.boot = true ∧ s.core.tickOpen = true) ∧
  (∃ (_t0 : BitVec 16) (_t1 : BitVec 16) (_t2 : BitVec 16) (_t3 : BitVec 16) (_m0 : BitVec 16) (_m1 : BitVec 16) (_m2 : BitVec
      16) (_m3 : BitVec 16) (_m4 : BitVec 16) (_m5 : BitVec 16) (_m6 : BitVec 16) (_m7 : BitVec 16) (_m8 : BitVec 16) (_m9 :
      BitVec 16) (s : State), s.core.firmware = true ∧ s.core.tickOpen = true) ∧
  (∃ (_t0 : BitVec 16) (_t1 : BitVec 16) (_t2 : BitVec 16) (t3 : BitVec 16) (_m0 : BitVec 16) (_m1 : BitVec 16) (_m2 : BitVec
      16) (_m3 : BitVec 16) (_m4 : BitVec 16) (_m5 : BitVec 16) (_m6 : BitVec 16) (_m7 : BitVec 16) (_m8 : BitVec 16) (_m9 :
      BitVec 16) (s : State), s.core.firmware = true ∧ s.core.tickOpen = true ∧
      s.core.regI 16 Reg.TEMP_WARN ≤ toInt 16 t3.toNat) ∧
  (∃ (_t0 : BitVec 16) (_t1 : BitVec 16) (_t2 : BitVec 16) (_t3 : BitVec 16) (_m0 : BitVec 16) (_m1 : BitVec 16) (_m2 : BitVec
      16) (_m3 : BitVec 16) (_m4 : BitVec 16) (_m5 : BitVec 16) (_m6 : BitVec 16) (_m7 : BitVec 16) (_m8 : BitVec 16) (m9 :
      BitVec 16) (s : State), s.core.firmware = true ∧ s.core.tickOpen = true ∧ m9.toNat < s.core.reg (Reg.VM_LOW 9) ∧
      (mapGet (0, 0) 9 s.core.mgmt.vmon : Nat × Nat).1 = 1) ∧
  (∃ (ok : Bool) (t : Nat) (s : State), ok = true ∧ s.core.firmware = true ∧ s.core.pwr.dip = none ∧ s.core.log.since = some t ∧
      128 ≤ s.core.log.waiting ∧ s.core.log.waiting ≤ 4096 ∧ s.core.log.flash.length + s.core.log.waiting ≤ 65536) ∧
  (∃ (ok : Bool) (t : Nat) (s : State), ok = true ∧ s.core.firmware = true ∧ s.core.pwr.dip = none ∧ s.core.log.since = some t ∧
      1 ≤ s.core.log.waiting ∧ s.core.log.waiting < 128 ∧ s.core.log.flash.length + s.core.log.waiting + 8 ≤ 65536) ∧
  (∃ (lvl : Fin 4) (s : State), s.core.takes lvl (Reg.LOG_ERASE) = true ∧ s.core.pwr.dip = none) ∧
  (∃ (lvl : Fin 4) (s : State), s.core.takes lvl (Reg.LC_CMD) = true ∧ s.core.tickOpen = true ∧ 3 ≤ lvl.val ∧
      s.core.node.lockPin = false ∧ ((s.core.reg Reg.LC_STATE = 0 ∨ s.core.reg Reg.LC_STATE = 3))) ∧
  (∃ (lvl : Fin 4) (s : State), s.core.takes lvl (Reg.LC_CMD) = true ∧ s.core.tickOpen = true ∧ s.core.node.lockPin = false ∧
      s.core.reg Reg.LC_STATE = 1 ∧ s.core.modeCode = 3 ∧ s.core.tokenUnset Reg.TOKEN_L1 = false ∧
      s.core.tokenUnset Reg.TOKEN_L2 = false) ∧
  (∃ (lvl : Fin 4) (record : Bytes) (sig : Bytes) (s : State), s.core.takes lvl (Reg.LC_RETURN) = true ∧
      s.core.tickOpen = true ∧ s.core.node.lockPin = false ∧ ((s.core.reg Reg.LC_STATE = 1 ∨ s.core.reg Reg.LC_STATE = 2)) ∧
      s.core.reg Reg.LC_RETURNS < 3 ∧ s.core.pwr.dip = none ∧ record = [0x56, 0x58, 0x52,
      0x54] ++ s.core.blob Reg.DEVICE_UID ++ [byteOf (s.core.reg Reg.LC_RETURNS + 1)] ++ zeros 43 ++ sig ∧ sig.length = 64 ∧
      (s.core.blob Reg.DEVICE_UID).length = 16) :=
  ⟨⟨⟨[], [], opRun⟩, by decide +kernel⟩,
  ⟨1, ⟨[], [], opRun⟩, by decide +kernel⟩,
  ⟨1, ⟨[], [], opRun⟩, by decide +kernel⟩,
  ⟨9, ⟨[], [], { (opRun |>.setReg Reg.HEATHER_STATE 1) with node := { opRun.node with heatherEnd := some 9 } }⟩,
      by decide +kernel⟩,
  ⟨9, { slot := 1, prev := 0 }, ⟨[], [],
      { (opRun |>.setReg Reg.HEATHER_STATE 1 |>.setReg Reg.SLOT_STATE_B 6) with node := { opRun.node with heatherEnd := some 9, updating := true }, mgmt := { boot := 1, slotB := { factory := true }, trial := some { slot := 1, prev := 0 } } }⟩,
      by decide +kernel⟩,
  ⟨100, 110, 90, 405, 800, 801, 802, 803, 3300, 1800, 3300, 900, 1250, 3000, ⟨[], [], opRun⟩, by decide +kernel⟩,
  ⟨100, 110, 90, 405, 800, 801, 802, 803, 3300, 1800, 3300, 900, 1250, 3000, ⟨[], [], opRun⟩, by decide +kernel⟩,
  ⟨100, 110, 90, 405, 800, 801, 802, 803, 3300, 1800, 3300, 900, 1250, 1700, ⟨[], [],
      { opRun with mgmt := { vmon := [(9, 1, 0)] } }⟩, by decide +kernel⟩,
  ⟨true, 5, ⟨[], [],
      { opRun with log := { ram := (List.range 16).map (fun i => (i, zeros 32)), waiting := 130, since := some 5 } }⟩,
      by decide +kernel⟩,
  ⟨true, 5, ⟨[], [],
      { opRun with log := { ram := (List.range 16).map (fun i => (i, zeros 32)), waiting := 3, since := some 5 } }⟩,
      by decide +kernel⟩,
  ⟨3, ⟨[], [], { opRun with log := { flash := [zeros 32] } }⟩, by decide +kernel⟩,
  ⟨3, ⟨[], [], opRun |>.setReg Reg.LC_STATE 3⟩, by decide +kernel⟩,
  ⟨2, ⟨[], [],
      { ((opRun.setBlob Reg.TOKEN_L1 (leBytes 8 1)).setBlob Reg.TOKEN_L2 (leBytes 8 2)) with node := { opRun.node with base := 3, ioHold := true } }⟩,
      by decide +kernel⟩,
  ⟨2, [0x56, 0x58, 0x52, 0x54] ++ zeros 16 ++ [1] ++ zeros 43 ++ zeros 64, zeros 64, ⟨[], [], opRun⟩, by decide +kernel⟩⟩

theorem meets_ImagesAreDeliveredAndTried :
  (∃ (f : Frame) (s : State), s.core.up = true ∧ s.core.node.heatherEnd = none ∧ f.kind = 9 ∧ fieldAt f.payload 0 1 = 1 ∧
      ((s.core.undeliver 14 f).mgmtCheck f).1 = true ∧ f.src < 65536 ∧ s.core.tickOpen = true ∧
      s.core.mayOriginate { kind := 9 } = true ∧ s.core.standby = false ∧ f.src ≠ s.core.homeAddr ∧ isMcast f.src = false ∧
      segOf f.src = s.core.segmentOn 0 ∧ s.core.ring.lone = false ∧ s.core.joined 0 = true ∧ s.core.reg Reg.UPD_ALLOW = 0) ∧
  (∃ (f : Frame) (s : State), s.core.up = true ∧ s.core.node.heatherEnd = none ∧ f.kind = 9 ∧ fieldAt f.payload 0 1 = 1 ∧
      ((s.core.undeliver 14 f).mgmtCheck f).1 = true ∧ f.src < 65536 ∧ s.core.reg Reg.UPD_ALLOW = 1 ∧
      s.core.mgmt.trial = none ∧ s.core.mgmt.activate = false ∧ s.core.headerResult (padTo 256 (f.payload.drop 16)) = 0 ∧
      s.core.mgmt.xfer = none) ∧
  (∃ (ok : Bool) (x : UpdXfer) (s : State), s.core.up = true ∧ s.core.node.heatherEnd = none ∧ s.core.pwr.dip = none ∧
      s.core.mgmt.xfer = some x ∧ x.erasing = true ∧ x.live = true ∧ ok = true ∧ x.id < 2 ^ 32 ∧
      s.core.mayOriginate { kind := 9 } = true ∧ s.core.standby = false ∧ x.source ≠ s.core.homeAddr ∧
      isMcast x.source = false ∧ segOf x.source = s.core.segmentOn 0 ∧ s.core.ring.lone = false ∧ s.core.joined 0 = true) ∧
  (∃ (ok : Bool) (x : UpdXfer) (s : State), s.core.up = true ∧ s.core.node.heatherEnd = none ∧ s.core.pwr.dip = none ∧
      s.core.mgmt.xfer = some x ∧ x.erasing = true ∧ x.live = true ∧ ok = false ∧ x.id < 2 ^ 32 ∧ s.core.tickOpen = true ∧
      s.core.mayOriginate { kind := 9 } = true ∧ s.core.standby = false ∧ x.source ≠ s.core.homeAddr ∧
      isMcast x.source = false ∧ segOf x.source = s.core.segmentOn 0 ∧ s.core.ring.lone = false ∧ s.core.joined 0 = true) ∧
  (∃ (f : Frame) (ok : Bool) (i : Nat) (x : UpdXfer) (s : State), s.core.up = true ∧ s.core.node.heatherEnd = none ∧
      f.kind = 9 ∧ fieldAt f.payload 0 1 = 2 ∧ ((s.core.undeliver 14 f).mgmtCheck f).1 = true ∧ f.src < 65536 ∧ ok = true ∧
      s.core.mgmt.xfer = some x ∧ x.live = true ∧ x.erasing = false ∧ x.id = updId f ∧ s.core.slotState s.core.idleSlot = 1 ∧
      fieldAt f.payload 8 4 = 1008 * i ∧ 1008 * i < x.total ∧ x.total ≤ 12582912 ∧
      (f.payload.drop 16).length = min 1008 (x.total - 1008 * i) ∧ x.got.contains i = false ∧ s.core.pwr.dip = none) ∧
  (∃ (f : Frame) (s : State), s.core.up = true ∧ s.core.node.heatherEnd = none ∧ f.kind = 9 ∧ fieldAt f.payload 0 1 = 3 ∧
      ((s.core.undeliver 14 f).mgmtCheck f).1 = true ∧ f.src < 65536 ∧ s.core.mayOriginate { kind := 9 } = true ∧
      s.core.standby = false ∧ f.src ≠ s.core.homeAddr ∧ isMcast f.src = false ∧ segOf f.src = s.core.segmentOn 0 ∧
      s.core.ring.lone = false ∧ s.core.joined 0 = true) ∧
  (∃ (f : Frame) (x : UpdXfer) (s : State), s.core.up = true ∧ s.core.node.heatherEnd = none ∧ f.kind = 9 ∧
      fieldAt f.payload 0 1 = 5 ∧ ((s.core.undeliver 14 f).mgmtCheck f).1 = true ∧ f.src < 65536 ∧ s.core.tickOpen = true ∧
      s.core.mayOriginate { kind := 9 } = true ∧ s.core.standby = false ∧ f.src ≠ s.core.homeAddr ∧ isMcast f.src = false ∧
      segOf f.src = s.core.segmentOn 0 ∧ s.core.ring.lone = false ∧ s.core.joined 0 = true ∧ s.core.mgmt.xfer = some x ∧
      x.id = updId f ∧ x.live = true ∧ x.erasing = false ∧ s.core.slotState s.core.idleSlot = 1 ∧
      x.got.length < chunksOf x.total) ∧
  (∃ (f : Frame) (x : UpdXfer) (s : State), s.core.up = true ∧ s.core.node.heatherEnd = none ∧ f.kind = 9 ∧
      fieldAt f.payload 0 1 = 5 ∧ ((s.core.undeliver 14 f).mgmtCheck f).1 = true ∧ f.src < 65536 ∧ s.core.mgmt.xfer = some x ∧
      x.id = updId f ∧ x.live = true ∧ x.erasing = false ∧ s.core.slotState s.core.idleSlot = 1 ∧
      x.got.length = chunksOf x.total ∧ s.core.pwr.dip = none) ∧
  (∃ (ok : Bool) (r : Nat) (x : UpdXfer) (s : State), s.core.up = true ∧ s.core.node.heatherEnd = none ∧
      s.core.mgmt.xfer = some x ∧ x.live = true ∧ s.core.slotState s.core.idleSlot = 2 ∧ ok = true ∧ x.id < 2 ^ 32 ∧
      r = s.core.imageResult (s.core.slot s.core.idleSlot) ∧ s.core.tickOpen = true ∧
      s.core.mayOriginate { kind := 9 } = true ∧ s.core.standby = false ∧ x.checker ≠ s.core.homeAddr ∧
      isMcast x.checker = false ∧ segOf x.checker = s.core.segmentOn 0 ∧ s.core.ring.lone = false ∧ s.core.joined 0 = true) ∧
  (∃ (lvl : Fin 4) (s : State), s.core.takes lvl (Reg.UPD_CMD) = true ∧ [5, 6, 8, 9].contains s.core.modeCode = true ∧
      ((s.core.slotState s.core.idleSlot = 3 ∨ s.core.slotState s.core.idleSlot = 8)) ∧ s.core.mgmt.trial = none ∧
      s.core.mgmt.activate = false ∧ s.core.holder = false ∧ s.core.offerOver = true ∧ s.core.pwr.dip = none ∧
      s.core.firmware = true ∧ s.core.tickOpen = true) ∧
  (∃ (lvl : Fin 4) (t : Trial) (e : Nat) (s : State), s.core.takes lvl (Reg.UPD_CMD) = true ∧ s.core.mgmt.trial = some t ∧
      t.ends = some e ∧ s.core.now < e ∧ s.core.pwr.dip = none ∧ ((t.slot = 0 ∧ t.prev = 1 ∨ t.slot = 1 ∧ t.prev = 0))) ∧
  (∃ (lvl : Fin 4) (t : Trial) (s : State), s.core.takes lvl (Reg.UPD_CMD) = true ∧ s.core.tickOpen = true ∧
      s.core.mgmt.trial = some t ∧ [5, 6, 8, 9].contains s.core.modeCode = true ∧ t.slot < 2) ∧
  (∃ (t : Trial) (e : Nat) (s : State), s.core.tickOpen = true ∧ s.core.up = true ∧ s.core.mgmt.trial = some t ∧
      t.ends = some e ∧ [5, 6, 8, 9].contains s.core.modeCode = true ∧ t.slot < 2) ∧
  (∃ (lvl : Fin 4) (s : State), s.core.takes lvl (Reg.UPD_CMD) = true ∧ s.core.mgmt.trial = none) :=
  ⟨⟨({ kind := 9, cls := 6, src := 0x402, okey := 0x402, dst := 0x403, payload := [1, 0, 0, 0, 5, 0, 0, 0] ++ leBytes 4 0 ++ leBytes 4 2016 ++ ([0x56, 0x58, 0x46, 0x57, 1, 0, 0x80, 0x12, 7, 0, 1, 2, 0, 0, 0, 0] ++ leBytes 4 1760 ++ leBytes 4 16) }
      : Frame).seal, ⟨[], [],
      { (opRun |>.setReg (Reg.RP_STATE 0) 5 |>.setReg (Reg.RP_STATE 1) 5 |>.setReg Reg.NODE_ADDR 0x403 |>.inforce Reg.SEGMENT 1) with ring := { home := { table := [{ addr := 0x402 }, { addr := 0x403 }] } } }⟩,
      by decide +kernel⟩,
  ⟨({ kind := 9, cls := 6, src := 0x402, okey := 0x402, dst := 0x403, payload := [1, 0, 0, 0, 5, 0, 0, 0] ++ leBytes 4 0 ++ leBytes 4 2016 ++ ([0x56, 0x58, 0x46, 0x57, 1, 0, 0x80, 0x12, 7, 0, 1, 2, 0, 0, 0, 0] ++ leBytes 4 1760 ++ leBytes 4 16) }
      : Frame).seal, ⟨[], [],
      { (opRun |>.setReg (Reg.RP_STATE 0) 5 |>.setReg (Reg.RP_STATE 1) 5 |>.setReg Reg.NODE_ADDR 0x403 |>.inforce Reg.SEGMENT 1 |>.setReg Reg.UPD_ALLOW 1) with ring := { home := { table := [{ addr := 0x402 }, { addr := 0x403 }] } } }⟩,
      by decide +kernel⟩,
  ⟨true, { id := 5, source := 0x402, total := 2016, header := [], erasing := true }, ⟨[], [],
      { (opRun |>.setReg (Reg.RP_STATE 0) 5 |>.setReg (Reg.RP_STATE 1) 5 |>.setReg Reg.NODE_ADDR 0x403 |>.inforce Reg.SEGMENT 1) with ring := { home := { table := [{ addr := 0x402 }, { addr := 0x403 }] } }, mgmt := { xfer := some { id := 5, source := 0x402, total := 2016, header := [], erasing := true } } }⟩,
      by decide +kernel⟩,
  ⟨false, { id := 5, source := 0x402, total := 2016, header := [], erasing := true }, ⟨[], [],
      { (opRun |>.setReg (Reg.RP_STATE 0) 5 |>.setReg (Reg.RP_STATE 1) 5 |>.setReg Reg.NODE_ADDR 0x403 |>.inforce Reg.SEGMENT 1) with ring := { home := { table := [{ addr := 0x402 }, { addr := 0x403 }] } }, mgmt := { xfer := some { id := 5, source := 0x402, total := 2016, header := [], erasing := true } } }⟩,
      by decide +kernel⟩,
  ⟨({ kind := 9, cls := 6, src := 0x402, okey := 0x402, dst := 0x403, payload := [2, 0, 0, 0, 5, 0, 0, 0] ++ leBytes 4 1008 ++ leBytes 4 1010 ++ [8, 9] }
      : Frame).seal, true, 1, { id := 5, source := 0x402, total := 1010, header := [], erasing := false }, ⟨[], [],
      { (opRun |>.setReg (Reg.RP_STATE 0) 5 |>.setReg (Reg.RP_STATE 1) 5 |>.setReg Reg.NODE_ADDR 0x403 |>.inforce Reg.SEGMENT 1 |>.setReg Reg.SLOT_STATE_B 1) with ring := { home := { table := [{ addr := 0x402 }, { addr := 0x403 }] } }, mgmt := { xfer := some { id := 5, source := 0x402, total := 1010, header := [], erasing := false } } }⟩,
      by decide +kernel⟩,
  ⟨({ kind := 9, cls := 6, src := 0x402, okey := 0x402, dst := 0x403, payload := [3, 0, 0, 0, 5, 0, 0, 0] ++ leBytes 4 0 ++ leBytes 4 2016 ++ [] }
      : Frame).seal, ⟨[], [],
      { (opRun |>.setReg (Reg.RP_STATE 0) 5 |>.setReg (Reg.RP_STATE 1) 5 |>.setReg Reg.NODE_ADDR 0x403 |>.inforce Reg.SEGMENT 1) with ring := { home := { table := [{ addr := 0x402 }, { addr := 0x403 }] } }, mgmt := { xfer := some { id := 5, source := 0x402, total := 2016, header := [], erasing := false } } }⟩,
      by decide +kernel⟩,
  ⟨({ kind := 9, cls := 6, src := 0x402, okey := 0x402, dst := 0x403, payload := [5, 0, 0, 0, 5, 0, 0, 0] ++ leBytes 4 0 ++ leBytes 4 2016 ++ [] }
      : Frame).seal, { id := 5, source := 0x402, total := 2016, header := [], erasing := false }, ⟨[], [],
      { (opRun |>.setReg (Reg.RP_STATE 0) 5 |>.setReg (Reg.RP_STATE 1) 5 |>.setReg Reg.NODE_ADDR 0x403 |>.inforce Reg.SEGMENT 1 |>.setReg Reg.SLOT_STATE_B 1) with ring := { home := { table := [{ addr := 0x402 }, { addr := 0x403 }] } }, mgmt := { xfer := some { id := 5, source := 0x402, total := 2016, header := [], erasing := false } } }⟩,
      by decide +kernel⟩,
  ⟨({ kind := 9, cls := 6, src := 0x402, okey := 0x402, dst := 0x403, payload := [5, 0, 0, 0, 5, 0, 0, 0] ++ leBytes 4 0 ++ leBytes 4 2016 ++ [] }
      : Frame).seal, { id := 5, source := 0x402, total := 2016, header := [], erasing := false, got := [1, 0] }, ⟨[], [],
      { (opRun |>.setReg (Reg.RP_STATE 0) 5 |>.setReg (Reg.RP_STATE 1) 5 |>.setReg Reg.NODE_ADDR 0x403 |>.inforce Reg.SEGMENT 1 |>.setReg Reg.SLOT_STATE_B 1) with ring := { home := { table := [{ addr := 0x402 }, { addr := 0x403 }] } }, mgmt := { xfer := some { id := 5, source := 0x402, total := 2016, header := [], erasing := false, got := [1, 0] } } }⟩,
      by decide +kernel⟩,
  ⟨true, 1, { id := 5, source := 0x402, total := 2016, header := [], erasing := false, got := [1, 0], checker := 0x402 }, ⟨[],
      [],
      { (opRun |>.setReg (Reg.RP_STATE 0) 5 |>.setReg (Reg.RP_STATE 1) 5 |>.setReg Reg.NODE_ADDR 0x403 |>.inforce Reg.SEGMENT 1 |>.setReg Reg.SLOT_STATE_B 2) with ring := { home := { table := [{ addr := 0x402 }, { addr := 0x403 }] } }, mgmt := { xfer := some { id := 5, source := 0x402, total := 2016, header := [], erasing := false, got := [1, 0], checker := 0x402 } } }⟩,
      by decide +kernel⟩,
  ⟨2, ⟨[], [], opRun |>.setReg Reg.SLOT_STATE_B 3⟩, by decide +kernel⟩,
  ⟨2, { slot := 1, prev := 0, ends := some 99999999999999 }, 99999999999999, ⟨[], [],
      { (opRun |>.setReg Reg.SLOT_STATE_B 6 |>.setReg Reg.FW_RUNNING 1) with mgmt := { slotB := { chunks := [(0, ([0x56, 0x58, 0x46, 0x57, 1, 0, 0x80, 0x12, 7, 0, 1, 2, 9, 0, 0, 0] ++ leBytes 4 1760 ++ leBytes 4 16))] }, trial := some { slot := 1, prev := 0, ends := some 99999999999999 } } }⟩,
      by decide +kernel⟩,
  ⟨2, { slot := 1, prev := 0, ends := some 9 }, ⟨[], [],
      { (opRun |>.setReg Reg.SLOT_STATE_B 6) with mgmt := { trial := some { slot := 1, prev := 0, ends := some 9 } } }⟩,
      by decide +kernel⟩,
  ⟨{ slot := 1, prev := 0, ends := some 9 }, 9, ⟨[], [],
      { (opRun |>.setReg Reg.SLOT_STATE_B 6) with mgmt := { trial := some { slot := 1, prev := 0, ends := some 9 } } }⟩,
      by decide +kernel⟩,
  ⟨2, ⟨[], [], opRun |>.setReg Reg.SLOT_STATE_B 3⟩, by decide +kernel⟩⟩

theorem meets_DestructiveRunsTestBanks :
  (∃ (lvl : Fin 4) (b : Nat) (s : State), s.core.takes lvl (Reg.RUN_CMD) = true ∧ s.core.runAllowed = true ∧
      s.core.reg Reg.RUN_STATE = 0 ∧ bitList 66 (leVal (s.core.blob Reg.RUN_BANKS)) = [b] ∧ b < 64 ∧
      (s.core.stLane 0).phase = .idle ∧ s.core.runCanTake b = true) ∧
  (∃ (lvl : Fin 4) (s : State), s.core.takes lvl (Reg.RUN_CMD) = true ∧ s.core.runAllowed = false) ∧
  (∃ (lvl : Fin 4) (s : State), s.core.takes lvl (Reg.RUN_CMD) = true ∧ s.core.reg Reg.RUN_STATE = 1 ∧
      (s.core.stLane 0).phase = .run ∧ (s.core.stLane 1).phase = .idle ∧ (s.core.stLane 0).since = s.core.now) ∧
  (∃ (lane : Fin 2) (_failWord : BitVec 16) (_sig : BitVec 32) (s : State), (s.core.stLane lane).phase = .clear ∧
      s.core.reg Reg.RUN_STATE = 2 ∧ (s.core.stLane (1 - lane.val)).phase = .idle ∧ s.core.test.queue = [] ∧
      (s.core.stLane lane).bank < 64) :=
  ⟨⟨2, 12, ⟨[], [],
      { (((opRun.setBlob Reg.RUN_BANKS (leBytes 9 (2 ^ 12))).setReg (Reg.BANK_OWNER 12) 2).setReg Reg.MODE 4) with node := { opRun.node with base := 4, ioHold := true } }⟩,
      by decide +kernel⟩,
  ⟨2, ⟨[], [], opRun |>.setReg Reg.MODE 5⟩, by decide +kernel⟩,
  ⟨2, ⟨[], [],
      { (opRun |>.setReg Reg.RUN_STATE 1) with test := { queue := [9], lanes := [(0, { bank := 12, phase := .run, grounds := [0], owner := 2 })] } }⟩,
      by decide +kernel⟩,
  ⟨0, 0xFFFF, 0, ⟨[], [(786432, 5), (900000, 7)],
      { (opRun |>.setReg Reg.RUN_STATE 2) with test := { lanes := [(0, { bank := 12, phase := .clear, grounds := [0], owner := 2 })] } }⟩,
      by decide +kernel⟩⟩

theorem meets_ModesAreEnteredAndLeft :
  (∃ (lvl : Fin 4) (s : State), s.core.takes lvl (Reg.MODE_CMD) = true ∧ [5, 6, 8, 9, 10].contains s.core.modeCode = true) ∧
  (∃ (t : Nat) (s : State), s.core.node.enterAt = some t ∧ s.core.node.updating = false ∧ s.core.mgmt.activate = false ∧
      s.core.twin.safeAt = none ∧ s.core.node.phase = .run ∧ s.core.time.newPeriod = none ∧ s.core.node.quietAt = [] ∧
      s.core.node.leaveAt = none ∧ s.core.tickOpen = true) ∧
  (∃ (lvl : Fin 4) (s : State), s.core.takes lvl (Reg.MODE_CMD) = true ∧ s.core.tickOpen = true ∧ s.core.modeCode = 3 ∧
      s.core.node.leaveAt = none) ∧
  (∃ (t : Nat) (s : State), s.core.node.leaveAt = some t ∧ s.core.node.phase = .run ∧ s.core.time.newPeriod = none ∧
      s.core.node.quietAt = [] ∧ s.core.node.enterAt = none ∧ s.core.tickOpen = true) ∧
  (∃ (lvl : Fin 4) (s : State), s.core.takes lvl (Reg.MODE_CMD) = true ∧ s.core.modeCode = 3 ∧ s.core.reg Reg.LC_STATE ≠ 2 ∧
      s.core.node.leaveAt = none ∧ s.core.node.updating = false) ∧
  (∃ (lvl : Fin 4) (s : State), s.core.takes lvl (Reg.MODE_CMD) = true ∧ s.core.modeCode = 4 ∧ s.core.reg Reg.RUN_STATE = 0) ∧
  (∃ (lvl : Fin 4) (s : State), s.core.takes lvl (Reg.MODE_CMD) = true ∧ ((s.core.modeCode = 5 ∨ s.core.modeCode = 6 ∨
      s.core.modeCode = 8)) ∧ s.core.flag Reg.TW_TOKEN = false) ∧
  (∃ (lvl : Fin 4) (s : State), s.core.takes lvl (Reg.MODE_CMD) = true ∧ s.core.modeCode = 5 ∧ s.core.inPair = true ∧
      s.core.flag Reg.TW_TOKEN = true) ∧
  (∃ (lvl : Fin 4) (s : State), s.core.takes lvl (Reg.MODE_CMD) = true ∧ s.core.node.quiescent = true) ∧
  (∃ (t : Nat) (on : Bool) (s : State), s.core.node.quietAt = [(on, t)] ∧ s.core.node.contested = false ∧
      s.core.node.phase = .run ∧ s.core.node.enterAt = none ∧ s.core.node.leaveAt = none ∧ s.core.tickOpen = true) ∧
  (∃ (s : State), s.core.up = true ∧ s.core.node.started = false ∧ s.core.node.bootLatched = 0 ∧
      s.core.flag Reg.AUTO_START = true ∧ s.core.reg Reg.CONFIG_RESULT = 0 ∧ s.core.node.base = 3 ∧
      s.core.node.leaveAt = none ∧ s.core.tickOpen = true) :=
  ⟨⟨2, ⟨[], [], opRun⟩, by decide +kernel⟩,
  ⟨5, ⟨[], [], { (opRun) with node := { opRun.node with enterAt := some 5 } }⟩, by decide +kernel⟩,
  ⟨2, ⟨[], [], { (opRun) with node := { opRun.node with base := 3, ioHold := true } } |>.setReg Reg.SEGMENT 3⟩,
      by decide +kernel⟩,
  ⟨5, ⟨[], [], { (opRun) with node := { opRun.node with base := 3, ioHold := true, leaveAt := some 5 } }⟩, by decide +kernel⟩,
  ⟨2, ⟨[], [], { (opRun) with node := { opRun.node with base := 3, ioHold := true } }⟩, by decide +kernel⟩,
  ⟨2, ⟨[], [], { (opRun) with node := { opRun.node with base := 4, ioHold := true } }⟩, by decide +kernel⟩,
  ⟨2, ⟨[], [], opRun⟩, by decide +kernel⟩,
  ⟨2, ⟨[], [], (((((((((opRun.setReg (Reg.RP_STATE 0) 5).setReg (Reg.RP_STATE 1) 5).setReg Reg.NODE_ADDR 0x403).inforce
      Reg.SEGMENT 1).inforce Reg.TW_ENABLE 1).inforce Reg.TW_SERVICE_ADDR 0x410).setReg Reg.TW_STATE 1).setReg Reg.TW_TOKEN
      1).setReg Reg.TW_PEER_ADDR 0x402).setReg Reg.TW_PATHS 2⟩, by decide +kernel⟩,
  ⟨2, ⟨[], [], { (opRun) with node := { opRun.node with quiescent := true } }⟩, by decide +kernel⟩,
  ⟨5, true, ⟨[], [], { (opRun) with node := { opRun.node with quietAt := [(true, 5)] } }⟩, by decide +kernel⟩,
  ⟨⟨[], [],
      { (opRun |>.setReg Reg.AUTO_START 1 |>.setReg Reg.CONFIG_RESULT 0) with node := { opRun.node with base := 3, ioHold := true } }⟩,
      by decide +kernel⟩⟩

theorem meets_ResetsAndTheBootSequence :
  (∃ (s : State), s.core.node.phase ≠ .reset) ∧
  (∃ (ns : Nat) (_still : Bool) (s : State), 1200 ≤ ns ∧ s.core.node.phase = .run) ∧
  (∃ (ns : Nat) (_still : Bool) (_s : State), ns ≤ 800) ∧
  (∃ (lvl : Fin 4) (s : State), s.core.takes lvl (Reg.RESET_CMD) = true) ∧
  (∃ (_low : BitVec 16) (_absent : Bool) (s : State), s.core.node.phase = .run) ∧
  (∃ (s : State), s.core.node.phase = .reset) ∧
  (∃ (_us : BitVec 32) (s : State), s.core.node.phase = .boot ∧ s.core.node.bootLatched < 3 ∧
      s.core.romPass s.core.mgmt.boot = true ∧ s.core.mgmt.trial = none ∧ s.core.mgmt.revertDue = none ∧
      s.core.node.copyA = {} ∧ s.core.node.copyB = {} ∧ s.core.node.enterAt = none ∧ s.core.node.leaveAt = none) ∧
  (∃ (_us : BitVec 32) (s : State), s.core.node.phase = .boot ∧ s.core.node.bootLatched = 3 ∧ s.core.mgmt.revertDue = none ∧
      s.core.node.enterAt = none ∧ s.core.node.leaveAt = none) :=
  ⟨⟨⟨[], [], { (opRun) with node := { opRun.node with phase := .off } }⟩, by decide +kernel⟩,
  ⟨1200, false, ⟨[], [], opRun⟩, by decide +kernel⟩,
  ⟨800, false, ⟨[], [], opRun⟩, by decide +kernel⟩,
  ⟨2, ⟨[], [], opRun⟩, by decide +kernel⟩,
  ⟨2900, true, ⟨[], [], opRun⟩, by decide +kernel⟩,
  ⟨⟨[], [], { (opRun) with node := { opRun.node with phase := .reset } }⟩, by decide +kernel⟩,
  ⟨0x10000, ⟨[], [], { node := { phase := .boot, strapNode := 3 } }⟩, by decide +kernel⟩,
  ⟨0x10000, ⟨[], [], { node := { phase := .boot, bootLatched := 3 } }⟩, by decide +kernel⟩⟩

theorem meets_CopiesAreSavedAndTestInstructionsLoaded :
  (∃ (lvl : Fin 4) (s : State), s.core.takes lvl (Reg.CFG_CMD) = true ∧ s.core.node.saving = none) ∧
  (∃ (ok : Bool) (b : Bool) (x : CfgCopy) (s : State), s.core.node.saving = some (b, x) ∧ s.core.firmware = true ∧
      s.core.pwr.dip = none ∧ ok = true) ∧
  (∃ (ok : Bool) (b : Bool) (x : CfgCopy) (s : State), s.core.node.saving = some (b, x) ∧ s.core.firmware = true ∧
      s.core.pwr.dip = none ∧ ok = false ∧ s.core.tickOpen = true) ∧
  (∃ (lvl : Fin 4) (s : State), s.core.takes lvl (Reg.CFG_CMD) = true ∧ s.core.pwr.dip = none ∧ s.core.firmware = true) ∧
  (∃ (ns : Nat) (_still : Bool) (x : CfgCopy) (s : State), 1200 ≤ ns ∧ s.core.node.phase = .run ∧
      s.core.node.saving = some (true, x)) :=
  ⟨⟨2, ⟨[], [], opRun⟩, by decide +kernel⟩,
  ⟨true, true, { gen := 4, valid := true, empty := false }, ⟨[], [],
      { (opRun |>.setReg Reg.CFG_SAVE_STATE 1) with node := { opRun.node with saving := some (true, { gen := 4, valid := true, empty := false }) } }⟩,
      by decide +kernel⟩,
  ⟨false, true, { gen := 4, valid := true, empty := false }, ⟨[], [],
      { (opRun |>.setReg Reg.CFG_SAVE_STATE 1) with node := { opRun.node with saving := some (true, { gen := 4, valid := true, empty := false }) } }⟩,
      by decide +kernel⟩,
  ⟨2, ⟨[], [], { (opRun) with node := { opRun.node with copyA := { gen := 4, valid := true, empty := false } } }⟩,
      by decide +kernel⟩,
  ⟨1300, true, { gen := 4, valid := true, empty := false }, ⟨[], [],
      { (opRun) with node := { opRun.node with saving := some (true, { gen := 4, valid := true, empty := false }), copyA := { gen := 4, valid := true, empty := false } } }⟩,
      by decide +kernel⟩⟩

theorem meets_MemoryStaysCanonical :
    ∃ s t : State, s.Safe ∧ step s = .next t :=
  ⟨{ State.reset with mem := [(5, 1), (9, 2)] }, _, by unfold State.Safe; decide, rfl⟩

theorem meets_ResetReturnsEveryObject :
    ∃ (i : Instr) (s : State), s.core.node.phase = .run ∧ (i = .powerOn ∨ ∃ ns still, i = .resetN ns still ∧ 1200 ≤ ns) :=
  ⟨.powerOn, ⟨[], [], opRun⟩, rfl, .inl rfl⟩

theorem meets_CapabilityObjectsRefuseWrites :
    (∃ (lvl : Fin 4) (obj : Fin 65536) (mb : Fin 256) (s : State), obj.val < 256 ∧ s.core.up = true ∧ s.core.dict.queue = [] ∧
    s.core.engineHeld = false ∧ (findMember obj.val mb.val lvl.val).1 = 0) ∧
  ∃ (r : Req) (rest : List Req) (l : Nat) (s : State), s.core.dict.queue = r :: rest ∧ r.cmd = 2 ∧ r.obj < 256 ∧
    s.core.up = true ∧ s.core.engineHeld = false ∧ s.core.reqLevel r = some l ∧ s.core.keptReq r = none ∧
    (findMember r.obj r.mem l).1 = 0 :=
  ⟨⟨3, 0x10, 1, ⟨[], [], opRun⟩, by decide +kernel⟩,
    ⟨ownReq 2 2 0x1001 [1], [], 2, ⟨[], [], { opRun with dict := { queue := [ownReq 2 2 0x1001 [1]] } }⟩, by decide +kernel⟩⟩

theorem meets_WrittenValuesAreChecked :
    (∃ (lvl : Fin 4) (obj : Fin 65536) (mb : Fin 256) (data : Bytes) (x : MemRow) (s : State),
    findMember obj.val mb.val lvl.val = (0, x) ∧ x.isBytes = false ∧ s.core.takes lvl (obj.val * 256 + mb.val) = true ∧
    8 * data.length ≠ x.ty.bits) ∧
  ∃ (lvl : Fin 4) (obj : Fin 65536) (mb : Fin 256) (data : Bytes) (x : MemRow) (s : State),
    findMember obj.val mb.val lvl.val = (0, x) ∧ x.isBytes = false ∧ s.core.takes lvl (obj.val * 256 + mb.val) = true ∧
    8 * data.length = x.ty.bits ∧ x.inRange obj.val (x.number data) = false :=
  ⟨⟨2, 0xB008, 1, [1], (findMember 0xB008 1 2).2, ⟨[], [], opRun⟩, by decide +kernel⟩,
    ⟨2, 0xB008, 1, [9, 0], (findMember 0xB008 1 2).2, ⟨[], [], opRun⟩, by decide +kernel⟩⟩

theorem meets_PlainWritesReplaceOneMember :
    ∃ (lvl : Fin 4) (obj : Fin 65536) (mb : Fin 256) (data : Bytes) (x : MemRow) (s : State),
    s.core.takes lvl (obj.val * 256 + mb.val) = true ∧ findMember obj.val mb.val lvl.val = (0, x) ∧ x.isBytes = false ∧
    x.acc ≠ .rwt ∧ x.valueStatus obj.val data = 0 ∧ plainObject obj.val = true :=
  ⟨2, 0xB008, 1, [10, 0], (findMember 0xB008 1 2).2, ⟨[], [], opRun⟩, by decide +kernel⟩

theorem meets_BusOffEndsByRecovery :
    (∃ (lvl : Fin 4) (n : Fin 32) (s : State), s.core.takes lvl (Reg.CAN_CMD n) = true ∧ s.core.reg (Reg.CAN_STATE n) = 3) ∧
  (∃ (n : Fin 32) (s : State), s.core.fieldRuns = true ∧ s.core.reg (Reg.CAN_STATE n) = 4 ∧
    bits (s.core.cfg (Reg.CAN_MODE n)) 1 0 ≠ 0 ∧ s.core.canConflict n = false ∧
    s.core.ev.limited.contains (0x200 + n.val, 4) = false ∧ s.core.ev.opened.length < 512 ∧
    (match s.core.ev.closed with | some k => tickAhead s.core.tick k | none => true) = true) ∧
  ∃ (lvl : Fin 4) (n : Fin 32) (s : State), s.core.takes lvl (Reg.CAN_CMD n) = true ∧ s.core.reg (Reg.CAN_STATE n) ≠ 3 :=
  ⟨⟨2, 5, ⟨[], [], opRun.setReg (Reg.CAN_STATE 5) 3⟩, by decide +kernel⟩,
    ⟨31, ⟨[], [], (opRun.setReg (Reg.CAN_STATE 31) 4).inforce (Reg.CAN_MODE 31) 1⟩, by decide +kernel⟩, ⟨1, 0, ⟨[], [], opRun⟩, by decide +kernel⟩⟩

theorem meets_OnlyStoringCommandsChangeMemory :
    ∃ (i : Instr) (s t : State), stores i = false ∧ exec i s = .next t :=
  ⟨.jtagBypass, State.reset, _, rfl, rfl⟩

theorem meets_StoresStayInsideTheirBytes :
    (∃ s t : State, exec (.routeTableWrite 3 []) s = .next t) ∧ (∃ s t : State, exec (.mappingEntryWrite 3 []) s = .next t) ∧
  (∃ s t : State, exec (.fabricWrite {} none) s = .next t) ∧
  (∃ s t : State, s.core.routeBanks ≤ 40 ∧ exec (.mapperInputItem none) s = .next t) ∧
  ∃ s t : State, (s.core.stLane 0).bank < 66 ∧ exec (.runBankDone 0 0 0) s = .next t :=
  ⟨⟨State.reset, _, rfl⟩, ⟨State.reset, _, rfl⟩, ⟨State.reset, _, rfl⟩, ⟨State.reset, _, by decide +kernel, rfl⟩,
    ⟨State.reset, _, by decide +kernel, rfl⟩⟩

theorem meets_LinkCommandsKeepTheRest :
    ∃ (i : Instr) (s t : State), family i = .link ∧ s.core.settled = true ∧ exec i s = .next t :=
  ⟨.trackAgeExpiry, State.reset, _, rfl, rfl, rfl⟩

theorem meets_FieldCommandsKeepTheRest :
    ∃ (i : Instr) (s t : State), family i = .field ∧ s.core.settled = true ∧ exec i s = .next t :=
  ⟨.canSof 0, State.reset, _, rfl, rfl, rfl⟩

theorem meets_FabricCommandsKeepTheRest :
    ∃ (i : Instr) (s t : State), family i = .fabric ∧ s.core.settled = true ∧ exec i s = .next t :=
  ⟨.mvDescEnd 0, State.reset, _, rfl, rfl, rfl⟩

theorem meets_PlantCommandsKeepTheRest :
    ∃ (i : Instr) (s t : State), family i = .plant ∧ s.core.settled = true ∧ exec i s = .next t :=
  ⟨.vbatRise, State.reset, _, rfl, rfl, rfl⟩

theorem meets_RegisterRowsKeepTheRest :
    ∃ (i : Instr) (s t : State), family i = .register ∧ s.core.settled = true ∧ exec i s = .next t :=
  ⟨.fcAck 1 0, State.reset, _, rfl, rfl, rfl⟩

theorem meets_OtherInstancesStay :
    (∃ (i : Instr) (s t : State), s.core.settled = true ∧ exec i s = .next t ∧ chanOf i = some 127) ∧
  (∃ (i : Instr) (s t : State), s.core.settled = true ∧ exec i s = .next t ∧ canOf i = some 31) ∧
  (∃ (i : Instr) (s t : State), s.core.settled = true ∧ exec i s = .next t ∧ engOf i = some 63) ∧
  ∃ (i : Instr) (s t : State), s.core.settled = true ∧ exec i s = .next t ∧ railOf i = some 15 :=
  ⟨⟨.chBreak 127, State.reset, _, rfl, rfl, rfl⟩, ⟨.canSof 31, State.reset, _, rfl, rfl, rfl⟩,
    ⟨.engDelay 63, State.reset, _, rfl, rfl, rfl⟩, ⟨.inrushEnd 15, State.reset, _, rfl, rfl, rfl⟩⟩

end Sys2Proof.Machine
end

/-! SUPPORT. How the dictionary engine answers a request (R59, R62, R67, R89, R90) and why a capability object refuses every write
(R9): the rows of the object tables below 0x0100, the refusal of a write of a read-only member, what the end of a request may
change, and the way of a WRITE from the queue or a register command to its answer. -/

namespace Sys2Proof.Machine

/-! The rows of the object tables. -/

theorem mem_of_objFind {o : Nat} {x : ObjRow} : ∀ {rows : List ObjRow}, objFind o rows = some x → x ∈ rows
  | [], h => nomatch h
  | r :: rs, h => by
    unfold objFind at h
    split at h
    · obtain rfl := Option.some.inj h
      exact List.mem_cons_self
    · exact List.mem_cons_of_mem _ (mem_of_objFind h)

/-- A row found for an object belongs to a piece that begins at the object or below. -/
theorem exists_piece_of_objLookup {o : Nat} {x : ObjRow} : ∀ {ps : List ObjPiece}, objLookup o ps = some x →
    ∃ p ∈ ps, p.lo ≤ o ∧ x ∈ p.rows
  | [], h => nomatch h
  | p :: ps, h => by
    have later (g : objLookup o ps = some x) : ∃ q ∈ p :: ps, q.lo ≤ o ∧ x ∈ q.rows := by
      obtain ⟨q, hq, hx⟩ := exists_piece_of_objLookup g
      exact ⟨q, List.mem_cons_of_mem _ hq, hx⟩
    unfold objLookup at h
    split at h
    · next hp =>
      simp only [Bool.and_eq_true, Nat.ble_eq] at hp
      split at h
      · next r hr =>
        obtain rfl := Option.some.inj h
        exact ⟨p, List.mem_cons_self, hp.1, mem_of_objFind hr⟩
      · exact later h
    · exact later h

theorem mem_of_memFind {mb : Nat} {x : MemRow} : ∀ {rows : List MemRow}, memFind mb rows = some x → x ∈ rows
  | [], h => nomatch h
  | r :: rs, h => by
    unfold memFind at h
    split at h
    · obtain rfl := Option.some.inj h
      exact List.mem_cons_self
    · exact List.mem_cons_of_mem _ (mem_of_memFind h)

/-- R8: every member of a piece that begins below 0x0100 has access RO. -/
theorem capability_pieces_ro : ∀ p ∈ objTable, p.lo < 256 → ∀ x ∈ p.rows, ∀ y ∈ x.members, y.acc = .ro := by
  decide

/-- R8, R34: every row that the engine finds below 0x0100 has access RO, a descriptor's among them. -/
theorem findMember_capability_ro {o : Nat} (mb lvl : Nat) (ho : o < 256) : (findMember o mb lvl).2.acc = .ro := by
  unfold findMember
  split
  · rfl
  · split
    · rfl
    · next x hx =>
      split
      · rfl
      · split
        · next y hy =>
          obtain ⟨p, hp, hlo, hrow⟩ := exists_piece_of_objLookup hx
          exact capability_pieces_ro p hp (by omega) x hrow y (mem_of_memFind hy)
        · rfl

/-! The refusal of a write of a read-only member. -/

theorem Core.accessStatus_write_ro (c : Core) (o lvl : Nat) {x : MemRow} (h : x.acc = .ro) :
    c.accessStatus o lvl x true = 3 := by
  simp [Core.accessStatus, h]

theorem Core.dictWrite_ro (m : Memory) (c : Core) (r : Req) (lvl : Nat) {x : MemRow} (h : x.acc = .ro) :
    Core.dictWrite m c r lvl x = refuseReq m c r 3 := by
  simp [Core.dictWrite, c.accessStatus_write_ro r.obj lvl h]

theorem Core.slotWrite_ro (m : Memory) (c : Core) (r : Req) (lvl : Nat) {x : MemRow} (off n : Nat) (h : x.acc = .ro) :
    Core.slotWrite m c r lvl x off n = refuseReq m c r 3 := by
  simp [Core.slotWrite, c.accessStatus_write_ro r.obj lvl h]

/-- R9: a WRITE of an existing member of a capability object is refused READ_ONLY, as a request or through its slot. -/
theorem Core.dictCommand_capability_write (m : Memory) (c : Core) {r : Req} {lvl : Nat} (hc : r.cmd = 2) (ho : r.obj < 256)
    (hm : (findMember r.obj r.mem lvl).1 = 0) : Core.dictCommand m c r lvl = refuseReq m c r 3 := by
  have ro := findMember_capability_ro r.mem lvl ho
  unfold Core.dictCommand
  simp only [hc, hm, Nat.reduceEqDiff, if_false, if_true, ne_eq, not_true_eq_false]
  split
  · exact Core.slotWrite_ro m c r lvl _ _ ro
  · exact Core.dictWrite_ro m c r lvl ro

/-! The end of a request, in the five parts of `Core.conclude`. -/

/-- R90: the counters. -/
def Core.countOutcome (c : Core) (r : Req) (o : DictOut) (posted : Bool) : Core :=
  (((c.inc (if o.status != 0 then Reg.STAT_RSP_ERR else Reg.STAT_RSP_OK)).incIf (o.status == 0x0C) Reg.STAT_BUSY).incIf
    (r.cmd == 4 && (o.status == 0x0F || o.status == 0x10)) Reg.STAT_TOKEN_FAIL).incIf (o.status != 0 && posted)
    Reg.STAT_POSTED_ERR

/-- R89, R90: LAST_ERROR. -/
def Core.noteRefusal (c : Core) (r : Req) (o : DictOut) : Core :=
  if o.status != 0 && c.recorded r o.status then c.lastError o.status r.cmd r.obj r.mem (c.reqSource r) else c

/-- R67: the replay entry. -/
def Core.storeOutcome (c : Core) (r : Req) (o : DictOut) (posted : Bool) : Core :=
  if c.inSession r && !r.mcast && !c.silentUnit r && !(o.status == 1 || o.status == 2 || o.status == 0x0C) then
    c.keepAnswer r o posted else c

/-- R527: the pair's journal. -/
def Core.journalOutcome (c : Core) (r : Req) (o : DictOut) : Core :=
  if !(o.status != 0) && c.forPair r && imageObject r.obj && (r.cmd == 2 || (r.cmd == 7 && r.f.last)) then
    c.twJournal 0 r.f else c

/-- R59, R65, R66: the answer, on a local path or as a DICT_RSP. -/
def Core.deliverOutcome (c : Core) (r : Req) (o : DictOut) (posted : Bool) : Core :=
  if r.lvl.isSome then
    { c with dict := { c.dict with answer := some { cmd := r.cmd, key := r.key, status := o.status, data := o.data } } }
  else if posted || r.mcast then c
  else c.sendRsp r (r.answer o) o.segm o.last (if r.cmd == 4 && !(o.status != 0) && c.forPair r then o.sess else 0xFFFF)

theorem Core.conclude_eq (c : Core) (r : Req) (o : DictOut) :
    c.conclude r o = ((((c.countOutcome r o (r.posted || c.silentUnit r)).noteRefusal r o).storeOutcome r o
      (r.posted || c.silentUnit r)).journalOutcome r o).deliverOutcome r o (r.posted || c.silentUnit r) := rfl

/-! The counters. -/

theorem Core.reg_inc (c : Core) (k j : Nat) : (c.inc j).reg k = if k = j then satAdd32 (c.reg j) 1 else c.reg k :=
  c.reg_setReg k j _

theorem Core.reg_inc_of_ne (c : Core) {k j : Nat} (h : k ≠ j) : (c.inc j).reg k = c.reg k := by rw [c.reg_inc, if_neg h]

theorem Core.reg_incIf_of_ne (c : Core) (b : Bool) {k j : Nat} (h : k ≠ j) : (c.incIf b j).reg k = c.reg k := by
  unfold Core.incIf
  split
  · exact c.reg_inc_of_ne h
  · rfl

@[simp] theorem Core.incIf_blobs (c : Core) (b : Bool) (k : Nat) : (c.incIf b k).blobs = c.blobs := by
  unfold Core.incIf
  split <;> rfl

@[simp] theorem Core.incIf_dict (c : Core) (b : Bool) (k : Nat) : (c.incIf b k).dict = c.dict := by
  unfold Core.incIf
  split <;> rfl

theorem Core.countOutcome_reg (c : Core) (r : Req) (o : DictOut) (p : Bool) {k : Nat} (h : ∀ y ∈ answerKeys, ¬ y.has k) :
    (c.countOutcome r o p).reg k = c.reg k := by
  simp only [answerKeys, List.forall_mem_cons, KeySet.has] at h
  unfold Core.countOutcome
  rw [Core.reg_incIf_of_ne _ _ (by omega), Core.reg_incIf_of_ne _ _ (by omega), Core.reg_incIf_of_ne _ _ (by omega),
    Core.reg_inc_of_ne _ (by split <;> omega)]

theorem Core.countOutcome_rspErr (c : Core) (r : Req) {o : DictOut} (p : Bool) (h : o.status ≠ 0) :
    (c.countOutcome r o p).reg Reg.STAT_RSP_ERR = satAdd32 (c.reg Reg.STAT_RSP_ERR) 1 := by
  unfold Core.countOutcome
  rw [Core.reg_incIf_of_ne _ _ (by decide), Core.reg_incIf_of_ne _ _ (by decide), Core.reg_incIf_of_ne _ _ (by decide),
    if_pos (by simpa using h), c.reg_inc, if_pos rfl]

@[simp] theorem Core.countOutcome_blobs (c : Core) (r : Req) (o : DictOut) (p : Bool) :
    (c.countOutcome r o p).blobs = c.blobs := by
  simp [Core.countOutcome]

@[simp] theorem Core.countOutcome_dict (c : Core) (r : Req) (o : DictOut) (p : Bool) :
    (c.countOutcome r o p).dict = c.dict := by
  simp [Core.countOutcome]

/-! LAST_ERROR. -/

theorem Core.lastError_reg (c : Core) (status cmd obj mem src : Nat) {k : Nat} (h : ∀ y ∈ answerKeys, ¬ y.has k) :
    (c.lastError status cmd obj mem src).reg k = c.reg k := by
  simp only [answerKeys, List.forall_mem_cons, KeySet.has] at h
  simp [Core.lastError, h]

theorem Core.lastError_rspErr (c : Core) (status cmd obj mem src : Nat) :
    (c.lastError status cmd obj mem src).reg Reg.STAT_RSP_ERR = c.reg Reg.STAT_RSP_ERR := by
  simp [Core.lastError]

theorem Core.lastError_status (c : Core) (status cmd obj mem src : Nat) :
    (c.lastError status cmd obj mem src).reg Reg.ERR_STATUS = status := by
  simp [Core.lastError]

theorem Core.noteRefusal_reg (c : Core) (r : Req) (o : DictOut) {k : Nat} (h : ∀ y ∈ answerKeys, ¬ y.has k) :
    (c.noteRefusal r o).reg k = c.reg k := by
  unfold Core.noteRefusal
  split
  · exact c.lastError_reg _ _ _ _ _ h
  · rfl

theorem Core.noteRefusal_rspErr (c : Core) (r : Req) (o : DictOut) :
    (c.noteRefusal r o).reg Reg.STAT_RSP_ERR = c.reg Reg.STAT_RSP_ERR := by
  unfold Core.noteRefusal
  split
  · exact c.lastError_rspErr _ _ _ _ _
  · rfl

theorem Core.noteRefusal_status (c : Core) (r : Req) {o : DictOut} (h : o.status ≠ 0) (hr : c.recorded r o.status = true) :
    (c.noteRefusal r o).reg Reg.ERR_STATUS = o.status := by
  unfold Core.noteRefusal
  rw [if_pos (by simp [h, hr])]
  exact c.lastError_status _ _ _ _ _

@[simp] theorem Core.noteRefusal_blobs (c : Core) (r : Req) (o : DictOut) : (c.noteRefusal r o).blobs = c.blobs := by
  unfold Core.noteRefusal
  split <;> rfl

/-! The replay entry and the journal. -/

@[simp] theorem Core.keepAnswer_regs (c : Core) (r : Req) (o : DictOut) (p : Bool) : (c.keepAnswer r o p).regs = c.regs := by
  unfold Core.keepAnswer
  split <;> rfl

@[simp] theorem Core.keepAnswer_blobs (c : Core) (r : Req) (o : DictOut) (p : Bool) : (c.keepAnswer r o p).blobs = c.blobs := by
  unfold Core.keepAnswer
  split <;> rfl

theorem Core.twJournal_reg (c : Core) (inst : Nat) (f : Frame) {k : Nat} (h : k ∉ reportKeys) (hj : k ≠ Reg.JSEQ_LAST) :
    (c.twJournal inst f).reg k = c.reg k := by
  unfold Core.twJournal Core.nextJseq
  split
  · rfl
  · dsimp only
    rw [Core.twSend_reg _ _ _ h, Core.reg_setReg, if_neg hj]

@[simp] theorem Core.twJournal_blobs (c : Core) (inst : Nat) (f : Frame) : (c.twJournal inst f).blobs = c.blobs := by
  unfold Core.twJournal Core.nextJseq
  split <;> simp

@[simp] theorem Core.storeOutcome_regs (c : Core) (r : Req) (o : DictOut) (p : Bool) : (c.storeOutcome r o p).regs = c.regs := by
  unfold Core.storeOutcome
  split
  · exact c.keepAnswer_regs r o p
  · rfl

@[simp] theorem Core.storeOutcome_blobs (c : Core) (r : Req) (o : DictOut) (p : Bool) :
    (c.storeOutcome r o p).blobs = c.blobs := by
  unfold Core.storeOutcome
  split
  · exact c.keepAnswer_blobs r o p
  · rfl

theorem Core.storeOutcome_reg (c : Core) (r : Req) (o : DictOut) (p : Bool) (k : Nat) :
    (c.storeOutcome r o p).reg k = c.reg k := by
  simp [Core.reg]

theorem Core.journalOutcome_reg (c : Core) (r : Req) (o : DictOut) {k : Nat} (h : k ∉ reportKeys) (hj : k ≠ Reg.JSEQ_LAST) :
    (c.journalOutcome r o).reg k = c.reg k := by
  unfold Core.journalOutcome
  split
  · exact c.twJournal_reg _ _ h hj
  · rfl

@[simp] theorem Core.journalOutcome_blobs (c : Core) (r : Req) (o : DictOut) : (c.journalOutcome r o).blobs = c.blobs := by
  unfold Core.journalOutcome
  split
  · exact c.twJournal_blobs _ _
  · rfl

/-! The answer. -/

theorem Core.sendRsp_keeps (c : Core) (r : Req) (payload : Bytes) (segm last : Bool) (note : Nat) :
    c.Keeps (c.sendRsp r payload segm last note) :=
  (c.make_keeps 5 4 r.f.src 0 c.tick false segm last payload note).trans (Core.originate_keeps _ _ _)

theorem Core.deliverOutcome_reg (c : Core) (r : Req) (o : DictOut) (p : Bool) {k : Nat} (h : k ∉ reportKeys) :
    (c.deliverOutcome r o p).reg k = c.reg k := by
  unfold Core.deliverOutcome
  split
  · rfl
  · split
    · rfl
    · exact (c.sendRsp_keeps _ _ _ _ _).2.1 k h

@[simp] theorem Core.deliverOutcome_blobs (c : Core) (r : Req) (o : DictOut) (p : Bool) :
    (c.deliverOutcome r o p).blobs = c.blobs := by
  unfold Core.deliverOutcome
  split
  · rfl
  · split
    · rfl
    · exact (c.sendRsp_keeps _ _ _ _ _).blobs

/-! The end of a request as a whole. -/

/-- R90: beside what the engine counts and records, and the reports, the end of a request changes no register. -/
theorem Core.conclude_reg (c : Core) (r : Req) (o : DictOut) {k : Nat} (h : k ∉ reportKeys)
    (ha : ∀ y ∈ answerKeys, ¬ y.has k) : (c.conclude r o).reg k = c.reg k := by
  rw [c.conclude_eq, Core.deliverOutcome_reg _ _ _ _ h,
    Core.journalOutcome_reg _ _ _ h (ha (.one Reg.JSEQ_LAST) (by simp [answerKeys])), Core.storeOutcome_reg,
    Core.noteRefusal_reg _ _ _ ha, Core.countOutcome_reg _ _ _ _ ha]

@[simp] theorem Core.conclude_blob (c : Core) (r : Req) (o : DictOut) (k : Nat) : (c.conclude r o).blob k = c.blob k := by
  rw [c.conclude_eq]
  simp [Core.blob]

/-- R90: a refusal counts in STAT_RSP_ERR. -/
theorem Core.conclude_rspErr (c : Core) (r : Req) {o : DictOut} (h : o.status ≠ 0) :
    (c.conclude r o).reg Reg.STAT_RSP_ERR = satAdd32 (c.reg Reg.STAT_RSP_ERR) 1 := by
  rw [c.conclude_eq, Core.deliverOutcome_reg _ _ _ _ (by decide), Core.journalOutcome_reg _ _ _ (by decide) (by decide),
    Core.storeOutcome_reg, Core.noteRefusal_rspErr, Core.countOutcome_rspErr _ _ _ h]

/-- R89: a refusal that is recorded leaves its status in LAST_ERROR. -/
theorem Core.conclude_errStatus (c : Core) (r : Req) {o : DictOut} (h : o.status ≠ 0) (hr : c.recorded r o.status = true) :
    (c.conclude r o).reg Reg.ERR_STATUS = o.status := by
  rw [c.conclude_eq, Core.deliverOutcome_reg _ _ _ _ (by decide), Core.journalOutcome_reg _ _ _ (by decide) (by decide),
    Core.storeOutcome_reg, Core.noteRefusal_status _ _ h (by simpa [Core.recorded] using hr)]

/-- R59: a request of the node's own side finds its answer on the local path. -/
theorem Core.conclude_answer (c : Core) {r : Req} (o : DictOut) (h : r.lvl.isSome = true) :
    (c.conclude r o).dict.answer = some { cmd := r.cmd, key := r.key, status := o.status, data := o.data } := by
  rw [c.conclude_eq]
  unfold Core.deliverOutcome
  rw [if_pos h]

/-! The run of a request. -/

theorem Core.session_setSession (c : Core) {n : Nat} {s : Session} (h : c.session n = some s) (x : Session) :
    (c.setSession n x).session n = some x := by
  unfold Core.session Core.setSession at *
  generalize c.dict.sessions = l at h ⊢
  induction l with
  | nil => simp at h
  | cons e l ih =>
    by_cases he : e.1 = n
    · simp [he]
    · simpa [he] using ih (by simpa [he] using h)

@[simp] theorem Core.touchSession_regs (c : Core) (r : Req) : (c.touchSession r).regs = c.regs := by
  unfold Core.touchSession
  repeat' split
  all_goals rfl

@[simp] theorem Core.touchSession_blobs (c : Core) (r : Req) : (c.touchSession r).blobs = c.blobs := by
  unfold Core.touchSession
  repeat' split
  all_goals rfl

@[simp] theorem Core.touchSession_node (c : Core) (r : Req) : (c.touchSession r).node = c.node := by
  unfold Core.touchSession
  repeat' split
  all_goals rfl

/-- A session that has received a request keeps its source and its replay entries (R54). -/
@[simp] theorem Core.touchSession_keptReq (c : Core) (r : Req) : (c.touchSession r).keptReq r = c.keptReq r := by
  unfold Core.touchSession
  split
  · split
    · next s hs => simp [Core.keptReq, Core.inSession, c.session_setSession hs, hs]
    · rfl
  · rfl

/-- A request that is executed and that its command refuses with `st`: memory stays, and the request ends (R62). -/
theorem Core.runReq_refused (m : Memory) (c : Core) {r : Req} {lvl st : Nat} (hup : c.up = true) (hc : 1 ≤ r.cmd ∧ r.cmd ≤ 8)
    (hm : r.mcast = true → r.cmd = 2) (hl : c.reqLevel r = some lvl) (hk : c.keptReq r = none)
    (h : Core.dictCommand m (c.touchSession r) r lvl = refuseReq m (c.touchSession r) r st) :
    Core.runReq m c r = (m, (c.touchSession r).conclude r { status := st, sess := r.sess }) := by
  have up : (c.touchSession r).up = true := by simpa [Core.up] using hup
  unfold Core.runReq
  rw [if_neg (by simpa using hm), if_neg (by omega), hl]
  simp [hk, h, DictRes.finish, refuseReq, up]

/-- R9: a WRITE of a capability object that the engine executes ends READ_ONLY. -/
theorem Core.runReq_capability_write (m : Memory) (c : Core) {r : Req} {lvl : Nat} (hup : c.up = true) (hc : r.cmd = 2)
    (ho : r.obj < 256) (hl : c.reqLevel r = some lvl) (hk : c.keptReq r = none) (hm : (findMember r.obj r.mem lvl).1 = 0) :
    Core.runReq m c r = (m, (c.touchSession r).conclude r { status := 3, sess := r.sess }) :=
  Core.runReq_refused m c hup (by omega) (fun _ => hc) hl hk (Core.dictCommand_capability_write m _ hc ho hm)

/-- The core with another queue of requests: what taking a request from the queue leaves. -/
def Core.setQueue (c : Core) (q : List Req) : Core := { c with dict := { c.dict with queue := q } }

@[simp] theorem Core.setQueue_regs (c : Core) (q : List Req) : (c.setQueue q).regs = c.regs := rfl
@[simp] theorem Core.setQueue_blobs (c : Core) (q : List Req) : (c.setQueue q).blobs = c.blobs := rfl

/-- The request at the head of the queue of a free engine is executed under its own command row. -/
theorem Core.runHead_eq_runReq (m : Memory) {c : Core} {r : Req} {rest : List Req} (hq : c.dict.queue = r :: rest)
    (hup : c.up = true) (he : c.engineHeld = false) :
    Core.runHead m c r.cmd = Core.runReq m (c.setQueue rest) r := by
  unfold Core.runHead Core.setQueue
  simp [hq, hup, he]

/-! The request of a register command. -/

theorem ownReq_cmd (lvl key : Nat) (data : Bytes) {cmd : Nat} (h : cmd < 256) : (ownReq lvl cmd key data).cmd = cmd := by
  simp [Req.cmd, ownReq, dictReqBytes, fieldAt, slice, leBytes, leVal, Nat.mod_eq_of_lt h]

theorem ownReq_sess (lvl cmd key : Nat) (data : Bytes) : (ownReq lvl cmd key data).sess = 0 := by
  simp [Req.sess, ownReq, dictReqBytes, fieldAt, slice, leBytes, leVal]

theorem ownReq_obj (lvl cmd : Nat) (data : Bytes) {key : Nat} (h : key < 0x1000000) :
    (ownReq lvl cmd key data).obj = key / 256 := by
  simp only [Req.obj, ownReq, dictReqBytes, fieldAt, slice, leBytes, List.cons_append, List.nil_append, List.drop_succ_cons,
    List.drop_zero, List.take_succ_cons, List.take_zero, leVal, BitVec.toNat_ofNat]
  omega

theorem ownReq_mem (lvl cmd key : Nat) (data : Bytes) : (ownReq lvl cmd key data).mem = key % 256 := by
  simp [Req.mem, ownReq, dictReqBytes, fieldAt, slice, leBytes, leVal]

theorem ownReq_key (lvl cmd : Nat) (data : Bytes) {key : Nat} (h : key < 0x1000000) : (ownReq lvl cmd key data).key = key := by
  rw [Req.key, ownReq_obj _ _ _ h, ownReq_mem, Nat.mul_comm, Nat.div_add_mod]

/-- A request of the node's own side belongs to no session, so that none is kept of it (R58, R67). -/
theorem Core.keptReq_ownReq (c : Core) (lvl cmd key : Nat) (data : Bytes) : c.keptReq (ownReq lvl cmd key data) = none := by
  simp [Core.keptReq, Core.inSession, ownReq]

theorem Core.reqLevel_ownReq (c : Core) (lvl cmd key : Nat) (data : Bytes) :
    c.reqLevel (ownReq lvl cmd key data) = some lvl := rfl

theorem Core.touchSession_ownReq (c : Core) (lvl cmd key : Nat) (data : Bytes) :
    c.touchSession (ownReq lvl cmd key data) = c := by
  simp [Core.touchSession, Core.inSession, ownReq]

/-- R63: a request of the node's own side is counted and executed at once by a free engine with an empty queue. -/
theorem Core.ownRun_eq_runReq (m : Memory) {c : Core} (lvl cmd key : Nat) (data : Bytes) (hup : c.up = true)
    (hq : c.dict.queue = []) (he : c.engineHeld = false) :
    Core.ownRun m c lvl cmd key data = Core.runReq m (c.inc Reg.STAT_REQ) (ownReq lvl cmd key data) := by
  have free : (c.inc Reg.STAT_REQ).engineHeld = false := he
  unfold Core.ownRun Core.queueFull
  simp [hup, hq, free, b2n]

/-- A command that may store to memory answers the state with the memory and core that its meaning gives. -/
theorem answers_onMem {i : Instr} {s : State} {f : Memory → Core → Memory × Core} {m : Memory} {c : Core} {P : State → Prop}
    (hi : exec i s = onMem f s) (hf : f s.mem s.core = (m, c)) (h : P { s with mem := m, core := c }) : Answers i s P :=
  ⟨_, by rw [hi, onMem_next, hf], h⟩

theorem exec_registerWrite (lvl : Fin 4) (obj : Fin 65536) (mb : Fin 256) (data : Bytes) (s : State) :
    exec (.registerWrite lvl obj mb data) s = onMem (fun m c => Core.writeBytes m c lvl (obj * 256 + mb) data) s := rfl

theorem exec_dictWrite (s : State) : exec .dictWrite s = onMem (fun m c => Core.runHead m c 2) s := rfl

/-! R9. -/

/-- The objects 0x0000 to 0x00FF hold none of the registers that reports or the engine's counters change. -/
theorem capability_key_apart {k : Nat} (h : k / 256 < 256) : k ∉ reportKeys ∧ ∀ y ∈ answerKeys, ¬ y.has k := by
  have report : ∀ j ∈ reportKeys, 65536 ≤ j := by decide
  have answer : ∀ y ∈ answerKeys, ∃ j, y = .one j ∧ 65536 ≤ j := by simp [answerKeys]
  refine ⟨fun hk => ?_, fun y hy hk => ?_⟩
  · have := report k hk
    omega
  · obtain ⟨j, rfl, hj⟩ := answer y hy
    obtain rfl : k = j := hk
    omega

/-- A request that ends leaves the objects 0x0000 to 0x00FF as they were. -/
theorem Core.conclude_capability (c : Core) (r : Req) (o : DictOut) {k : Nat} (h : k / 256 < 256) :
    (c.conclude r o).reg k = c.reg k ∧ (c.conclude r o).blob k = c.blob k :=
  have ⟨hr, ha⟩ := capability_key_apart h
  ⟨c.conclude_reg r o hr ha, c.conclude_blob r o k⟩

/-- R9: a register write of a capability object that the engine takes at once ends READ_ONLY. -/
theorem Core.writeBytes_capability (m : Memory) (c : Core) {lvl key : Nat} (data : Bytes) (ho : key / 256 < 256)
    (hup : c.up = true) (hq : c.dict.queue = []) (he : c.engineHeld = false)
    (hm : (findMember (key / 256) (key % 256) lvl).1 = 0) :
    Core.writeBytes m c lvl key data = (m, (c.inc Reg.STAT_REQ).conclude (ownReq lvl 2 key data) { status := 3, sess := 0 }) := by
  have object : (ownReq lvl 2 key data).obj = key / 256 := ownReq_obj _ _ _ (by omega)
  have run := Core.runReq_capability_write m (c.inc Reg.STAT_REQ) hup (ownReq_cmd lvl key data (by decide)) (object ▸ ho)
    (Core.reqLevel_ownReq _ _ _ _ _) (Core.keptReq_ownReq _ _ _ _ _) (by rw [object, ownReq_mem]; exact hm)
  unfold Core.writeBytes
  rw [Core.ownRun_eq_runReq m _ _ _ _ hup hq he, run, Core.touchSession_ownReq, ownReq_sess]

/-- R9 for a register write with no request before it. -/
theorem registerWrite_capability (lvl : Fin 4) (obj : Fin 65536) (mb : Fin 256) (data : Bytes) (s : State) (ho : obj.val < 256)
    (hup : s.core.up = true) (hq : s.core.dict.queue = []) (he : s.core.engineHeld = false)
    (hm : (findMember obj.val mb.val lvl.val).1 = 0) :
    Answers (.registerWrite lvl obj mb data) s (fun t =>
      t.core.dict.answer.any (fun a => a.cmd == 2 && a.key == obj.val * 256 + mb.val && a.status == 3) = true ∧
      ∀ k, k / 256 < 256 → t.core.reg k = s.core.reg k ∧ t.core.blob k = s.core.blob k) := by
  have hb := mb.isLt
  have hobj : (obj.val * 256 + mb.val) / 256 = obj.val := by omega
  have hmem : (obj.val * 256 + mb.val) % 256 = mb.val := by omega
  have run := Core.writeBytes_capability s.mem s.core data (hobj.symm ▸ ho) hup hq he (by rw [hobj, hmem]; exact hm)
  refine answers_onMem (exec_registerWrite lvl obj mb data s) run ⟨?_, fun k hk => ?_⟩
  · rw [Core.conclude_answer _ _ rfl]
    simp [ownReq_cmd, ownReq_key _ _ _ (show obj.val * 256 + mb.val < 0x1000000 by omega)]
  · obtain ⟨hreg, hblob⟩ := (s.core.inc Reg.STAT_REQ).conclude_capability (ownReq lvl 2 (obj.val * 256 + mb.val) data)
      { status := 3, sess := 0 } hk
    have hreq : k ≠ Reg.STAT_REQ := (capability_key_apart hk).2 (.one Reg.STAT_REQ) (by simp [answerKeys])
    exact ⟨hreg.trans (s.core.reg_inc_of_ne hreq), hblob⟩

/-- R9 for a WRITE request at the head of the queue. -/
theorem dictWrite_capability (r : Req) (rest : List Req) (l : Nat) (s : State) (hq : s.core.dict.queue = r :: rest)
    (hc : r.cmd = 2) (ho : r.obj < 256) (hup : s.core.up = true) (he : s.core.engineHeld = false)
    (hl : s.core.reqLevel r = some l) (hk : s.core.keptReq r = none) (hm : (findMember r.obj r.mem l).1 = 0) :
    Answers .dictWrite s (fun t => t.core.reg Reg.STAT_RSP_ERR = satAdd32 (s.core.reg Reg.STAT_RSP_ERR) 1 ∧
      (r.lvl = none → s.core.recorded r 3 = true → t.core.reg Reg.ERR_STATUS = 3) ∧
      ∀ k, k / 256 < 256 → t.core.reg k = s.core.reg k ∧ t.core.blob k = s.core.blob k) := by
  have run : Core.runHead s.mem s.core 2 =
      (s.mem, ((s.core.setQueue rest).touchSession r).conclude r { status := 3, sess := r.sess }) := by
    rw [← hc, Core.runHead_eq_runReq s.mem hq hup he]
    exact Core.runReq_capability_write s.mem (s.core.setQueue rest) hup hc ho hl hk hm
  have reg (k : Nat) : ((s.core.setQueue rest).touchSession r).reg k = s.core.reg k := by simp [Core.reg]
  have blob (k : Nat) : ((s.core.setQueue rest).touchSession r).blob k = s.core.blob k := by simp [Core.blob]
  refine answers_onMem (exec_dictWrite s) run ⟨?_, fun _ _ => ?_, fun k hk => ?_⟩
  · rw [Core.conclude_rspErr _ _ (show 3 ≠ 0 by decide), reg]
  · exact Core.conclude_errStatus _ _ (show 3 ≠ 0 by decide) (by simp [Core.recorded])
  · obtain ⟨hreg, hblob⟩ := ((s.core.setQueue rest).touchSession r).conclude_capability r { status := 3, sess := r.sess } hk
    exact ⟨hreg.trans (reg k), hblob.trans (blob k)⟩

/-- Settles O49: every row below 0x0100 has access RO, so that a write of one is refused READ_ONLY, and the end of a request
changes none of those objects. -/
theorem capabilityObjectsRefuseWrites : Obligations.CapabilityObjectsRefuseWrites :=
  ⟨registerWrite_capability, dictWrite_capability⟩

end Sys2Proof.Machine

/-! SUPPORT. The refusal of INJECT.INJ_ARM in the mode with code 2 (R224), and a state in which it meets the conditions
of O12 on INJ_ARM. -/

namespace Sys2Proof.Machine

/-- R224: in the mode with code 2, that of BOOT, a write of INJ_ARM arms nothing. -/
theorem Core.injArm_of_modeCode_two {c : Core} {v : Nat} (hv : v ≠ 0) (hm : c.modeCode = 2) : c.injArm v = (8, c) := by
  simp [Core.injArm, hv, hm]

theorem findMember_injArm (lvl : Nat) : findMember 0x1430 4 lvl = (0, ⟨4, 4, .bool, .wo, 2, 0, 0, 1, 0, 0, 0⟩) := rfl

/-- A write of 1 to INJ_ARM by the node's own side. -/
def armReq (lvl : Nat) : Req := ownReq lvl 2 Reg.INJ_ARM (leBytes 1 1)

theorem armReq_slot (lvl : Nat) : (armReq lvl).slot = none := by
  have options : fieldAt (armReq lvl).f.payload 7 1 = 0 := rfl
  simp [Req.slot, options, bits]

/-- R62: INJ_ARM is WO and no setting, so that from level 2 on no mode bars its access. -/
theorem Core.accessStatus_injArm (c : Core) {lvl : Nat} (hl : 2 ≤ lvl) :
    c.accessStatus 0x1430 lvl (findMember 0x1430 4 lvl).2 true = 0 := by
  simp [Core.accessStatus, Core.writeBarred, findMember_injArm, Nat.not_lt.mpr hl]

theorem Core.ownWrite_armReq (m : Memory) {c : Core} (lvl : Nat) (hm : c.modeCode = 2) :
    Core.ownWrite m c (armReq lvl) lvl (findMember 0x1430 4 lvl).2 (armReq lvl).data = { st := 8, mem := m, core := c } := by
  have obj : (armReq lvl).obj = 0x1430 := rfl
  have mem : (armReq lvl).mem = 4 := rfl
  have number : MemRow.number (findMember 0x1430 4 lvl).2 (armReq lvl).data = 1 := rfl
  have arm := Core.injArm_of_modeCode_two Nat.one_ne_zero hm
  unfold Core.ownWrite
  rw [obj, mem, number]
  simp [findMember_injArm, MemRow.isBytes, Core.ownNumber, Core.ownLow, arm]

/-- R62, R224: the request to arm ends MODE. -/
theorem Core.dictCommand_armReq (m : Memory) {c : Core} {lvl : Nat} (hl : 2 ≤ lvl) (hm : c.modeCode = 2) :
    Core.dictCommand m c (armReq lvl) lvl = refuseReq m c (armReq lvl) 8 := by
  have cmd : (armReq lvl).cmd = 2 := rfl
  have obj : (armReq lvl).obj = 0x1430 := rfl
  have mem : (armReq lvl).mem = 4 := rfl
  have found : (findMember 0x1430 4 lvl).1 = 0 := rfl
  have put : Core.putValue m c (armReq lvl) lvl (findMember 0x1430 4 lvl).2 (armReq lvl).data = refuseReq m c (armReq lvl) 8 := by
    simp [Core.putValue, Core.ownWrite_armReq m lvl hm, Core.valueOrder]
  simp [Core.dictCommand, cmd, obj, mem, found, armReq_slot, Core.dictWrite, c.accessStatus_injArm hl, put]

/-- R63, R224: a write of 1 to INJ_ARM that a free engine takes at once is answered MODE. -/
theorem Core.writeNum_injArm (m : Memory) {c : Core} {lvl : Nat} (hup : c.up = true) (hq : c.dict.queue = [])
    (he : c.engineHeld = false) (hl : 2 ≤ lvl) (hm : c.modeCode = 2) :
    Core.writeNum m c lvl Reg.INJ_ARM 1 = (m, (c.inc Reg.STAT_REQ).conclude (armReq lvl) { status := 8, sess := 0 }) := by
  have run := Core.runReq_refused m (c.inc Reg.STAT_REQ) (r := armReq lvl) hup (show 1 ≤ 2 ∧ 2 ≤ 8 by decide) (fun _ => rfl)
    (Core.reqLevel_ownReq _ _ _ _ _) (Core.keptReq_ownReq _ _ _ _ _) (Core.dictCommand_armReq m hl (c := _) (by exact hm))
  exact (Core.ownRun_eq_runReq m lvl 2 Reg.INJ_ARM (leBytes 1 1) hup hq he).trans run

/-- R224: an arm that is refused leaves INJ_LEFT as it was. -/
theorem injArm_next_injLeft {lvl : Fin 4} {s t : State} (hup : s.core.up = true) (hq : s.core.dict.queue = [])
    (he : s.core.engineHeld = false) (hl : 2 ≤ lvl.val) (hm : s.core.modeCode = 2) (h : exec (.injArm lvl) s = .next t) :
    t.core.reg Reg.INJ_LEFT = s.core.reg Reg.INJ_LEFT := by
  have row : exec (.injArm lvl) s = onMem (fun m c => Core.writeNum m c lvl Reg.INJ_ARM 1) s := rfl
  rw [row, onMem_next, Core.writeNum_injArm s.mem hup hq he hl hm] at h
  obtain rfl := Host.Outcome.next.inj h
  dsimp only
  rw [Core.conclude_reg _ _ _ (by decide) (by simp [answerKeys, KeySet.has]), Core.reg_inc_of_ne _ (by decide)]

/-- Refutes O12: its clause on INJ_ARM leaves the base mode open. In a state with base mode 2, which no command of the model sets, MODE
is 2, INJ_ARM is refused MODE (R224), and INJ_LEFT stays 0 where the clause has it take INJ_COUNT. -/
theorem not_scheduleTableTakesAndLoads : ¬ Obligations.ScheduleTableTakesAndLoads := by
  rintro ⟨-, -, -, -, -, -, arm, -⟩
  obtain ⟨t, next, left, -, -⟩ := arm 3
    ⟨[], [], (({ node := { phase := .run, base := 2 } } : Core).setReg Reg.INJ_TARGET 2).setReg Reg.INJ_COUNT 5⟩
    (by decide +kernel) (by decide +kernel) (by decide +kernel) (by decide +kernel) (by decide +kernel) rfl rfl
  have kept := injArm_next_injLeft (by rfl) (by rfl) (by rfl) (by decide) (by rfl) next
  exact absurd (kept.symm.trans left) (by decide +kernel)

end Sys2Proof.Machine

/-! SUPPORT. Every command is one of the three lifts, so that it answers a next state and leaves the queue of commands as it was;
the step runs the front command. -/

namespace Sys2Proof.Machine

/-- No command faults or is refused, and none touches the queue of commands. -/
theorem exec_next (i : Instr) (s : State) : ∃ m c, exec i s = .next { s with mem := m, core := c } := by
  cases i <;> exact ⟨_, _, rfl⟩

theorem exec_keeps_pending (i : Instr) (s : State) : Answers i s (fun t => t.pending = s.pending) := by
  obtain ⟨m, c, h⟩ := exec_next i s
  exact ⟨_, h, rfl⟩

/-- Settles O44: `step` is defined by the front of the queue. -/
theorem stepRunsTheFrontCommand : Obligations.StepRunsTheFrontCommand := fun _ _ _ => rfl

/-- Settles O45: a command leaves the queue as it finds it, and the step has taken the front command off before it runs it. -/
theorem everyStepCompletes : Obligations.EveryStepCompletes := by
  refine ⟨exec_keeps_pending, fun s => ?_⟩
  obtain ⟨pending, mem, core⟩ := s
  cases pending with
  | nil => exact ⟨_, rfl, rfl⟩
  | cons i rest => exact exec_keeps_pending i ⟨rest, mem, core⟩

end Sys2Proof.Machine

/-! SUPPORT. A register write of a plain member (R42, R62): its owner stores the value and does nothing else; the way of the write
through the engine; what the end of an accepted request of the node's own side leaves. -/

namespace Sys2Proof.Machine

/-! The owners of plain objects: every branch of an owner before its last one is for an object that `plainObject` leaves out. -/

section
variable (m : Memory) (c : Core) (lvl : Nat) {o mb : Nat} (v raw src : Nat) (req : Option Req) (hm : mb < 256)
  (h : plainObject o = true)

include hm h in
theorem Core.ownLow_plain (ho : o < 0x2000) :
    Core.ownLow m c lvl o mb v = { st := 0, mem := m, core := c.setReg (o * 256 + mb) v } := by
  simp [plainObject, ho, Bool.eq_false_iff, -Bool.not_eq_true] at h
  unfold Core.ownLow
  iterate 10 rw [if_neg (by omega)]

include h in
theorem Core.ownField_plain (ho : 0x2000 ≤ o ∧ o < 0x6000) :
    Core.ownField m c o mb v raw = { st := 0, mem := m, core := c.setReg (o * 256 + mb) v } := by
  unfold plainObject at h
  rw [if_neg (by omega)] at h
  unfold Core.ownField
  dsimp only
  by_cases channel : o < 0x3000
  · rw [if_pos channel] at h ⊢
    simp at h
    iterate 2 rw [if_neg (by omega)]
  rw [if_neg channel] at h ⊢
  by_cases controller : o < 0x3200
  · rw [if_pos controller] at h ⊢
    simp at h
    iterate 3 rw [if_neg (by omega)]
  rw [if_neg controller] at h ⊢
  by_cases engine : o < 0x3800
  · rw [if_pos engine] at h ⊢
    simp at h
    iterate 5 rw [if_neg (by omega)]
  rw [if_neg engine] at h ⊢
  by_cases discrete : o < 0x4100
  · rw [if_pos discrete] at h ⊢
    simp at h
    iterate 2 rw [if_neg (by omega)]
  rw [if_neg discrete, if_pos ho.2] at h
  simp [Bool.eq_false_iff, -Bool.not_eq_true] at h
  iterate 5 rw [if_neg (by omega)]

include hm h in
theorem Core.ownFabric_plain (ho : 0x6000 ≤ o ∧ o < 0x8000) :
    Core.ownFabric m c o mb v req = { st := 0, mem := m, core := c.setReg (o * 256 + mb) v } := by
  unfold plainObject at h
  iterate 6 rw [if_neg (by omega)] at h
  rw [if_pos ho.2] at h
  simp [Bool.eq_false_iff, -Bool.not_eq_true] at h
  unfold Core.ownFabric
  iterate 10 rw [if_neg (by omega)]

include hm h in
theorem Core.ownHigh_plain (ho : 0x8000 ≤ o) :
    Core.ownHigh m c o mb v src = { st := 0, mem := m, core := c.setReg (o * 256 + mb) v } := by
  unfold plainObject at h
  iterate 7 rw [if_neg (by omega)] at h
  simp [Bool.eq_false_iff, -Bool.not_eq_true] at h
  unfold Core.ownHigh
  dsimp only
  iterate 14 rw [if_neg (by omega)]
  rfl

include hm h in
/-- The owner of a plain object stores the value, whatever the level and the requester. -/
theorem Core.ownNumber_plain :
    Core.ownNumber m c lvl o mb v raw req = { st := 0, mem := m, core := c.setReg (o * 256 + mb) v } := by
  unfold Core.ownNumber
  split
  · next low => exact Core.ownLow_plain m c lvl v hm h low
  · split
    · next field => exact Core.ownField_plain m c v raw h (by omega)
    · split
      · next fabric => exact Core.ownFabric_plain m c v req hm h (by omega)
      · next high => exact Core.ownHigh_plain m c v _ hm h (by omega)

end

/-! What the audit of a write may change. -/

theorem Core.audit_keeps (c : Core) (lvl o mb : Nat) (bs : Bytes) : c.Keeps (c.audit lvl o mb bs) := by
  unfold Core.audit
  split
  · exact c.logNote_keeps _ _
  · exact c.keeps_refl

/-- The parts of a core that frames compare do not show what reports may change. -/
theorem Core.Keeps.same {c d : Core} (h : c.Keeps d) (p : CorePart) : p.same c d := by
  cases p
  case free => exact h.free
  case inForce => exact h.inForce
  case time => exact h.time
  case sched => exact h.sched
  case node => exact h.node
  case dict => exact h.dict
  case ring => exact h.ring
  case fwd => exact congrArg Core.fwd h.1
  case sw => exact congrArg Core.sw h.1
  case integ => exact h.integ
  case fc => exact congrArg (fun x : Core => { x.fc with limited := [] }) h.1
  case chans => exact h.chans
  case cans => exact h.cans
  case fcLatch => exact h.fcLatch
  case engs => exact h.engs
  case disc => exact h.disc
  case meas => exact h.meas
  case map => exact h.map
  case fab => exact h.fab
  case lhp => exact h.lhp
  case twin => exact congrArg Core.twin h.1
  case pwr => exact h.pwr
  case mgmt => exact h.mgmt
  case test => exact h.test
  case jtag => exact h.jtag

/-! The way of the write through the engine. -/

theorem Core.valueOrder_ok (c : Core) {x : MemRow} {o : Nat} {bs : Bytes} (hv : x.valueStatus o bs = 0)
    (hp : c.ownerPaused o = false) : c.valueOrder x o bs 0 = 0 := by
  simp [Core.valueOrder, hv, hp]

theorem Core.putValue_plain (m : Memory) (c : Core) {r : Req} (lvl : Nat) {x : MemRow} {bs : Bytes} (hm : r.mem < 256)
    (hb : x.isBytes = false) (ht : x.acc ≠ .rwt) (hv : x.valueStatus r.obj bs = 0) (hp : c.ownerPaused r.obj = false)
    (h : plainObject r.obj = true) :
    Core.putValue m c r lvl x bs =
      ⟨{ status := 0, sess := r.sess }, m, (c.setReg r.key (x.number bs)).audit lvl r.obj r.mem bs⟩ := by
  have own : Core.ownWrite m c r lvl x bs = { st := 0, mem := m, core := c.setReg r.key (x.number bs) } := by
    unfold Core.ownWrite
    rw [if_neg ht, if_neg (by simp [hb])]
    exact Core.ownNumber_plain m c lvl _ _ _ hm h
  unfold Core.putValue
  simp [own, c.valueOrder_ok hv hp, ht]

theorem ownReq_data (lvl cmd key : Nat) (data : Bytes) : (ownReq lvl cmd key data).data = data := by
  simp [Req.data, ownReq, dictReqBytes, leBytes, zeros]

theorem ownReq_slot (lvl cmd key : Nat) (data : Bytes) : (ownReq lvl cmd key data).slot = none := by
  have options : fieldAt (ownReq lvl cmd key data).f.payload 7 1 = 0 := by
    simp [ownReq, dictReqBytes, fieldAt, slice, leBytes, leVal]
  simp [Req.slot, options, bits]

/-- A WRITE of the node's own side that may be made goes to its value's checks and effect (R62). -/
theorem Core.dictCommand_ownWrite (m : Memory) {c : Core} {lvl key : Nat} (data : Bytes) {x : MemRow} (hkey : key < 0x1000000)
    (hf : findMember (key / 256) (key % 256) lvl = (0, x)) (ha : c.accessStatus (key / 256) lvl x true = 0) :
    Core.dictCommand m c (ownReq lvl 2 key data) lvl = Core.putValue m c (ownReq lvl 2 key data) lvl x data := by
  unfold Core.dictCommand
  simp [ownReq_cmd, ownReq_obj _ _ _ hkey, ownReq_mem, hf, ownReq_slot, Core.dictWrite, ha, ownReq_data]

/-- A request of the node's own side is executed whatever sessions are open (R58, R62). -/
theorem Core.runReq_ownReq (m : Memory) (c : Core) (lvl key : Nat) (data : Bytes) {cmd : Nat} (hc : 1 ≤ cmd ∧ cmd ≤ 8) :
    Core.runReq m c (ownReq lvl cmd key data) =
      (Core.dictCommand m c (ownReq lvl cmd key data) lvl).finish (ownReq lvl cmd key data) := by
  have command := ownReq_cmd lvl key data (cmd := cmd) (by omega)
  have unicast : (ownReq lvl cmd key data).mcast = false := rfl
  unfold Core.runReq
  rw [if_neg (by simp [unicast]), if_neg (by omega), Core.reqLevel_ownReq]
  simp [Core.touchSession_ownReq, Core.keptReq_ownReq]

/-- R59, R90: an accepted request of the node's own side is counted and leaves its answer on the local path; nothing else. -/
theorem Core.conclude_own_ok (c : Core) {r : Req} {o : DictOut} (hr : r.lvl.isSome = true) (ho : o.status = 0) :
    c.conclude r o = { c.inc Reg.STAT_RSP_OK with
      dict := { c.dict with answer := some { cmd := r.cmd, key := r.key, status := 0, data := o.data } } } := by
  have level : r.lvl.isNone = false := by cases hl : r.lvl <;> simp_all
  simp [Core.conclude, ho, hr, Core.incIf, Core.inSession, Core.forPair, level]

theorem Core.accessStatus_inc_statReq (c : Core) (o lvl : Nat) (x : MemRow) (w : Bool) :
    (c.inc Reg.STAT_REQ).accessStatus o lvl x w = c.accessStatus o lvl x w := by
  unfold Core.accessStatus Core.writeBarred
  rw [Core.reg_inc_of_ne _ (by decide)]
  rfl

theorem Core.ownerPaused_inc_statReq (c : Core) (o : Nat) : (c.inc Reg.STAT_REQ).ownerPaused o = c.ownerPaused o := by
  unfold Core.ownerPaused
  rw [Core.reg_inc_of_ne _ (by decide)]

/-- What it takes for the engine to take a write of an existing member at once. -/
theorem Core.takes_iff {c : Core} {lvl key : Nat} {x : MemRow} (hf : findMember (key / 256) (key % 256) lvl = (0, x)) :
    c.takes lvl key = true ↔ c.up = true ∧ c.dict.queue = [] ∧ c.engineHeld = false ∧
      c.accessStatus (key / 256) lvl x true = 0 ∧ c.ownerPaused (key / 256) = false := by
  simp [Core.takes, hf, and_assoc]

/-- What an accepted register write of a plain member leaves of the core: the request is counted, the value v stored and audited,
the answer OK. -/
def Core.plainWritten (c : Core) (lvl key v : Nat) (data : Bytes) : Core :=
  (((c.inc Reg.STAT_REQ).setReg key v).audit lvl (key / 256) (key % 256) data).conclude (ownReq lvl 2 key data)
    { status := 0, sess := 0 }

/-- R62, R63: a register write of a plain member that the engine takes. -/
theorem Core.writeBytes_plain (m : Memory) {c : Core} {lvl key : Nat} {data : Bytes} {x : MemRow} (hkey : key < 0x1000000)
    (hf : findMember (key / 256) (key % 256) lvl = (0, x)) (hc : c.takes lvl key = true) (hb : x.isBytes = false)
    (ht : x.acc ≠ .rwt) (hv : x.valueStatus (key / 256) data = 0) (h : plainObject (key / 256) = true) :
    Core.writeBytes m c lvl key data = (m, c.plainWritten lvl key (x.number data) data) := by
  obtain ⟨up, free, held, access, runs⟩ := (Core.takes_iff hf).mp hc
  have object := ownReq_obj lvl 2 data hkey
  have put := Core.putValue_plain m (c.inc Reg.STAT_REQ) (r := ownReq lvl 2 key data) lvl (x := x) (bs := data)
    (by rw [ownReq_mem]; omega) hb ht (object ▸ hv) (by rw [Core.ownerPaused_inc_statReq, object]; exact runs) (object ▸ h)
  rw [ownReq_key _ _ _ hkey, object, ownReq_mem, ownReq_sess] at put
  have stillUp : (((c.inc Reg.STAT_REQ).setReg key (x.number data)).audit lvl (key / 256) (key % 256) data).up = true := by
    unfold Core.up
    rw [(Core.audit_keeps _ _ _ _ _).node]
    exact up
  unfold Core.writeBytes
  rw [Core.ownRun_eq_runReq m _ _ _ _ up free held, Core.runReq_ownReq m _ _ _ _ (by decide),
    Core.dictCommand_ownWrite m data hkey hf (by rw [Core.accessStatus_inc_statReq]; exact access), put]
  simp [DictRes.finish, stillUp, Core.plainWritten]

/-! What the write leaves. -/

section
variable (c : Core) (lvl v : Nat) (data : Bytes) {key : Nat}

theorem Core.plainWritten_reg_self (hr : key ∉ reportKeys) (ha : ∀ y ∈ answerKeys, ¬ y.has key) :
    (c.plainWritten lvl key v data).reg key = v := by
  unfold Core.plainWritten
  rw [Core.conclude_reg _ _ _ hr ha, (Core.audit_keeps _ _ _ _ _).2.1 _ hr, Core.reg_setReg, if_pos rfl]

theorem Core.plainWritten_reg_of_ne {k : Nat} (hk : k ≠ key) (hr : k ∉ reportKeys) (ha : ∀ y ∈ answerKeys, ¬ y.has k) :
    (c.plainWritten lvl key v data).reg k = c.reg k := by
  unfold Core.plainWritten
  rw [Core.conclude_reg _ _ _ hr ha, (Core.audit_keeps _ _ _ _ _).2.1 _ hr, Core.reg_setReg, if_neg hk]
  exact c.reg_inc_of_ne (ha (.one Reg.STAT_REQ) (by simp [answerKeys]))

theorem Core.plainWritten_blob (k : Nat) : (c.plainWritten lvl key v data).blob k = c.blob k := by
  unfold Core.plainWritten
  rw [Core.conclude_blob]
  simp [Core.blob, (Core.audit_keeps _ _ _ _ _).blobs]

theorem Core.plainWritten_wroteOk (h : key < 0x1000000) : (c.plainWritten lvl key v data).wroteOk key = true := by
  unfold Core.plainWritten Core.wroteOk
  rw [Core.conclude_answer _ _ rfl]
  simp [ownReq_cmd, ownReq_key _ _ _ h]

theorem Core.plainWritten_same {p : CorePart} (hp : p ≠ .dict) : p.same c (c.plainWritten lvl key v data) := by
  have same := (Core.audit_keeps ((c.inc Reg.STAT_REQ).setReg key v) lvl (key / 256) (key % 256) data).same p
  unfold Core.plainWritten
  rw [Core.conclude_own_ok _ rfl rfl]
  cases p
  case dict => exact absurd rfl hp
  all_goals exact same

end

/-! A member that may be written is none of the engine's counts. -/

/-- The member with key k is read-only. -/
abbrev ReadOnlyAt (lvl k : Nat) : Prop :=
  (findMember (k / 256) (k % 256) lvl).2.acc = .ro ∨ (findMember (k / 256) (k % 256) lvl).2.acc = .rc

theorem reportKeys_readOnly : ∀ lvl : Fin 4, ∀ k ∈ reportKeys, ReadOnlyAt lvl k := by decide

theorem answerKeys_readOnly (lvl : Fin 4) : ∀ y ∈ answerKeys, ∃ k, y = .one k ∧ ReadOnlyAt lvl k := by
  simp only [answerKeys, List.forall_mem_cons, KeySet.one.injEq, exists_eq_left', List.not_mem_nil, false_implies,
    implies_true, and_true]
  revert lvl
  decide

theorem Core.accessStatus_write_readOnly (c : Core) (o lvl : Nat) {x : MemRow} (h : x.acc = .ro ∨ x.acc = .rc) :
    c.accessStatus o lvl x true = 3 := by
  simp [Core.accessStatus, h]

/-- A member that may be written is none of those that reports and the engine's counters change. -/
theorem writable_key_apart {c : Core} {lvl : Fin 4} {k : Nat} {x : MemRow} (hf : findMember (k / 256) (k % 256) lvl = (0, x))
    (ha : c.accessStatus (k / 256) lvl x true = 0) : k ∉ reportKeys ∧ ∀ y ∈ answerKeys, ¬ y.has k := by
  have writable : ¬ ReadOnlyAt lvl k := fun h => by
    rw [ReadOnlyAt, hf] at h
    simp [c.accessStatus_write_readOnly _ _ h] at ha
  refine ⟨fun hk => writable (reportKeys_readOnly lvl k hk), fun y hy hk => ?_⟩
  obtain ⟨j, rfl, hj⟩ := answerKeys_readOnly lvl y hy
  obtain rfl : k = j := hk
  exact writable hj

/-- Settles O51: the owner of a plain object stores the value alone, the audit and the answer change only what they may, and a
member that may be written is none of the registers that they count in. -/
theorem plainWritesReplaceOneMember : Obligations.PlainWritesReplaceOneMember := by
  intro lvl obj mb data x s hc hf hb ht hv h
  have row := exec_registerWrite lvl obj mb data s
  have hmb := mb.isLt
  have hobj := obj.isLt
  generalize hkey : obj.val * 256 + mb.val = key at hc row ⊢
  obtain ⟨ho, hm, small⟩ : obj.val = key / 256 ∧ mb.val = key % 256 ∧ key < 0x1000000 := by omega
  rw [ho] at hf hv h
  rw [hm] at hf
  obtain ⟨-, -, -, access, -⟩ := (Core.takes_iff hf).mp hc
  obtain ⟨report, answer⟩ := writable_key_apart hf access
  exact answers_onMem row (Core.writeBytes_plain s.mem small hf hc hb ht hv h)
    ⟨s.core.plainWritten_reg_self _ _ _ report answer, s.core.plainWritten_wroteOk _ _ _ small,
      fun _ hk hr ha => s.core.plainWritten_reg_of_ne _ _ _ hk hr ha, s.core.plainWritten_blob _ _ _,
      fun _ hp => s.core.plainWritten_same _ _ _ hp, fun _ => rfl⟩

end Sys2Proof.Machine

/-! SUPPORT. States in which statements about the dictionary engine fail: a queue that a held request fills, an injection at a staging
bank, safe state, and a clash of session numbers at a standby. -/

namespace Sys2Proof.Machine

theorem core_of_onMem {i : Instr} {s t : State} {f : Memory → Core → Memory × Core} (hi : exec i s = onMem f s)
    (h : exec i s = .next t) : t.core = (f s.mem s.core).2 := by
  rw [hi, onMem_next] at h
  exact (Host.Outcome.next.inj h) ▸ rfl

theorem core_of_onCore {i : Instr} {s t : State} {f : Core → Core} (hi : exec i s = onCore f s) (h : exec i s = .next t) :
    t.core = f s.core := by
  rw [hi, onCore_next] at h
  exact (Host.Outcome.next.inj h) ▸ rfl

theorem exec_dictReqEnqueue (f : Frame) (s : State) : exec (.dictReqEnqueue f) s = onCore (fun c => c.enqueueReq f) s := rfl

theorem exec_dictOpen (s : State) : exec .dictOpen s = onMem (fun m c => Core.runHead m c 4) s := rfl

theorem exec_segRead (s : State) : exec .segRead s = onMem (fun m c => Core.runHead m c 6) s := rfl

/-! A request that finds the queue full. -/

@[simp] theorem Core.noteRefusal_dict (c : Core) (r : Req) (o : DictOut) : (c.noteRefusal r o).dict = c.dict := by
  unfold Core.noteRefusal
  split <;> rfl

theorem Core.storeOutcome_queue (c : Core) (r : Req) (o : DictOut) (p : Bool) :
    (c.storeOutcome r o p).dict.queue = c.dict.queue := by
  unfold Core.storeOutcome Core.keepAnswer
  repeat' split
  all_goals rfl

@[simp] theorem Core.journalOutcome_dict (c : Core) (r : Req) (o : DictOut) : (c.journalOutcome r o).dict = c.dict := by
  unfold Core.journalOutcome Core.twJournal Core.nextJseq
  dsimp only
  repeat' split
  all_goals simp

theorem Core.deliverOutcome_queue (c : Core) (r : Req) (o : DictOut) (p : Bool) :
    (c.deliverOutcome r o p).dict.queue = c.dict.queue := by
  unfold Core.deliverOutcome
  split
  · rfl
  · split
    · rfl
    · rw [(c.sendRsp_keeps _ _ _ _ _).dict]

/-- The end of a request leaves those that wait. -/
theorem Core.conclude_queue (c : Core) (r : Req) (o : DictOut) : (c.conclude r o).dict.queue = c.dict.queue := by
  rw [c.conclude_eq, Core.deliverOutcome_queue, Core.journalOutcome_dict, Core.storeOutcome_queue, Core.noteRefusal_dict,
    Core.countOutcome_dict]

/-- R208: with no injection armed a sound item passes the checker of the management port. -/
theorem Core.mgmtCheck_sound {c : Core} {f : Frame} (hi : c.reg Reg.INJ_LEFT = 0) (hc : f.check = f.transitCrc) :
    c.mgmtCheck f = (true, c) := by
  simp [Core.mgmtCheck, Core.checkFrame, Core.checkBits, Core.beginCheck, Core.injHits, verdictOf, hi, hc]

/-- R63: a request that finds the queue full is answered and does not join it. -/
theorem Core.enqueueReq_queueFull {c : Core} {f : Frame} (hup : c.up = true) (hk : f.kind = 4) (hi : c.reg Reg.INJ_LEFT = 0)
    (hc : f.check = f.transitCrc) (hl : 16 ≤ f.payload.length) (hf : c.queueFull = true) :
    (c.enqueueReq f).dict.queue = c.dict.queue := by
  have check : (c.undeliver 14 f).mgmtCheck f = (true, c.undeliver 14 f) := Core.mgmtCheck_sound hi hc
  have up : (c.undeliver 14 f).up = true := hup
  have full : ((c.undeliver 14 f).inc Reg.STAT_REQ).queueFull = true := hf
  unfold Core.enqueueReq
  simp only [up, hk, check, full, Nat.not_lt.mpr hl, bne_self_eq_false, Bool.not_true, Bool.or_self, Bool.false_eq_true,
    if_false, if_true]
  split
  · rfl
  · exact Core.conclude_queue _ _ _

/-- 63 requests wait behind one whose answer waits for a handover of bank 8: the queue of R63 is full. -/
def heldEngine : State :=
  ⟨[], [], { node := { phase := .run, base := 5 }, dict := { queue := List.replicate 63 {} },
             fab := { handovers := [{ bank := 8, owner := 3, deadline := 2000, req := some {} }] } }⟩

/-- R202: a sealed frame carries its transit check. -/
theorem Frame.check_seal (f : Frame) : f.seal.check = f.seal.transitCrc := rfl

/-- A DICT_REQ of a head alone. -/
def headRequest : Frame := ({ kind := 4, cls := 4, payload := zeros 16 } : Frame).seal

/-- Refutes O6: its clause on DICT_REQ_ENQUEUE asks for fewer than 64 waiting requests, but a request at the engine whose answer waits
for a handover takes an entry too (R63). With 63 behind it a further request is answered BUSY and does not join. -/
theorem not_dictionaryExecutesRequests : ¬ Obligations.DictionaryExecutesRequests := by
  rintro ⟨enqueue, -⟩
  have unarmed : heldEngine.core.reg Reg.INJ_LEFT = 0 := by decide
  have sound : headRequest.check = headRequest.transitCrc := Frame.check_seal _
  obtain ⟨t, next, joined, -⟩ := enqueue headRequest heldEngine rfl rfl unarmed sound (by decide) (by decide)
  rw [core_of_onCore (exec_dictReqEnqueue headRequest heldEngine) next,
    Core.enqueueReq_queueFull rfl rfl unarmed sound (by decide) (by decide)] at joined
  simp at joined

/-! An injection at the staging bank. -/

/-- A SEG_READ of the power-loss log from its start, by the node's own side. -/
def logRead : Req := { f := { segm := true, payload := dictReqBytes 7 6 0 0x9014 1 0 [] }, lvl := some 2 }

/-- An uncorrectable error is armed at bank 60 (R222, R223), the staging bank that the read takes. -/
def armedStage : State :=
  ⟨[], [], ({ node := { phase := .run, base := 5 }, dict := { queue := [logRead] }, integ := { armed := (0x0E, 60) } }
    : Core).setReg Reg.INJ_LEFT 1⟩

/-- R219: the read of the staging bank proves uncorrectable, and the request is refused. -/
theorem armedStage_segRead_refused : (Core.runHead armedStage.mem armedStage.core 6).2.reg Reg.STAT_RSP_OK = 0 := by
  decide +kernel

/-- Refutes O7: its clause on SEG_READ leaves an armed injection open. One of an uncorrectable error at the staging bank (R222) makes the
engine's read of the copy fail, so that the request is refused and STAT_RSP_OK stays. -/
theorem not_dictionaryMovesSegmentsAndTimers : ¬ Obligations.DictionaryMovesSegmentsAndTimers := by
  rintro ⟨read, -⟩
  obtain ⟨t, next, -, counted, -⟩ := read logRead [] 2 (findMember 0x9014 1 2).2 armedStage rfl rfl rfl rfl rfl rfl rfl rfl
    (by decide +kernel) (by decide +kernel) rfl rfl (by decide) (by decide +kernel) (by decide +kernel)
  rw [core_of_onMem (exec_segRead armedStage) next, armedStage_segRead_refused] at counted
  exact absurd counted (by decide +kernel)

/-! Safe state. -/

/-- The node is in safe state: MODE is 10. -/
def safeNode : State := ⟨[], [], { node := { phase := .run, base := 5 }, fc := { safe := true } }⟩

/-- R62, R224: INJ_ARM is refused MODE in safe state, before the length of the value is looked at. -/
theorem safeNode_injArm_mode :
    (Core.writeBytes safeNode.mem safeNode.core 2 (0x1430 * 256 + 4) [1, 0]).2.dict.answer.map (fun a => a.status) = some 8 := by
  decide +kernel

/-- Refutes O50: a member whose owner refuses the write in the present mode answers MODE, which R62 puts before LENGTH. In safe state a
write of two bytes to INJ_ARM, a member of one byte, ends so. -/
theorem not_writtenValuesAreChecked : ¬ Obligations.WrittenValuesAreChecked := by
  intro h
  obtain ⟨t, next, length, -⟩ := (h 2 0x1430 4 [1, 0] (findMember 0x1430 4 2).2 safeNode rfl rfl (by decide +kernel)).1
    (by decide)
  have answer := core_of_onMem (exec_registerWrite 2 0x1430 4 [1, 0] safeNode) next ▸ safeNode_injArm_mode
  obtain ⟨a, ha, mode⟩ := Option.map_eq_some_iff.mp answer
  simp [ha, mode] at length

/-! A clash of session numbers. -/

/-- An OPEN of level 1 from node 5 at the service address 7 of the pair. -/
def pairOpen : Req := { f := { src := 5, dst := 7, payload := dictReqBytes 0 4 0 0 1 0 [1, 0, 0, 0, 0, 0, 0, 0] } }

/-- A unit of a pair without the token, to which the holder has granted number 3 for the OPEN, while its own session 3 is open. -/
def clashingStandby : State :=
  ⟨[], [], ({ node := { phase := .run, base := 5 }, inForce := [(Reg.TW_ENABLE, 1), (Reg.TW_SERVICE_ADDR, 7)],
              dict := { queue := [pairOpen], sessions := [(3, { level := 1, src := 9, lastReq := 0 })], numbers := [3] } }
    : Core).setBlob Reg.TOKEN_L1 [1, 0, 0, 0, 0, 0, 0, 0]⟩

/-- R506: the clash is noted in the twin controller. -/
theorem clashingStandby_open_clash :
    (Core.runHead clashingStandby.mem clashingStandby.core 4).2.twin.sessClash = true := by
  decide +kernel

/-- Refutes O59: `touched` lets OPEN change no part but the free values and the engine, yet an OPEN at a standby notes in the twin
controller whether the granted number is taken (R506). -/
theorem not_registerRowsKeepTheRest : ¬ Obligations.RegisterRowsKeepTheRest := by
  intro h
  obtain ⟨m, c, next⟩ := exec_next .dictOpen clashingStandby
  have same := (h .dictOpen clashingStandby _ rfl (by decide +kernel) next).1 .twin (by decide)
  have kept : c.twin.sessClash = false := congrArg TwinState.sessClash same
  rw [show c = _ from core_of_onMem (exec_dictOpen clashingStandby) next, clashingStandby_open_clash] at kept
  exact absurd kept (by decide)

end Sys2Proof.Machine

/-! SUPPORT. A state in which the statement about received frames fails: an injection at the checker of a ring port (R223) hits the
frame that arrives there. -/

namespace Sys2Proof.Machine

theorem exec_frameRxEnd (p : Fin 4) (f : Frame) (e : EndKind) (s : State) :
    exec (.frameRxEnd p f e) s = onCore (fun c => c.frameRxEnd p f e) s := rfl

/-- A DICT_REQ of member 0x402 for node 0x401, with sound checks. -/
def neighbourRequest : Frame :=
  ({ kind := 4, cls := 4, dst := 0x401, src := 0x402, okey := 0x402, payload := zeros 16 } : Frame).seal

/-- Node 0x401 beside member 0x402 in segment 1, its west home port JOINED, one injection armed at that port's transit check. -/
def armedPort : Core :=
  ((({ node := { phase := .run, base := 5 }
       inForce := [(Reg.SEGMENT, 1)]
       ring := { home := { table := [{ addr := 0x401 }, { addr := 0x402 }] } }
       integ := { armed := (0x01, 1) } } : Core).setReg (Reg.RP_STATE 1) 5).setReg Reg.NODE_ADDR 0x401).setReg Reg.INJ_LEFT 1

/-- The header of the frame has come: its check has begun under the injection, which was the last one. -/
def hitArrival : State := ⟨[], [], armedPort.frameRxHeader 1 neighbourRequest⟩

/-- What port 1 then holds: a frame for the node whose check bits are read inverted. -/
def hitFrame : Arriving := { frame := neighbourRequest, entry := some 0, deliver := true, inverted := true }

theorem hitArrival_arriving : hitArrival.core.fwd.arriving.find? (fun x => x.1 == 1) = some (1, hitFrame) := by decide +kernel

/-- R200: the frame itself carries the transit check that it calls for. -/
theorem hitFrame_sound :
    neighbourRequest.check = ({ hitFrame.frame with payload := neighbourRequest.payload } : Frame).transitCrc := by
  decide +kernel

/-- R223: the one injection is spent when the check begins, so that none is armed at the frame's end. -/
theorem hitArrival_injLeft : hitArrival.core.reg Reg.INJ_LEFT = 0 := by decide +kernel

/-- R150: the check read inverted fails, and a frame that ends bad makes no entry of the tracker. -/
theorem hitArrival_end_tracker : (hitArrival.core.frameRxEnd 1 neighbourRequest .good).fwd.tracker = [] := by decide +kernel

/-- Refutes O5: its clause on FRAME_RX_END asks that no injection be armed when the frame ends, but whether the check bits are read
inverted was settled when the check began, at the header (R223). A sound frame that the last injection then hit ends bad. -/
theorem not_framesAreReceivedAndOriginated : ¬ Obligations.FramesAreReceivedAndOriginated := by
  rintro ⟨-, rxEnd, -⟩
  obtain ⟨t, next, -, entered⟩ := rxEnd 1 neighbourRequest .good hitFrame hitArrival hitArrival_arriving rfl rfl
    hitArrival_injLeft hitFrame_sound rfl (by decide +kernel)
  rw [core_of_onCore (exec_frameRxEnd 1 neighbourRequest .good hitArrival) next] at entered
  simp [hitArrival_end_tracker] at entered

end Sys2Proof.Machine

/-! SUPPORT. The end of LOCAL_WAIT for a held frame that has room (R186): it is admitted and no drop is counted. -/

namespace Sys2Proof.Machine

theorem exec_localWaitExpiry (s : State) :
    exec .localWaitExpiry s = onMem (fun m c => Core.admitRow m c.localWaitExpiry) s := rfl

/-- Room at an output does not depend on the time. -/
theorem Core.fits_advanceTo (c : Core) (w out cls n : Nat) : (c.advanceTo w).fits out cls n = c.fits out cls n := by
  unfold Core.advanceTo
  split <;> rfl

theorem Core.reg_advanceTo (c : Core) (w k : Nat) : (c.advanceTo w).reg k = c.reg k := by
  unfold Core.advanceTo
  split <;> rfl

/-- R186: the one held frame has room at each of its outputs when its wait ends: it is admitted at all of them. -/
theorem Core.localWaitExpiry_of_room {c : Core} {e : SwEntry} {w : Nat} (hs : c.sw.seeking = [e]) (hw : e.waitEnd = some w)
    (room : ∀ x ∈ e.outs, c.fits x.out e.frame.cls e.cells = true) :
    c.localWaitExpiry = ((c.advanceTo w).unseek e.id).takeIn e e.outs := by
  have yes : e.outs.filter (fun x => c.fits x.out e.frame.cls e.cells) = e.outs := List.filter_eq_self.mpr room
  have no : e.outs.filter (fun x => !c.fits x.out e.frame.cls e.cells) = [] :=
    List.filter_eq_nil_iff.mpr fun x hx => by simp [room x hx]
  simp [Core.localWaitExpiry, hs, hw, sortBy, Core.fits_advanceTo, List.partition_eq_filter_filter, Function.comp_def, yes, no]

theorem usedKey_lt_dropWait (o : Nat) {k : Nat} (hk : k < 8) : usedKey o k < Reg.SWO_CNT_DROP_WAIT o := by
  unfold Reg.SWO_CNT_DROP_WAIT usedKey
  omega

theorem dropWait_lt_usedPeak (o : Nat) : Reg.SWO_CNT_DROP_WAIT o < Reg.SWO_USED_PEAK o := by
  unfold Reg.SWO_CNT_DROP_WAIT Reg.SWO_USED_PEAK
  omega

theorem free_lt_dropWait (o : Nat) : Reg.SW_FREE < Reg.SWO_CNT_DROP_WAIT o := by
  unfold Reg.SWO_CNT_DROP_WAIT Reg.SW_FREE
  omega

theorem Core.reg_withSw (c : Core) (x : SwitchState) (k : Nat) : ({ c with sw := x } : Core).reg k = c.reg k := rfl

/-- An admission counts no drop. -/
theorem Core.takeIn_reg_dropWait (c : Core) (e : SwEntry) (y : OutCopy) (hk : e.frame.cls < 8) :
    (c.takeIn e [y]).reg (Reg.SWO_CNT_DROP_WAIT y.out) = c.reg (Reg.SWO_CNT_DROP_WAIT y.out) := by
  have used := Nat.ne_of_gt (usedKey_lt_dropWait y.out hk)
  have peak := Nat.ne_of_lt (dropWait_lt_usedPeak y.out)
  have free := Nat.ne_of_gt (free_lt_dropWait y.out)
  simp only [Core.takeIn, List.isEmpty_cons, Bool.false_eq_true, if_false, List.foldl_cons, List.foldl_nil, Core.reg_withSw,
    Core.charge, Core.reg_setReg, if_neg used, if_neg peak, if_neg free]

/-- R186: the count of frames dropped after LOCAL_WAIT stays when the one held frame has room at its one output. -/
theorem Core.localWaitExpiry_reg_dropWait_of_room {c : Core} {e : SwEntry} {w : Nat} {y : OutCopy} (hs : c.sw.seeking = [e])
    (hw : e.waitEnd = some w) (hy : e.outs = [y]) (hk : e.frame.cls < 8)
    (room : c.fits y.out e.frame.cls e.cells = true) :
    c.localWaitExpiry.reg (Reg.SWO_CNT_DROP_WAIT y.out) = c.reg (Reg.SWO_CNT_DROP_WAIT y.out) := by
  rw [Core.localWaitExpiry_of_room hs hw (by simpa [hy] using room), hy, Core.takeIn_reg_dropWait _ _ _ hk]
  exact c.reg_advanceTo w _

/-- A frame of one cell and class 2 from the mapper, held for ring port 0 until LOCAL_WAIT of 100 us ends. -/
def heldFrame : SwEntry :=
  { id := 0, inp := 12, frame := { cls := 2 }, cells := 1, since := 0, outs := [{ out := 0 }], waitEnd := some 100000 }

/-- The frame is held, and its output has the whole of its limit of 1,024 cells free (R193): room has appeared. -/
def heldWithRoom : State := ⟨[], [], { node := { phase := .run, base := 5 }, sw := { seeking := [heldFrame] } }⟩

theorem heldWithRoom_fits : heldWithRoom.core.fits 0 2 1 = true := by decide +kernel

/-- Refutes O8: its clause on LOCAL_WAIT_EXPIRY has every held frame dropped, also one whose output has room when its wait ends. Such a
frame is admitted (R186), and CNT_DROP_WAIT stays 0 where the clause has it 1. -/
theorem not_switchAdmitsAndMovesFrames : ¬ Obligations.SwitchAdmitsAndMovesFrames := by
  rintro ⟨-, -, -, expiry, -⟩
  obtain ⟨t, next, -, dropped, -⟩ := expiry heldFrame 0 100000 heldWithRoom rfl rfl rfl rfl
  have after : t.core = heldWithRoom.core.localWaitExpiry := core_of_onMem (exec_localWaitExpiry heldWithRoom) next
  have kept := heldWithRoom.core.localWaitExpiry_reg_dropWait_of_room (y := { out := 0 }) rfl rfl rfl (by decide)
    heldWithRoom_fits
  rw [after] at dropped
  exact absurd (kept.symm.trans dropped) (by decide +kernel)

end Sys2Proof.Machine

/-! SUPPORT. How link delay is measured (R243, R244) and the 1PPS is followed and made (R252 to R255): each command of the
exchange and of the pulse as one equation under the conditions of its clause. -/

namespace Sys2Proof.Machine

theorem answers_onCore {i : Instr} {s : State} {f : Core → Core} {P : State → Prop} (hi : exec i s = onCore f s)
    (h : P { s with core := f s.core }) : Answers i s P :=
  ⟨_, by rw [hi, onCore_next], h⟩

theorem exec_peerDelaySend (p : Fin 4) (s : State) : exec (.peerDelaySend p) s = onCore (fun c => c.peerDelaySend p) s := rfl

theorem exec_peerDelayReqRx (p : Fin 4) (f : Frame) (t : Nat) (s : State) :
    exec (.peerDelayReqRx p f t) s = onCore (fun c => c.peerDelayReq p f t) s := rfl

theorem exec_peerDelayRspRx (p : Fin 4) (f : Frame) (s : State) :
    exec (.peerDelayRspRx p f) s = onCore (fun c => c.peerDelayRsp p f) s := rfl

theorem exec_peerDelayTimeout (p : Fin 4) (s : State) :
    exec (.peerDelayTimeout p) s = onCore (fun c => c.peerDelayTimeout p) s := rfl

theorem exec_ppsEdge (s : State) : exec .ppsEdge s = onCore (fun c => c.ppsEdge) s := rfl

theorem exec_ppsLossTimeout (s : State) : exec .ppsLossTimeout s = onCore (fun c => c.ppsLoss) s := rfl

theorem exec_ppsOutRise (s : State) : exec .ppsOutRise s = onCore (fun c => c.ppsRise) s := rfl

theorem exec_ppsOutFall (s : State) : exec .ppsOutFall s = onCore (fun c => c.ppsFall) s := rfl

/-! Time passes. -/

theorem Core.now_advanceTo (c : Core) (t : Nat) : (c.advanceTo t).now = max c.now t := by
  unfold Core.advanceTo Core.now
  split
  · exact (Nat.add_sub_of_le (by omega)).trans (by omega)
  · omega

theorem Core.tickOpen_advanceTo (c : Core) (t : Nat) : (c.advanceTo t).tickOpen = c.tickOpen := by
  unfold Core.advanceTo
  split <;> rfl

theorem Core.sysNs_advanceSys (c : Core) (t : Nat) : (c.advanceSys t).sysNs = max c.sysNs t := by
  unfold Core.advanceSys
  split
  · show t * 2 ^ 32 / 2 ^ 32 = _
    omega
  · omega

/-! A sound frame of the timing path arrives at a JOINED port while no injection is armed (R208, R223). -/

/-- Both checks of the frame pass, its header stands and its payload has its length (R146, R148, R200). -/
structure Frame.Sound (f : Frame) : Prop where
  hop : f.hopCheck = f.hopCrc
  header : f.badHeader = false
  transit : f.check = f.transitCrc
  length : f.payload.length = f.len

theorem Core.beginCheck_unarmed {c : Core} (hi : c.reg Reg.INJ_LEFT = 0) (code inst : Nat) :
    c.beginCheck code inst = (false, c) := by
  simp [Core.beginCheck, Core.injHits, hi]

theorem Core.headerOk_sound {c : Core} {f : Frame} (p : Nat) (hi : c.reg Reg.INJ_LEFT = 0) (hf : f.Sound) :
    c.headerOk p f = (true, c.inc (Reg.FW_CNT_RX p)) := by
  simp [Core.headerOk, Core.checkBits, Core.beginCheck_unarmed hi, verdictOf, hf.hop, hf.header]

/-- What counts a header leaves the members apart from CNT_RX. -/
theorem Core.reg_rxCounted (c : Core) (p : Nat) {k : Nat} (h : k % 4096 ≠ 1 ∨ k < Reg.FW_CNT_RX 0) :
    (c.inc (Reg.FW_CNT_RX p)).reg k = c.reg k := by
  refine c.reg_inc_of_ne ?_
  unfold Reg.FW_CNT_RX at h ⊢
  omega

theorem Core.unarmed_rxCounted {c : Core} (p : Nat) (hi : c.reg Reg.INJ_LEFT = 0) :
    (c.inc (Reg.FW_CNT_RX p)).reg Reg.INJ_LEFT = 0 :=
  (c.reg_rxCounted p (.inl (by decide))).trans hi

theorem Core.addrOn_rxCounted (c : Core) (p pair : Nat) : (c.inc (Reg.FW_CNT_RX p)).addrOn pair = c.addrOn pair := by
  unfold Core.addrOn Core.homeAddr
  rw [c.reg_rxCounted p (.inr (by decide)), c.reg_rxCounted p (.inl (by decide))]

theorem Core.frozenPort_rxCounted (c : Core) (p q : Nat) :
    (c.inc (Reg.FW_CNT_RX p)).frozenPort q = c.frozenPort q := by
  unfold Core.frozenPort
  rw [c.reg_rxCounted p (.inl (by unfold Reg.FW_HOLD_STATE; omega))]

theorem Core.joinedHeader_sound {c : Core} {f : Frame} {p : Nat} (hup : c.up = true) (hj : c.joined p = true)
    (hi : c.reg Reg.INJ_LEFT = 0) (hf : f.Sound) : c.joinedHeader p f = (true, c.inc (Reg.FW_CNT_RX p)) := by
  have state : c.reg (Reg.RP_STATE p) = 5 := by simpa [Core.joined] using hj
  have joined : (c.inc (Reg.FW_CNT_RX p)).joined p = true := by
    rw [Core.joined, c.reg_rxCounted p (.inl (by unfold Reg.RP_STATE; omega)), state]
    rfl
  simp [Core.joinedHeader, Core.headerOk_sound p hi hf, hup, state, joined]

theorem Core.rxEnd_sound (c : Core) {f : Frame} (p : Nat) (hf : f.Sound) : c.rxEnd p false f .good = (none, c) := by
  simp [Core.rxEnd, verdictOf, hf.transit, hf.length]

/-! A frame leaves a port that is not frozen (R164). -/

theorem Core.sent_sendTimed {c : Core} {q : Nat} (x : LineSent) (h : c.frozenPort q = false) :
    mapGet {} q (c.sendTimed q x).ring.sent = x := by
  have placed : (c.sendTimed q x).ring.sent = mapSet {} q x c.ring.sent := by
    unfold Core.sendTimed Core.sendLine Core.incIf
    simp only [h, Bool.false_eq_true, if_false]
    split <;> rfl
  rw [placed, mapGet_mapSet, if_pos rfl]

theorem Core.regs_nextSeq (c : Core) (k l n : Nat) : (c.nextSeq k l n).2.regs = c.regs := by
  unfold Core.nextSeq
  dsimp only
  split <;> rfl

/-- The frozen ports are those of the registers, which a frame's making leaves. -/
theorem Core.frozenPort_peerFrame (c : Core) (p t n q : Nat) : (c.peerFrame p t n).2.frozenPort q = c.frozenPort q := by
  simp [Core.frozenPort, Core.reg, Core.peerFrame, Core.regs_nextSeq]

/-! Exchanges. -/

@[simp] theorem Core.peer_setPeer (c : Core) (p : Nat) (x : PeerPort) : (c.setPeer p x).peer p = x := by
  simp [Core.peer, Core.setPeer]

@[simp] theorem Core.peer_setReg (c : Core) (p k v : Nat) : (c.setReg k v).peer p = c.peer p := rfl

@[simp] theorem Core.reg_setPeer (c : Core) (p k : Nat) (x : PeerPort) : (c.setPeer p x).reg k = c.reg k := rfl

@[simp] theorem Core.reg_peerBurst (c : Core) (p k : Nat) : (c.peerBurst p).reg k = c.reg k := rfl

/-- R243: a burst starts without a result. -/
theorem Core.peer_peerBurst (c : Core) (p : Nat) : (c.peerBurst p).peer p =
    { c.peer p with results := [], taken := 0, misses := 0, burst := 8, nextAt := some c.now, waiting := [] } :=
  c.peer_setPeer p _

theorem linkDelay_ne_delayValid (p : Nat) : Reg.PD_LINK_DELAY p ≠ Reg.PD_DELAY_VALID p := by
  unfold Reg.PD_LINK_DELAY Reg.PD_DELAY_VALID
  omega

theorem timeoutCount_ne_delayValid (p : Nat) : Reg.PD_CNT_PD_TIMEOUT p ≠ Reg.PD_DELAY_VALID p := by
  unfold Reg.PD_CNT_PD_TIMEOUT Reg.PD_DELAY_VALID
  omega

/-- The record of a port once a request has left it with timestamp t1: its response is awaited until `due`, and the next request
leaves at `next`. -/
def PeerPort.asked (x : PeerPort) (t1 due next : Nat) : PeerPort :=
  { x with waiting := x.waiting ++ [(x.nextExchange, t1, due)], nextExchange := (x.nextExchange + 1) % 65536
           burst := x.burst - 1, nextAt := some next }

/-- R243: the request that is due leaves a JOINED port of an addressed node. -/
theorem Core.peerDelaySend_due {c : Core} {p e : Nat} (hup : c.up = true) (hj : c.joined p = true)
    (ha : c.addrOn (pairOf p) ≠ 0xFFFF) (hn : (c.peer p).nextAt = some e) (hf : c.frozenPort p = false) :
    ∃ t1 due next, c.peerDelaySend p =
      (((c.advanceTo e).peerFrame p 0 (c.peer p).nextExchange).2.sendTimed p
        { frame := ((c.advanceTo e).peerFrame p 0 (c.peer p).nextExchange).1 }).setPeer p ((c.peer p).asked t1 due next) := by
  have frozen : (c.advanceTo e).frozenPort p = false := by
    rw [Core.frozenPort, Core.reg_advanceTo]
    exact hf
  have addressed : (c.addrOn (pairOf p) == 0xFFFF) = false := beq_false_of_ne ha
  unfold Core.peerDelaySend
  simp only [hup, hj, addressed, hn, frozen, Bool.not_true, Bool.or_self, Bool.false_eq_true, if_false]
  exact ⟨_, _, _, rfl⟩

/-- R243: a sound request is answered from the same port. -/
theorem Core.peerDelayReq_sound {c : Core} {p : Nat} {f : Frame} (t : Nat) (hup : c.up = true) (hj : c.joined p = true)
    (ha : c.addrOn (pairOf p) ≠ 0xFFFF) (hi : c.reg Reg.INJ_LEFT = 0) (hf : f.Sound) :
    c.peerDelayReq p f t =
      ((c.inc (Reg.FW_CNT_RX p)).peerFrame p 1 (fieldAt f.payload 2 2)).2.sendTimed p
        { frame := { ((c.inc (Reg.FW_CNT_RX p)).peerFrame p 1 (fieldAt f.payload 2 2)).1 with
                     corr := t * 2 ^ 9 % 2 ^ 64 }.rehop } := by
  have addressed : ((c.inc (Reg.FW_CNT_RX p)).addrOn (pairOf p) == 0xFFFF) = false :=
    beq_false_of_ne (by rwa [c.addrOn_rxCounted])
  simp [Core.peerDelayReq, Core.joinedHeader_sound hup hj hi hf, Core.beginCheck_unarmed (Core.unarmed_rxCounted p hi),
    Core.rxEnd_sound _ p hf, addressed]

/-- R244: the one exchange that waits is completed by its response. -/
theorem Core.peerDelayRsp_sound {c : Core} {p id t1 due : Nat} {f : Frame} (hup : c.up = true) (hj : c.joined p = true)
    (ha : c.addrOn (pairOf p) ≠ 0xFFFF) (hi : c.reg Reg.INJ_LEFT = 0) (hf : f.Sound)
    (hw : (c.peer p).waiting = [(id, t1, due)]) (hd : c.now ≤ due) (hid : fieldAt f.payload 2 2 = id) :
    ∃ r, c.peerDelayRsp p f = ((c.inc (Reg.FW_CNT_RX p)).setPeer p { c.peer p with waiting := [] }).peerResult p r := by
  have addressed : (c.inc (Reg.FW_CNT_RX p)).addrOn (pairOf p) ≠ 0xFFFF := by rwa [c.addrOn_rxCounted]
  have waits : ((c.inc (Reg.FW_CNT_RX p)).peer p).waiting = [(id, t1, due)] := hw
  have timely : (c.inc (Reg.FW_CNT_RX p)).now ≤ due := hd
  unfold Core.peerDelayRsp
  simp only [Core.joinedHeader_sound hup hj hi hf, Core.beginCheck_unarmed (Core.unarmed_rxCounted p hi),
    Core.rxEnd_sound _ p hf, waits, hid, timely, addressed, List.find?_cons, beq_self_eq_true, Nat.ble_eq_true_of_le, Bool.and_self, Bool.not_true,
    Bool.false_eq_true, if_false, List.erase_cons_head]
  exact ⟨_, rfl⟩

/-- The record of a port once a result has been taken. -/
def PeerPort.took (x : PeerPort) (r : Nat) : PeerPort :=
  { x with results := (r :: x.results).take 8, taken := min 8 (x.taken + 1), misses := 0 }

theorem PeerPort.results_length_took {x : PeerPort} (r : Nat) (h : x.results.length = 7) : (x.took r).results.length = 8 := by
  simp [PeerPort.took, h]

/-- R244: while no delay is valid a result is no outlier; the eighth makes the mean of the last eight valid. -/
theorem Core.peerResult_eighth {c : Core} {p : Nat} (r : Nat) (hv : c.reg (Reg.PD_DELAY_VALID p) ≠ 1)
    (ht : 7 ≤ (c.peer p).taken) :
    c.peerResult p r = ((c.setPeer p ((c.peer p).took r)).setReg (Reg.PD_LINK_DELAY p)
      (((c.peer p).took r).results.foldl (fun a b => a + b) 0 / ((c.peer p).took r).results.length)).setReg
        (Reg.PD_DELAY_VALID p) 1 := by
  have eighth : 8 ≤ (c.peer p).taken + 1 := by omega
  unfold Core.peerResult
  simp only [hv, false_and, if_false, eighth, if_true]
  rfl

/-- R244: the third timeout in a row starts 8 exchanges. -/
theorem Core.peerDelayTimeout_third {c : Core} {p id t1 due : Nat} {rest : List (Nat × Nat × Nat)}
    (hw : (c.peer p).waiting = (id, t1, due) :: rest) (hm : (c.peer p).misses = 2) :
    c.peerDelayTimeout p = ((((c.advanceTo due).setPeer p { c.peer p with waiting := rest, misses := 3 }).inc
      (Reg.PD_CNT_PD_TIMEOUT p)).peerBurst p).setReg (Reg.PD_DELAY_VALID p) 0 := by
  simp [Core.peerDelayTimeout, hw, hm]

/-! The 1PPS. -/

theorem Core.Keeps.reg {c d : Core} (h : c.Keeps d) {k : Nat} (hk : k ∉ reportKeys) : d.reg k = c.reg k := h.2.1 k hk

theorem Core.Keeps.tickOpen {c d : Core} (h : c.Keeps d) : d.tickOpen = c.tickOpen := by
  unfold Core.tickOpen
  rw [h.time, h.fc_closed]

/-- R253: below code 3 no condition clears; a lock's event leaves all but what reports may change. -/
theorem Core.ppsMove_of_ne_three {c : Core} (st : Nat) (h : c.reg Reg.PPS_STATE ≠ 3) :
    ∃ d, c.Keeps d ∧ c.ppsMove st = d.setReg Reg.PPS_STATE st := by
  have noted : c.Keeps (if st = 2 ∧ c.reg Reg.PPS_STATE ≠ 2 then c.event 0xC00 0x06 0 (ofInt 64 (c.regI 32 Reg.PPS_OFFSET))
      else c) := by
    split
    · exact c.event_keeps _ _ _ _
    · exact c.keeps_refl
  refine ⟨_, noted, ?_⟩
  unfold Core.ppsMove
  dsimp only
  rw [if_neg (by rw [noted.reg (by decide)]; exact fun x => h x.1)]

/-- R252: the offset of an edge that comes now, in 2^-32 ns. -/
def Core.edgeTheta (c : Core) : Int :=
  let t : Int := (c.stampNow : Int) - c.regI 32 Reg.PPS_DELAY * 2 ^ 32
  let sec : Int := 1000000000 * 2 ^ 32
  t - (t + sec / 2) / sec * sec

/-- What a valid edge counts and sets before PPS_STATE moves. -/
def Core.edgeTaken (c : Core) : Core :=
  (({ c.setReg Reg.PPS_OFFSET (ofInt 32 (c.edgeTheta / 2 ^ 32)) with time := { c.time with
      ppsExpected := true, ppsValid := c.time.ppsValid + 1, ppsRejected := 0, ppsLast := c.now } }).inc Reg.CNT_PPS_RX).setReg
    Reg.TIME_VALID 1

/-- R254: what a valid edge does last: in MASTER it steers. -/
def Core.edgeSteers (c : Core) (theta : Int) : Core :=
  let d := { c with time := { c.time with ppsFirst := true } }
  if d.timeState ≠ 1 then d
  else ((d.setReg Reg.OFFSET (ofInt 64 (theta / 2 ^ 32))).steer theta 1000000000 (!c.time.ppsFirst)).1

theorem Core.reg_edgeTaken (c : Core) {k : Nat} (h : k ∉ [Reg.PPS_OFFSET, Reg.CNT_PPS_RX, Reg.TIME_VALID]) :
    c.edgeTaken.reg k = c.reg k := by
  simp only [List.mem_cons, List.not_mem_nil, or_false, not_or] at h
  obtain ⟨offset, count, valid⟩ := h
  rw [Core.edgeTaken, Core.reg_setReg, if_neg valid, Core.reg_inc_of_ne _ count]
  exact (Core.reg_setReg _ _ _ _).trans (if_neg offset)

theorem Core.reg_edgeTaken_count (c : Core) :
    c.edgeTaken.reg Reg.CNT_PPS_RX = satAdd32 (c.reg Reg.CNT_PPS_RX) 1 := by
  rw [Core.edgeTaken, Core.reg_setReg, if_neg (by decide), Core.reg_inc, if_pos rfl]
  exact congrArg (satAdd32 · 1) ((Core.reg_setReg _ _ _ _).trans (if_neg (by decide)))

theorem Core.reg_edgeTaken_valid (c : Core) : c.edgeTaken.reg Reg.TIME_VALID = 1 := by
  rw [Core.edgeTaken, Core.reg_setReg, if_pos rfl]

/-- R253: while no second is expected every edge is valid. -/
theorem Core.ppsEdge_valid {c : Core} (hup : c.up = true) (he : c.cfg Reg.PPS_ENABLE = 1) (hx : c.time.ppsExpected = false) :
    c.ppsEdge = (if 4 ≤ c.time.ppsValid + 1 then c.edgeTaken.ppsMove 2 else c.edgeTaken).edgeSteers c.edgeTheta := by
  unfold Core.ppsEdge
  rw [if_neg (by simp [hup, he])]
  exact if_neg (by simp [hx])

/-- R253, R254: the fourth valid edge in a row locks; outside MASTER it does not steer. -/
theorem Core.ppsEdge_fourth {c : Core} (hup : c.up = true) (he : c.cfg Reg.PPS_ENABLE = 1) (hx : c.time.ppsExpected = false)
    (hv : c.time.ppsValid = 3) (hs : c.reg Reg.PPS_STATE = 1) (ht : c.reg Reg.TIME_STATE ≠ 1) :
    c.ppsEdge.reg Reg.PPS_STATE = 2 ∧ c.ppsEdge.reg Reg.TIME_VALID = 1 ∧ c.ppsEdge.time.ppsLast = c.now ∧
      c.ppsEdge.reg Reg.CNT_PPS_RX = satAdd32 (c.reg Reg.CNT_PPS_RX) 1 := by
  obtain ⟨d, keeps, moved⟩ := Core.ppsMove_of_ne_three (c := c.edgeTaken) 2 (by rw [c.reg_edgeTaken (by decide), hs]; decide)
  have other {k : Nat} (hk : k ≠ Reg.PPS_STATE) (hr : k ∉ reportKeys) :
      (d.setReg Reg.PPS_STATE 2).reg k = c.edgeTaken.reg k := by
    rw [Core.reg_setReg, if_neg hk, keeps.reg hr]
  have slave : (d.setReg Reg.PPS_STATE 2).reg Reg.TIME_STATE ≠ 1 := by
    rwa [other (by decide) (by decide), c.reg_edgeTaken (by decide)]
  have locked : c.ppsEdge = { d.setReg Reg.PPS_STATE 2 with time := { d.time with ppsFirst := true } } := by
    rw [Core.ppsEdge_valid hup he hx, if_pos (by omega), moved]
    exact if_pos slave
  have state : (d.setReg Reg.PPS_STATE 2).reg Reg.PPS_STATE = 2 := by rw [Core.reg_setReg, if_pos rfl]
  have last : d.time.ppsLast = c.now := by
    rw [keeps.time]
    rfl
  rw [locked]
  exact ⟨state, (other (by decide) (by decide)).trans c.reg_edgeTaken_valid, last,
    (other (by decide) (by decide)).trans c.reg_edgeTaken_count⟩

/-- R253: the loss of the 1PPS, which now has been silent for 3 s. -/
def Core.ppsLost (c : Core) : Core :=
  ((({ c with time := { c.time with ppsValid := 0 } }).event 0xC00 0x07 3 0).ppsMove 3).raise Src.PPS_LOST noInst 0

/-- The loss is an event, a change of PPS_STATE and a condition, which in an open tick only joins those that wait. -/
theorem Core.ppsLost_open {c : Core} (hs : c.reg Reg.PPS_STATE ≠ 3) (ho : c.tickOpen = true) :
    c.ppsLost.reg Reg.PPS_STATE = 3 ∧ c.ppsLost.time.ppsValid = 0 ∧ c.ppsLost.now = c.now := by
  have noted := Core.event_keeps { c with time := { c.time with ppsValid := 0 } } 0xC00 0x07 3 0
  obtain ⟨d, keeps, moved⟩ := Core.ppsMove_of_ne_three 3 (by rw [noted.reg (by decide)]; exact hs)
  have kept := noted.trans keeps
  have still : (d.setReg Reg.PPS_STATE 3).tickOpen = true := kept.tickOpen.trans ho
  have state : (d.setReg Reg.PPS_STATE 3).reg Reg.PPS_STATE = 3 := by rw [Core.reg_setReg, if_pos rfl]
  obtain ⟨a, l, raised⟩ := Core.raise_open _ Src.PPS_LOST noInst 0 still
  have valid : d.time.ppsValid = 0 := by rw [kept.time]
  have now : d.time.now = c.time.now := by rw [kept.time]
  rw [Core.ppsLost, moved, raised]
  exact ⟨state, valid, now⟩

/-- R253: 3 s after the last valid edge, locked or not. -/
theorem Core.ppsLoss_silent {c : Core} (hup : c.up = true) (he : c.cfg Reg.PPS_ENABLE = 1) (hs : c.reg Reg.PPS_STATE ≠ 3) :
    c.ppsLoss = (c.advanceTo (c.time.ppsLast + 3000000000)).ppsLost := by
  unfold Core.ppsLoss
  exact if_neg (by simp [hup, he, hs])

theorem Core.flag_advanceSys (c : Core) (t k : Nat) : (c.advanceSys t).flag k = c.flag k := by
  unfold Core.advanceSys
  split <;> rfl

/-- R255: TB_PPS_OUT changes at an instant of system time. -/
def Core.ppsDrive (c : Core) (t : Nat) (level : Bool) : Core :=
  { c.advanceSys t with time := { (c.advanceSys t).time with ppsOut := level } }

theorem Core.sysNs_ppsDrive (c : Core) (t : Nat) (level : Bool) : (c.ppsDrive t level).sysNs = max c.sysNs t :=
  c.sysNs_advanceSys t

theorem Core.ppsRise_up {c : Core} (hup : c.up = true) :
    c.ppsRise = c.ppsDrive ((c.sysNs / 1000000000 + 1) * 1000000000) (c.flag Reg.PPS_OUT_ENABLE) := by
  unfold Core.ppsRise
  rw [if_neg (by simp [hup]), ← c.flag_advanceSys ((c.sysNs / 1000000000 + 1) * 1000000000)]
  rfl

theorem Core.ppsFall_up {c : Core} (hup : c.up = true) :
    c.ppsFall = c.ppsDrive (c.sysNs / 1000000000 * 1000000000 + 1000000) false := by
  unfold Core.ppsFall
  exact if_neg (by simp [hup])

/-- Settles O10: each command as its equation above gives it; the request and the answer leave by a port that is not frozen. -/
theorem linkDelayAnd1PPS : Obligations.LinkDelayAnd1PPS := by
  refine ⟨?send, ?request, ?response, ?timeout, ?edge, ?loss, ?rise, ?fall⟩
  case send =>
    intro p e s hup hj ha hn hf
    obtain ⟨t1, due, next, sent⟩ := Core.peerDelaySend_due hup hj ha hn hf
    have open_ : ((s.core.advanceTo e).peerFrame p 0 (s.core.peer p).nextExchange).2.frozenPort p = false := by
      rw [Core.frozenPort_peerFrame, Core.frozenPort, Core.reg_advanceTo]
      exact hf
    refine answers_onCore (exec_peerDelaySend p s) ?_
    dsimp only
    rw [sent, Core.peer_setPeer]
    exact ⟨congrArg LineSent.frame (Core.sent_sendTimed _ open_), rfl, List.map_append⟩
  case request =>
    intro p f t s hup hj ha hi hh hb hc hl hf
    have open_ : ((s.core.inc (Reg.FW_CNT_RX p)).peerFrame p 1 (fieldAt f.payload 2 2)).2.frozenPort p = false := by
      rw [Core.frozenPort_peerFrame, Core.frozenPort_rxCounted, hf]
    refine answers_onCore (exec_peerDelayReqRx p f t s) ?_
    dsimp only
    rw [Core.peerDelayReq_sound t hup hj ha hi ⟨hh, hb, hc, hl⟩, Core.sent_sendTimed _ open_]
    exact ⟨rfl, s.core.reg_rxCounted p (.inl (by unfold Reg.RP_NEIGHBOUR; omega)), rfl⟩
  case response =>
    intro p f id t1 due s hup hj ha hi hh hb hc hl hw hd hid hv ht hr
    obtain ⟨r, result⟩ := Core.peerDelayRsp_sound hup hj ha hi ⟨hh, hb, hc, hl⟩ hw hd hid
    have invalid : (s.core.inc (Reg.FW_CNT_RX p)).reg (Reg.PD_DELAY_VALID p) = 0 :=
      (s.core.reg_rxCounted p (.inl (by unfold Reg.PD_DELAY_VALID; omega))).trans hv
    refine answers_onCore (exec_peerDelayRspRx p f s) ?_
    dsimp only
    rw [result, Core.peerResult_eighth r (by rw [Core.reg_setPeer]; omega) (by rw [Core.peer_setPeer]; exact Nat.le_of_eq ht.symm)]
    simp only [Core.peer_setReg, Core.peer_setPeer, Core.reg_setReg, if_pos, if_neg (linkDelay_ne_delayValid p)]
    have eight := PeerPort.results_length_took (x := { s.core.peer p with waiting := [] }) r hr
    simp only [eight]
    exact ⟨trivial, rfl, trivial, trivial⟩
  case timeout =>
    intro p id t1 due rest s hw hm
    refine answers_onCore (exec_peerDelayTimeout p s) ?_
    dsimp only
    rw [Core.peerDelayTimeout_third hw hm, Core.reg_setReg, if_neg (timeoutCount_ne_delayValid p), Core.reg_peerBurst, Core.reg_inc,
      if_pos rfl, Core.reg_setPeer, Core.reg_advanceTo, Core.reg_setReg, if_pos rfl, Core.peer_setReg, Core.peer_peerBurst]
    exact ⟨rfl, rfl, rfl, rfl, s.core.now_advanceTo due⟩
  case edge =>
    exact fun s hup he hs hx hv ht => answers_onCore (exec_ppsEdge s) (Core.ppsEdge_fourth hup he hx hv hs ht)
  case loss =>
    intro s hup he hs ho
    obtain ⟨state, valid, now⟩ := Core.ppsLost_open (c := s.core.advanceTo (s.core.time.ppsLast + 3000000000))
      (by rw [Core.reg_advanceTo]; omega) ((s.core.tickOpen_advanceTo _).trans ho)
    refine answers_onCore (exec_ppsLossTimeout s) ?_
    dsimp only
    rw [Core.ppsLoss_silent hup he (by omega), now, Core.now_advanceTo]
    exact ⟨state, valid, rfl⟩
  case rise =>
    intro s hup
    refine answers_onCore (exec_ppsOutRise s) ?_
    dsimp only
    rw [Core.ppsRise_up hup, Core.sysNs_ppsDrive]
    exact ⟨rfl, by omega⟩
  case fall =>
    intro s hup
    refine answers_onCore (exec_ppsOutFall s) ?_
    dsimp only
    rw [Core.ppsFall_up hup, Core.sysNs_ppsDrive]
    exact ⟨rfl, rfl⟩

end Sys2Proof.Machine

/-! SUPPORT. A state in which the statement about the time base fails: a bridge node strips a TIME_SYNC that it put into the segment
itself, though its source is a member of the applied table (R149 step 4). -/

namespace Sys2Proof.Machine

theorem exec_timeSyncRx (p : Fin 4) (f : Frame) (e : EndKind) (residence : Nat) (s : State) :
    exec (.timeSyncRx p f e residence) s = onCore (fun c => c.timeSyncRx p f e residence) s := rfl

/-- R149 step 4: a sound TIME_SYNC that is the node's own, and would leave as an own one, goes no further: no port sends. -/
theorem Core.timeSyncRx_ring_of_strip {c d : Core} {p : Nat} {f : Frame} (residence : Nat) (hd : c.joinedHeader p f = (true, d))
    (hi : d.reg Reg.INJ_LEFT = 0) (own : d.ownFrame (pairOf p) f = true) (leaves : d.leavesAsOwn p f = true)
    (hf : f.Sound) : (c.timeSyncRx p f .good residence).ring = d.ring := by
  unfold Core.timeSyncRx
  simp only [hd, Core.beginCheck_unarmed hi, own, leaves, Bool.and_self, Bool.or_true, Bool.true_or, if_true, Bool.not_true,
    Bool.false_eq_true, if_false, Core.rxEnd_sound _ p hf]
  split <;> rfl

/-- A TIME_SYNC from the address 0x802 of segment 2. -/
def foreignSync : Frame :=
  ({ kind := 6, cls := 0, mcast := true, dst := 0x7FF, src := 0x802, okey := 0x802, payload := zeros 20 } : Frame).seal

/-- Node 0x401 of segment 1, both home ports JOINED, whose applied table lists 0x802 too, and whose SEG_ROUTE_HOME gives itself for
segment 2. The delays of both ports are valid, so that the west port is its sync port. -/
def bridgeNode : State :=
  ⟨[], [], ((((((({ node := { phase := .run, base := 5 }, inForce := [(Reg.SEGMENT, 1)],
                    ring := { home := { table := [{ addr := 0x401 }, { addr := 0x802 }] } } } : Core).setReg
    (Reg.RP_STATE 0) 5).setReg (Reg.RP_STATE 1) 5).setReg Reg.NODE_ADDR 0x401).setReg (Reg.PD_DELAY_VALID 0) 1).setReg
    (Reg.PD_DELAY_VALID 1) 1).setBlob Reg.SEG_ROUTE_HOME (List.replicate 4 0xFF ++ leBytes 2 0x401 ++ List.replicate 122 0xFF))⟩

/-- R146: a sealed frame carries its HOP_CHECK. -/
theorem Frame.hopCheck_seal (f : Frame) : f.seal.hopCheck = f.seal.hopCrc := rfl

theorem foreignSync_sound : foreignSync.Sound :=
  ⟨Frame.hopCheck_seal _, by decide +kernel, Frame.check_seal _, by decide +kernel⟩

theorem bridgeNode_unarmed : bridgeNode.core.reg Reg.INJ_LEFT = 0 := by decide +kernel

theorem bridgeNode_header :
    bridgeNode.core.joinedHeader 0 foreignSync = (true, bridgeNode.core.inc (Reg.FW_CNT_RX 0)) :=
  Core.joinedHeader_sound rfl (by decide +kernel) bridgeNode_unarmed foreignSync_sound

/-- R124: the route of segment 2 names this node, so that the frame is its own. -/
theorem bridgeNode_own : (bridgeNode.core.inc (Reg.FW_CNT_RX 0)).ownFrame 0 foreignSync = true := by decide +kernel

/-- R108: the frame would go on by a port by which the node sends its own TIME_SYNC. -/
theorem bridgeNode_leaves : (bridgeNode.core.inc (Reg.FW_CNT_RX 0)).leavesAsOwn 0 foreignSync = true := by decide +kernel

/-- The frame is stripped: nothing has left a ring port. -/
theorem bridgeNode_unsent : (bridgeNode.core.timeSyncRx 0 foreignSync .good 1).ring.sent = [] := by
  rw [Core.timeSyncRx_ring_of_strip 1 bridgeNode_header (Core.unarmed_rxCounted 0 bridgeNode_unarmed) bridgeNode_own
    bridgeNode_leaves foreignSync_sound]
  rfl

/-- Refutes O9: its clause on a TIME_SYNC that is forwarded leaves out only a frame whose source is the node's own address, but R149
step 4 also strips one from another segment to which the node itself is the way. No copy leaves by the west port. -/
theorem not_timeBaseFollowsItsMaster : ¬ Obligations.TimeBaseFollowsItsMaster := by
  rintro ⟨-, -, forward, -⟩
  obtain ⟨hop, header, transit, length⟩ := foreignSync_sound
  obtain ⟨t, next, corrected, -⟩ := forward 0 foreignSync .good 1 1 bridgeNode rfl (by decide +kernel) (by decide +kernel) rfl
    bridgeNode_unarmed hop header transit length (by decide +kernel) (by decide +kernel) (by decide +kernel) (by decide +kernel)
    (by decide +kernel)
  rw [core_of_onCore (exec_timeSyncRx 0 foreignSync .good 1 bridgeNode) next] at corrected
  simp only [Fin.val_zero, bridgeNode_unsent] at corrected
  exact absurd corrected (by decide +kernel)

end Sys2Proof.Machine

/-! SUPPORT. A state in which the statement about the event stream fails: with no semaphore held, the end of a close issues again
what a semaphore had held back (R484), and that can make a record of a tick still open. -/

namespace Sys2Proof.Machine

theorem exec_eventCloseExpiry (s : State) : exec .eventCloseExpiry s = onMem (fun m c => Core.eventCloseRow m c) s := rfl

/-- Tick 7 is about to close, with one record; tick 9 has fired and is closed at the collector. No ring port has a module, no
semaphore is held, and a read of Heather at an address that no window matches still waits to be issued again. -/
def closingNode : State :=
  ⟨[], [], (({ node := { phase := .run, base := 5 }, time := { lastTick := some 9, tag := some 9 }, fc := { closed := some 9 },
               ev := { waiting := [(7, 0)], opened := [{ tick := 7, source := 5, kind := 1, sev := 2 }] },
               fab := { retried := [.heather 0x1000 false 4 []] } } : Core).setReg (Reg.RP_STATE 0) 1).setReg (Reg.RP_STATE 1) 1⟩

/-- R440, R569, R574: the read misses every window; its report comes late at the collector, and the ONSET event of that fault
(source 0x600 + 0x119) joins the sort buffer of tick 9. -/
theorem closingNode_opened :
    (Core.eventCloseRow closingNode.mem closingNode.core).2.ev.opened.map (fun r => (r.tick, r.source, r.kind)) =
      [(9, 0x719, 1)] := by
  decide +kernel

/-- Refutes O11: its clause on EVENT_CLOSE_EXPIRY rules out what isolations, movers and ring ports would do after the close, but not
the accesses held back under R484. One of those leaves a record in the sort buffer, which the clause has empty. -/
theorem not_eventStreamCollectsAndReleases : ¬ Obligations.EventStreamCollectsAndReleases := by
  rintro ⟨-, close, -⟩
  obtain ⟨t, next, -, empty, -⟩ := close 7 0 [] { tick := 7, source := 5, kind := 1, sev := 2 } closingNode rfl rfl rfl rfl rfl
    rfl (by decide +kernel) (by decide +kernel) (by decide +kernel) rfl
  have opened := closingNode_opened
  rw [← core_of_onMem (exec_eventCloseExpiry closingNode) next, empty] at opened
  simp at opened

end Sys2Proof.Machine

/-! SUPPORT. A state in which the statement about receive records fails: a UART in loop back does not listen to its line, and a
break on it closes nothing (R277, R283). -/

namespace Sys2Proof.Machine

theorem exec_chBreak (n : Fin 128) (s : State) : exec (.chBreak n) s = onCore (fun c => c.chanBreak n) s := rfl

/-- R283: a receiver that does not listen to the line sees no break. -/
theorem Core.chanBreak_of_deaf {c : Core} {n : Nat} (deaf : c.hears n = false) : c.chanBreak n = c := by
  simp [Core.chanBreak, deaf]

/-- Channel 0 is a UART with idle-gap framing and CH_PINS[3], the loop back, at 1; a packet of one byte is in reception. -/
def loopedUart : State :=
  ⟨[], [], { node := { phase := .run, base := 5, ioHold := false },
             inForce := [(Reg.CH_ROLE 0, 1), (Reg.CH_PINS 0, 8), (Reg.CH_FRAMING 0, 1)],
             chans := [(0, { packet := some { bytes := [1], cap := 20 } })] }⟩

theorem loopedUart_deaf : loopedUart.core.hears 0 = false := by decide +kernel

/-- Refutes O13: its clause on a break has a channel of role 1 or 2 that is on, but not that its receiver listens to ball B. In loop
back the break is on a line that the receiver does not hear (R277, R283): no record is made. -/
theorem not_serialChannelsReceiveRecords : ¬ Obligations.SerialChannelsReceiveRecords := by
  rintro ⟨-, break_, -⟩
  obtain ⟨t, next, r, made, -⟩ := break_ 0 { bytes := [1], cap := 20 } loopedUart (by decide +kernel) (by decide +kernel)
    (by decide +kernel) rfl rfl
  rw [core_of_onCore (exec_chBreak 0 loopedUart) next, Fin.val_zero, Core.chanBreak_of_deaf loopedUart_deaf] at made
  exact absurd made List.not_mem_nil

end Sys2Proof.Machine

/-! SUPPORT. A state in which the statement about the scanner and the banks fails: with the drain bank empty, the age of an open
STREAM record closes it and swaps it in (R294, R301). -/

namespace Sys2Proof.Machine

theorem exec_scannerRxVisit (n : Fin 128) (s : State) : exec (.scannerRxVisit n) s = onCore (fun c => c.scannerRx n) s := rfl

/-- Channel 0 is a UART in STREAM framing with CH_FLUSH_AGE 1; its drain bank holds one record without a key, and the byte of its
open record came 10 ms ago. -/
def agedStream : State :=
  ⟨[], [], { node := { phase := .run, base := 5, ioHold := false }, time := { now := 10000000 },
             inForce := [(Reg.CH_ROLE 0, 1)], regs := [(Reg.CH_FLUSH_AGE 0, 1)],
             chans := [(0, { rxDrain := [{ key := 0xFFFF }], packet := some { bytes := [1], cap := 20 } })] }⟩

/-- R301: the visit empties the drain bank, and the open record follows into it. -/
theorem agedStream_visited_drain : ((agedStream.core.scannerRx 0).chan 0).rxDrain.map (fun r => r.payload) = [[1]] := by
  decide +kernel

/-- Refutes O14: its clause on a record without a key asks for an empty fill bank, but not for no open record of a STREAM. One older
than CH_FLUSH_AGE closes at that visit and swaps into the drain bank (R301), which the clause has empty. -/
theorem not_serialBanksDrainAndClear : ¬ Obligations.SerialBanksDrainAndClear := by
  rintro ⟨visit, -⟩
  obtain ⟨t, next, empty, -⟩ := visit 0 { key := 0xFFFF } agedStream (by decide +kernel) (by decide +kernel) (by decide +kernel)
    (by decide +kernel) rfl rfl rfl rfl
  have drain := agedStream_visited_drain
  rw [core_of_onCore (exec_scannerRxVisit 0 agedStream) next, Fin.val_zero] at empty
  simp [empty] at drain

end Sys2Proof.Machine

/-! SUPPORT. A state in which the statement about transmit records fails: an injection armed at the egress checker of a channel
fails the item of a write burst (R211, R223). -/

namespace Sys2Proof.Machine

theorem exec_txWrite (n : Fin 128) (bs : Bytes) (s : State) : exec (.txWrite n bs) s = onCore (fun c => c.chTxWrite n bs) s := rfl

/-- Channel 0 is a UART, and one injection is armed at its egress checker (code 4, instance 0). -/
def armedUart : State :=
  ⟨[], [], { node := { phase := .run, base := 5, ioHold := false }, integ := { armed := (4, 0) },
             inForce := [(Reg.CH_ROLE 0, 1)], regs := [(Reg.INJ_LEFT, 1)] }⟩

/-- R313, R431: the data port answers the burst with an error. -/
theorem armedUart_written_port : ((armedUart.core.chTxWrite 0 [1]).chan 0).port = none := by decide +kernel

/-- Refutes O15: its clause on a write burst does not say that no injection is armed at the channel's egress checker. There the
item's check reads inverted (R223), the item fails and the port answers with an error, not with `some []`. -/
theorem not_serialChannelsTransmitRecords : ¬ Obligations.SerialChannelsTransmitRecords := by
  rintro ⟨-, write, -⟩
  obtain ⟨t, next, answered, -⟩ := write 0 [1] armedUart (by decide +kernel) (by decide +kernel) rfl (by decide +kernel)
    (by decide) (by decide) (by decide +kernel)
  rw [core_of_onCore (exec_txWrite 0 [1] armedUart) next, Fin.val_zero, armedUart_written_port] at answered
  exact absurd answered (by decide)

end Sys2Proof.Machine

/-! SUPPORT. A state in which the statement about other instances fails: a lockout of one rail has the collector place a record of a
tick that has closed, and its ISOLATE step locks another rail out (R569, R577, R582). -/

namespace Sys2Proof.Machine

theorem exec_pgLost (n : Fin 16) (s : State) : exec (.pgLost n) s = onCore (fun c => c.pgLost n) s := rfl

/-- Rails 0 and 1 are ON, rail 0 with RAIL_CFG[2] at 1 and no retries. The collector has closed tick 8 of the present tick 9, and
holds a report of that tick: a trip of rail 1. The 64 escalation slots are taken, and no timer runs. -/
def fullSlots : State :=
  ⟨[], [], { node := { phase := .run, base := 5 }, time := { lastTick := some 9, tag := some 9 }, inForce := [(Reg.RAIL_CFG 0, 4)],
             regs := [(Reg.RETRY_COUNT 0, 0), (Reg.RAIL_STATE 0, 4), (Reg.RAIL_STATE 1, 4)],
             fc := { closed := some 8, arrivals := [{ onset := 8, source := Src.RAIL_TRIP, sev := 2, inst := 1 }],
                     slots := List.replicate 64 { record := {} } } }⟩

/-- R577: with no slot free, the record placed takes its steps at once, of which ISOLATE locks rail 1 out. -/
theorem fullSlots_pgLost_railState : (fullSlots.core.pgLost 0).reg (Reg.RAIL_STATE 1) = 6 := by decide +kernel

/-- Refutes O60: an open tick does not rule out that the collector holds a report of an earlier, closed one. The lockout of rail 0
flushes it (R569), and with every escalation slot taken its ISOLATE step changes RAIL_STATE of rail 1. -/
theorem not_otherInstancesStay : ¬ Obligations.OtherInstancesStay := by
  intro h
  obtain ⟨m, c, next⟩ := exec_next (.pgLost 0) fullSlots
  obtain ⟨-, -, -, rails⟩ := h (.pgLost 0) fullSlots _ (by decide +kernel) next
  have kept : c.reg (Reg.RAIL_STATE 1) = fullSlots.core.reg (Reg.RAIL_STATE 1) :=
    (rails 0 1 rfl (by decide)).2 _ (by decide) (by decide) (by decide)
  rw [show c = _ from core_of_onCore (exec_pgLost 0 fullSlots) next, Fin.val_zero, fullSlots_pgLost_railState] at kept
  exact absurd kept (by decide +kernel)

end Sys2Proof.Machine

/-! SUPPORT. Frames of commands: a command changes no parts of the core beside a list T, and no registers or OCTETS members beside a
list W and what reports may change. `Core.Within` says so of two cores; the lemmas of this section say it of each change that the
model's operations are made of, so that an operation's frame follows its text. -/

namespace Sys2Proof.Machine

/-- From a settled core a, core c is reached by changes of the parts T and the members W alone, and is settled too. -/
def Core.Within (T : List CorePart) (W : List KeySet) (a c : Core) : Prop :=
  a.settled = true → c.settled = true ∧ (∀ p ∉ T, p.same a c) ∧
    ∀ k ∉ reportKeys, (∀ x ∈ W, ¬ x.has k) → c.reg k = a.reg k ∧ c.blob k = a.blob k

/-- The member with key k is one of W. -/
def Covers (W : List KeySet) (k : Nat) : Prop := ∃ x ∈ W, x.has k

theorem covers_one {W : List KeySet} {k : Nat} (h : KeySet.one k ∈ W) : Covers W k := ⟨_, h, rfl⟩

theorem covers_each {W : List KeySet} {f : Nat → Nat} (h : KeySet.each f ∈ W) (n : Nat) : Covers W (f n) := ⟨_, h, n, rfl⟩

theorem CorePart.same.trans {p : CorePart} {a b c : Core} (h : p.same a b) (g : p.same b c) : p.same a c := by
  cases p <;> exact Eq.trans g h

theorem Core.Keeps.settled {c d : Core} (h : c.Keeps d) (hs : c.settled = true) : d.settled = true := by
  obtain ⟨open_, still⟩ := Bool.and_eq_true_iff.mp hs
  exact Bool.and_eq_true_iff.mpr ⟨h.tickOpen.trans open_, h.2.2 still⟩

namespace Core.Within
variable {T : List CorePart} {W : List KeySet} {a c : Core}

theorem refl (a : Core) : a.Within T W a := fun h => ⟨h, fun p _ => (a.keeps_refl).same p, fun _ _ _ => ⟨rfl, rfl⟩⟩

theorem trans {b : Core} (h : a.Within T W b) (g : b.Within T W c) : a.Within T W c := by
  intro hs
  obtain ⟨hb, same, kept⟩ := h hs
  obtain ⟨hc, same', kept'⟩ := g hb
  exact ⟨hc, fun p hp => (same p hp).trans (same' p hp), fun k hk hw =>
    ⟨(kept' k hk hw).1.trans (kept k hk hw).1, (kept' k hk hw).2.trans (kept k hk hw).2⟩⟩

/-- What reports may change is part of no frame. -/
theorem keeps {d : Core} (h : a.Within T W c) (g : c.Keeps d) : a.Within T W d :=
  h.trans fun hs => ⟨g.settled hs, fun p _ => g.same p, fun k hk _ => ⟨g.reg hk, by simp only [Core.blob, g.blobs]⟩⟩

/-! The register store. -/

theorem setReg {k : Nat} (h : a.Within T W c) (hk : Covers W k) (v : Nat) : a.Within T W (c.setReg k v) := by
  obtain ⟨x, hx, has⟩ := hk
  refine h.trans fun hs => ⟨hs, fun p _ => by cases p <;> rfl, fun j _ hw => ⟨?_, rfl⟩⟩
  rw [Core.reg_setReg, if_neg (by rintro rfl; exact hw x hx has)]

theorem incBy {k : Nat} (h : a.Within T W c) (hk : Covers W k) (n : Nat) : a.Within T W (c.incBy k n) := h.setReg hk _

theorem inc {k : Nat} (h : a.Within T W c) (hk : Covers W k) : a.Within T W (c.inc k) := h.setReg hk _

theorem incIf {k : Nat} (h : a.Within T W c) (hk : Covers W k) (b : Bool) : a.Within T W (c.incIf b k) := by
  cases b
  · exact h
  · exact h.inc hk

/-! The parts. -/

/-- A change of one part X. -/
theorem part {X : CorePart} {d : Core} (h : a.Within T W c) (hX : X ∈ T) (hp : ∀ p, p ≠ X → p.same c d)
    (hs : d.settled = c.settled) (hr : d.regs = c.regs) (hb : d.blobs = c.blobs) : a.Within T W d :=
  h.trans fun g => ⟨hs.trans g, fun p hn => hp p (by rintro rfl; exact hn hX), fun k _ _ =>
    ⟨by simp only [Core.reg, hr], by simp only [Core.blob, hb]⟩⟩

theorem putFree (h : a.Within T W c) (hT : .free ∈ T) (x : Nat) : a.Within T W { c with free := x } :=
  h.part hT (by intro p; cases p <;> simp [CorePart.same]) rfl rfl rfl

theorem putSched (h : a.Within T W c) (hT : .sched ∈ T) (x : SchedState) : a.Within T W { c with sched := x } :=
  h.part hT (by intro p; cases p <;> simp [CorePart.same]) rfl rfl rfl

theorem putRing (h : a.Within T W c) (hT : .ring ∈ T) (x : RingState) : a.Within T W { c with ring := x } :=
  h.part hT (by intro p; cases p <;> simp [CorePart.same]) rfl rfl rfl

theorem putSw (h : a.Within T W c) (hT : .sw ∈ T) (x : SwitchState) : a.Within T W { c with sw := x } :=
  h.part hT (by intro p; cases p <;> simp [CorePart.same]) rfl rfl rfl

theorem putInteg (h : a.Within T W c) (hT : .integ ∈ T) (x : IntegState) : a.Within T W { c with integ := x } :=
  h.part hT (by intro p; cases p <;> simp [CorePart.same]) rfl rfl rfl

theorem putChans (h : a.Within T W c) (hT : .chans ∈ T) (x : List (Nat × Chan)) : a.Within T W { c with chans := x } :=
  h.part hT (by intro p; cases p <;> simp [CorePart.same]) rfl rfl rfl

theorem putCans (h : a.Within T W c) (hT : .cans ∈ T) (x : List (Nat × Can)) : a.Within T W { c with cans := x } :=
  h.part hT (by intro p; cases p <;> simp [CorePart.same]) rfl rfl rfl

theorem putEngs (h : a.Within T W c) (hT : .engs ∈ T) (x : List (Nat × Engine)) : a.Within T W { c with engs := x } :=
  h.part hT (by intro p; cases p <;> simp [CorePart.same]) rfl rfl rfl

theorem putDisc (h : a.Within T W c) (hT : .disc ∈ T) (x : DiscState) : a.Within T W { c with disc := x } :=
  h.part hT (by intro p; cases p <;> simp [CorePart.same]) rfl rfl rfl

theorem putMeas (h : a.Within T W c) (hT : .meas ∈ T) (x : List (Nat × Meas)) : a.Within T W { c with meas := x } :=
  h.part hT (by intro p; cases p <;> simp [CorePart.same]) rfl rfl rfl

theorem putMap (h : a.Within T W c) (hT : .map ∈ T) (x : MapState) : a.Within T W { c with map := x } :=
  h.part hT (by intro p; cases p <;> simp [CorePart.same]) rfl rfl rfl

theorem putTwin (h : a.Within T W c) (hT : .twin ∈ T) (x : TwinState) : a.Within T W { c with twin := x } :=
  h.part hT (by intro p; cases p <;> simp [CorePart.same]) rfl rfl rfl

theorem advance (h : a.Within T W c) (hT : .time ∈ T) (d : Nat) : a.Within T W (c.advance d) :=
  h.part hT (by intro p; cases p <;> simp [CorePart.same]) rfl rfl rfl

theorem advanceTo (h : a.Within T W c) (hT : .time ∈ T) (t : Nat) : a.Within T W (c.advanceTo t) := by
  unfold Core.advanceTo
  split
  · exact h.advance hT _
  · exact h

theorem advanceSys (h : a.Within T W c) (hT : .time ∈ T) (t : Nat) : a.Within T W (c.advanceSys t) := by
  unfold Core.advanceSys
  split
  · exact h.part hT (by intro p; cases p <;> simp [CorePart.same]) rfl rfl rfl
  · exact h

theorem setChan (h : a.Within T W c) (hT : .chans ∈ T) (n : Nat) (x : Chan) : a.Within T W (c.setChan n x) := h.putChans hT _

theorem setCan (h : a.Within T W c) (hT : .cans ∈ T) (n : Nat) (x : Can) : a.Within T W (c.setCan n x) := h.putCans hT _

theorem setEng (h : a.Within T W c) (hT : .engs ∈ T) (n : Nat) (x : Engine) : a.Within T W (c.setEng n x) := h.putEngs hT _

theorem setMeas (h : a.Within T W c) (hT : .meas ∈ T) (n : Nat) (x : Meas) : a.Within T W (c.setMeas n x) := h.putMeas hT _

theorem setTrunk (h : a.Within T W c) (hT : .ring ∈ T) (t : Nat) (x : Trunk) : a.Within T W (c.setTrunk t x) := h.putRing hT _

/-! Events, reports and frames of the node, which are part of no frame. -/

theorem event (h : a.Within T W c) (src code sev v : Nat) : a.Within T W (c.event src code sev v) := h.keeps (c.event_keeps _ _ _ _)

theorem eventOnce (h : a.Within T W c) (src code sev v : Nat) : a.Within T W (c.eventOnce src code sev v) :=
  h.keeps (c.eventOnce_keeps _ _ _ _)

theorem submit (h : a.Within T W c) (inp : Nat) (outs : List Nat) (f : Frame) : a.Within T W (c.submit inp outs f) :=
  h.keeps (c.submit_keeps _ _ _)

/-- The collector's lists of records are part of no frame. -/
theorem putRecords (h : a.Within T W c) (arrivals : List FaultRec) (active : List Active) (limited : List (Nat × Nat × Nat)) :
    a.Within T W { c with fc := { c.fc with arrivals := arrivals, active := active, limited := limited } } :=
  h.trans fun g => ⟨g, fun p _ => by cases p <;> rfl, fun _ _ _ => ⟨rfl, rfl⟩⟩

theorem reportSev (h : a.Within T W c) (source inst sev cause detail : Nat) (injected noEsc : Bool) :
    a.Within T W (c.reportSev source inst sev cause detail injected noEsc) := by
  intro hs
  obtain ⟨l, e⟩ := c.reportSev_open source inst sev cause detail injected noEsc (Bool.and_eq_true_iff.mp (h hs).1).1
  exact e ▸ h.putRecords _ _ _ hs

theorem report (h : a.Within T W c) (source inst cause : Nat) : a.Within T W (c.report source inst cause) :=
  h.reportSev _ _ _ _ _ _ _

theorem reportOnce (h : a.Within T W c) (source inst sub cause detail : Nat) (injected : Bool) :
    a.Within T W (c.reportOnce source inst sub cause detail injected) := by
  unfold Core.reportOnce
  split
  · exact h
  · exact (h.putRecords _ _ _).reportSev _ _ _ _ _ _ _

theorem raise (h : a.Within T W c) (source inst cause : Nat) : a.Within T W (c.raise source inst cause) := by
  intro hs
  obtain ⟨x, l, e⟩ := c.raise_open source inst cause (Bool.and_eq_true_iff.mp (h hs).1).1
  exact e ▸ h.putRecords _ _ _ hs

theorem clear (h : a.Within T W c) (source inst cause : Nat) : a.Within T W (c.clear source inst cause) := fun hs =>
  h.keeps (Core.clear_keeps (Bool.and_eq_true_iff.mp (h hs).1).2 source inst cause) hs

/-! Shapes of the model's definitions. -/

theorem ite {p : Prop} [Decidable p] {d e : Core} (hd : a.Within T W d) (he : a.Within T W e) :
    a.Within T W (if p then d else e) := by
  split
  · exact hd
  · exact he

theorem foldl {α : Type} {f : Core → α → Core} (hf : ∀ d x, a.Within T W d → a.Within T W (f d x)) (l : List α)
    (h : a.Within T W c) : a.Within T W (l.foldl f c) := by
  induction l generalizing c with
  | nil => exact h
  | cons x l ih => exact ih (hf c x h)

end Core.Within

/-- A command whose next state is within its own lists leaves the rest as it was. -/
theorem Core.Within.unchanged {i : Instr} {s t : State} (h : s.core.Within (touched i) (written i) t.core)
    (hs : s.core.settled = true) : Unchanged i s t := (h hs).2

end Sys2Proof.Machine

/-! SUPPORT. Frames of the checkers (R208, R220 to R223) and of the receive side of the serial channels (chapter 08). -/

namespace Sys2Proof.Machine

/-- Room for what a check of an item may change. -/
structure CheckFoot (T : List CorePart) (W : List KeySet) : Prop where
  integ : .integ ∈ T
  keys : checkKeys ⊆ W

theorem CheckFoot.one {T : List CorePart} {W : List KeySet} (F : CheckFoot T W) {k : Nat} (h : KeySet.one k ∈ checkKeys) :
    Covers W k := covers_one (F.keys h)

namespace Core.Within
variable {T : List CorePart} {W : List KeySet} {a c : Core}

section
variable (F : CheckFoot T W)
include F

theorem injStep (h : a.Within T W c) : a.Within T W c.injStep := by
  have counted := (h.setReg (F.one (k := Reg.INJ_LEFT) (by simp [checkKeys])) (c.reg Reg.INJ_LEFT - 1)).inc
    (F.one (k := Reg.CNT_INJECTED) (by simp [checkKeys]))
  exact ite (counted.setReg (F.one (by simp [checkKeys])) _) counted

theorem beginCheck (h : a.Within T W c) (code inst : Nat) : a.Within T W (c.beginCheck code inst).2 := by
  unfold Core.beginCheck
  split
  · exact h.injStep F
  · exact h

theorem checkFrame (h : a.Within T W c) (code inst : Nat) (f : Frame) : a.Within T W (c.checkFrame code inst f).2 :=
  h.beginCheck F code inst

theorem lastFail (h : a.Within T W c) (code inst : Nat) (f : Frame) (injected : Bool) :
    a.Within T W (c.lastFail code inst f injected) := by
  unfold Core.lastFail
  dsimp only
  split
  · exact h
  · refine setReg (setReg (setReg (setReg (setReg (setReg (setReg (h.putInteg F.integ _) ?_ _) ?_ _) ?_ _) ?_ _) ?_ _) ?_ _) ?_ _
    all_goals exact F.one (by simp [checkKeys])

theorem localFail {cnt : Nat} (h : a.Within T W c) (hc : Covers W cnt) (code inst : Nat) (f : Frame) (injected : Bool) :
    a.Within T W (c.localFail code inst cnt f injected) :=
  ((h.inc hc).lastFail F code inst f injected).reportOnce _ _ _ _ _ _

theorem egressBurst (h : a.Within T W c) (code inst : Nat) (f : Frame) (injected : Bool) :
    a.Within T W (c.egressBurst code inst f injected) :=
  ite ((h.putInteg F.integ _).reportSev _ _ _ _ _ _ _) (h.putInteg F.integ _)

theorem egressFail {cnt : Nat} (h : a.Within T W c) (hc : Covers W cnt) (code inst : Nat) (f : Frame) (injected : Bool) :
    a.Within T W (c.egressFail code inst cnt f injected) :=
  (((h.inc hc).lastFail F code inst f injected).reportOnce _ _ _ _ _ _).egressBurst F code inst f injected

theorem egress {cnt : Nat} (h : a.Within T W c) (hc : Covers W cnt) (code inst : Nat) (f : Frame) :
    a.Within T W (c.egress code inst cnt f).2 := by
  unfold Core.egress
  dsimp only
  split
  · exact h.checkFrame F code inst f
  · exact (h.checkFrame F code inst f).egressFail F hc _ _ _ _

end

end Core.Within

/-! Serial channels: the receive side. -/

/-- Room for what the close of a receive record may change (R301). -/
structure RecordFoot (T : List CorePart) (W : List KeySet) : Prop where
  chans : .chans ∈ T
  keys : packetKeys ⊆ W

theorem RecordFoot.each {T : List CorePart} {W : List KeySet} (F : RecordFoot T W) {f : Nat → Nat}
    (h : KeySet.each f ∈ packetKeys) (n : Nat) : Covers W (f n) := covers_each (F.keys h) n

namespace Core.Within
variable {T : List CorePart} {W : List KeySet} {a c : Core}

section
variable (F : RecordFoot T W)
include F

theorem goodRecord (h : a.Within T W c) (n : Nat) : a.Within T W (c.goodRecord n) :=
  ite ((h.setChan F.chans _ _).eventOnce _ _ _ _) (h.setChan F.chans _ _)

theorem fileRecord (h : a.Within T W c) (n : Nat) (p : Packet) (extra : Nat) : a.Within T W (c.fileRecord n p extra) := by
  unfold Core.fileRecord
  extract_lets modbus len crcBad crcErr x flags pay r r' filed counted lined
  have hFiled : a.Within T W filed := h.setChan F.chans _ _
  have hLined : a.Within T W lined := ((hFiled.inc (F.each (by simp [packetKeys]) n)).incIf
    (F.each (by simp [packetKeys]) n) _).incIf (F.each (by simp [packetKeys]) n) _
  exact ite (hLined.goodRecord F n) hLined

theorem closeStream (h : a.Within T W c) (n : Nat) : a.Within T W (c.closeStream n) := by
  unfold Core.closeStream
  split
  · exact ite h (h.fileRecord F n _ _)
  · exact h

theorem rxSwap (h : a.Within T W c) (n : Nat) : a.Within T W (c.rxSwap n) := by
  unfold Core.rxSwap
  refine ite h ?_
  extract_lets aged d x full
  have hd : a.Within T W d := ite (h.closeStream F n) h
  exact ite (hd.setChan F.chans _ _) hd

theorem closeRecord (h : a.Within T W c) (n : Nat) (p : Packet) (extra : Nat) : a.Within T W (c.closeRecord n p extra) :=
  (h.fileRecord F n p extra).rxSwap F n

theorem endPacket (h : a.Within T W c) (n extra : Nat) : a.Within T W (c.endPacket n extra) := by
  unfold Core.endPacket
  split
  · exact h
  · exact ite (h.setChan F.chans _ _) (h.closeRecord F n _ extra)

theorem chanBreak (h : a.Within T W c) (n : Nat) : a.Within T W (c.chanBreak n) :=
  ite h ((h.endPacket F n _).eventOnce _ _ _ _)

theorem openPacket (h : a.Within T W c) (n start at_ : Nat) : a.Within T W (c.openPacket n start at_).2 := h.rxSwap F n

/-- The packet in reception, or one that opens now. -/
theorem packetOrOpen (h : a.Within T W c) (n start at_ : Nat) :
    a.Within T W (match (c.chan n).packet with
      | some p => (p, c)
      | none => c.openPacket n start at_).2 := by
  split
  · exact h
  · exact h.openPacket F n start at_

theorem idleGap (h : a.Within T W c) (hT : .time ∈ T) (n : Nat) : a.Within T W (c.idleGap n) := by
  unfold Core.idleGap
  split
  · exact h
  · exact ite h ((h.advanceTo hT _).endPacket F n 0)

theorem modbusSilence (h : a.Within T W c) (hT : .time ∈ T) (n : Nat) : a.Within T W (c.modbusSilence n) :=
  ite h ((h.advanceTo hT _).endPacket F n 0)

theorem flushAge (h : a.Within T W c) (hT : .time ∈ T) (n : Nat) : a.Within T W (c.flushAge n) := by
  unfold Core.flushAge
  refine ite h ?_
  split
  · exact h
  · exact ((h.advanceTo hT _).closeStream F n).rxSwap F n

theorem portAnswer {r : Option Bytes × Core} (h : a.Within T W r.2) (n : Nat) : a.Within T W (Core.portAnswer n r) :=
  h.setChan F.chans _ _

theorem rxPop (h : a.Within T W c) (n size : Nat) : a.Within T W (c.rxPop n size).2 := by
  unfold Core.rxPop
  dsimp only
  split
  · exact h
  · exact (h.setChan F.chans _ _).rxSwap F n

theorem rxRelease (h : a.Within T W c) (n count : Nat) : a.Within T W (c.rxRelease n count).2 := by
  unfold Core.rxRelease
  dsimp only
  split
  · exact h
  · exact (h.setChan F.chans _ _).rxSwap F n

variable (counted : KeySet.each Reg.CH_CNT_RX_OVERRUN ∈ W)
include counted

omit F in
theorem rxOverrun (h : a.Within T W c) (hT : .chans ∈ T) (n : Nat) : a.Within T W (c.rxOverrun n) :=
  ((h.inc (covers_each counted n)).setChan hT _ _).eventOnce _ _ _ _

theorem framedByte (h : a.Within T W c) (n : Nat) (b : Byte) (flags start at_ : Nat) :
    a.Within T W (c.framedByte n b flags start at_) := by
  have opened := h.packetOrOpen F n start at_
  exact ite (opened.setChan F.chans _ _) (ite (opened.setChan F.chans _ _) (ite
    ((opened.setChan F.chans _ _).rxOverrun counted F.chans n) ((opened.closeRecord F n _ _).setChan F.chans _ _)))

theorem streamByte (h : a.Within T W c) (n : Nat) (b : Byte) (flags start at_ : Nat) :
    a.Within T W (c.streamByte n b flags start at_) := by
  have opened := h.packetOrOpen F n start at_
  exact ite (ite (opened.setChan F.chans _ _) ((opened.setChan F.chans _ _).rxOverrun counted F.chans n))
    (ite ((opened.setChan F.chans _ _).closeRecord F n _ _) (opened.setChan F.chans _ _))

theorem rxByte (h : a.Within T W c) (n : Nat) (b : Byte) (flags start at_ : Nat) :
    a.Within T W (c.rxByte n b flags start at_) :=
  ite (h.streamByte F counted n b flags start at_) (h.framedByte F counted n b flags start at_)

theorem charRx (h : a.Within T W c) (n : Nat) (b : Byte) (ok : Bool) (silence : Nat) :
    a.Within T W (c.charRx n b ok silence) :=
  ite h ((h.rxByte F counted n _ _ _ _).setChan F.chans _ _)

theorem transaction (h : a.Within T W c) (n : Nat) (bs : Bytes) (flags : Nat) : a.Within T W (c.transaction n bs flags) := by
  unfold Core.transaction
  extract_lets start d
  have hd : a.Within T W d := h.foldl (fun e b g => g.framedByte F counted n b _ _ _) bs
  exact (ite (((hd.packetOrOpen F n start d.now).incIf (F.each (by simp [packetKeys]) n) _).incIf
    (F.each (by simp [packetKeys]) n) _) (hd.packetOrOpen F n start d.now)).setChan F.chans _ _ |>.endPacket F n flags

theorem targetWrite (h : a.Within T W c) (n : Nat) (w : TargetData) : a.Within T W (c.targetWrite n w) := by
  unfold Core.targetWrite
  refine ite h (ite ?_ ?_)
  all_goals exact (h.setChan F.chans _ _).transaction F counted n _ _

end

end Core.Within
end Sys2Proof.Machine

/-! SUPPORT. Frames of the trunks (R125 to R133), as the channels that carry them reach them. -/

namespace Sys2Proof.Machine

/-- R131: the figures of the trunk queues. -/
def queueKeys : List KeySet :=
  [.each Reg.TRUNK_QUEUED, .one Reg.TRUNK_QUEUED_C3, .one Reg.TRUNK_QUEUED_C4, .one Reg.TRUNK_QUEUED_C6]

/-- R127 to R131: what the blocks that arrive on a trunk count beside. -/
def blockKeys : List KeySet :=
  [.each Reg.TRUNK_CNT_BAD_BLOCK, .each Reg.TRUNK_CNT_DROP_AGE, .each Reg.TRUNK_CNT_RX, .each Reg.TRUNK_CNT_TX,
    .each Reg.TRUNK_STATE]

/-- Room for what a trunk's queue and checkers may change. -/
structure TrunkFoot (T : List CorePart) (W : List KeySet) : Prop extends CheckFoot T W where
  ring : .ring ∈ T
  queue : queueKeys ⊆ W
  fail : .one Reg.CNT_TRUNK_FAIL ∈ W

namespace Core.Within
variable {T : List CorePart} {W : List KeySet} {a c : Core}

theorem undeliver (h : a.Within T W c) (hT : .sw ∈ T) (port : Nat) (f : Frame) : a.Within T W (c.undeliver port f) :=
  h.putSw hT _

section
variable (F : TrunkFoot T W)
include F

theorem trunkQueued (h : a.Within T W c) (t : Nat) : a.Within T W (c.trunkQueued t) :=
  (((h.setReg (covers_each (F.queue (by simp [queueKeys])) t) _).setReg (covers_one (F.queue (by simp [queueKeys]))) _).setReg
    (covers_one (F.queue (by simp [queueKeys]))) _).setReg (covers_one (F.queue (by simp [queueKeys]))) _

theorem trunkEnqueue (h : a.Within T W c) (hT : .sw ∈ T) (full : .each Reg.TRUNK_CNT_DROP_FULL ∈ W)
    (cls : .each Reg.TRUNK_CNT_DROP_CLASS ∈ W) (t : Nat) (f : Frame) : a.Within T W (c.trunkEnqueue t f) := by
  have taken := h.undeliver hT (c.trunkPort t) f
  have checked := taken.checkFrame F.toCheckFoot 0x0B t f
  exact ite h (ite (taken.inc (covers_each cls t)) (ite
    (checked.localFail F.toCheckFoot (covers_one F.fail) _ _ _ _) (ite (checked.inc (covers_each full t))
      ((checked.setTrunk F.ring _ _).trunkQueued F t))))

variable (G : blockKeys ⊆ W)
include G

theorem ageHead (n : Nat) (h : a.Within T W c) (t cls : Nat) : a.Within T W (c.ageHead t cls n) := by
  induction n generalizing c with
  | zero => exact h
  | succ n ih =>
    unfold Core.ageHead
    dsimp only
    split
    · exact h
    · exact ite (ih (((h.setTrunk F.ring _ _).inc (covers_each (G (by simp [blockKeys])) t)).trunkQueued F t)) h

theorem restartTrunk (h : a.Within T W c) (t : Nat) : a.Within T W (c.restartTrunk t) :=
  ((h.setTrunk F.ring _ _).foldl (fun _ _ g => g.ageHead F G _ t _) _).trunkQueued F t

theorem linkReset (h : a.Within T W c) (t : Nat) : a.Within T W (c.linkReset t) :=
  (h.restartTrunk F G t).setTrunk F.ring _ _

theorem takeAck (h : a.Within T W c) (t k ack : Nat) : a.Within T W (c.takeAck t k ack) := by
  unfold Core.takeAck
  dsimp only
  split
  · exact h
  · exact ((h.setTrunk F.ring _ _).incBy (covers_each (G (by simp [blockKeys])) t) _).trunkQueued F t

omit F G in
theorem fromTrunk (h : a.Within T W c) (inp : Nat) (f : Frame) : a.Within T W (c.fromTrunk inp f) := by
  unfold Core.fromTrunk
  have known := h.keeps (c.dedup_keeps f)
  exact ite (ite (known.submit _ _ _) known) (h.keeps (c.toRing_keeps _ _))

theorem trunkFrame (h : a.Within T W c) (t : Nat) (body : Bytes) (deflated : Bool) :
    a.Within T W (c.trunkFrame t body deflated) := by
  unfold Core.trunkFrame
  split
  · exact h.inc (covers_each (G (by simp [blockKeys])) t)
  · next f _ =>
    have checked := (h.inc (covers_each (f := Reg.TRUNK_CNT_RX) (G (by simp [blockKeys])) t)).checkFrame F.toCheckFoot 0x0C t f
    exact ite (checked.localFail F.toCheckFoot (covers_one F.fail) _ _ _ _) (checked.fromTrunk _ _)

theorem joinPiece (h : a.Within T W c) (t k : Nat) (b : TrunkBlock) : a.Within T W (c.joinPiece t k b) :=
  ite ((h.setTrunk F.ring _ _).trunkFrame F G t _ _) (h.setTrunk F.ring _ _)

theorem takeBlock (h : a.Within T W c) (t : Nat) (b : TrunkBlock) : a.Within T W (c.takeBlock t b) := by
  have acked := h.takeAck F G t (b2n (bit b.format 4)) b.ack
  exact ite h (ite acked (ite (acked.joinPiece F G t _ b) (acked.setTrunk F.ring _ _)))

theorem trunkGood (h : a.Within T W c) (t : Nat) : a.Within T W (c.trunkGood t) :=
  ((h.setTrunk F.ring _ _).setReg (covers_each (G (by simp [blockKeys])) t) _).clear _ _ _

theorem trunkOctets (h : a.Within T W c) (t : Nat) (octets : Bytes) : a.Within T W (c.trunkOctets t octets) :=
  ite (h.inc (covers_each (G (by simp [blockKeys])) t))
    (ite ((h.trunkGood F G t).linkReset F G t) ((h.trunkGood F G t).takeBlock F G t _))

theorem trunkChar (h : a.Within T W c) (t : Nat) (b : Byte) : a.Within T W (c.trunkChar t b) := by
  have begun := h.setTrunk F.ring t { c.trunk t with rx := [] }
  unfold Core.trunkChar
  refine ite (ite begun ?_) (h.setTrunk F.ring _ _)
  split
  · exact begun.trunkOctets F G t _
  · exact begun.inc (covers_each (G (by simp [blockKeys])) t)

theorem trunkRx (h : a.Within T W c) (t : Nat) (chars : Bytes) : a.Within T W (c.trunkRx t chars) :=
  ite h (h.foldl (fun _ b g => g.trunkChar F G t b) chars)

end
end Core.Within
end Sys2Proof.Machine

/-! SUPPORT. Frames of the serial channels: clears, the scanner and the transmit path (R303 to R316). -/

namespace Sys2Proof.Machine
namespace Core.Within
variable {T : List CorePart} {W : List KeySet} {a c : Core}

/-- A fold whose state S holds a core. -/
theorem foldlProj {S α : Type} (π : S → Core) {f : S → α → S}
    (hf : ∀ d x, a.Within T W (π d) → a.Within T W (π (f d x))) (l : List α) {d : S} (h : a.Within T W (π d)) :
    a.Within T W (π (l.foldl f d)) := by
  induction l generalizing d with
  | nil => exact h
  | cons x l ih => exact ih (hf d x h)

section
variable (hT : .chans ∈ T)
include hT

theorem clearRx (h : a.Within T W c) (lost : .each Reg.CH_CNT_RX_OVERRUN ∈ W) (n : Nat) : a.Within T W (c.clearRx n) :=
  (h.incBy (covers_each lost n) _).setChan hT _ _

theorem clearTx (h : a.Within T W c) (lost : .each Reg.CH_CNT_TX_DROP ∈ W) (n : Nat) : a.Within T W (c.clearTx n) :=
  (h.incBy (covers_each lost n) _).setChan hT _ _

theorem clearLine (h : a.Within T W c) (lost : .each Reg.CH_CNT_TX_DROP ∈ W) (n : Nat) : a.Within T W (c.clearLine n) :=
  ite ((h.clearTx hT lost n).setChan hT _ _) (h.clearTx hT lost n)

theorem ptrMismatch (h : a.Within T W c) (rx : .each Reg.CH_CNT_RX_OVERRUN ∈ W) (tx : .each Reg.CH_CNT_TX_DROP ∈ W)
    (reset : .each Reg.CH_CNT_QUEUE_RESET ∈ W) (n : Nat) (side : Bool) : a.Within T W (c.ptrMismatch n side) :=
  ite h ((((ite (h.clearLine hT tx n) (h.clearRx hT rx n)).inc (covers_each reset n)).eventOnce _ _ _ _).report _ _ _)

theorem txSwap (h : a.Within T W c) (n : Nat) : a.Within T W (c.txSwap n) := ite (h.setChan hT _ _) h

theorem rxSilent (h : a.Within T W c) (ht : .time ∈ T) (n : Nat) : a.Within T W (c.rxSilent n) :=
  ite h (((h.advanceTo ht _).setChan hT _ _).eventOnce _ _ _ _)

theorem busStuck (h : a.Within T W c) (state : .each Reg.CH_STATE ∈ W) (n ns : Nat) (low : Bool) :
    a.Within T W (c.busStuck n ns low) :=
  ite h (((h.setChan hT _ _).setReg (covers_each state n) _).eventOnce _ _ _ _)

theorem busRetry (h : a.Within T W c) (ht : .time ∈ T) (state : .each Reg.CH_STATE ∈ W) (n : Nat) (low : Bool) :
    a.Within T W (c.busRetry n low) := by
  unfold Core.busRetry
  split
  · exact h
  · exact ite h (((h.advanceTo ht _).setChan hT _ _).setReg (covers_each state n) _)

theorem arbRetry (h : a.Within T W c) (ht : .time ∈ T) (n : Nat) : a.Within T W (c.arbRetry n) := by
  unfold Core.arbRetry
  split
  · exact h
  · exact (h.advanceTo ht _).setChan hT _ _

/-- R310, R311: items through the egress checker of the channel. -/
theorem fillTx (F : CheckFoot T W) (serial : .one Reg.CNT_EGRESS_SERIAL ∈ W) (k : Nat) (h : a.Within T W c) (n : Nat) :
    a.Within T W (c.fillTx n k) := by
  induction k generalizing c with
  | zero => exact h
  | succ k ih =>
    unfold Core.fillTx
    dsimp only
    split
    · exact h
    · next f rest _ =>
      have checked := (h.setChan hT n { c.chan n with staging := rest }).egress F (covers_one serial) 0x04 n f
      exact ite h (ih ((ite (checked.setChan hT _ _) checked).txSwap hT n))

theorem scannerTx (h : a.Within T W c) (F : CheckFoot T W) (serial : .one Reg.CNT_EGRESS_SERIAL ∈ W) (n : Nat) :
    a.Within T W (c.scannerTx n) := ite h (h.fillTx hT F serial 64 n)

end

/-- R519: the note to the standby that a record has left. -/
theorem twSent (h : a.Within T W c) (hj : .one Reg.JSEQ_LAST ∈ W) (kind inst cls stream seq : Nat) :
    a.Within T W (c.twSent kind inst cls stream seq) := by
  unfold Core.twSent
  dsimp only
  split
  · exact h
  · refine keeps ?_ (Core.twSend_keeps _ _ _)
    split
    · exact h.setReg (covers_one hj) _
    · exact h

section
variable (hT : .chans ∈ T) (hj : .one Reg.JSEQ_LAST ∈ W)
include hT hj

theorem popTx (h : a.Within T W c) (n : Nat) : a.Within T W (c.popTx n) := by
  unfold Core.popTx
  dsimp only
  refine txSwap hT (setChan ?_ hT _ _) n
  split
  · exact h.twSent hj _ _ _ _ _
  · exact h

theorem txStart (h : a.Within T W c) (ht : .time ∈ T) (err : .each Reg.CH_CNT_LINE_ERR ∈ W) (n : Nat) (ballC : Bool) :
    a.Within T W (c.txStart n ballC) := by
  unfold Core.txStart
  refine ite h ?_
  split
  · exact h
  · exact ite h (ite ((h.inc (covers_each err n)).popTx hT hj n) ((h.advanceTo ht _).setChan hT _ _))

theorem targetRead (h : a.Within T W c) (err : .each Reg.CH_CNT_LINE_ERR ∈ W) (sent : .each Reg.CH_CNT_TX_PKT ∈ W)
    (n count : Nat) : a.Within T W (c.targetRead n count) := by
  unfold Core.targetRead
  refine ite h ?_
  split
  · exact (h.setChan hT _ _).inc (covers_each err n)
  · exact (((h.popTx hT hj n).incIf (covers_each sent n) _).incIf (covers_each err n) _).setChan hT _ _

end

section
variable (F : RecordFoot T W) (counted : .each Reg.CH_CNT_RX_OVERRUN ∈ W) (hj : .one Reg.JSEQ_LAST ∈ W)
  (sent : .each Reg.CH_CNT_TX_PKT ∈ W)
include F counted

theorem loopBack (h : a.Within T W c) (n : Nat) (x : Chan) : a.Within T W (c.loopBack n x) :=
  foldlProj Prod.snd (fun _ _ g => g.rxByte F counted n _ _ _ _) x.line h

include hj sent

theorem txEnd (h : a.Within T W c) (ht : .time ∈ T) (n held : Nat) : a.Within T W (c.txEnd n held) := by
  have ended (t : Nat) := ((h.advanceTo ht t).popTx F.chans hj n).inc (covers_each sent n)
  unfold Core.txEnd
  exact ite h (ite ((((ended _).setChan F.chans _ _).loopBack F counted n _).setChan F.chans _ _)
    ((ended _).setChan F.chans _ _))

theorem spiDone (h : a.Within T W c) (ht : .time ∈ T) (n : Nat) (miso : Bytes) : a.Within T W (c.spiDone n miso) :=
  ite h (((((h.advanceTo ht _).popTx F.chans hj n).inc (covers_each sent n)).setChan F.chans _ _).transaction F counted n _ _)

theorem i2cEnd (h : a.Within T W c) (n status : Nat) (r data : Bytes) : a.Within T W (c.i2cEnd n status r data) :=
  ((h.popTx F.chans hj n).incIf (covers_each sent n) _).transaction F counted n _ _

theorem i2cDone (h : a.Within T W c) (n status : Nat) (data : Bytes) (pec : Byte) :
    a.Within T W (c.i2cDone n status data pec) :=
  ite h (ite (h.setChan F.chans _ _) (h.i2cEnd F counted hj sent n _ _ _))

end

theorem smbAlert (h : a.Within T W c) (n : Nat) : a.Within T W (c.smbAlert n) := ite h (h.eventOnce _ _ _ _)

section
variable (F : TrunkFoot T W) (hT : .chans ∈ T)
include F hT

/-- R307, R309: the records of the drain bank, to the item former or the trunk's unit. -/
theorem scannerRx (h : a.Within T W c) (R : packetKeys ⊆ W) (G : blockKeys ⊆ W) (nokey : .each Reg.CH_CNT_NOKEY ∈ W)
    (n : Nat) : a.Within T W (c.scannerRx n) := by
  unfold Core.scannerRx
  refine ite h (ite h (rxSwap ⟨hT, R⟩ (foldl ?_ _ (h.setChan hT _ _)) n))
  intro d r g
  split
  · exact g.trunkRx F G _ _
  · exact ite g (ite (g.inc (covers_each nokey n)) (g.submit _ _ _))

variable (drop : .each Reg.CH_CNT_TX_DROP ∈ W) (hs : .sw ∈ T) (full : .each Reg.TRUNK_CNT_DROP_FULL ∈ W)
  (cls : .each Reg.TRUNK_CNT_DROP_CLASS ∈ W)
include drop hs full cls

theorem stageTx (h : a.Within T W c) (n : Nat) (f : Frame) : a.Within T W (c.stageTx n f) := by
  unfold Core.stageTx
  dsimp only
  split
  · exact ite (h.trunkEnqueue F hs full cls _ f) (h.inc (covers_each drop n))
  · exact ite (h.setChan hT _ _) (h.inc (covers_each drop n))

theorem txArrive (h : a.Within T W c) (n : Nat) (f : Frame) : a.Within T W (c.txArrive n f) :=
  ite h ((h.undeliver hs _ _).stageTx F hT drop hs full cls n f)

theorem txItem (h : a.Within T W c) (serial : .one Reg.CNT_EGRESS_SERIAL ∈ W) (n : Nat) (f : Frame) :
    a.Within T W (c.txItem n f).2 := by
  have checked := h.egress F.toCheckFoot (covers_one serial) 0x04 n f
  unfold Core.txItem
  dsimp only
  split
  · exact checked.stageTx F hT drop hs full cls n f
  · exact checked

theorem chTxWrite (h : a.Within T W c) (serial : .one Reg.CNT_EGRESS_SERIAL ∈ W) (n : Nat) (bs : Bytes) :
    a.Within T W (c.chTxWrite n bs) := by
  refine setChan ?_ hT _ _
  unfold Core.txWrite
  split
  · exact h
  · exact h.txItem F hT drop hs full cls serial n _

end
end Core.Within
end Sys2Proof.Machine

/-! SUPPORT. Frames of the reads of bank storage (R217 to R219) and of the CAN controllers (chapter 09). -/

namespace Sys2Proof.Machine

/-- Room for what a read of protected memory may change. -/
structure EccFoot (T : List CorePart) (W : List KeySet) : Prop extends CheckFoot T W where
  ecc : eccKeys ⊆ W

theorem EccFoot.count {T : List CorePart} {W : List KeySet} (F : EccFoot T W) {k : Nat} (h : KeySet.one k ∈ eccKeys) :
    Covers W k := covers_one (F.ecc h)

namespace Core.Within
variable {T : List CorePart} {W : List KeySet} {a c : Core}

section
variable (F : EccFoot T W)
include F

theorem eccWord (h : a.Within T W c) (b d chk : Nat) : a.Within T W (c.eccWord b d chk).2 := by
  unfold Core.eccWord
  have first := h.beginCheck F.toCheckFoot 0x0D b
  have both : a.Within T W (if (c.beginCheck 0x0D b).1 then (false, (c.beginCheck 0x0D b).2)
      else (c.beginCheck 0x0D b).2.beginCheck 0x0E b).2 := by
    split
    · exact first
    · exact first.beginCheck F.toCheckFoot 0x0E b
  dsimp only
  split
  · exact both
  · have noted := (both.inc (F.count (k := Reg.CNT_ECC_CORR) (by simp [eccKeys]))).lastFail F.toCheckFoot
      0x0D b { src := 0xFFFF } (c.beginCheck 0x0D b).1
    exact ite (noted.reportOnce _ _ _ _ _ _) noted
  · have counted := both.inc (F.count (k := Reg.CNT_ECC_UNCORR) (by simp [eccKeys]))
    exact (counted.lastFail F.toCheckFoot _ _ _ _).reportOnce _ _ _ _ _ _

theorem eccWords (h : a.Within T W c) (m : Memory) (ws : List Nat) : a.Within T W (c.eccWords m ws).2 := by
  unfold Core.eccWords
  refine foldlProj (d := (false, c)) Prod.snd (fun d _ g => ?_) ws h
  exact eccWord (c := d.2) F g _ _ _

theorem eccScan (h : a.Within T W c) (m : Memory) (off n : Nat) : a.Within T W (c.eccScan m off n).2 := h.eccWords F m _

theorem eccOwner (h : a.Within T W c) (b n : Nat) : a.Within T W (c.eccOwner b n).2 := by
  unfold Core.eccOwner Core.eccRead
  split
  · exact h
  · refine foldlProj (d := (false, c)) Prod.snd (fun d _ g => ?_) _ h
    exact eccWord (c := d.2) F g _ _ _

end
end Core.Within

/-- R344 to R347, R350: what the error state of a controller counts and records. -/
def busKeys : List KeySet :=
  [.each Reg.CAN_CNT_BUS_OFF, .each Reg.CAN_ERRCNT, .each Reg.CAN_STATE, .each Reg.CAN_STATUS, .each Reg.CAN_TXQ]

/-- R339 to R341, R344: what a frame received counts beside. -/
def rxKeys : List KeySet :=
  [.each Reg.CAN_CNT_BUS_ERR, .each Reg.CAN_CNT_RX, .each Reg.CAN_CNT_RX_NOMATCH, .each Reg.CAN_CNT_RX_OVERRUN,
    .each Reg.CAN_RX_COUNT, .each Reg.CAN_RX_WR]

/-- Room for a controller's mailboxes and error state. -/
structure CanFoot (T : List CorePart) (W : List KeySet) : Prop where
  cans : .cans ∈ T
  txq : .each Reg.CAN_TXQ ∈ W

namespace Core.Within
variable {T : List CorePart} {W : List KeySet} {a c : Core}

theorem canEvent (h : a.Within T W c) (n kind sev value : Nat) : a.Within T W (c.canEvent n kind sev value) :=
  h.eventOnce _ _ _ _

theorem loneClear (h : a.Within T W c) (status : .each Reg.CAN_STATUS ∈ W) (n value : Nat) : a.Within T W (c.loneClear n value) :=
  ite ((h.setReg (covers_each status n) _).canEvent _ _ _ _) h

theorem loneAborted (h : a.Within T W c) (status : .each Reg.CAN_STATUS ∈ W) (n : Nat) : a.Within T W (c.loneAborted n) :=
  ite (h.loneClear status n 1) h

theorem draw (h : a.Within T W c) (hT : .free ∈ T) : a.Within T W c.draw.2 := h.putFree hT _

theorem canRegs (h : a.Within T W c) (count : .each Reg.CAN_ERRCNT ∈ W) (status : .each Reg.CAN_STATUS ∈ W) (n : Nat) :
    a.Within T W (c.canRegs n) :=
  (h.setReg (covers_each count n) _).setReg (covers_each status n) _

theorem canRecovered (h : a.Within T W c) (hT : .cans ∈ T) (count : .each Reg.CAN_ERRCNT ∈ W)
    (status : .each Reg.CAN_STATUS ∈ W) (state : .each Reg.CAN_STATE ∈ W) (n : Nat) : a.Within T W (c.canRecovered n) :=
  ite h (((((h.setCan hT _ _).setReg (covers_each state n) _).canRegs count status n).canEvent _ _ _ _).clear _ _ _)

section
variable (F : CanFoot T W)
include F

theorem setBox (h : a.Within T W c) (n m : Nat) (b : Mailbox) : a.Within T W (c.setBox n m b) :=
  (h.setCan F.cans _ _).setReg (covers_each F.txq n) _

theorem boxState (h : a.Within T W c) (n m st : Nat) : a.Within T W (c.boxState n m st) := h.setBox F _ _ _

theorem endAttempt (h : a.Within T W c) (n m st : Nat) : a.Within T W (c.endAttempt n m st) :=
  (h.boxState F n m st).setCan F.cans _ _

theorem loadBox (h : a.Within T W c) (drop : .each Reg.CAN_CNT_TX_DROP ∈ W) (repl : .each Reg.CAN_CNT_TX_REPLACED ∈ W)
    (n : Nat) (f : Frame) : a.Within T W (c.loadBox n f) := by
  unfold Core.loadBox
  dsimp only
  split
  · exact h.inc (covers_each drop n)
  · exact ite (h.inc (covers_each drop n)) ((h.setBox F _ _ _).incIf (covers_each repl n) _)

theorem drainCan (h : a.Within T W c) (G : CheckFoot T W) (drop : .each Reg.CAN_CNT_TX_DROP ∈ W)
    (repl : .each Reg.CAN_CNT_TX_REPLACED ∈ W) (out : .one Reg.CNT_EGRESS_CAN ∈ W) (n : Nat) (f : Frame) :
    a.Within T W (c.drainCan n f) := by
  have checked := h.egress G (covers_one out) 0x05 n f
  exact ite (h.inc (covers_each drop n)) (ite (checked.loadBox F drop repl n f) checked)

theorem canArrive (h : a.Within T W c) (G : CheckFoot T W) (hs : .sw ∈ T) (drop : .each Reg.CAN_CNT_TX_DROP ∈ W)
    (repl : .each Reg.CAN_CNT_TX_REPLACED ∈ W) (out : .one Reg.CNT_EGRESS_CAN ∈ W) (n : Nat) (f : Frame) :
    a.Within T W (c.canArrive n f) :=
  ite h (ite ((h.undeliver hs _ f).inc (covers_each drop n))
    (((h.undeliver hs _ f).setCan F.cans _ _).drainCan F G drop repl out n f))

theorem canSelect (h : a.Within T W c) (G : EccFoot T W) (ht : .time ∈ T) (n : Nat) : a.Within T W (c.canSelect n) := by
  unfold Core.canSelect
  refine ite h ?_
  split
  · exact h
  · have waited (t : Nat) : a.Within T W (if bit (c.reg (Reg.CAN_STATUS n)) 0 then c.advanceTo t else c) :=
      ite (h.advanceTo ht t) h
    have read (t : Nat) := (waited t).eccOwner G (44 + n / 8) 11
    exact ite ((read _).boxState F n _ _) (((read _).boxState F n _ _).setCan F.cans _ _)

theorem canSof (h : a.Within T W c) (n : Nat) : a.Within T W (c.canSof n) := by
  unfold Core.canSof
  dsimp only
  split
  · exact h
  · exact ite h (ite ((h.boxState F _ _ _).setCan F.cans _ _) ((h.setBox F _ _ _).setCan F.cans _ _))

theorem canArbLost (h : a.Within T W c) (status : .each Reg.CAN_STATUS ∈ W) (lost : .each Reg.CAN_CNT_ARB_LOST ∈ W) (n : Nat) :
    a.Within T W (c.canArbLost n) := by
  unfold Core.canArbLost
  dsimp only
  split
  · exact h
  · next m _ =>
    have ended (st : Nat) := (h.endAttempt F n m st).inc (covers_each lost n)
    exact ite h (ite ((ended _).loneAborted status n) (ended _))

end

section
variable (hT : .cans ∈ T) (B : busKeys ⊆ W)
include hT B

theorem enterBusOff (h : a.Within T W c) (n : Nat) : a.Within T W (c.enterBusOff n) := by
  have readied : a.Within T W (match (c.can n).active with
      | some m => if ((c.can n).box m).state = 2 then c.boxState n m 1 else c
      | none => c) := by
    split
    · exact ite (h.boxState ⟨hT, B (by simp [busKeys])⟩ _ _ _) h
    · exact h
  exact ((((readied.setCan hT _ _).setReg (covers_each (B (by simp [busKeys])) n) _).inc
    (covers_each (B (by simp [busKeys])) n)).canEvent _ _ _ _).raise _ _ _

theorem errState (h : a.Within T W c) (n : Nat) : a.Within T W (c.errState n) := by
  have shown := h.canRegs (B (by simp [busKeys])) (B (by simp [busKeys])) n
  have moved (st : Nat) := shown.setReg (covers_each (f := Reg.CAN_STATE) (B (by simp [busKeys])) n) st
  exact ite shown (ite (shown.enterBusOff hT B n) (ite ((moved 2).canEvent _ _ _ _) (ite ((moved 1).canEvent _ _ _ _) shown)))

theorem canSent (h : a.Within T W c) (ack : .each Reg.CAN_ACK_RUN ∈ W) (late : .each Reg.CAN_CNT_ABORT_LATE ∈ W)
    (tx : .each Reg.CAN_CNT_TX ∈ W) (hj : .one Reg.JSEQ_LAST ∈ W) (n delay : Nat) : a.Within T W (c.canSent n delay) := by
  unfold Core.canSent
  dsimp only
  split
  · exact h
  · have ended (m st k cls stream seq : Nat) :=
      ((h.endAttempt ⟨hT, B (by simp [busKeys])⟩ n m st).inc (covers_each tx n)).twSent hj 2 k cls stream seq
    have status : .each Reg.CAN_STATUS ∈ W := B (by simp [busKeys])
    refine ite h (errState hT B (loneClear (setReg (setCan (ite ?_ ?_) hT _ _) (covers_each ack n) _) status n 0) n)
    · exact ((ended _ _ _ _ _ _).inc (covers_each late n)).canEvent _ _ _ _
    · exact ended _ _ _ _ _ _

theorem canRxError (h : a.Within T W c) (err : .each Reg.CAN_CNT_BUS_ERR ∈ W) (n : Nat) (e : RxFault) :
    a.Within T W (c.canRxError n e) :=
  ite h (((h.setCan hT _ _).incIf (covers_each err n) _).errState hT B n)

omit hT in
theorem ackError (h : a.Within T W c) (ack : .each Reg.CAN_ACK_RUN ∈ W) (lone : .each Reg.CAN_CNT_LONE ∈ W) (n m : Nat) :
    a.Within T W (c.ackError n m) := by
  have run := h.setReg (covers_each ack n) (min 255 (c.reg (Reg.CAN_ACK_RUN n) + 1))
  exact ite (((run.setReg (covers_each (B (by simp [busKeys])) n) _).inc (covers_each lone n)).canEvent _ _ _ _) run

theorem canTxFail (h : a.Within T W c) (ack : .each Reg.CAN_ACK_RUN ∈ W) (lone : .each Reg.CAN_CNT_LONE ∈ W)
    (err : .each Reg.CAN_CNT_BUS_ERR ∈ W) (n m : Nat) (e : TxFault) : a.Within T W (c.canTxFail n m e) := by
  unfold Core.canTxFail
  extract_lets x passive keep loop ended y d r
  have hd : a.Within T W d := ((h.endAttempt ⟨hT, B (by simp [busKeys])⟩ n m _).inc (covers_each err n)).setCan hT _ _
  have hr : a.Within T W r := ite (hd.ackError B ack lone n m) (hd.setReg (covers_each ack n) 0)
  exact (ite (hr.loneAborted (B (by simp [busKeys])) n) hr).errState hT B n

theorem canTxError (h : a.Within T W c) (ack : .each Reg.CAN_ACK_RUN ∈ W) (lone : .each Reg.CAN_CNT_LONE ∈ W)
    (err : .each Reg.CAN_CNT_BUS_ERR ∈ W) (n : Nat) (e : TxFault) : a.Within T W (c.canTxError n e) := by
  have flagged : a.Within T W (c.canFlagError n) := ite h ((h.setCan hT _ _).errState hT B n)
  unfold Core.canTxError
  refine ite (ite flagged h) ?_
  split
  · exact h
  · exact ite h (h.canTxFail hT B ack lone err n _ e)

theorem recGood (h : a.Within T W c) (hf : .free ∈ T) (n : Nat) : a.Within T W (c.recGood n) :=
  ite (((h.draw hf).setCan hT _ _).errState hT B n) (ite h ((h.setCan hT _ _).errState hT B n))

end

/-- R339: the entries are read up to the one that matches. -/
theorem canFilter (F : EccFoot T W) (m : Memory) (old : List (Nat × Byte × Nat)) (base sof word n : Nat) :
    ∀ {c : Core}, a.Within T W c → a.Within T W (Core.canFilter m old base sof word n c).2 := by
  induction n with
  | zero => exact id
  | succ n ih =>
    intro c h
    have read := h.eccScan F m (base + (0x1600 + 12 * (127 - n))) 12
    unfold Core.canFilter
    dsimp only
    split
    · exact read
    · exact ih read

theorem filterHit (h : a.Within T W c) (F : EccFoot T W) (hT : .cans ∈ T) (m : Memory) (n sof word : Nat) :
    a.Within T W (Core.filterHit m c n sof word).2 := canFilter F _ _ _ _ _ _ (h.setCan hT _ _)

theorem canSlot (h : a.Within T W c) (hT : .cans ∈ T) (lost : .each Reg.CAN_CNT_RX_OVERRUN ∈ W) (wr : .each Reg.CAN_RX_WR ∈ W)
    (count : .each Reg.CAN_RX_COUNT ∈ W) (n tick off fc key filter ident frame : Nat) (data : Bytes) :
    a.Within T W (c.canSlot n tick off fc key filter ident frame data) :=
  ite ((h.inc (covers_each lost n)).canEvent _ _ _ _)
    (((h.setCan hT _ _).setReg (covers_each wr n) _).setReg (covers_each count n) _)

theorem canItem (h : a.Within T W c) (n tick off fc key filter ident frame : Nat) (data : Bytes) :
    a.Within T W (c.canItem n tick off fc key filter ident frame data) := h.submit _ _ _

theorem canRx (h : a.Within T W c) (F : EccFoot T W) (hT : .cans ∈ T) (hf : .free ∈ T) (B : busKeys ⊆ W) (R : rxKeys ⊆ W)
    (m : Memory) (n ident frame : Nat) (data : Bytes) (ago : Nat) : a.Within T W (Core.canRx m c n ident frame data ago) := by
  unfold Core.canRx
  refine ite h (ite (h.canRxError hT B (R (by simp [rxKeys])) n _) ?_)
  extract_lets good ident frame data id word
  have hit := (h.recGood hT B hf n).filterHit F hT m n (2 * good.now - 25 * ago) word
  split
  · next e =>
    rw [e] at hit
    exact hit.inc (covers_each (R (by simp [rxKeys])) n)
  · next filter key action d e =>
    rw [e] at hit
    have counted := inc hit (covers_each (f := Reg.CAN_CNT_RX) (R (by simp [rxKeys])) n)
    refine ite hit ?_
    obtain ⟨tick, off, fc⟩ := d.sofStamp ago
    have slotted : a.Within T W (if 2 ≤ action then
        (d.inc (Reg.CAN_CNT_RX n)).canSlot n tick off fc key filter ident frame data else d.inc (Reg.CAN_CNT_RX n)) :=
      ite (counted.canSlot hT (R (by simp [rxKeys])) (R (by simp [rxKeys])) (R (by simp [rxKeys])) _ _ _ _ _ _ _ _ _) counted
    exact setCan (ite (slotted.canItem _ _ _ _ _ _ _ _ _) slotted) hT _ _

end Core.Within
end Sys2Proof.Machine

/-! SUPPORT. Frames of the pin engines (chapter 10). -/

namespace Sys2Proof.Machine

/-- R355, R358, R370: what the step to an engine's next instruction may change: its state, the changes installed at a wrap, and the
state of the channels that get their pins back. -/
def passKeys : List KeySet :=
  [.each Reg.CH_STATE, .each Reg.ENG_DIV, .each Reg.ENG_PROG, .each Reg.ENG_STATE, .each Reg.ENG_WRAP]

/-- R364: what a stall counts and flags. -/
def stallKeys : List KeySet := [.each Reg.ENG_CNT_OVERRUN, .each Reg.ENG_CNT_UNDERRUN, .each Reg.ENG_FLAGS]

/-- Room for what an instruction of an engine may change. -/
structure EngFoot (T : List CorePart) (W : List KeySet) : Prop where
  time : .time ∈ T
  engs : .engs ∈ T
  chans : .chans ∈ T
  keys : passKeys ⊆ W

theorem EngFoot.each {T : List CorePart} {W : List KeySet} (F : EngFoot T W) {f : Nat → Nat}
    (h : KeySet.each f ∈ passKeys) (n : Nat) : Covers W (f n) := covers_each (F.keys h) n

namespace Core.Within
variable {T : List CorePart} {W : List KeySet} {a c : Core}

theorem setBlob {k : Nat} (h : a.Within T W c) (hk : Covers W k) (b : Bytes) : a.Within T W (c.setBlob k b) := by
  obtain ⟨x, hx, has⟩ := hk
  refine h.trans fun hs => ⟨hs, fun p _ => by cases p <;> rfl, fun j _ hw => ⟨rfl, ?_⟩⟩
  rw [Core.blob_setBlob, if_neg (by rintro rfl; exact hw x hx has)]

theorem addEvent (h : a.Within T W c) (r : EvRec) : a.Within T W (c.addEvent r) := h.keeps (c.addEvent_keeps r)

/-- The event queue is part of no frame. -/
theorem putEv (h : a.Within T W c) (x : EventState) : a.Within T W { c with ev := x } := h.keeps (c.keeps_refl.of_eq rfl rfl)

theorem engEvent (h : a.Within T W c) (n kind sev value : Nat) : a.Within T W (c.engEvent n kind sev value) := h.addEvent _

theorem engEventOnce (h : a.Within T W c) (n kind sev value : Nat) : a.Within T W (c.engEventOnce n kind sev value) :=
  ite h ((h.putEv _).engEvent _ _ _ _)

theorem engAnswer {r : Option Bytes × Core} (h : a.Within T W r.2) (hT : .engs ∈ T) (n : Nat) :
    a.Within T W (Core.engAnswer n r) := h.setEng hT _ _

theorem engRx (h : a.Within T W c) (hT : .engs ∈ T) (empty : .each Reg.ENG_CNT_RX_EMPTY ∈ W) (n : Nat) (pop : Bool) :
    a.Within T W (c.engRx n pop).2 := by
  unfold Core.engRx
  dsimp only
  split
  · exact h.inc (covers_each empty n)
  · exact ite (h.setEng hT _ _) h

theorem engTxData (h : a.Within T W c) (F : CheckFoot T W) (hT : .engs ∈ T) (out : .one Reg.CNT_EGRESS_ENGINE ∈ W)
    (flags : .each Reg.ENG_FLAGS ∈ W) (refused : .each Reg.ENG_CNT_TX_REFUSED ∈ W) (n : Nat) (bs : Bytes) :
    a.Within T W (c.engTxData n bs) := by
  refine engAnswer ?_ hT n
  unfold Core.engTx
  split
  · exact h
  · unfold Core.engItem
    have checked (f : Frame) := h.egress F (covers_one out) 0x07 n f
    dsimp only
    split
    · exact checked _
    · split
      · exact ((checked _).setReg (covers_each flags n) _).inc (covers_each refused n)
      · exact (checked _).setEng hT _ _

section
variable (F : EngFoot T W)
include F

theorem setEngState (h : a.Within T W c) (n st : Nat) : a.Within T W (c.setEngState n st) :=
  h.setReg (F.each (by simp [passKeys]) n) _

theorem giveBackPins (h : a.Within T W c) (n : Nat) : a.Within T W (c.giveBackPins n) :=
  h.foldl (fun _ ch g => ite g ((g.setChan F.chans _ _).setReg (F.each (f := Reg.CH_STATE) (by simp [passKeys]) ch) _)) _

theorem engHalt (h : a.Within T W c) (n : Nat) : a.Within T W (c.engHalt n) :=
  ((h.setEng F.engs _ _).setEngState F n 0).giveBackPins F n

theorem install (h : a.Within T W c) (n : Nat) : a.Within T W (c.install n) := by
  unfold Core.install
  extract_lets x p w d
  have hp : a.Within T W p := by
    unfold p
    split
    · exact h.setBlob (F.each (by simp [passKeys]) n) _
    · exact h
  have hw : a.Within T W w := by
    unfold w
    split
    · exact hp.setReg (F.each (by simp [passKeys]) n) _
    · exact hp
  have hd : a.Within T W d := by
    unfold d
    split
    · exact hw.setReg (F.each (by simp [passKeys]) n) _
    · exact hw
  exact hd.setEng F.engs _ _

theorem cycles (h : a.Within T W c) (n k : Nat) : a.Within T W (c.cycles n k) := (h.advanceTo F.time _).setEng F.engs _ _

theorem engNext (h : a.Within T W c) (n : Nat) : a.Within T W (c.engNext n) := by
  have passed := h.setEng F.engs n { c.eng n with wraps := (c.eng n).wraps + 1, bitsDone := 0 }
  exact ite (ite (passed.engHalt F n) (ite (passed.setEngState F n 4)
    (((passed.install F n).setEng F.engs _ _).setEngState F n 1))) ((h.setEng F.engs _ _).setEngState F n 1)

theorem runDelay (h : a.Within T W c) (n : Nat) : a.Within T W (c.runDelay n) := by
  unfold Core.runDelay
  split
  · exact h
  · exact (h.cycles F n _).engNext F n

theorem runWait (h : a.Within T W c) (n k : Nat) (levels : BitVec 8) : a.Within T W (c.runWait n k levels) := by
  unfold Core.runWait
  split
  · exact h
  · have stay := (h.cycles F n (max 1 k)).setEngState F n 2
    have ended (k : Nat) := (h.cycles F n k).engNext F n
    dsimp only
    split
    · exact ite (ended _) stay
    · exact ite (ended _) stay
    · split
      · exact stay
      · exact ((h.advanceTo F.time _).setEng F.engs _ _).engNext F n

theorem runSet (h : a.Within T W c) (n : Nat) : a.Within T W (c.runSet n) := by
  unfold Core.runSet
  split
  · exact h
  · exact ((h.setEng F.engs _ _).cycles F n 1).engNext F n

theorem runCmp (h : a.Within T W c) (n : Nat) (levels : BitVec 8) : a.Within T W (c.runCmp n levels) := by
  unfold Core.runCmp
  split
  · exact h
  · exact ((h.setEng F.engs _ _).cycles F n 1).engNext F n

theorem runEvent (h : a.Within T W c) (flags : .each Reg.ENG_FLAGS ∈ W) (drop : .each Reg.ENG_CNT_EV_DROP ∈ W) (n : Nat) :
    a.Within T W (c.runEvent n) := by
  have recorded (w : Nat) : a.Within T W (c.programRecord n w) :=
    ite ((h.setReg (covers_each flags n) _).inc (covers_each drop n)) ((h.putEv _).engEvent _ _ _ _)
  unfold Core.runEvent
  split
  · exact h
  · next w _ =>
    have next : a.Within T W (((if bit w 11 then c else c.programRecord n w).cycles n 1).engNext n) :=
      ((ite h (recorded w)).cycles F n 1).engNext F n
    exact ite (next.engNext F n) next

variable (S : stallKeys ⊆ W)
include S

theorem engStall (h : a.Within T W c) (n : Nat) (overrun : Bool) : a.Within T W (c.engStall n overrun) := by
  have stalled (x : Engine) := (h.setEng F.engs n x).setEngState F n 3
  refine engEventOnce (inc (setReg (stalled _) (covers_each (S (by simp [stallKeys])) n) _) ?_) _ _ _ _
  split
  · exact covers_each (S (by simp [stallKeys])) n
  · exact covers_each (S (by simp [stallKeys])) n

theorem shiftDone (h : a.Within T W c) (n w before : Nat) (r : ShiftEnd × Engine) (isIn : Bool) :
    a.Within T W (c.shiftDone n w before r isIn) := by
  have run (x : Engine) (k : Nat) := (h.setEng F.engs n x).cycles F n k
  unfold Core.shiftDone
  dsimp only
  split
  · exact ((run _ _).setEng F.engs _ _).engNext F n
  · exact (run _ _).engStall F S n isIn

theorem runShiftOut (h : a.Within T W c) (n : Nat) : a.Within T W (c.runShiftOut n) := by
  unfold Core.runShiftOut
  split
  · exact h
  · exact h.shiftDone F S n _ _ _ _

theorem runShiftIn (h : a.Within T W c) (n : Nat) (ins : BitVec 32) : a.Within T W (c.runShiftIn n ins) := by
  unfold Core.runShiftIn
  split
  · exact h
  · exact h.shiftDone F S n _ _ _ _

theorem runMove (h : a.Within T W c) (cmpr : .each Reg.ENG_CMPR ∈ W) (n : Nat) : a.Within T W (c.runMove n) := by
  have moved (x : Engine) := ((h.setEng F.engs n x).cycles F n 1).engNext F n
  unfold Core.runMove
  split
  · exact h
  · dsimp only
    split
    · exact ite (h.engStall F S n false) (moved _)
    · exact ite (h.engStall F S n true) (moved _)
    · exact moved _
    · exact ((h.setReg (covers_each cmpr n) _).cycles F n 1).engNext F n

theorem stallEnd (h : a.Within T W c) (cmpr : .each Reg.ENG_CMPR ∈ W) (n k : Nat) (ins : BitVec 32) :
    a.Within T W (c.stallEnd n k ins) := by
  have waited := h.cycles F n k
  have resumed := waited.setEngState F n 1
  unfold Core.stallEnd
  refine ite h (ite waited ?_)
  dsimp only
  split
  · exact resumed.runShiftOut F S n
  · exact resumed.runShiftIn F S n ins
  · exact (resumed.setEng F.engs _ _).runMove F S cmpr n

end
end Core.Within
end Sys2Proof.Machine

/-! SUPPORT. Frames of the schedule table, the discrete banks, the measurement inputs, the interlock rules and the mapper
(chapters 07, 11 and 12). -/

namespace Sys2Proof.Machine

/-- R268, R384: what an item for a discrete bank counts, and what it may change of the schedule table. -/
def outItemKeys : List KeySet :=
  [.one Reg.CNT_EGRESS_DISC, .one Reg.CNT_SCHED_FULL, .one Reg.CNT_SCHED_LATE, .one Reg.CNT_SCHED_RANGE,
    .each Reg.DISC_CNT_OUT_DROP, .each Reg.DISC_CNT_OUT_ITEMS, .one Reg.JSEQ_LAST, .one Reg.SCHED_PENDING]

/-- R393, R397: what a sample of a measurement input counts and shows. -/
def sampleKeys : List KeySet :=
  [.each Reg.MEAS_CNT_OVER, .each Reg.MEAS_CNT_SETS, .each Reg.MEAS_CNT_SETS_LOST, .each Reg.MEAS_CNT_THR, .each Reg.MEAS_LAST,
    .each Reg.MEAS_LAST_TIME, .each Reg.MEAS_SEQ, .each Reg.MEAS_STATE]

namespace Core.Within
variable {T : List CorePart} {W : List KeySet} {a c : Core}

section
variable (hT : .sched ∈ T) (pending : .one Reg.SCHED_PENDING ∈ W)
include hT

theorem update (h : a.Within T W c) (u : OutUpd) : a.Within T W (c.update u) := h.putSched hT _

theorem lateSched (h : a.Within T W c) (late : .one Reg.CNT_SCHED_LATE ∈ W) (e : SchedEntry) : a.Within T W (c.lateSched e) := by
  have noted := (h.inc (covers_one late)).event 0xC00 0x08 3 (schedValue e)
  exact ite (noted.update hT _) noted

include pending

theorem setSched (h : a.Within T W c) (t : List SchedEntry) : a.Within T W (c.setSched t) :=
  (h.putSched hT _).setReg (covers_one pending) _

theorem enterSched (h : a.Within T W c) (late : .one Reg.CNT_SCHED_LATE ∈ W) (range : .one Reg.CNT_SCHED_RANGE ∈ W)
    (full : .one Reg.CNT_SCHED_FULL ∈ W) (e : SchedEntry) : a.Within T W (c.enterSched e) :=
  ite (h.lateSched hT late e) (ite (h.inc (covers_one range)) (ite (ite (h.update hT _) (h.lateSched hT late e))
    (ite (h.setSched hT pending _) (ite (h.inc (covers_one full)) (h.setSched hT pending _)))))

end

theorem twJournal (h : a.Within T W c) (hj : .one Reg.JSEQ_LAST ∈ W) (inst : Nat) (f : Frame) :
    a.Within T W (c.twJournal inst f) := ite h ((h.setReg (covers_one hj) _).keeps (Core.twSend_keeps _ _ _))

theorem discItem (h : a.Within T W c) (F : CheckFoot T W) (hs : .sw ∈ T) (hT : .sched ∈ T) (O : outItemKeys ⊆ W) (b : Nat)
    (f : Frame) : a.Within T W (c.discItem b f) := by
  have taken := h.undeliver hs (4 + b / 4) f
  have checked := taken.egress F (covers_one (k := Reg.CNT_EGRESS_DISC) (O (by simp [outItemKeys]))) 0x06 b f
  have noted := (checked.inc (covers_each (f := Reg.DISC_CNT_OUT_ITEMS) (O (by simp [outItemKeys])) b)).twJournal
    (O (by simp [outItemKeys])) b f
  exact ite taken (ite checked (ite (checked.inc (covers_each (O (by simp [outItemKeys])) b)) (ite
    (noted.enterSched hT (O (by simp [outItemKeys])) (O (by simp [outItemKeys])) (O (by simp [outItemKeys]))
      (O (by simp [outItemKeys])) _) (noted.update hT _))))

theorem setBank (h : a.Within T W c) (hT : .disc ∈ T) (b : Nat) (x : DiscBank) : a.Within T W (c.setBank b x) := h.putDisc hT _

theorem vioSense (h : a.Within T W c) (hT : .disc ∈ T) (vio : .each Reg.DISC_VIO ∈ W) (b mv : Nat) :
    a.Within T W (c.vioSense b mv) := by
  unfold Core.vioSense
  refine ite h ?_
  have sensed := h.setBank hT b { c.bank b with sensed := some (vioCode mv) }
  have coded := sensed.setReg (covers_each vio b) (vioCode mv)
  exact ite sensed (ite (((coded.setBank hT _ _).event _ _ _ _).raise _ _ _)
    (ite (ite (((coded.setBank hT _ _).event _ _ _ _).clear _ _ _) (coded.setBank hT _ _)) coded))

/-! Measurement. -/

section
variable (hT : .meas ∈ T)
include hT

theorem measOpen (h : a.Within T W c) (count : .each Reg.MEAS_CNT_OPEN ∈ W) (state : .each Reg.MEAS_STATE ∈ W) (n : Nat) :
    a.Within T W (c.measOpen n) :=
  ite h ((((h.setMeas hT _ _).eventOnce _ _ _ _).inc (covers_each count n)).setReg (covers_each state n) _)

theorem measClose (h : a.Within T W c) (state : .each Reg.MEAS_STATE ∈ W) (n : Nat) : a.Within T W (c.measClose n) :=
  ite h (((h.setMeas hT _ _).eventOnce _ _ _ _).setReg (covers_each state n) _)

variable (S : sampleKeys ⊆ W)
include S

theorem formSet (h : a.Within T W c) (n : Nat) : a.Within T W (c.formSet n) := by
  have numbered := (h.setReg (covers_each (f := Reg.MEAS_SEQ) (S (by simp [sampleKeys])) n)
    ((c.reg (Reg.MEAS_SEQ n) + 1) % 65536)).inc (covers_each (f := Reg.MEAS_CNT_SETS) (S (by simp [sampleKeys])) n)
  exact ite h (ite ((numbered.setMeas hT _ _).inc (covers_each (S (by simp [sampleKeys])) n))
    ((numbered.setMeas hT _ _).submit _ _ _))

theorem joinSet (h : a.Within T W c) (n y instant flags : Nat) : a.Within T W (c.joinSet n y instant flags) :=
  ite h (ite ((h.setMeas hT _ _).formSet hT S n) (h.setMeas hT _ _))

theorem pairSample (h : a.Within T W c) (n q : Nat) (y : Int) (instant : Nat) : a.Within T W (c.pairSample n q y instant) :=
  ite (h.setMeas hT _ _) (ite h (ite (h.setMeas hT _ _) (((h.setMeas hT _ _).event _ _ _ _).inc
    (covers_each (S (by simp [sampleKeys])) n))))

theorem measSample (h : a.Within T W c) (ht : .time ∈ T) (n : Nat) (x : Int) : a.Within T W (c.measSample n x) := by
  unfold Core.measSample
  refine ite h ?_
  split
  next instant stepped _ =>
  extract_lets x started waited s settling unlocked
  have hWaited : a.Within T W waited := (ite (h.setMeas hT _ _) h).advanceSys ht _
  split
  next y clamped _ =>
  extract_lets clipped img shown counted noted delivered pairs
  have hCounted : a.Within T W counted := ((hWaited.setReg (covers_each (S (by simp [sampleKeys])) n) _).setReg
    (covers_each (S (by simp [sampleKeys])) n) _).incIf (covers_each (S (by simp [sampleKeys])) n) _
  have hNoted : a.Within T W noted := ite (hCounted.eventOnce _ _ _ _) hCounted
  have hPairs : a.Within T W pairs := ((hNoted.setMeas hT _ _).pairSample hT S n 0 y instant).pairSample hT S n 1 y instant
  exact (hPairs.joinSet hT S n _ _ _).setReg (covers_each (S (by simp [sampleKeys])) n) _

end

/-! Interlock rules. -/

section
variable (hT : .map ∈ T) (state : .each Reg.RULE_STATE ∈ W)
include hT state

theorem setRule (h : a.Within T W c) (r : Nat) (x : Rule) : a.Within T W (c.setRule r x) :=
  (h.putMap hT _).setReg (covers_each state r) _

omit hT state in
theorem ruleEvent (h : a.Within T W c) (r kind sev : Nat) : a.Within T W (c.ruleEvent r kind sev) := ite h (h.event _ _ _ _)

theorem evalRule (h : a.Within T W c) (trips : .each Reg.RULE_TRIPS ∈ W) (total : .one Reg.CNT_RULE_TRIPS ∈ W) (r n : Nat) :
    a.Within T W (c.evalRule r n) := by
  have put {d : Core} (g : a.Within T W d) (x : Rule) := g.setRule hT state r x
  unfold Core.evalRule
  extract_lets x ctrl d stale y e z
  have hd : a.Within T W d := ite ((put h _).ruleEvent r 5 0) h
  have he : a.Within T W e := ite hd ((put hd _).ruleEvent _ _ _)
  exact ite (put he _) (ite (ite ((put he _).ruleEvent r 2 0) (put he _))
    (ite ((((put he _).inc (covers_each trips r)).inc (covers_one total)).ruleEvent _ _ _) (put he _)))

theorem rulePass (h : a.Within T W c) (ht : .time ∈ T) (hd : .disc ∈ T) (trips : .each Reg.RULE_TRIPS ∈ W)
    (total : .one Reg.CNT_RULE_TRIPS ∈ W) : a.Within T W c.rulePass := by
  unfold Core.rulePass
  split
  · exact h
  · refine ite h (putDisc (foldl ?_ _ ((h.advanceSys ht _).putMap hT _)) hd _)
    exact fun d r g => ite g (g.evalRule hT state trips total r _)

end
end Core.Within
end Sys2Proof.Machine

/-! SUPPORT. Frames of the mapper (chapter 12). -/

namespace Sys2Proof.Machine

/-- Room for what the chains of the items in the mapper may change (R408, R419). -/
structure MapFoot (T : List CorePart) (W : List KeySet) : Prop extends EccFoot T W where
  map : .map ∈ T
  ops : .one Reg.CNT_OPS ∈ W
  sat : .one Reg.CNT_SAT ∈ W

/-- R416, R420: what the release of an item counts and records: its map fault, or the slots that it stores. -/
def releaseKeys : List KeySet :=
  [.one Reg.CNT_BRIDGE_FAIL, .one Reg.CNT_HOLD_DROP, .one Reg.CNT_MAP_FAULT, .one Reg.CNT_OUT, .one Reg.CNT_PAIR_MATCH,
    .one Reg.CNT_PAIR_MISMATCH, .one Reg.MF_CAUSE, .one Reg.MF_ENTRY, .one Reg.MF_ROUTE, .one Reg.MF_SEQUENCE,
    .one Reg.MF_SOURCE, .one Reg.MF_TICK, .each Reg.SIG_FLAGS, .each Reg.SIG_ROUTE, .each Reg.SIG_TICK, .each Reg.SIG_VALUE]

namespace Core.Within
variable {T : List CorePart} {W : List KeySet} {a c : Core}

section
variable (F : MapFoot T W)
include F

theorem mapFetch (h : a.Within T W c) (r : MapRun) (m : Memory) (off n key entry : Nat) :
    a.Within T W (c.mapFetch r m off n key entry).2 := h.eccScan F.toEccFoot m off n

theorem routeEnd (h : a.Within T W c) (m : Memory) (r : MapRun) (s : MapStep) : a.Within T W (c.routeEnd m r s).2 := by
  unfold Core.routeEnd
  extract_lets kind o r' next
  split
  · exact h
  · split
    · exact h
    · have read := h.mapFetch F r' m (c.routeBase + next * 32) 32 next 0xFFFF
      dsimp only
      split
      · exact read
      · split
        · exact read
        · exact read

theorem routeBegin (h : a.Within T W c) (m : Memory) (r : MapRun) (s : MapStep) : a.Within T W (c.routeBegin m r s).2 := by
  unfold Core.routeBegin
  extract_lets r'
  split
  · exact h
  · split
    · split
      · exact h
      · exact h.routeEnd F m _ s
    · exact h

theorem entryStep (h : a.Within T W c) (m : Memory) (r : MapRun) (s : MapStep) (i : Nat) :
    a.Within T W (c.entryStep m r s i).2 := by
  have read := h.mapFetch F r m (entryBase + i * 16) 16 s.key i
  unfold Core.entryStep
  split
  · exact h
  · split
    · exact h
    · split
      next r' d e =>
      have hd : a.Within T W d := by
        rw [e] at read
        exact read
      split
      · exact hd
      · extract_lets x counted
        split
        next r'' sat _ =>
        extract_lets done
        have hDone : a.Within T W done := (putMap (setReg hd (covers_one F.ops) _) F.map _).incIf (covers_one F.sat) sat
        split
        · exact hDone
        · split
          · exact hDone.routeEnd F m _ s
          · exact hDone

theorem runChain (m : Memory) (upto n : Nat) : ∀ {c : Core} (r : MapRun), a.Within T W c →
    a.Within T W (Core.runChain m upto n r c).2 := by
  induction n with
  | zero => exact fun _ h => h
  | succ n ih =>
    intro c r h
    unfold Core.runChain
    split
    · exact h
    · next s _ =>
      split
      · exact h
      · refine ih _ ?_
        split
        · exact h.routeBegin F m r s
        · exact h.entryStep F m r s _

theorem mapCatchUp (h : a.Within T W c) (m : Memory) : a.Within T W (c.mapCatchUp m) :=
  h.foldl (fun d _ g => putMap (runChain F m d.now chainSteps _ g) F.map _) _

theorem mapWindow (h : a.Within T W c) (ht : .time ∈ T) (load : .one Reg.MAP_LOAD ∈ W) (peak : .one Reg.MAP_LOAD_PEAK ∈ W)
    (m : Memory) : a.Within T W (c.mapWindow m) := by
  have ended (t : Nat) : a.Within T W (c.endMs t) := ite (h.advanceSys ht _) h
  exact ite h (putMap (setReg (setReg ((ended _).mapCatchUp F m) (covers_one load) _) (covers_one peak) _) F.map _)

end

section
variable (F : CheckFoot T W)
include F

theorem bridgeFail (h : a.Within T W c) (fail : .one Reg.CNT_BRIDGE_FAIL ∈ W) (f : Frame) (injected : Bool) :
    a.Within T W (c.bridgeFail f injected) :=
  ((h.inc (covers_one fail)).lastFail F _ _ _ _).reportOnce _ _ _ _ _ _

theorem dropItem {cnt : Nat} (h : a.Within T W c) (fail : .one Reg.CNT_BRIDGE_FAIL ∈ W) (hc : Covers W cnt) (f : Frame)
    (inverted : Bool) : a.Within T W (c.dropItem f inverted cnt) := ite (h.inc hc) (h.bridgeFail F fail f _)

end

section
variable (F : MapFoot T W)
include F

theorem enterMapper (h : a.Within T W c) (m : Memory) (r : MapRun) : a.Within T W (Core.enterMapper m c r).2 :=
  putMap (runChain F m c.now chainSteps r h) F.map _

theorem startItem (h : a.Within T W c) (fail : .one Reg.CNT_BRIDGE_FAIL ∈ W) (hin : .one Reg.CNT_IN ∈ W)
    (route : .one Reg.CNT_NO_ROUTE ∈ W) (origin : .one Reg.CNT_ORIGIN_MISMATCH ∈ W) (m : Memory) (f : Frame) :
    a.Within T W (Core.startItem m c f).2 := by
  have begun := (h.inc (covers_one hin)).beginCheck F.toCheckFoot 0x03 0
  unfold Core.startItem
  dsimp only
  split
  · exact begun.dropItem F.toCheckFoot fail (covers_one route) f _
  · have read (r : MapRun) (off : Nat) := begun.mapFetch F r m off 32 f.stream 0xFFFF
    split
    · exact (read _ _).enterMapper F m _
    · split
      · exact (read _ _).dropItem F.toCheckFoot fail (covers_one route) f _
      · split
        · exact (read _ _).dropItem F.toCheckFoot fail (covers_one origin) f _
        · exact (read _ _).enterMapper F m _

theorem mapperInput (h : a.Within T W c) (hs : .sw ∈ T) (fail : .one Reg.CNT_BRIDGE_FAIL ∈ W) (hin : .one Reg.CNT_IN ∈ W)
    (route : .one Reg.CNT_NO_ROUTE ∈ W) (origin : .one Reg.CNT_ORIGIN_MISMATCH ∈ W) (m : Memory) (arrived : Option Frame) :
    a.Within T W (Core.mapperInput m c arrived).2 := by
  unfold Core.mapperInput
  split
  · exact h
  · extract_lets _ d caught
    have hd : a.Within T W d := by
      unfold d
      split
      · exact ite h (h.putSw hs _)
      · exact h
    have hCaught : a.Within T W caught := hd.mapCatchUp F m
    split
    · exact hCaught
    · exact (hCaught.undeliver hs 12 _).startItem F fail hin route origin m _

end

section
variable (R : releaseKeys ⊆ W)
include R

theorem storeSlot (h : a.Within T W c) (inTick : Nat) (s : SlotStore) : a.Within T W (c.storeSlot inTick s) := by
  refine setReg (setReg (setReg (setReg h ?_ _) ?_ _) ?_ _) ?_ _
  all_goals exact covers_each (R (by simp [releaseKeys])) s.slot

theorem mapFault (h : a.Within T W c) (f : Frame) (cause route entry : Nat) : a.Within T W (c.mapFault f cause route entry) := by
  refine reportOnce (setReg (setReg (setReg (setReg (setReg (setReg (inc h ?_) ?_ _) ?_ _) ?_ _) ?_ _) ?_ _) ?_ _) _ _ _ _ _ _
  all_goals exact covers_one (R (by simp [releaseKeys]))

theorem pairMatch (h : a.Within T W c) (m : Memory) (key : Nat) (f : Frame) (g : TwGrant) :
    a.Within T W (Core.pairMatch m c key f g).2 := by
  unfold Core.pairMatch
  split
  · exact (inc h (covers_one (R (by simp [releaseKeys])))).keeps (Core.originate_keeps _ _ _)
  · exact h.inc (covers_one (R (by simp [releaseKeys])))

theorem holdOut (h : a.Within T W c) (hT : .twin ∈ T) (m : Memory) (key : Nat) (f : Frame) :
    a.Within T W (Core.holdOut m c key f).2 := by
  have counted := h.keeps (c.occurrence_keeps f.cls f.stream f.tick)
  unfold Core.holdOut
  dsimp only
  split
  · exact (counted.putTwin hT _).pairMatch R m key f _
  · exact (counted.putTwin hT _).incIf (covers_one (R (by simp [releaseKeys]))) _

theorem releaseOut (h : a.Within T W c) (hT : .twin ∈ T) (m : Memory) (inTick : Nat) (o : MapOut) :
    a.Within T W (Core.releaseOut m c inTick o).2 := by
  have counted := h.inc (covers_one (k := Reg.CNT_OUT) (R (by simp [releaseKeys])))
  unfold Core.releaseOut
  dsimp only
  split
  · exact counted.submit _ _ _
  · exact counted.submit _ _ _
  · exact counted.submit _ _ _
  · split
    · exact counted.holdOut R hT _ _ _
    · exact (counted.keeps (Core.grantFrame_keeps _ _ _ _ _ _)).keeps (Core.originate_keeps _ _ _)

theorem mapperRelease (h : a.Within T W c) (F : MapFoot T W) (hT : .twin ∈ T) (m : Memory) :
    a.Within T W (Core.mapperRelease m c).2 := by
  unfold Core.mapperRelease
  extract_lets caught
  have hCaught : a.Within T W caught := h.mapCatchUp F m
  split
  · exact hCaught
  · next r rest _ =>
    split
    next r' d e =>
    have hd : a.Within T W d := by
      have run := runChain F m (caught.now + 8 * chainSteps) chainSteps r
        (hCaught.putMap F.map { caught.map with runs := rest })
      rw [e] at run
      exact run
    extract_lets m' v
    split
    · exact hd.bridgeFail F.toCheckFoot (R (by simp [releaseKeys])) _ _
    · split
      · exact hd.mapFault R _ _ _ _
      · refine foldlProj Prod.snd (fun x o g => ?_) _ (foldl (fun _ s g => g.storeSlot R _ s) _ hd)
        exact g.releaseOut R hT _ _ o

end
end Core.Within
end Sys2Proof.Machine

/-! SUPPORT. The frame of each command of the serial channels, CAN controllers, pin engines, discrete banks, measurement inputs and
the mapper: the lists `touched` and `written` have room for what its operation may change. `delta` takes the lists of the one
command out of the two tables, whose equations, one for each command there is, are made only at great cost. -/

namespace Sys2Proof.Machine

section
variable {T : List CorePart} {W : List KeySet}

@[simp] theorem checkFoot_iff : CheckFoot T W ↔ .integ ∈ T ∧ checkKeys ⊆ W :=
  ⟨fun ⟨i, k⟩ => ⟨i, k⟩, fun ⟨i, k⟩ => ⟨i, k⟩⟩

@[simp] theorem recordFoot_iff : RecordFoot T W ↔ .chans ∈ T ∧ packetKeys ⊆ W :=
  ⟨fun ⟨c, k⟩ => ⟨c, k⟩, fun ⟨c, k⟩ => ⟨c, k⟩⟩

@[simp] theorem queueKeys_subset : queueKeys ⊆ W ↔ .each Reg.TRUNK_QUEUED ∈ W ∧ .one Reg.TRUNK_QUEUED_C3 ∈ W ∧
    .one Reg.TRUNK_QUEUED_C4 ∈ W ∧ .one Reg.TRUNK_QUEUED_C6 ∈ W := by simp [queueKeys]

@[simp] theorem trunkFoot_iff :
    TrunkFoot T W ↔ CheckFoot T W ∧ .ring ∈ T ∧ queueKeys ⊆ W ∧ .one Reg.CNT_TRUNK_FAIL ∈ W :=
  ⟨fun ⟨c, r, q, f⟩ => ⟨c, r, q, f⟩, fun ⟨c, r, q, f⟩ => ⟨c, r, q, f⟩⟩

@[simp] theorem eccFoot_iff : EccFoot T W ↔ CheckFoot T W ∧ eccKeys ⊆ W :=
  ⟨fun ⟨c, k⟩ => ⟨c, k⟩, fun ⟨c, k⟩ => ⟨c, k⟩⟩

@[simp] theorem canFoot_iff : CanFoot T W ↔ .cans ∈ T ∧ .each Reg.CAN_TXQ ∈ W :=
  ⟨fun ⟨c, k⟩ => ⟨c, k⟩, fun ⟨c, k⟩ => ⟨c, k⟩⟩

@[simp] theorem engFoot_iff : EngFoot T W ↔ .time ∈ T ∧ .engs ∈ T ∧ .chans ∈ T ∧ passKeys ⊆ W :=
  ⟨fun ⟨t, e, c, k⟩ => ⟨t, e, c, k⟩, fun ⟨t, e, c, k⟩ => ⟨t, e, c, k⟩⟩

@[simp] theorem mapFoot_iff : MapFoot T W ↔ EccFoot T W ∧ .map ∈ T ∧ .one Reg.CNT_OPS ∈ W ∧ .one Reg.CNT_SAT ∈ W :=
  ⟨fun ⟨e, m, o, s⟩ => ⟨e, m, o, s⟩, fun ⟨e, m, o, s⟩ => ⟨e, m, o, s⟩⟩

end

variable (c : Core)

/-! Serial channels. -/

theorem charRx_within (n : Fin 128) (b : Byte) (ok : Bool) (silence : Nat) : c.Within (touched (.charRx n b ok silence))
    (written (.charRx n b ok silence)) (c.charRx n b ok silence) := by
  delta touched written
  dsimp only
  refine .charRx ?_ ?_ (.refl c) _ _ _ _
  all_goals simp

theorem chBreak_within (n : Fin 128) : c.Within (touched (.chBreak n)) (written (.chBreak n)) (c.chanBreak n) := by
  delta touched written
  dsimp only
  refine .chanBreak ?_ (.refl c) _
  all_goals simp

theorem idleGapExpiry_within (n : Fin 128) : c.Within (touched (.idleGapExpiry n)) (written (.idleGapExpiry n)) (c.idleGap n) := by
  delta touched written
  dsimp only
  refine .idleGap ?_ (.refl c) ?_ _
  all_goals simp

theorem modbusSilenceExpiry_within (n : Fin 128) : c.Within (touched (.modbusSilenceExpiry n)) (written
    (.modbusSilenceExpiry n)) (c.modbusSilence n) := by
  delta touched written
  dsimp only
  refine .modbusSilence ?_ (.refl c) ?_ _
  all_goals simp

theorem flushAgeExpiry_within (n : Fin 128) : c.Within (touched (.flushAgeExpiry n)) (written (.flushAgeExpiry n))
    (c.flushAge n) := by
  delta touched written
  dsimp only
  refine .flushAge ?_ (.refl c) ?_ _
  all_goals simp

theorem chPtrMismatch_within (n : Fin 128) (tx : Bool) : c.Within (touched (.chPtrMismatch n tx)) (written (.chPtrMismatch n
    tx)) (c.ptrMismatch n tx) := by
  delta touched written
  dsimp only
  refine .ptrMismatch ?_ (.refl c) ?_ ?_ ?_ _ _
  all_goals simp

theorem scannerRxVisit_within (n : Fin 128) : c.Within (touched (.scannerRxVisit n)) (written (.scannerRxVisit n))
    (c.scannerRx n) := by
  delta touched written
  dsimp only
  refine .scannerRx ?_ ?_ (.refl c) ?_ ?_ ?_ _
  all_goals simp [blockKeys]

theorem scannerTxVisit_within (n : Fin 128) : c.Within (touched (.scannerTxVisit n)) (written (.scannerTxVisit n))
    (c.scannerTx n) := by
  delta touched written
  dsimp only
  refine .scannerTx ?_ (.refl c) ?_ ?_ _
  all_goals simp

theorem chTxItemArrive_within (n : Fin 128) (f : Frame) : c.Within (touched (.chTxItemArrive n f)) (written (.chTxItemArrive
    n f)) (c.txArrive n f) := by
  delta touched written
  dsimp only
  refine .txArrive ?_ ?_ ?_ ?_ ?_ ?_ (.refl c) _ _
  all_goals simp

theorem chTxRecordStart_within (n : Fin 128) (ballC : Bool) : c.Within (touched (.chTxRecordStart n ballC)) (written
    (.chTxRecordStart n ballC)) (c.txStart n ballC) := by
  delta touched written
  dsimp only
  refine .txStart ?_ ?_ (.refl c) ?_ ?_ _ _
  all_goals simp

theorem chTxRecordEnd_within (e : TxEnd) : c.Within (touched (.chTxRecordEnd e)) (written (.chTxRecordEnd e)) (c.txEnd
    e.chan e.held) := by
  delta touched written
  dsimp only
  refine .txEnd ?_ ?_ ?_ ?_ (.refl c) ?_ _ _
  all_goals simp

theorem spiTransactionDone_within (n : Fin 128) (miso : Bytes) : c.Within (touched (.spiTransactionDone n miso)) (written
    (.spiTransactionDone n miso)) (c.spiDone n miso) := by
  delta touched written
  dsimp only
  refine .spiDone ?_ ?_ ?_ ?_ (.refl c) ?_ _ _
  all_goals simp

theorem i2cTransactionDone_within (n : Fin 128) (status : Fin 5) (data : Bytes) (pec : Byte) : c.Within (touched
    (.i2cTransactionDone n status data pec)) (written (.i2cTransactionDone n status data pec)) (c.i2cDone n status data pec) := by
  delta touched written
  dsimp only
  refine .i2cDone ?_ ?_ ?_ ?_ (.refl c) _ _ _ _
  all_goals simp

theorem i2cArbRetry_within (n : Fin 128) : c.Within (touched (.i2cArbRetry n)) (written (.i2cArbRetry n)) (c.arbRetry n) := by
  delta touched written
  dsimp only
  refine .arbRetry ?_ (.refl c) ?_ _
  all_goals simp

theorem i2cTargetWrite_within (n : Fin 128) (data : TargetData) : c.Within (touched (.i2cTargetWrite n data)) (written
    (.i2cTargetWrite n data)) (c.targetWrite n data) := by
  delta touched written
  dsimp only
  refine .targetWrite ?_ ?_ (.refl c) _ _
  all_goals simp

theorem i2cTargetRead_within (n : Fin 128) (count : Fin 512) : c.Within (touched (.i2cTargetRead n count)) (written
    (.i2cTargetRead n count)) (c.targetRead n count) := by
  delta touched written
  dsimp only
  refine .targetRead ?_ ?_ (.refl c) ?_ ?_ _ _
  all_goals simp

theorem busStuck_within (n : Fin 128) (low : HeldLow) : c.Within (touched (.busStuck n low)) (written (.busStuck n low))
    (c.busStuck n low.ns low.still) := by
  delta touched written
  dsimp only
  refine .busStuck ?_ (.refl c) ?_ _ _ _
  all_goals simp

theorem busStuckRetry_within (n : Fin 128) (low : Bool) : c.Within (touched (.busStuckRetry n low)) (written (.busStuckRetry
    n low)) (c.busRetry n low) := by
  delta touched written
  dsimp only
  refine .busRetry ?_ (.refl c) ?_ ?_ _ _
  all_goals simp

theorem smbalert_within (n : Fin 128) : c.Within (touched (.smbalert n)) (written (.smbalert n)) (c.smbAlert n) :=
  (Core.Within.refl c).smbAlert n

theorem chRxPop_within (n : Fin 128) (size : Fin 9) : c.Within (touched (.chRxPop n size)) (written (.chRxPop n size))
    (c.chRxPop n size) := by
  delta touched written
  dsimp only
  refine .portAnswer ?_ (.rxPop ?_ (.refl c) _ _) _
  all_goals simp

theorem rxRelease_within (n : Fin 128) (count : Fin 65536) : c.Within (touched (.rxRelease n count)) (written (.rxRelease n
    count)) (c.chRxRelease n count) := by
  delta touched written
  dsimp only
  refine .portAnswer ?_ (.rxRelease ?_ (.refl c) _ _) _
  all_goals simp

theorem txWrite_within (n : Fin 128) (bs : Bytes) : c.Within (touched (.txWrite n bs)) (written (.txWrite n bs))
    (c.chTxWrite n bs) := by
  delta touched written
  dsimp only
  refine .chTxWrite ?_ ?_ ?_ ?_ ?_ ?_ (.refl c) ?_ _ _
  all_goals simp

theorem rxSilent_within (n : Fin 128) : c.Within (touched (.rxSilent n)) (written (.rxSilent n)) (c.rxSilent n) := by
  delta touched written
  dsimp only
  refine .rxSilent ?_ (.refl c) ?_ _
  all_goals simp

/-! CAN controllers. -/

theorem canTxItemArrive_within (n : Fin 32) (f : Frame) : c.Within (touched (.canTxItemArrive n f)) (written
    (.canTxItemArrive n f)) (c.canArrive n f) := by
  delta touched written
  dsimp only
  refine .canArrive ?_ (.refl c) ?_ ?_ ?_ ?_ ?_ _ _
  all_goals simp

theorem canFrameSelect_within (n : Fin 32) : c.Within (touched (.canFrameSelect n)) (written (.canFrameSelect n))
    (c.canSelect n) := by
  delta touched written
  dsimp only
  refine .canSelect ?_ (.refl c) ?_ ?_ _
  all_goals simp

theorem canSof_within (n : Fin 32) : c.Within (touched (.canSof n)) (written (.canSof n)) (c.canSof n) := by
  delta touched written
  dsimp only
  refine .canSof ?_ (.refl c) _
  all_goals simp

theorem canTxSent_within (n : Fin 32) (delay : Nat) : c.Within (touched (.canTxSent n delay)) (written (.canTxSent n delay))
    (c.canSent n delay) := by
  delta touched written
  dsimp only
  refine .canSent ?_ ?_ (.refl c) ?_ ?_ ?_ ?_ _ _
  all_goals simp [busKeys]

theorem canArbLost_within (n : Fin 32) : c.Within (touched (.canArbLost n)) (written (.canArbLost n)) (c.canArbLost n) := by
  delta touched written
  dsimp only
  refine .canArbLost ?_ (.refl c) ?_ ?_ _
  all_goals simp

theorem canTxError_within (n : Fin 32) (e : TxFault) : c.Within (touched (.canTxError n e)) (written (.canTxError n e))
    (c.canTxError n e) := by
  delta touched written
  dsimp only
  refine .canTxError ?_ ?_ (.refl c) ?_ ?_ ?_ _ _
  all_goals simp [busKeys]

theorem canRecovered_within (n : Fin 32) : c.Within (touched (.canRecovered n)) (written (.canRecovered n)) (c.canRecovered
    n) := by
  delta touched written
  dsimp only
  refine .canRecovered (.refl c) ?_ ?_ ?_ ?_ _
  all_goals simp

theorem canFrameRxComplete_within (n : Fin 32) (ident : Nat) (frame : Byte) (data : Bytes) (ago : Nat) (m : Memory) :
    c.Within (touched (.canFrameRxComplete n ident frame data ago)) (written (.canFrameRxComplete n ident frame data ago))
    (Core.canRx m c n ident frame.toNat data ago) := by
  delta touched written
  dsimp only
  refine .canRx (.refl c) ?_ ?_ ?_ ?_ ?_ _ _ _ _ _ _
  all_goals simp [busKeys, rxKeys]

theorem canRxError_within (n : Fin 32) (e : RxFault) : c.Within (touched (.canRxError n e)) (written (.canRxError n e))
    (c.canRxError n e) := by
  delta touched written
  dsimp only
  refine .canRxError ?_ ?_ (.refl c) ?_ _ _
  all_goals simp [busKeys]

/-! Pin engines. -/

theorem shiftOut_within (n : Fin 64) : c.Within (touched (.shiftOut n)) (written (.shiftOut n)) (c.runShiftOut n) := by
  delta touched written
  dsimp only
  refine .runShiftOut ?_ ?_ (.refl c) _
  all_goals simp [passKeys, stallKeys]

theorem shiftIn_within (n : Fin 64) (ins : BitVec 32) : c.Within (touched (.shiftIn n ins)) (written (.shiftIn n ins))
    (c.runShiftIn n ins) := by
  delta touched written
  dsimp only
  refine .runShiftIn ?_ ?_ (.refl c) _ _
  all_goals simp [passKeys, stallKeys]

theorem engDelay_within (n : Fin 64) : c.Within (touched (.engDelay n)) (written (.engDelay n)) (c.runDelay n) := by
  delta touched written
  dsimp only
  refine .runDelay ?_ (.refl c) _
  all_goals simp [passKeys]

theorem engWait_within (n : Fin 64) (k : Nat) (levels : BitVec 8) : c.Within (touched (.engWait n k levels)) (written
    (.engWait n k levels)) (c.runWait n k levels) := by
  delta touched written
  dsimp only
  refine .runWait ?_ (.refl c) _ _ _
  all_goals simp [passKeys]

theorem engSet_within (n : Fin 64) : c.Within (touched (.engSet n)) (written (.engSet n)) (c.runSet n) := by
  delta touched written
  dsimp only
  refine .runSet ?_ (.refl c) _
  all_goals simp [passKeys]

theorem engMove_within (n : Fin 64) : c.Within (touched (.engMove n)) (written (.engMove n)) (c.runMove n) := by
  delta touched written
  dsimp only
  refine .runMove ?_ ?_ (.refl c) ?_ _
  all_goals simp [passKeys, stallKeys]

theorem engCmp_within (n : Fin 64) (levels : BitVec 8) : c.Within (touched (.engCmp n levels)) (written (.engCmp n levels))
    (c.runCmp n levels) := by
  delta touched written
  dsimp only
  refine .runCmp ?_ (.refl c) _ _
  all_goals simp [passKeys]

theorem engEvent_within (n : Fin 64) : c.Within (touched (.engEvent n)) (written (.engEvent n)) (c.runEvent n) := by
  delta touched written
  dsimp only
  refine .runEvent ?_ (.refl c) ?_ ?_ _
  all_goals simp [passKeys]

theorem engStallEnd_within (n : Fin 64) (k : Nat) (ins : BitVec 32) : c.Within (touched (.engStallEnd n k ins)) (written
    (.engStallEnd n k ins)) (c.stallEnd n k ins) := by
  delta touched written
  dsimp only
  refine .stallEnd ?_ ?_ (.refl c) ?_ _ _ _
  all_goals simp [passKeys, stallKeys]

theorem txData_within (n : Fin 64) (bs : Bytes) : c.Within (touched (.txData n bs)) (written (.txData n bs)) (c.engTxData n
    bs) := by
  delta touched written
  dsimp only
  refine .engTxData (.refl c) ?_ ?_ ?_ ?_ ?_ _ _
  all_goals simp

theorem engRxPop_within (n : Fin 64) : c.Within (touched (.engRxPop n)) (written (.engRxPop n)) (c.engRxPop n) := by
  delta touched written
  dsimp only
  refine .engAnswer (.engRx (.refl c) ?_ ?_ _ _) ?_ _
  all_goals simp

theorem rxPeek_within (n : Fin 64) : c.Within (touched (.rxPeek n)) (written (.rxPeek n)) (c.engRxPeek n) := by
  delta touched written
  dsimp only
  refine .engAnswer (.engRx (.refl c) ?_ ?_ _ _) ?_ _
  all_goals simp

/-! Discrete banks, measurement inputs, rules and the mapper. -/

theorem schedItemRx_within (b : Fin 32) (f : Frame) : c.Within (touched (.schedItemRx b f)) (written (.schedItemRx b f))
    (c.schedItem b f) := by
  delta touched written
  dsimp only
  refine .discItem (.refl c) ?_ ?_ ?_ ?_ _ _
  all_goals simp [outItemKeys]

theorem discOutputItem_within (b : Fin 32) (f : Frame) : c.Within (touched (.discOutputItem b f)) (written (.discOutputItem
    b f)) (c.discItem b f) := by
  delta touched written
  dsimp only
  refine .discItem (.refl c) ?_ ?_ ?_ ?_ _ _
  all_goals simp [outItemKeys]

theorem discVioSense_within (b : Fin 32) (mv : Nat) : c.Within (touched (.discVioSense b mv)) (written (.discVioSense b mv))
    (c.vioSense b mv) := by
  delta touched written
  dsimp only
  refine .vioSense (.refl c) ?_ ?_ _ _
  all_goals simp

theorem measSampleDeliver_within (n : Fin 32) (x : Int) : c.Within (touched (.measSampleDeliver n x)) (written
    (.measSampleDeliver n x)) (c.measSample n x) := by
  delta touched written
  dsimp only
  refine .measSample ?_ ?_ (.refl c) ?_ _ _
  all_goals simp [sampleKeys]

theorem measOpenEnter_within (n : Fin 32) : c.Within (touched (.measOpenEnter n)) (written (.measOpenEnter n)) (c.measOpen n) := by
  delta touched written
  dsimp only
  refine .measOpen ?_ (.refl c) ?_ ?_ _
  all_goals simp

theorem measOpenLeave_within (n : Fin 32) : c.Within (touched (.measOpenLeave n)) (written (.measOpenLeave n)) (c.measClose
    n) := by
  delta touched written
  dsimp only
  refine .measClose ?_ (.refl c) ?_ _
  all_goals simp

theorem rulePass_within : c.Within (touched .rulePass) (written .rulePass) (c.rulePass) := by
  delta touched written
  dsimp only
  refine .rulePass ?_ ?_ (.refl c) ?_ ?_ ?_ ?_
  all_goals simp

theorem mapperInputItem_within (arrived : Option Frame) (m : Memory) : c.Within (touched (.mapperInputItem arrived))
    (written (.mapperInputItem arrived)) (Core.mapperInput m c arrived).2 := by
  delta touched written
  dsimp only
  refine .mapperInput ?_ (.refl c) ?_ ?_ ?_ ?_ ?_ _ _
  all_goals simp

theorem mapperRelease_within (m : Memory) : c.Within (touched .mapperRelease) (written .mapperRelease) (Core.mapperRelease m
    c).2 := by
  delta touched written
  dsimp only
  refine .mapperRelease ?_ (.refl c) ?_ ?_ _
  all_goals simp [releaseKeys]

theorem mapLoadWindowEnd_within (m : Memory) : c.Within (touched .mapLoadWindowEnd) (written .mapLoadWindowEnd) (c.mapWindow
    m) := by
  delta touched written
  dsimp only
  refine .mapWindow ?_ (.refl c) ?_ ?_ ?_ _
  all_goals simp

/-- A command that answers state u, whose core is within the lists. -/
theorem Core.Within.reached {T : List CorePart} {W : List KeySet} {s t u : State}
    (next : (.next u : Host.Outcome State Fault Refusal) = .next t) (h : s.core.Within T W u.core) : s.core.Within T W t.core :=
  Host.Outcome.next.inj next ▸ h

/-- A command of these families reaches its next state within its own lists. -/
theorem field_within {i : Instr} {s t : State} (hf : family i = .field) (next : exec i s = .next t) :
    s.core.Within (touched i) (written i) t.core := by
  cases i with
  | charRx n b ok silence => exact .reached next (charRx_within s.core n b ok silence)
  | chBreak n => exact .reached next (chBreak_within s.core n)
  | idleGapExpiry n => exact .reached next (idleGapExpiry_within s.core n)
  | modbusSilenceExpiry n => exact .reached next (modbusSilenceExpiry_within s.core n)
  | flushAgeExpiry n => exact .reached next (flushAgeExpiry_within s.core n)
  | chPtrMismatch n tx => exact .reached next (chPtrMismatch_within s.core n tx)
  | scannerRxVisit n => exact .reached next (scannerRxVisit_within s.core n)
  | scannerTxVisit n => exact .reached next (scannerTxVisit_within s.core n)
  | chTxItemArrive n f => exact .reached next (chTxItemArrive_within s.core n f)
  | chTxRecordStart n ballC => exact .reached next (chTxRecordStart_within s.core n ballC)
  | chTxRecordEnd e => exact .reached next (chTxRecordEnd_within s.core e)
  | spiTransactionDone n miso => exact .reached next (spiTransactionDone_within s.core n miso)
  | i2cTransactionDone n status data pec => exact .reached next (i2cTransactionDone_within s.core n status data pec)
  | i2cArbRetry n => exact .reached next (i2cArbRetry_within s.core n)
  | i2cTargetWrite n data => exact .reached next (i2cTargetWrite_within s.core n data)
  | i2cTargetRead n count => exact .reached next (i2cTargetRead_within s.core n count)
  | busStuck n low => exact .reached next (busStuck_within s.core n low)
  | busStuckRetry n low => exact .reached next (busStuckRetry_within s.core n low)
  | smbalert n => exact .reached next (smbalert_within s.core n)
  | chRxPop n size => exact .reached next (chRxPop_within s.core n size)
  | rxRelease n count => exact .reached next (rxRelease_within s.core n count)
  | txWrite n bs => exact .reached next (txWrite_within s.core n bs)
  | rxSilent n => exact .reached next (rxSilent_within s.core n)
  | canTxItemArrive n f => exact .reached next (canTxItemArrive_within s.core n f)
  | canFrameSelect n => exact .reached next (canFrameSelect_within s.core n)
  | canSof n => exact .reached next (canSof_within s.core n)
  | canTxSent n delay => exact .reached next (canTxSent_within s.core n delay)
  | canArbLost n => exact .reached next (canArbLost_within s.core n)
  | canTxError n e => exact .reached next (canTxError_within s.core n e)
  | canRecovered n => exact .reached next (canRecovered_within s.core n)
  | canFrameRxComplete n ident frame data ago => exact .reached next (canFrameRxComplete_within s.core n ident frame data
    ago s.mem)
  | canRxError n e => exact .reached next (canRxError_within s.core n e)
  | shiftOut n => exact .reached next (shiftOut_within s.core n)
  | shiftIn n ins => exact .reached next (shiftIn_within s.core n ins)
  | engDelay n => exact .reached next (engDelay_within s.core n)
  | engWait n k levels => exact .reached next (engWait_within s.core n k levels)
  | engSet n => exact .reached next (engSet_within s.core n)
  | engMove n => exact .reached next (engMove_within s.core n)
  | engCmp n levels => exact .reached next (engCmp_within s.core n levels)
  | engEvent n => exact .reached next (engEvent_within s.core n)
  | engStallEnd n k ins => exact .reached next (engStallEnd_within s.core n k ins)
  | txData n bs => exact .reached next (txData_within s.core n bs)
  | engRxPop n => exact .reached next (engRxPop_within s.core n)
  | rxPeek n => exact .reached next (rxPeek_within s.core n)
  | schedItemRx b f => exact .reached next (schedItemRx_within s.core b f)
  | discOutputItem b f => exact .reached next (discOutputItem_within s.core b f)
  | discVioSense b mv => exact .reached next (discVioSense_within s.core b mv)
  | measSampleDeliver n x => exact .reached next (measSampleDeliver_within s.core n x)
  | measOpenEnter n => exact .reached next (measOpenEnter_within s.core n)
  | measOpenLeave n => exact .reached next (measOpenLeave_within s.core n)
  | rulePass => exact .reached next (rulePass_within s.core)
  | mapperInputItem arrived => exact .reached next (mapperInputItem_within s.core arrived s.mem)
  | mapperRelease => exact .reached next (mapperRelease_within s.core s.mem)
  | mapLoadWindowEnd => exact .reached next (mapLoadWindowEnd_within s.core s.mem)
  | _ => cases hf

/-- Settles O56: each command's operation is made of changes of its own parts and members, and of events, reports and frames, which
while the tick is open only join the queues that no frame compares. -/
theorem fieldCommandsKeepTheRest : Obligations.FieldCommandsKeepTheRest :=
  fun _ _ _ hf hs next => (field_within hf next).unchanged hs

end Sys2Proof.Machine

/-! SUPPORT. Discrete lines and measurement inputs (chapter 11): each command as one equation under the conditions of its clause,
and what of a sample the pairs and sets that follow it leave. -/

namespace Sys2Proof.Machine

/-! The rows, and the members of chapter 11 beside those that reports change. -/

theorem exec_discOutputItem (b : Fin 32) (f : Frame) (s : State) :
    exec (.discOutputItem b f) s = onCore (fun c => c.discItem b f) s := rfl

theorem exec_discSafeWrite (lvl : Fin 4) (b : Fin 32) (v : Fin 256) (s : State) :
    exec (.discSafeWrite lvl b v) s = onMem (fun m c => Core.writeNum m c lvl (Reg.DISC_SAFE b) v) s := rfl

theorem exec_discVioSense (b : Fin 32) (mv : Nat) (s : State) :
    exec (.discVioSense b mv) s = onCore (fun c => c.vioSense b mv) s := rfl

theorem exec_measSampleDeliver (n : Fin 32) (x : Int) (s : State) :
    exec (.measSampleDeliver n x) s = onCore (fun c => c.measSample n x) s := rfl

theorem exec_measOpenEnter (n : Fin 32) (s : State) : exec (.measOpenEnter n) s = onCore (fun c => c.measOpen n) s := rfl

theorem exec_measOpenLeave (n : Fin 32) (s : State) : exec (.measOpenLeave n) s = onCore (fun c => c.measClose n) s := rfl

/-- The objects 0x4000 to 0x4FFF hold none of the registers that reports change. -/
theorem fieldKey_not_report {k : Nat} (h : k / 0x100000 = 4) : k ∉ reportKeys := by
  have apart : ∀ j ∈ reportKeys, j / 0x100000 ≠ 4 := by decide
  exact fun hk => apart k hk h

/-! Output items (R384). -/

/-- R208: while no injection is armed an item with its transit check right passes egress, and no more. -/
theorem Core.egress_sound {c : Core} {f : Frame} (code inst cnt : Nat) (hi : c.reg Reg.INJ_LEFT = 0)
    (hf : f.check = f.transitCrc) : c.egress code inst cnt f = (true, c) := by
  simp [Core.egress, Core.checkFrame, Core.checkBits, Core.beginCheck_unarmed hi, verdictOf, hf]

/-- The journal of a frame changes no part of the core that frames compare. -/
theorem Core.twJournal_same (c : Core) (inst : Nat) (f : Frame) (p : CorePart) : p.same c (c.twJournal inst f) := by
  unfold Core.twJournal
  split
  · exact c.keeps_refl.same p
  · refine CorePart.same.trans ?_ ((Core.twSend_keeps _ _ _).same p)
    cases p <;> rfl

/-- R384: an item taken by bank b is counted once, and its journal counts in no member of the bank. -/
theorem Core.reg_outItemNoted (c : Core) {b : Nat} (hb : b < 32) (f : Frame) :
    ((c.inc (Reg.DISC_CNT_OUT_ITEMS b)).twJournal b f).reg (Reg.DISC_CNT_OUT_ITEMS b) =
      satAdd32 (c.reg (Reg.DISC_CNT_OUT_ITEMS b)) 1 := by
  rw [Core.twJournal_reg _ _ _ (fieldKey_not_report (by unfold Reg.DISC_CNT_OUT_ITEMS; omega))
    (by unfold Reg.DISC_CNT_OUT_ITEMS Reg.JSEQ_LAST; omega), Core.reg_inc, if_pos rfl]

/-- R384: an item of the right length for a supplied bank outside SCHED_BANKS is counted, journalled and put into the bank's
output update register. -/
theorem Core.discItem_supplied {c : Core} {b : Nat} {f : Frame} (hup : c.up = true) (hi : c.reg Reg.INJ_LEFT = 0)
    (hf : f.check = f.transitCrc) (hl : f.payload.length = 4) (hs : c.supplied b = true)
    (hn : bit (c.cfg Reg.SCHED_BANKS) b = false) :
    c.discItem b f = (((c.undeliver (4 + b / 4) f).inc (Reg.DISC_CNT_OUT_ITEMS b)).twJournal b f).update
      { at_ := c.now, rank := 1, bank := b, mask := fieldAt f.payload 0 1, value := fieldAt f.payload 1 1 } := by
  have up : (c.undeliver (4 + b / 4) f).up = true := hup
  have passed := Core.egress_sound (c := c.undeliver (4 + b / 4) f) 0x06 b Reg.CNT_EGRESS_DISC hi hf
  have supplied : (c.undeliver (4 + b / 4) f).supplied b = true := hs
  have noted := ((c.undeliver (4 + b / 4) f).inc (Reg.DISC_CNT_OUT_ITEMS b)).twJournal_same b f
  have time : _ = c.time := noted .time
  have settings : _ = c.inForce := noted .inForce
  simp only [Core.cfg] at hn
  simp [Core.discItem, up, passed, hl, supplied, Core.cfg, settings, hn, Core.now, time, outEntry]

/-- R384: an item of another length, or for a bank without supply, is dropped and counted. -/
theorem Core.discItem_dropped {c : Core} {b : Nat} {f : Frame} (hup : c.up = true) (hi : c.reg Reg.INJ_LEFT = 0)
    (hf : f.check = f.transitCrc) (h : f.payload.length ≠ 4 ∨ c.supplied b = false) :
    c.discItem b f = (c.undeliver (4 + b / 4) f).inc (Reg.DISC_CNT_OUT_DROP b) := by
  have up : (c.undeliver (4 + b / 4) f).up = true := hup
  have passed := Core.egress_sound (c := c.undeliver (4 + b / 4) f) 0x06 b Reg.CNT_EGRESS_DISC hi hf
  have unfit : f.payload.length ≠ 4 ∨ (c.undeliver (4 + b / 4) f).supplied b = false := h
  simp [Core.discItem, up, passed, unfit]

/-! Safe values (R386). -/

/-- The row of DISC_SAFE: a byte of any value, RW from level 2. -/
def discSafeRow : MemRow := ⟨1, 1, .u8, .rw, 2, 0, 0, 255, 0, 0, 0⟩

theorem findMember_discSafe (lvl : Fin 4) (b : Fin 32) :
    findMember (Reg.DISC_SAFE b / 256) (Reg.DISC_SAFE b % 256) lvl = (0, discSafeRow) := by
  revert lvl b
  decide

theorem memberOf_discSafe (b : Fin 32) : memberOf (Reg.DISC_SAFE b / 256) (Reg.DISC_SAFE b % 256) = some discSafeRow := by
  revert b
  decide

theorem discSafeRow_number (v : Fin 256) : discSafeRow.number (leBytes 1 v) = v := by
  simp [MemRow.number, discSafeRow, leBytes, leVal, byteOf]

theorem discSafeRow_valueStatus {o : Nat} (ho : 0x4000 ≤ o) (v : Fin 256) : discSafeRow.valueStatus o (leBytes 1 v) = 0 := by
  have fields : fieldsOk o v = true := by
    unfold fieldsOk
    rw [if_neg (by omega), if_neg (by omega)]
  have range : discSafeRow.inRange o v = true := by
    have := v.isLt
    simp [MemRow.inRange, discSafeRow, Ty.signed]
    omega
  unfold MemRow.valueStatus
  rw [discSafeRow_number, range, fields]
  rfl

/-- The core with another state of the discrete lines. -/
def Core.withDisc (c : Core) (d : DiscState) : Core := { c with disc := d }

/-- R33, R386: the owner of DISC_SAFE stores the value, and beside it the one replaced, which a strobe that is too near still
takes. -/
theorem Core.ownNumber_discSafe (m : Memory) (c : Core) (lvl : Nat) (b : Fin 32) (v raw : Nat) (req : Option Req) :
    ∃ d, Core.ownNumber m c lvl (Reg.DISC_SAFE b / 256) (Reg.DISC_SAFE b % 256) v raw req =
      { st := 0, mem := m, core := (c.withDisc d).setReg (Reg.DISC_SAFE b) v } := by
  have hb := b.isLt
  have object : Reg.DISC_SAFE b / 256 = 0x4004 + b * 8 := by unfold Reg.DISC_SAFE; omega
  have member : Reg.DISC_SAFE b % 256 = 1 := by unfold Reg.DISC_SAFE; omega
  have safe : (0x4004 + b.val * 8) % 8 = 4 := by omega
  have field : Core.ownField m c (0x4004 + b * 8) 1 v raw = { st := 0, mem := m, core := c.setSafe (Reg.DISC_SAFE b) v } := by
    unfold Core.ownField
    dsimp only
    rw [if_neg (by omega), if_neg (by omega), if_neg (by omega), if_pos (by omega)]
    simp [safe]
  unfold Core.ownNumber
  rw [object, member, if_neg (by omega), if_pos (by omega), field]
  exact ⟨_, rfl⟩

/-- A value of a number that its owner stores is audited and answered OK. -/
theorem Core.putValue_owned (m : Memory) (c : Core) {r : Req} (lvl : Nat) {x : MemRow} {bs : Bytes} {d : Core}
    (hb : x.isBytes = false) (ht : x.acc ≠ .rwt) (hv : x.valueStatus r.obj bs = 0) (hp : c.ownerPaused r.obj = false)
    (own : Core.ownNumber m c lvl r.obj r.mem (x.number bs) (leVal bs) (some r) = { st := 0, mem := m, core := d }) :
    Core.putValue m c r lvl x bs = ⟨{ status := 0, sess := r.sess }, m, d.audit lvl r.obj r.mem bs⟩ := by
  have written : Core.ownWrite m c r lvl x bs = { st := 0, mem := m, core := d } := by
    unfold Core.ownWrite
    rw [if_neg ht, if_neg (by simp [hb]), own]
  unfold Core.putValue
  simp [written, c.valueOrder_ok hv hp, ht]

/-- R62, R63: a register write that the engine takes, of a member whose owner stores the value and notes it among the discrete
lines. -/
theorem Core.writeBytes_noted (m : Memory) {c : Core} {lvl key : Nat} {data : Bytes} {x : MemRow} {d : DiscState}
    (hkey : key < 0x1000000) (hf : findMember (key / 256) (key % 256) lvl = (0, x)) (hc : c.takes lvl key = true)
    (hb : x.isBytes = false) (ht : x.acc ≠ .rwt) (hv : x.valueStatus (key / 256) data = 0)
    (own : Core.ownNumber m (c.inc Reg.STAT_REQ) lvl (key / 256) (key % 256) (x.number data) (leVal data)
      (some (ownReq lvl 2 key data)) =
      { st := 0, mem := m, core := ((c.inc Reg.STAT_REQ).withDisc d).setReg key (x.number data) }) :
    Core.writeBytes m c lvl key data = (m, (c.withDisc d).plainWritten lvl key (x.number data) data) := by
  obtain ⟨up, free, held, access, runs⟩ := (Core.takes_iff hf).mp hc
  have object := ownReq_obj lvl 2 data hkey
  have put := Core.putValue_owned m (c.inc Reg.STAT_REQ) (r := ownReq lvl 2 key data) lvl (bs := data) hb ht (object ▸ hv)
    (by rw [Core.ownerPaused_inc_statReq, object]; exact runs) (by rw [object, ownReq_mem]; exact own)
  rw [object, ownReq_mem, ownReq_sess] at put
  have stillUp : ((((c.inc Reg.STAT_REQ).withDisc d).setReg key (x.number data)).audit lvl (key / 256) (key % 256) data).up =
      true := by
    unfold Core.up
    rw [(Core.audit_keeps _ _ _ _ _).node]
    exact up
  unfold Core.writeBytes
  rw [Core.ownRun_eq_runReq m _ _ _ _ up free held, Core.runReq_ownReq m _ _ _ _ (by decide),
    Core.dictCommand_ownWrite m data hkey hf (by rw [Core.accessStatus_inc_statReq]; exact access), put]
  simp only [DictRes.finish, stillUp]
  rfl

/-- R386: a write of DISC_SAFE that the engine takes. -/
theorem Core.writeNum_discSafe (m : Memory) {c : Core} {lvl : Fin 4} {b : Fin 32} (v : Fin 256)
    (hc : c.takes lvl (Reg.DISC_SAFE b) = true) :
    ∃ d, Core.writeNum m c lvl (Reg.DISC_SAFE b) v =
      (m, (c.withDisc d).plainWritten lvl (Reg.DISC_SAFE b) v (leBytes 1 v)) := by
  have width : Core.writeNum m c lvl (Reg.DISC_SAFE b) v = Core.writeBytes m c lvl (Reg.DISC_SAFE b) (leBytes 1 v) := by
    unfold Core.writeNum
    rw [memberOf_discSafe]
    rfl
  obtain ⟨d, own⟩ := Core.ownNumber_discSafe m (c.inc Reg.STAT_REQ) lvl b v (leVal (leBytes 1 v))
    (some (ownReq lvl 2 (Reg.DISC_SAFE b) (leBytes 1 v)))
  have written := Core.writeBytes_noted m (d := d) (by unfold Reg.DISC_SAFE; omega) (findMember_discSafe lvl b) hc rfl (by decide)
    (discSafeRow_valueStatus (by unfold Reg.DISC_SAFE; omega) v) (by rw [discSafeRow_number]; exact own)
  rw [discSafeRow_number] at written
  exact ⟨d, width.trans written⟩

/-! The supply of a bank (R376). -/

@[simp] theorem Core.bank_setBank (c : Core) (b : Nat) (x : DiscBank) : (c.setBank b x).bank b = x := by
  simp [Core.bank, Core.setBank]

@[simp] theorem Core.bank_setReg (c : Core) (b k v : Nat) : (c.setReg k v).bank b = c.bank b := rfl

@[simp] theorem Core.reg_setBank (c : Core) (b k : Nat) (x : DiscBank) : (c.setBank b x).reg k = c.reg k := rfl

theorem vioCode_low {mv : Nat} (lo : 1620 ≤ mv) (hi : mv ≤ 1980) : vioCode mv = 1 := by
  unfold vioCode
  rw [if_neg (by omega), if_pos ⟨lo, hi⟩]

/-- R376: the second sense in a row of the lower level gives it to a bank that has had no supply yet; its filters start anew. -/
theorem Core.vioSense_again {c : Core} {b mv : Nat} (hup : c.up = true) (hs : (c.bank b).sensed = some (vioCode mv))
    (hv : c.reg (Reg.DISC_VIO b) = 0) (hg : (c.bank b).gone = false) (hc : vioCode mv = 1) :
    c.vioSense b mv = ((c.setBank b { c.bank b with sensed := some 1 }).setReg (Reg.DISC_VIO b) 1).setBank b
      { c.bank b with sensed := some 1, gone := false, runs := [] } := by
  have running : c.node.phase = .run := by simpa [Core.up] using hup
  unfold Core.vioSense
  simp [running, hs, hc, hv, hg, Core.supplied]

/-! Measurement samples (R390 to R397). -/

@[simp] theorem Core.measIn_setMeas (c : Core) (n : Nat) (x : Meas) : (c.setMeas n x).measIn n = x := by
  simp [Core.measIn, Core.setMeas]

@[simp] theorem Core.measIn_setReg (c : Core) (n k v : Nat) : (c.setReg k v).measIn n = c.measIn n := rfl

@[simp] theorem Core.measIn_inc (c : Core) (n k : Nat) : (c.inc k).measIn n = c.measIn n := rfl

@[simp] theorem Core.reg_setMeas (c : Core) (n k : Nat) (x : Meas) : (c.setMeas n x).reg k = c.reg k := rfl

theorem Core.reg_advanceSys (c : Core) (t k : Nat) : (c.advanceSys t).reg k = c.reg k := by
  unfold Core.advanceSys
  split <;> rfl

theorem Core.measIn_advanceSys (c : Core) (t n : Nat) : (c.advanceSys t).measIn n = c.measIn n := by
  unfold Core.advanceSys
  split <;> rfl

/-- R392: the default calibration leaves a code in range as it is, and it is not over range. -/
theorem calibrate_default {x : Int} (lo : -32768 ≤ x) (hi : x ≤ 32767) : calibrate 0 32768 x = (x, false) := by
  have inside : clampInt (-32768) 32767 x = x := by
    unfold clampInt
    rw [if_neg (by omega), if_neg (by omega)]
  simp [calibrate, inside]

/-- What shows the newest sample of input n: its value, its instant and the count of samples over range. -/
def sampleShown (n : Nat) : List Nat := [Reg.MEAS_LAST n, Reg.MEAS_LAST_TIME n, Reg.MEAS_CNT_OVER n]

theorem not_sampleShown {n k : Nat}
    (h : k ∈ [Reg.MEAS_SEQ n, Reg.MEAS_CNT_SETS n, Reg.MEAS_CNT_SETS_LOST n, Reg.MEAS_CNT_THR n, Reg.MEAS_STATE n]) :
    k ∉ sampleShown n := by
  simp only [sampleShown, Reg.MEAS_LAST, Reg.MEAS_LAST_TIME, Reg.MEAS_CNT_OVER, Reg.MEAS_SEQ, Reg.MEAS_CNT_SETS,
    Reg.MEAS_CNT_SETS_LOST, Reg.MEAS_CNT_THR, Reg.MEAS_STATE, List.mem_cons, List.not_mem_nil, or_false] at h ⊢
  omega

/-- From core c to core d the newest sample of input n stays: what shows it, and the samples that SETTLING has left. -/
structure Core.SampleStays (n : Nat) (c d : Core) : Prop where
  settle : (d.measIn n).settle = (c.measIn n).settle
  shown : ∀ k ∈ sampleShown n, d.reg k = c.reg k

namespace Core.SampleStays
variable {n : Nat} {a c : Core}

theorem refl (n : Nat) (c : Core) : c.SampleStays n c := ⟨rfl, fun _ _ => rfl⟩

theorem setReg (h : a.SampleStays n c) {k : Nat} (hk : k ∉ sampleShown n) (v : Nat) : a.SampleStays n (c.setReg k v) := by
  refine ⟨h.settle, fun j hj => ?_⟩
  rw [Core.reg_setReg, if_neg (by rintro rfl; exact hk hj), h.shown j hj]

theorem inc (h : a.SampleStays n c) {k : Nat} (hk : k ∉ sampleShown n) : a.SampleStays n (c.inc k) := h.setReg hk _

theorem setMeas (h : a.SampleStays n c) {x : Meas} (hx : x.settle = (c.measIn n).settle) : a.SampleStays n (c.setMeas n x) :=
  ⟨by rw [Core.measIn_setMeas, hx, h.settle], h.shown⟩

theorem keeps (h : a.SampleStays n c) (hn : n < 32) {d : Core} (g : c.Keeps d) : a.SampleStays n d := by
  refine ⟨by rw [Core.measIn, g.meas]; exact h.settle, fun k hk => ?_⟩
  have field : k / 0x100000 = 4 := by
    simp only [sampleShown, Reg.MEAS_LAST, Reg.MEAS_LAST_TIME, Reg.MEAS_CNT_OVER, List.mem_cons, List.not_mem_nil, or_false] at hk
    omega
  rw [g.reg (fieldKey_not_report field), h.shown k hk]

theorem ite (p : Prop) [Decidable p] {d e : Core} (hd : a.SampleStays n d) (he : a.SampleStays n e) :
    a.SampleStays n (if p then d else e) := by
  split
  · exact hd
  · exact he

theorem measState (h : a.SampleStays n c) : a.SampleStays n (c.measState n) := h.setReg (not_sampleShown (by simp)) _

/-- R393, R394: a set that is formed takes the codes, and is submitted or counted as lost. -/
theorem formSet (h : a.SampleStays n c) (hn : n < 32) : a.SampleStays n (c.formSet n) := by
  have numbered := (h.setReg (not_sampleShown (k := Reg.MEAS_SEQ n) (by simp)) ((c.reg (Reg.MEAS_SEQ n) + 1) % 65536)).inc
    (not_sampleShown (k := Reg.MEAS_CNT_SETS n) (by simp))
  unfold Core.formSet
  refine ite _ h (ite _ ?lost ?formed)
  case lost => exact inc (numbered.setMeas (by rfl)) (not_sampleShown (by simp))
  case formed => exact keeps (numbered.setMeas (by rfl)) hn (Core.submit_keeps _ _ _ _)

theorem joinSet (h : a.SampleStays n c) (hn : n < 32) (y instant flags : Nat) :
    a.SampleStays n (c.joinSet n y instant flags) := by
  unfold Core.joinSet
  extract_lets x x' joined
  have same : x'.settle = (c.measIn n).settle := by
    unfold x'
    split <;> rfl
  have entered : a.SampleStays n joined := h.setMeas same
  exact ite _ h (ite _ (entered.formSet hn) entered)

theorem pairSample (h : a.SampleStays n c) (hn : n < 32) (q : Nat) (y : Int) (instant : Nat) :
    a.SampleStays n (c.pairSample n q y instant) := by
  have put (p : MeasPair) : a.SampleStays n
      (c.setMeas n (if q = 0 then { c.measIn n with pairA := p } else { c.measIn n with pairB := p })) :=
    h.setMeas (by split <;> rfl)
  unfold Core.pairSample
  exact ite _ (put _) (ite _ h (ite _ (put _) (((put _).keeps hn (Core.event_keeps _ _ _ _ _)).inc (not_sampleShown (by simp)))))

end Core.SampleStays

/-- R392: a sample y of the given instant that is not over range is shown, before thresholds and sets take it. -/
def Core.sampleTaken (c : Core) (n : Nat) (y : Int) (instant : Nat) : Core :=
  let s := c.measIn n
  ((c.setReg (Reg.MEAS_LAST n) (ofInt 16 y)).setReg (Reg.MEAS_LAST_TIME n) instant).setMeas n
    { s with lastAt := some instant, settle := s.settle - 1, clipped := false, settling := Nat.blt 0 s.settle }

section
variable (c : Core) (n : Nat) (y : Int) (instant : Nat)

theorem Core.reg_sampleTaken_value : (c.sampleTaken n y instant).reg (Reg.MEAS_LAST n) = ofInt 16 y := by
  have time : Reg.MEAS_LAST n ≠ Reg.MEAS_LAST_TIME n := by
    unfold Reg.MEAS_LAST Reg.MEAS_LAST_TIME
    omega
  unfold Core.sampleTaken
  dsimp only
  rw [Core.reg_setMeas, Core.reg_setReg, if_neg time, Core.reg_setReg, if_pos rfl]

theorem Core.reg_sampleTaken_instant : (c.sampleTaken n y instant).reg (Reg.MEAS_LAST_TIME n) = instant := by
  unfold Core.sampleTaken
  dsimp only
  rw [Core.reg_setMeas, Core.reg_setReg, if_pos rfl]

theorem Core.reg_sampleTaken_over : (c.sampleTaken n y instant).reg (Reg.MEAS_CNT_OVER n) = c.reg (Reg.MEAS_CNT_OVER n) := by
  obtain ⟨value, time⟩ : Reg.MEAS_CNT_OVER n ≠ Reg.MEAS_LAST n ∧ Reg.MEAS_CNT_OVER n ≠ Reg.MEAS_LAST_TIME n := by
    unfold Reg.MEAS_CNT_OVER Reg.MEAS_LAST Reg.MEAS_LAST_TIME
    omega
  unfold Core.sampleTaken
  dsimp only
  rw [Core.reg_setMeas, Core.reg_setReg, if_neg time, Core.reg_setReg, if_neg value]

theorem Core.settle_sampleTaken : ((c.sampleTaken n y instant).measIn n).settle = (c.measIn n).settle - 1 := by
  unfold Core.sampleTaken
  dsimp only
  rw [Core.measIn_setMeas]

end

/-- R391, R392: with the default calibration, a supply in range and no step before it, a sample in range waits for its group
delay and is taken; then come the pairs and the set. -/
theorem Core.measSample_inRange {c : Core} {n : Nat} {x : Int} (hr : (c.measIn n).running = true)
    (ho : c.regI 16 (Reg.MEAS_CAL_OFFSET n) = 0) (hg : c.reg (Reg.MEAS_CAL_GAIN n) = 32768) (lo : -32768 ≤ x) (hi : x ≤ 32767)
    (hs : (c.nextSample n).2 = false) (hv : bit (c.reg Reg.SUPPLY_FLAGS) 1 = false) :
    ∃ t flags, c.measSample n x = ((((((c.advanceSys t).sampleTaken n x (c.nextSample n).1).pairSample n 0 x
      (c.nextSample n).1).pairSample n 1 x (c.nextSample n).1).joinSet n (ofInt 16 x) (c.nextSample n).1 flags).measState n) := by
  simp only [Core.regI] at ho
  unfold Core.measSample
  simp only [hr, hs, hg, hv, Core.regI, Core.reg_advanceSys, ho, calibrate_default lo hi, Core.incIf, Bool.not_true, Bool.or_self,
    Bool.false_and, Bool.false_eq_true, if_false]
  exact ⟨_, _, rfl⟩

/-- R392: what then stands of the sample. -/
theorem Core.measSample_shown {c : Core} {n : Nat} {x : Int} (hn : n < 32) (hr : (c.measIn n).running = true)
    (ho : c.regI 16 (Reg.MEAS_CAL_OFFSET n) = 0) (hg : c.reg (Reg.MEAS_CAL_GAIN n) = 32768) (lo : -32768 ≤ x) (hi : x ≤ 32767)
    (hs : (c.nextSample n).2 = false) (hv : bit (c.reg Reg.SUPPLY_FLAGS) 1 = false) :
    ∃ t, ((c.advanceSys t).sampleTaken n x (c.nextSample n).1).SampleStays n (c.measSample n x) := by
  obtain ⟨t, flags, sampled⟩ := Core.measSample_inRange hr ho hg lo hi hs hv
  rw [sampled]
  exact ⟨t, ((((Core.SampleStays.refl n _).pairSample hn 0 _ _).pairSample hn 1 _ _).joinSet hn _ _ _).measState⟩

/-! OPEN (R395). -/

theorem Core.measOpen_enters {c : Core} {n : Nat} (hr : c.fieldRuns = true) (he : c.cfg (Reg.MEAS_OPEN_EN n) = 1)
    (ho : (c.measIn n).opened = false) :
    c.measOpen n = (((c.setMeas n { c.measIn n with opened := true }).eventOnce (0x100 + n) 5 3 0).inc
      (Reg.MEAS_CNT_OPEN n)).measState n := by
  simp [Core.measOpen, hr, he, ho]

theorem Core.measClose_leaves {c : Core} {n : Nat} (hr : c.fieldRuns = true) (he : c.cfg (Reg.MEAS_OPEN_EN n) = 1)
    (ho : (c.measIn n).opened = true) :
    c.measClose n = ((c.setMeas n { c.measIn n with opened := false }).eventOnce (0x100 + n) 6 0 0).measState n := by
  simp [Core.measClose, hr, he, ho]

/-- The event of an input leaves its record as it was. -/
theorem Core.measIn_eventOnce (c : Core) (a k sev v n : Nat) : (c.eventOnce a k sev v).measIn n = c.measIn n := by
  simp only [Core.measIn, (c.eventOnce_keeps a k sev v).meas]

/-- The event of an input counts in no member of it. -/
theorem Core.reg_eventOnce_openCount (c : Core) (a k sev v : Nat) {n : Nat} (hn : n < 32) :
    (c.eventOnce a k sev v).reg (Reg.MEAS_CNT_OPEN n) = c.reg (Reg.MEAS_CNT_OPEN n) :=
  (c.eventOnce_keeps a k sev v).reg (fieldKey_not_report (by unfold Reg.MEAS_CNT_OPEN; omega))

/-- The state of an input shows in MEAS_STATE alone. -/
theorem Core.reg_measState_openCount (c : Core) (n : Nat) :
    (c.measState n).reg (Reg.MEAS_CNT_OPEN n) = c.reg (Reg.MEAS_CNT_OPEN n) := by
  unfold Core.measState
  exact (Core.reg_setReg _ _ _ _).trans (if_neg (by unfold Reg.MEAS_CNT_OPEN Reg.MEAS_STATE; omega))

@[simp] theorem Core.measIn_measState (c : Core) (n : Nat) : (c.measState n).measIn n = c.measIn n := rfl

/-- Settles O20: each command as its equation above gives it; a journal, an event and a set change none of the members named. -/
theorem discreteAndMeasurementFollow : Obligations.DiscreteAndMeasurementFollow := by
  refine ⟨?item, ?drop, ?safe, ?sense, ?sample, ?enter, ?leave⟩
  case item =>
    intro b f s hup hi hf hl hs hn
    have sched : _ = s.core.sched :=
      ((s.core.undeliver (4 + b / 4) f).inc (Reg.DISC_CNT_OUT_ITEMS b)).twJournal_same b f .sched
    refine answers_onCore (exec_discOutputItem b f s) ?_
    dsimp only
    rw [Core.discItem_supplied hup hi hf hl hs hn]
    exact ⟨congrArg (fun x => x.updates ++ _) sched, Core.reg_outItemNoted (s.core.undeliver (4 + b / 4) f) b.isLt f⟩
  case drop =>
    intro b f s hup hi hf h
    refine answers_onCore (exec_discOutputItem b f s) ?_
    dsimp only
    rw [Core.discItem_dropped hup hi hf h, Core.reg_inc, if_pos rfl]
    exact ⟨rfl, rfl⟩
  case safe =>
    intro lvl b v s hc
    have hb := b.isLt
    obtain ⟨-, -, -, access, -⟩ := (Core.takes_iff (findMember_discSafe lvl b)).mp hc
    obtain ⟨report, answer⟩ := writable_key_apart (findMember_discSafe lvl b) access
    obtain ⟨d, written⟩ := Core.writeNum_discSafe s.mem v hc
    exact answers_onMem (exec_discSafeWrite lvl b v s) written
      ⟨Core.plainWritten_reg_self _ _ _ _ report answer, Core.plainWritten_wroteOk _ _ _ _ (by unfold Reg.DISC_SAFE; omega)⟩
  case sense =>
    intro b mv s hup hs hv hg lo hi
    refine answers_onCore (exec_discVioSense b mv s) ?_
    dsimp only
    rw [Core.vioSense_again hup hs hv hg (vioCode_low lo hi), Core.bank_setBank, Core.reg_setBank, Core.reg_setReg, if_pos rfl]
    exact ⟨rfl, rfl⟩
  case sample =>
    intro n x s hr ho hg lo hi hs hv
    obtain ⟨t, settle, shown⟩ := Core.measSample_shown n.isLt hr ho hg lo hi hs hv
    refine answers_onCore (exec_measSampleDeliver n x s) ?_
    dsimp only
    rw [settle, shown _ (by simp [sampleShown]), shown _ (by simp [sampleShown]), shown _ (by simp [sampleShown]),
      Core.reg_sampleTaken_value, Core.reg_sampleTaken_instant, Core.reg_sampleTaken_over, Core.reg_advanceSys,
      Core.settle_sampleTaken, Core.measIn_advanceSys]
    exact ⟨rfl, rfl, rfl, rfl⟩
  case enter =>
    intro n s hr he ho
    refine answers_onCore (exec_measOpenEnter n s) ?_
    dsimp only
    rw [Core.measOpen_enters hr he ho, Core.reg_measState_openCount, Core.reg_inc, if_pos rfl,
      Core.reg_eventOnce_openCount _ _ _ _ _ n.isLt, Core.measIn_measState, Core.measIn_inc, Core.measIn_eventOnce,
      Core.measIn_setMeas]
    exact ⟨rfl, rfl⟩
  case leave =>
    intro n s hr he ho
    refine answers_onCore (exec_measOpenLeave n s) ?_
    dsimp only
    rw [Core.measClose_leaves hr he ho, Core.reg_measState_openCount, Core.reg_eventOnce_openCount _ _ _ _ _ n.isLt,
      Core.measIn_measState, Core.measIn_eventOnce, Core.measIn_setMeas]
    exact ⟨rfl, rfl⟩

end Sys2Proof.Machine
